-- ==== Sys2Proof/Word.lean ====
section
/-!
DEFINITION. The word types of the Azzan Y9 (R3, R6, R18): bytes, 32-bit instruction and register words,
64-bit scalars, and the 32-lane masks of a barge.
-/
namespace Sys2Proof

/-- A byte of memory (R3). -/
abbrev Byte := BitVec 8

/-- An instruction word, or one lane of a vector register (R6, R18). -/
abbrev Word := BitVec 32

/-- A scalar register, or a virtual address (R6, R75). -/
abbrev Dword := BitVec 64

/-- One bit per lane of a barge, lane 0 in bit 0 (R6, R227). -/
abbrev Mask := BitVec 32

end Sys2Proof
end

