-- ==== Sys2Proof/Syntax.lean ====
section
/-!
DEFINITION. The steps of the Azzan Y9: one constructor per row of spec/opcode_table.json. A constructor of an
encoded word holds the fields of its own 32 bits under the letters the table gives them (prefix words have
constructors of their own, and a chain keeps its prefixes in the state). The last constructors are the events,
which have no encoding and no fields: what one acts on comes with it in the agenda (State.args).
-/
namespace Sys2Proof

/-- One step of the machine: an instruction word or an event (spec/opcode_table.json). -/
inductive Instr where
  /-- XIMM (R28): Prefix that supplies bits of a 32-bit immediate, operand b or memory offset to the next non-prefix word of its chain. -/
  | ximm (x : BitVec 24)
  /-- XIMMH (R28): Prefix that supplies immediate bits [55:32], which are then sign-extended to 64 bits, together with XIMM. -/
  | ximmh (x : BitVec 24)
  /-- XMOD (R32): Prefix that supplies type, rounding, saturation, cache hint, reach override and aux modifiers to the next word. -/
  | xmod (x : BitVec 24)
  /-- XPRED (R34): Prefix that guards the next word with a predicate or its negation. -/
  | xpred (n : BitVec 1) (e : BitVec 3)
  /-- XOPD (R35): Prefix that supplies a third and a fourth source, or an index, to the next word. -/
  | xopd (p : BitVec 1) (c : BitVec 7) (q : BitVec 1) (e : BitVec 7) (z : BitVec 1)
  /-- XSCH (R36): Prefix that carries a yield request and a stall count for the next word. -/
  | xsch (y : BitVec 1) (s : BitVec 5)
  /-- IADD (R200): Integer add of two 32-bit registers, wrapping or saturating. -/
  | iadd (d : BitVec 7) (a : BitVec 7) (b : BitVec 7) (p : BitVec 1) (q : BitVec 1)
  /-- ISUB (R200): Integer subtract of two 32-bit registers, wrapping or saturating. -/
  | isub (d : BitVec 7) (a : BitVec 7) (b : BitVec 7) (p : BitVec 1) (q : BitVec 1)
  /-- IMUL (R200): Integer multiply giving the low 32 bits or a saturated result. -/
  | imul (d : BitVec 7) (a : BitVec 7) (b : BitVec 7) (p : BitVec 1) (q : BitVec 1)
  /-- IMULH (R200): High word of the exact 64-bit product, signed or unsigned. -/
  | imulh (d : BitVec 7) (a : BitVec 7) (b : BitVec 7) (p : BitVec 1) (q : BitVec 1)
  /-- IMAD (R200): Integer multiply-add a × b + c, with the third source taken from XOPD. -/
  | imad (d : BitVec 7) (a : BitVec 7) (b : BitVec 7) (p : BitVec 1) (q : BitVec 1)
  /-- IMIN (R200): Smaller of two integers. -/
  | imin (d : BitVec 7) (a : BitVec 7) (b : BitVec 7) (p : BitVec 1) (q : BitVec 1)
  /-- IMAX (R200): Larger of two integers. -/
  | imax (d : BitVec 7) (a : BitVec 7) (b : BitVec 7) (p : BitVec 1) (q : BitVec 1)
  /-- IABS (R200): Absolute value of a signed 32-bit integer. -/
  | iabs (d : BitVec 7) (a : BitVec 7) (p : BitVec 1)
  /-- ISHL (R201): Shift left by an unsigned amount; 0 for amounts of 32 or more. -/
  | ishl (d : BitVec 7) (a : BitVec 7) (b : BitVec 7) (p : BitVec 1) (q : BitVec 1)
  /-- ISHR (R201): Arithmetic shift right, filling with bit 31 for amounts of 32 or more. -/
  | ishr (d : BitVec 7) (a : BitVec 7) (b : BitVec 7) (p : BitVec 1) (q : BitVec 1)
  /-- LSHR (R201): Logical shift right; 0 for amounts of 32 or more. -/
  | lshr (d : BitVec 7) (a : BitVec 7) (b : BitVec 7) (p : BitVec 1) (q : BitVec 1)
  /-- POPC (R200): Count of the 1 bits in a. -/
  | popc (d : BitVec 7) (a : BitVec 7) (p : BitVec 1)
  /-- CLZ (R200): Count of the leading zeros of a. -/
  | clz (d : BitVec 7) (a : BitVec 7) (p : BitVec 1)
  /-- BREV (R200): Bit reversal of a 32-bit word. -/
  | brev (d : BitVec 7) (a : BitVec 7) (p : BitVec 1)
  /-- IADD_IMM (R202): Integer add of an immediate. -/
  | iaddImm (d : BitVec 7) (a : BitVec 7) (p : BitVec 1) (i : BitVec 8)
  /-- IMUL_IMM (R202): Integer multiply by an immediate. -/
  | imulImm (d : BitVec 7) (a : BitVec 7) (p : BitVec 1) (i : BitVec 8)
  /-- IMIN_IMM (R202): Smaller of a register and an immediate. -/
  | iminImm (d : BitVec 7) (a : BitVec 7) (p : BitVec 1) (i : BitVec 8)
  /-- IMAX_IMM (R202): Larger of a register and an immediate. -/
  | imaxImm (d : BitVec 7) (a : BitVec 7) (p : BitVec 1) (i : BitVec 8)
  /-- ISHL_IMM (R202): Shift left by an immediate amount. -/
  | ishlImm (d : BitVec 7) (a : BitVec 7) (p : BitVec 1) (i : BitVec 8)
  /-- ISHR_IMM (R202): Arithmetic shift right by an immediate amount. -/
  | ishrImm (d : BitVec 7) (a : BitVec 7) (p : BitVec 1) (i : BitVec 8)
  /-- LSHR_IMM (R202): Logical shift right by an immediate amount. -/
  | lshrImm (d : BitVec 7) (a : BitVec 7) (p : BitVec 1) (i : BitVec 8)
  /-- LOGIC3 (R203): Any bitwise function of three sources, selected by an 8-bit truth table. -/
  | logic3 (d : BitVec 7) (a : BitVec 7) (p : BitVec 1) (t : BitVec 8)
  /-- BFE (R205): Bit-field extract with sign or zero extension. -/
  | bfe (d : BitVec 7) (a : BitVec 7) (b : BitVec 7) (p : BitVec 1) (q : BitVec 1)
  /-- BFI (R205): Bit-field insert into d. -/
  | bfi (d : BitVec 7) (a : BitVec 7) (b : BitVec 7) (p : BitVec 1) (q : BitVec 1)
  /-- LEA (R204): 64-bit address sum a + b × 2^sh. -/
  | lea (d : BitVec 7) (a : BitVec 7) (b : BitVec 7) (p : BitVec 1) (q : BitVec 1)
  /-- SHF (R206): 64-bit shift: left, logical right or arithmetic right. -/
  | shf (d : BitVec 7) (a : BitVec 7) (b : BitVec 7) (p : BitVec 1) (q : BitVec 1)
  /-- IADD64 (R204): 64-bit integer add. -/
  | iadd64 (d : BitVec 7) (a : BitVec 7) (b : BitVec 7) (p : BitVec 1) (q : BitVec 1)
  /-- ISUB64 (R204): 64-bit integer subtract. -/
  | isub64 (d : BitVec 7) (a : BitVec 7) (b : BitVec 7) (p : BitVec 1) (q : BitVec 1)
  /-- IMUL64 (R204): 64-bit integer multiply on the 64-bit multiply unit. -/
  | imul64 (d : BitVec 7) (a : BitVec 7) (b : BitVec 7) (p : BitVec 1) (q : BitVec 1)
  /-- IMAD64 (R204): 64-bit integer multiply-add with the third source taken from XOPD. -/
  | imad64 (d : BitVec 7) (a : BitVec 7) (b : BitVec 7) (p : BitVec 1) (q : BitVec 1)
  /-- ICMP (R207): Integer compare that writes a predicate under a condition code. -/
  | icmp (k : BitVec 4) (e : BitVec 3) (a : BitVec 7) (b : BitVec 7) (p : BitVec 1) (q : BitVec 1)
  /-- FCMP (R207): Float compare that writes a predicate, with ordered and unordered conditions. -/
  | fcmp (k : BitVec 4) (e : BitVec 3) (a : BitVec 7) (b : BitVec 7) (p : BitVec 1) (q : BitVec 1)
  /-- FCLASS (R208): Sets a predicate when the float class of a is in a literal mask. -/
  | fclass (e : BitVec 3) (a : BitVec 7) (m : BitVec 7) (p : BitVec 1)
  /-- SEL (R209): Selects a or b per lane by a predicate named in XOPD. -/
  | sel (d : BitVec 7) (a : BitVec 7) (b : BitVec 7) (p : BitVec 1) (q : BitVec 1)
  /-- PAND (R210): Predicate AND. -/
  | pand (e : BitVec 3) (f : BitVec 3) (g : BitVec 3)
  /-- POR (R210): Predicate OR. -/
  | por (e : BitVec 3) (f : BitVec 3) (g : BitVec 3)
  /-- PXOR (R210): Predicate XOR. -/
  | pxor (e : BitVec 3) (f : BitVec 3) (g : BitVec 3)
  /-- PNOT (R210): Predicate NOT. -/
  | pnot (e : BitVec 3) (f : BitVec 3)
  /-- FADD (R211): f32 or f64 add, rounded once. -/
  | fadd (d : BitVec 7) (a : BitVec 7) (b : BitVec 7) (p : BitVec 1) (q : BitVec 1)
  /-- FSUB (R211): f32 or f64 subtract. -/
  | fsub (d : BitVec 7) (a : BitVec 7) (b : BitVec 7) (p : BitVec 1) (q : BitVec 1)
  /-- FMUL (R211): f32 or f64 multiply. -/
  | fmul (d : BitVec 7) (a : BitVec 7) (b : BitVec 7) (p : BitVec 1) (q : BitVec 1)
  /-- FFMA (R211): Fused multiply-add a × b + c, rounded once, with c taken from XOPD. -/
  | ffma (d : BitVec 7) (a : BitVec 7) (b : BitVec 7) (p : BitVec 1) (q : BitVec 1)
  /-- FMIN (R212): Float minimum, with −0 less than +0 and NaN handling. -/
  | fmin (d : BitVec 7) (a : BitVec 7) (b : BitVec 7) (p : BitVec 1) (q : BitVec 1)
  /-- FMAX (R212): Float maximum. -/
  | fmax (d : BitVec 7) (a : BitVec 7) (b : BitVec 7) (p : BitVec 1) (q : BitVec 1)
  /-- FRND (R211): Rounds to an integral float in the selected mode. -/
  | frnd (d : BitVec 7) (a : BitVec 7) (p : BitVec 1)
  /-- FABS (R211): Clears the sign bit. -/
  | fabs (d : BitVec 7) (a : BitVec 7) (p : BitVec 1)
  /-- FNEG (R211): Inverts the sign bit. -/
  | fneg (d : BitVec 7) (a : BitVec 7) (p : BitVec 1)
  /-- FSCALE (R211): Multiplies by 2^n, with n taken from b. -/
  | fscale (d : BitVec 7) (a : BitVec 7) (b : BitVec 7) (p : BitVec 1) (q : BitVec 1)
  /-- FADD_PACKED (R213): Element-wise add on f16x2 or bf16x2. -/
  | faddPacked (d : BitVec 7) (a : BitVec 7) (b : BitVec 7) (p : BitVec 1) (q : BitVec 1)
  /-- FSUB_PACKED (R213): Element-wise subtract on packed pairs. -/
  | fsubPacked (d : BitVec 7) (a : BitVec 7) (b : BitVec 7) (p : BitVec 1) (q : BitVec 1)
  /-- FMUL_PACKED (R213): Element-wise multiply on packed pairs. -/
  | fmulPacked (d : BitVec 7) (a : BitVec 7) (b : BitVec 7) (p : BitVec 1) (q : BitVec 1)
  /-- FFMA_PACKED (R213): Element-wise fused multiply-add on packed pairs. -/
  | ffmaPacked (d : BitVec 7) (a : BitVec 7) (b : BitVec 7) (p : BitVec 1) (q : BitVec 1)
  /-- FMIN_PACKED (R213): Element-wise minimum on packed pairs. -/
  | fminPacked (d : BitVec 7) (a : BitVec 7) (b : BitVec 7) (p : BitVec 1) (q : BitVec 1)
  /-- FMAX_PACKED (R213): Element-wise maximum on packed pairs. -/
  | fmaxPacked (d : BitVec 7) (a : BitVec 7) (b : BitVec 7) (p : BitVec 1) (q : BitVec 1)
  /-- FRND_PACKED (R213): Element-wise round to integral on packed pairs. -/
  | frndPacked (d : BitVec 7) (a : BitVec 7) (p : BitVec 1)
  /-- FABS_PACKED (R213): Element-wise absolute value on packed pairs. -/
  | fabsPacked (d : BitVec 7) (a : BitVec 7) (p : BitVec 1)
  /-- FNEG_PACKED (R213): Element-wise negation on packed pairs. -/
  | fnegPacked (d : BitVec 7) (a : BitVec 7) (p : BitVec 1)
  /-- FSCALE_PACKED (R213): Element-wise scale by 2^n, with n a signed 16-bit element of b. -/
  | fscalePacked (d : BitVec 7) (a : BitVec 7) (b : BitVec 7) (p : BitVec 1) (q : BitVec 1)
  /-- FADD_IMM (R214): f32 add of an e4m3 or f32 immediate. -/
  | faddImm (d : BitVec 7) (a : BitVec 7) (p : BitVec 1) (i : BitVec 8)
  /-- FMUL_IMM (R214): f32 multiply by an immediate. -/
  | fmulImm (d : BitVec 7) (a : BitVec 7) (p : BitVec 1) (i : BitVec 8)
  /-- FFMA_IMM (R214): d := a × imm + d, rounded once. -/
  | ffmaImm (d : BitVec 7) (a : BitVec 7) (p : BitVec 1) (i : BitVec 8)
  /-- FMIN_IMM (R214): f32 minimum with an immediate. -/
  | fminImm (d : BitVec 7) (a : BitVec 7) (p : BitVec 1) (i : BitVec 8)
  /-- RCP (R215): Correctly rounded reciprocal on the special-function unit. -/
  | rcp (d : BitVec 7) (a : BitVec 7) (p : BitVec 1)
  /-- RSQ (R215): Correctly rounded reciprocal square root. -/
  | rsq (d : BitVec 7) (a : BitVec 7) (p : BitVec 1)
  /-- SQRT (R215): Correctly rounded square root. -/
  | sqrt (d : BitVec 7) (a : BitVec 7) (p : BitVec 1)
  /-- EXP2 (R215): Correctly rounded 2^a. -/
  | exp2 (d : BitVec 7) (a : BitVec 7) (p : BitVec 1)
  /-- LOG2 (R215): Correctly rounded log2 a. -/
  | log2 (d : BitVec 7) (a : BitVec 7) (p : BitVec 1)
  /-- SINPI (R215): Correctly rounded sin(π·a). -/
  | sinpi (d : BitVec 7) (a : BitVec 7) (p : BitVec 1)
  /-- COSPI (R215): Correctly rounded cos(π·a). -/
  | cospi (d : BitVec 7) (a : BitVec 7) (p : BitVec 1)
  /-- TANH (R215): Correctly rounded tanh a. -/
  | tanh (d : BitVec 7) (a : BitVec 7) (p : BitVec 1)
  /-- DIVF (R215): Correctly rounded f32 division a / b. -/
  | divf (d : BitVec 7) (a : BitVec 7) (b : BitVec 7) (p : BitVec 1) (q : BitVec 1)
  /-- FCVT (R218): Conversion between float formats. -/
  | fcvt (d : BitVec 7) (a : BitVec 7) (p : BitVec 1)
  /-- ICVT (R218): Conversion between integer types. -/
  | icvt (d : BitVec 7) (a : BitVec 7) (p : BitVec 1)
  /-- FTOI (R218): Float to integer conversion, toward zero by default. -/
  | ftoi (d : BitVec 7) (a : BitVec 7) (p : BitVec 1)
  /-- ITOF (R218): Integer to float conversion. -/
  | itof (d : BitVec 7) (a : BitVec 7) (p : BitVec 1)
  /-- NPACK (R219): Converts elements to a narrow format and packs them into one field of d. -/
  | npack (d : BitVec 7) (a : BitVec 7) (b : BitVec 7) (p : BitVec 1) (q : BitVec 1)
  /-- NUNPACK (R220): Decodes narrow elements from one field of a. -/
  | nunpack (d : BitVec 7) (a : BitVec 7) (p : BitVec 1)
  /-- QSCALE (R222): Chooses the shared scale of each lane group's block by R68. -/
  | qscale (d : BitVec 7) (a : BitVec 7) (p : BitVec 1)
  /-- QPACK (R223): Encodes each group's elements with a given scale into packed block words. -/
  | qpack (d : BitVec 7) (a : BitVec 7) (b : BitVec 7) (p : BitVec 1) (q : BitVec 1)
  /-- QUNPACK (R224): Decodes packed block words with a scale into lane elements. -/
  | qunpack (d : BitVec 7) (a : BitVec 7) (b : BitVec 7) (p : BitVec 1) (q : BitVec 1)
  /-- QDOT4 (R225): Adds a four-term 8-bit dot product to d. -/
  | qdot4 (d : BitVec 7) (a : BitVec 7) (b : BitVec 7) (p : BitVec 1) (q : BitVec 1)
  /-- DSMUL (R226): Multiplies by a ds8 code taken from b. -/
  | dsmul (d : BitVec 7) (a : BitVec 7) (b : BitVec 7) (p : BitVec 1) (q : BitVec 1)
  /-- MOV (R230): Register move. -/
  | mov (d : BitVec 7) (a : BitVec 7) (p : BitVec 1)
  /-- MOVI (R230): Moves an immediate into d. -/
  | movi (d : BitVec 7) (i : BitVec 8)
  /-- MOVS (R231): Reads lane b[4:0] of a into a scalar register. -/
  | movs (d : BitVec 7) (a : BitVec 7) (b : BitVec 7) (p : BitVec 1) (q : BitVec 1)
  /-- SHFL (R232): Reads a from a source lane chosen by mode and b. -/
  | shfl (d : BitVec 7) (a : BitVec 7) (b : BitVec 7) (p : BitVec 1) (q : BitVec 1)
  /-- BALLOT (R233): Mask of the active lanes in which a predicate is true. -/
  | ballot (d : BitVec 7) (e : BitVec 3) (p : BitVec 1)
  /-- VOTE (R233): any, all, none or uniform vote of a predicate into a predicate. -/
  | vote (k : BitVec 4) (e : BitVec 3) (f : BitVec 3) (p : BitVec 1)
  /-- BSEL (R234): Assembles d from bytes of b:a under a selector mode. -/
  | bsel (d : BitVec 7) (a : BitVec 7) (b : BitVec 7) (p : BitVec 1) (q : BitVec 1)
  /-- BRED (R235): Reduces a over the active lanes in a fixed tree. -/
  | bred (d : BitVec 7) (a : BitVec 7) (p : BitVec 1)
  /-- ELECT (R233): Sets a predicate true in the lowest active lane only. -/
  | elect (e : BitVec 3)
  /-- CSEL (R236): Selects a or b per lane by comparing c against zero. -/
  | csel (d : BitVec 7) (a : BitVec 7) (b : BitVec 7) (p : BitVec 1) (q : BitVec 1)
  /-- MATCH (R237): Mask of the active lanes holding an equal value. -/
  | matchLanes (d : BitVec 7) (a : BitVec 7) (p : BitVec 1)
  /-- LANEMASK (R233): Lane masks below, through, above, from, at, segment or active. -/
  | lanemask (d : BitVec 7) (a : BitVec 7) (p : BitVec 1)
  /-- BRA (R238): PC-relative branch under a per-lane or uniform predicate condition. -/
  | bra (c : BitVec 3) (e : BitVec 3) (o : BitVec 21)
  /-- JMP (R239): Jumps to a register target. -/
  | jmp (a : BitVec 7) (p : BitVec 1)
  /-- CALL (R239): PC-relative call that writes the return address to d. -/
  | call (d : BitVec 7) (i : BitVec 8)
  /-- CALLI (R239): Register-target call that writes the return address. -/
  | calli (d : BitVec 7) (a : BitVec 7) (p : BitVec 1)
  /-- RET (R239): Returns to a register target. -/
  | ret (a : BitVec 7) (p : BitVec 1)
  /-- MARK (R240): Pushes a join-stack entry with a rejoin address and the active mask. -/
  | mark (i : BitVec 8)
  /-- JOIN (R241): Makes lanes wait at their entry and pops satisfied entries. -/
  | join
  /-- REFORM (R244): Files the issuing group's threads into basins by key. -/
  | reform (d : BitVec 7) (a : BitVec 7) (p : BitVec 1) (i : BitVec 8)
  /-- EXIT (R242): Exits the active lanes and pops satisfied join entries. -/
  | exit
  /-- NOP (R243): No operation. -/
  | nop
  /-- SLEEP (R243): Makes the barge ineligible for n cycles. -/
  | sleep (i : BitVec 8)
  /-- YIELD (R243): Sets the yield marks of the issuing group and requests a yield. -/
  | yield
  /-- LD_B32 (R191): 32-bit global load through the L1. -/
  | ldB32 (d : BitVec 7) (b : BitVec 7) (o : BitVec 8) (p : BitVec 1)
  /-- LD_B64 (R191): 64-bit global load through the L1. -/
  | ldB64 (d : BitVec 7) (b : BitVec 7) (o : BitVec 8) (p : BitVec 1)
  /-- LD_B128 (R191): 128-bit global load through the L1. -/
  | ldB128 (d : BitVec 7) (b : BitVec 7) (o : BitVec 8) (p : BitVec 1)
  /-- LDB_B32 (R191): 32-bit global load made at the home column, bypassing the L1. -/
  | ldbB32 (d : BitVec 7) (b : BitVec 7) (o : BitVec 8) (p : BitVec 1)
  /-- LDB_B64 (R191): 64-bit load made at the home column. -/
  | ldbB64 (d : BitVec 7) (b : BitVec 7) (o : BitVec 8) (p : BitVec 1)
  /-- LDB_B128 (R191): 128-bit load made at the home column. -/
  | ldbB128 (d : BitVec 7) (b : BitVec 7) (o : BitVec 8) (p : BitVec 1)
  /-- LDL_B32 (R191): 32-bit local-memory load. -/
  | ldlB32 (d : BitVec 7) (b : BitVec 7) (o : BitVec 8) (p : BitVec 1)
  /-- LDL_B64 (R191): 64-bit local-memory load. -/
  | ldlB64 (d : BitVec 7) (b : BitVec 7) (o : BitVec 8) (p : BitVec 1)
  /-- LDL_B128 (R191): 128-bit local-memory load. -/
  | ldlB128 (d : BitVec 7) (b : BitVec 7) (o : BitVec 8) (p : BitVec 1)
  /-- LDP_B32 (R122): 32-bit pooled-scratchpad load. -/
  | ldpB32 (d : BitVec 7) (b : BitVec 7) (o : BitVec 8) (p : BitVec 1)
  /-- LDP_B64 (R122): 64-bit pooled-scratchpad load. -/
  | ldpB64 (d : BitVec 7) (b : BitVec 7) (o : BitVec 8) (p : BitVec 1)
  /-- LDP_B128 (R122): 128-bit pooled-scratchpad load. -/
  | ldpB128 (d : BitVec 7) (b : BitVec 7) (o : BitVec 8) (p : BitVec 1)
  /-- LDV_B32 (R152): 32-bit load of one label's version at the home column. -/
  | ldvB32 (d : BitVec 7) (b : BitVec 7) (o : BitVec 8) (p : BitVec 1)
  /-- LDV_B128 (R152): 128-bit load of one label's version. -/
  | ldvB128 (d : BitVec 7) (b : BitVec 7) (o : BitVec 8) (p : BitVec 1)
  /-- PREFETCH (R195): Brings each lane's sector into the L1 and the stacked caches, without trapping. -/
  | prefetch (b : BitVec 7) (o : BitVec 8) (p : BitVec 1)
  /-- INVL1 (R196): Invalidates every clean L1 sector of the context on the core. -/
  | invl1
  /-- ST_B32 (R304): 32-bit global store. -/
  | stB32 (d : BitVec 7) (b : BitVec 7) (o : BitVec 8) (p : BitVec 1)
  /-- ST_B64 (R304): 64-bit global store. -/
  | stB64 (d : BitVec 7) (b : BitVec 7) (o : BitVec 8) (p : BitVec 1)
  /-- ST_B128 (R304): 128-bit global store. -/
  | stB128 (d : BitVec 7) (b : BitVec 7) (o : BitVec 8) (p : BitVec 1)
  /-- STL_B32 (R304): 32-bit local-memory store. -/
  | stlB32 (d : BitVec 7) (b : BitVec 7) (o : BitVec 8) (p : BitVec 1)
  /-- STL_B64 (R304): 64-bit local-memory store. -/
  | stlB64 (d : BitVec 7) (b : BitVec 7) (o : BitVec 8) (p : BitVec 1)
  /-- STL_B128 (R304): 128-bit local-memory store. -/
  | stlB128 (d : BitVec 7) (b : BitVec 7) (o : BitVec 8) (p : BitVec 1)
  /-- STP_B32 (R122): 32-bit pooled-scratchpad store. -/
  | stpB32 (d : BitVec 7) (b : BitVec 7) (o : BitVec 8) (p : BitVec 1)
  /-- STP_B64 (R122): 64-bit pooled-scratchpad store. -/
  | stpB64 (d : BitVec 7) (b : BitVec 7) (o : BitVec 8) (p : BitVec 1)
  /-- STP_B128 (R122): 128-bit pooled-scratchpad store. -/
  | stpB128 (d : BitVec 7) (b : BitVec 7) (o : BitVec 8) (p : BitVec 1)
  /-- CSTORE_B32 (R309): Compacting 32-bit store of the active lanes to consecutive elements, which may complete in part. -/
  | cstoreB32 (d : BitVec 7) (b : BitVec 7) (o : BitVec 8) (p : BitVec 1)
  /-- CSTORE_B64 (R309): Compacting 64-bit store. -/
  | cstoreB64 (d : BitVec 7) (b : BitVec 7) (o : BitVec 8) (p : BitVec 1)
  /-- ATOM_ADD (R312): Atomic add at the home that returns the old value. -/
  | atomAdd (d : BitVec 7) (b : BitVec 7) (s : BitVec 3) (r : BitVec 2) (t : BitVec 3) (p : BitVec 1)
  /-- ATOM_MIN (R312): Atomic minimum that returns the old value. -/
  | atomMin (d : BitVec 7) (b : BitVec 7) (s : BitVec 3) (r : BitVec 2) (t : BitVec 3) (p : BitVec 1)
  /-- ATOM_MAX (R312): Atomic maximum that returns the old value. -/
  | atomMax (d : BitVec 7) (b : BitVec 7) (s : BitVec 3) (r : BitVec 2) (t : BitVec 3) (p : BitVec 1)
  /-- ATOM_AND (R312): Atomic AND that returns the old value. -/
  | atomAnd (d : BitVec 7) (b : BitVec 7) (s : BitVec 3) (r : BitVec 2) (t : BitVec 3) (p : BitVec 1)
  /-- ATOM_OR (R312): Atomic OR that returns the old value. -/
  | atomOr (d : BitVec 7) (b : BitVec 7) (s : BitVec 3) (r : BitVec 2) (t : BitVec 3) (p : BitVec 1)
  /-- ATOM_XOR (R312): Atomic XOR that returns the old value. -/
  | atomXor (d : BitVec 7) (b : BitVec 7) (s : BitVec 3) (r : BitVec 2) (t : BitVec 3) (p : BitVec 1)
  /-- ATOM_EXCH (R312): Atomic exchange. -/
  | atomExch (d : BitVec 7) (b : BitVec 7) (s : BitVec 3) (r : BitVec 2) (t : BitVec 3) (p : BitVec 1)
  /-- ATOM_CAS (R312): Atomic compare-and-swap, with the compare value taken from XOPD. -/
  | atomCas (d : BitVec 7) (b : BitVec 7) (s : BitVec 3) (r : BitVec 2) (t : BitVec 3) (p : BitVec 1)
  /-- RED_ADD (R315): Reduction add, buffered in the quarter's atomic buffer or performed at the home. -/
  | redAdd (d : BitVec 7) (b : BitVec 7) (s : BitVec 3) (r : BitVec 2) (t : BitVec 3) (p : BitVec 1)
  /-- RED_MIN (R315): Reduction minimum. -/
  | redMin (d : BitVec 7) (b : BitVec 7) (s : BitVec 3) (r : BitVec 2) (t : BitVec 3) (p : BitVec 1)
  /-- RED_MAX (R315): Reduction maximum. -/
  | redMax (d : BitVec 7) (b : BitVec 7) (s : BitVec 3) (r : BitVec 2) (t : BitVec 3) (p : BitVec 1)
  /-- RED_AND (R315): Reduction AND. -/
  | redAnd (d : BitVec 7) (b : BitVec 7) (s : BitVec 3) (r : BitVec 2) (t : BitVec 3) (p : BitVec 1)
  /-- RED_OR (R315): Reduction OR. -/
  | redOr (d : BitVec 7) (b : BitVec 7) (s : BitVec 3) (r : BitVec 2) (t : BitVec 3) (p : BitVec 1)
  /-- RED_XOR (R315): Reduction XOR. -/
  | redXor (d : BitVec 7) (b : BitVec 7) (s : BitVec 3) (r : BitVec 2) (t : BitVec 3) (p : BitVec 1)
  /-- REDFLUSH (R318): Drains the barge's reduction entries and waits for their acknowledgements. -/
  | redflush
  /-- MXACC (R320): Accumulates 32 f32 values into one narrow-format block at its home. -/
  | mxacc (d : BitVec 7) (b : BitVec 7) (s : BitVec 3) (r : BitVec 2) (k : BitVec 3) (p : BitVec 1)
  /-- SYNC_LD (R329): Class 16 load with scope and optional acquire. -/
  | syncLd (d : BitVec 7) (b : BitVec 7) (s : BitVec 3) (r : BitVec 2) (w : BitVec 3) (p : BitVec 1)
  /-- SYNC_LDB (R329): Class 16 load at the home, with scope and optional acquire. -/
  | syncLdb (d : BitVec 7) (b : BitVec 7) (s : BitVec 3) (r : BitVec 2) (w : BitVec 3) (p : BitVec 1)
  /-- SYNC_ST (R329): Class 16 written-through store with scope and optional release. -/
  | syncSt (d : BitVec 7) (b : BitVec 7) (s : BitVec 3) (r : BitVec 2) (w : BitVec 3) (p : BitVec 1)
  /-- FENCE (R328): Memory fence with acquire, release or both at a scope. -/
  | fence (s : BitVec 3) (r : BitVec 2)
  /-- FENCE_LAYER (R125): Waits for the barge's STP and aperture stores to reach their write buffers, then orders as a fence. -/
  | fenceLayer (s : BitVec 3) (r : BitVec 2)
  /-- BAR (R353): Arrives at a workgroup, gang or task-wide barrier, waits for its phase and acquires. -/
  | bar (l : BitVec 2) (n : BitVec 6)
  /-- BARARR (R353): Arrives at a barrier with a release, without waiting. -/
  | bararr (l : BitVec 2) (n : BitVec 6)
  /-- BSYNC (R353): Waits for the phase of an earlier arrival and acquires. -/
  | bsync (a : BitVec 7) (p : BitVec 1)
  /-- SEMWAIT (R170): Waits until a semaphore reaches a threshold or has ERR set, then acquires. -/
  | semwait (f : BitVec 1) (a : BitVec 7) (p : BitVec 1) (n : BitVec 8)
  /-- SEMSIG (R170): Releases and adds to a semaphore. -/
  | semsig (f : BitVec 1) (a : BitVec 7) (p : BitVec 1) (n : BitVec 8)
  /-- SEMSET (R170): Releases and sets a semaphore value. -/
  | semset (f : BitVec 1) (a : BitVec 7) (p : BitVec 1) (n : BitVec 8)
  /-- MMA (R259): Issues a 32 × 64 × N matrix multiply-accumulate on the core's matrix engine. -/
  | mma (d : BitVec 7) (a : BitVec 7) (b : BitVec 7) (p : BitVec 1) (q : BitVec 1)
  /-- TLD (R177): Loads registers from the tile store. -/
  | tld (d : BitVec 7) (a : BitVec 7) (b : BitVec 7) (p : BitVec 1) (q : BitVec 1)
  /-- TST (R177): Stores registers into the tile store. -/
  | tst (d : BitVec 7) (a : BitVec 7) (b : BitVec 7) (p : BitVec 1) (q : BitVec 1)
  /-- TCOPY (R178): Copies a tile rectangle within the tile store. -/
  | tcopy (d : BitVec 7) (a : BitVec 7) (b : BitVec 7) (p : BitVec 1) (q : BitVec 1)
  /-- TCLR (R178): Clears a tile rectangle. -/
  | tclr (d : BitVec 7) (a : BitVec 7) (p : BitVec 1)
  /-- JOB (R159): Posts a job card, waiting for queue room. -/
  | job (d : BitVec 7) (a : BitVec 7) (p : BitVec 1)
  /-- JOBQ (R159): Posts a job card, or returns 0 when the queue is full. -/
  | jobq (d : BitVec 7) (a : BitVec 7) (p : BitVec 1)
  /-- BOXT (R277): Tests a ray against the eight children of a BVH node. -/
  | boxt (d : BitVec 7) (a : BitVec 7) (b : BitVec 7) (p : BitVec 1) (q : BitVec 1)
  /-- TRIT (R278): Watertight ray–triangle test. -/
  | trit (d : BitVec 7) (a : BitVec 7) (b : BitVec 7) (p : BitVec 1) (q : BitVec 1)
  /-- TSPUSH (R281): Pushes an entry on the lane's local-memory stack. -/
  | tspush (d : BitVec 7) (a : BitVec 7) (b : BitVec 7) (p : BitVec 1) (q : BitVec 1)
  /-- TSPOP (R281): Pops an entry from the lane's stack, or returns the empty reference. -/
  | tspop (d : BitVec 7) (a : BitVec 7) (b : BitVec 7) (p : BitVec 1) (q : BitVec 1)
  /-- RAYINIT (R275): Derives the precomputed registers of a ray record. -/
  | rayinit (d : BitVec 7) (p : BitVec 1)
  /-- VEXPORT (R286): Exports one primitive per active lane to setup, with a device release. -/
  | vexport (a : BitVec 7) (b : BitVec 7) (p : BitVec 1) (q : BitVec 1)
  /-- PEXPORT (R293): Copies registers into the lane's colour or depth export. -/
  | pexport (t : BitVec 7) (a : BitVec 7) (p : BitVec 1)
  /-- SAMPLE (R301): Filtered texture sample with quad-derived level of detail. -/
  | sample (d : BitVec 7) (a : BitVec 7) (b : BitVec 7) (p : BitVec 1) (q : BitVec 1)
  /-- SAMPLEL (R301): Texture sample at an explicit level. -/
  | samplel (d : BitVec 7) (a : BitVec 7) (b : BitVec 7) (p : BitVec 1) (q : BitVec 1)
  /-- SAMPLEG (R301): Gathers one component of the four linear-footprint texels. -/
  | sampleg (d : BitVec 7) (a : BitVec 7) (b : BitVec 7) (p : BitVec 1) (q : BitVec 1)
  /-- ATTR (R292): Perspective-correct or flat attribute interpolation. -/
  | attr (d : BitVec 7) (k : BitVec 7)
  /-- ZQUERY (R297): Returns the stored depth at the lane's pixel once earlier retires have been applied. -/
  | zquery (d : BitVec 7)
  /-- LAUNCH (R377): Posts a launch packet from local memory to a hub queue. -/
  | launch (d : BitVec 7) (a : BitVec 7) (b : BitVec 7) (p : BitVec 1) (q : BitVec 1)
  /-- SIGNAL (R378): Release store of a signal word that the wharf sees. -/
  | signal (a : BitVec 7) (b : BitVec 7) (p : BitVec 1) (q : BitVec 1)
  /-- PERFCL (R379): Sets the workgroup's performance-class request. -/
  | perfcl (i : BitVec 3)
  /-- FLIP (R380): Queues a surface with a fallback on a display head, tagged with the reach. -/
  | flip (d : BitVec 7) (a : BitVec 7) (b : BitVec 7) (p : BitVec 1) (q : BitVec 1)
  /-- FORK (R143): Opens reach labels with a quota at the junction. -/
  | fork (d : BitVec 7) (a : BitVec 7) (b : BitVec 7) (p : BitVec 1) (q : BitVec 1)
  /-- REACH (R144): Sets the barge's reach tag. -/
  | reach (k : BitVec 3)
  /-- COMMIT (R145): Commits a reach named by an immediate and squashes its live siblings. -/
  | commit (d : BitVec 7) (k : BitVec 3)
  /-- COMMIT_REG (R145): Commits the reach named in sa[2:0]. -/
  | commitReg (d : BitVec 7) (a : BitVec 7) (p : BitVec 1)
  /-- SQUASH (R148): Squashes the live reaches of an immediate mask. -/
  | squash (d : BitVec 7) (m : BitVec 7)
  /-- SQUASH_REG (R148): Squashes the live reaches of the mask in sa[7:1]. -/
  | squashReg (d : BitVec 7) (a : BitVec 7) (p : BitVec 1)
  /-- RQUERY (R151): Reads the version state of a label or of the context. -/
  | rquery (d : BitVec 7) (a : BitVec 7) (p : BitVec 1)
  /-- TRAP (R392): Raises TRAP_SW with a code, resuming after the word. -/
  | trap (n : BitVec 8)
  /-- BRK (R392): Raises BREAKPOINT with a code, with the PCs left at the word. -/
  | brk (n : BitVec 8)
  /-- RETT (R393): Leaves handler mode: restores state from the frame and re-injects the replay entries. -/
  | rett
  /-- CSRR (R395): Reads a barge or hub control register. -/
  | csrr (d : BitVec 7) (c : BitVec 8)
  /-- CSRW (R395): Writes a barge or hub control register. -/
  | csrw (a : BitVec 7) (p : BitVec 1) (c : BitVec 8)
  /-- CSRS (R395): Reads and writes a control register in one step. -/
  | csrs (d : BitVec 7) (a : BitVec 7) (p : BitVec 1) (c : BitVec 8)
  /-- WFI (R396): System barge waits for a semaphore update, a PUBLISH or a vertical blank. -/
  | wfi
  /-- REGISTER_FILL (R25): A producer's result reaches write-back and fills its empty destination registers. -/
  | registerFill
  /-- SLEEP_END (R243): A barge's sleep or XSCH stall count expires and it becomes eligible again. -/
  | sleepEnd
  /-- WFI_WAKE (R396): A wake event reaches a barge waiting in WFI, which becomes eligible 4 cycles later. -/
  | wfiWake
  /-- L1_FILL (R181): Fill data for missing sectors returns to the L1, is delivered to waiting loads, and is installed unless invalidated. -/
  | l1Fill
  /-- WRITE_ACKNOWLEDGE (R306): A write performed at its home is acknowledged at the issuing core. -/
  | writeAcknowledge
  /-- HOME_READ (R103): A read request reaches the line's home, fills the tower's stacked cache and sets its sharer bit. -/
  | homeRead
  /-- HOME_WRITE (R103): A write reaches the home, invalidates other sharers, and is performed once they acknowledge. -/
  | homeWrite
  /-- HOME_ATOMIC (R312): An atomic lane's request is read, modified and written indivisibly at its home. -/
  | homeAtomic
  /-- RED_DRAIN_ENTRY (R317): A drained reduction entry is performed at its home as an atomic without return. -/
  | redDrainEntry
  /-- MXACC_AT_HOME (R320): An MXACC block update is performed indivisibly at the home of its block. -/
  | mxaccAtHome
  /-- PULL (R334): A pull request reaches the releasing core, which writes back its dirty RC sectors older than r and replies. -/
  | pull
  /-- PULL_REPLY (R335): The reply to a pull reaches the pulling place, which then takes the value or completes the fence. -/
  | pullReply
  /-- WALK_REQUEST (R91): A second-level TLB miss reaches the tower walker, joins an existing walk or waits. -/
  | walkRequest
  /-- WALK_COMPLETE (R90): A table walk returns its leaf, which is installed in both TLBs, or faults. -/
  | walkComplete
  /-- HOST_SNOOP (R107): A host snoop or pool back-invalidate of one half writes back dirty bytes and invalidates the line in every sharer. -/
  | hostSnoop
  /-- HOST_MEM_READ (R105): The host reads a GDDR line through CXL.mem, and the home sets H. -/
  | hostMemRead
  /-- REFRESH_WINDOW (R128): A bank's refresh window opens when the refresh counter reaches its phase. -/
  | refreshWindow
  /-- MEM_TEMP_SAMPLE (R129): The memory-die sensors are sampled every 1 µs and MEM_TEMP is updated. -/
  | memTempSample
  /-- HOT_STATE_CHANGE (R129): The die's hot state changes at the first CNT multiple of 3,200 after the sample that caused it. -/
  | hotStateChange
  /-- LAYER_TEMP_SAMPLE (R263): Matrix-layer sensors are sampled every 1 µs and THROT bits are set or released. -/
  | layerTempSample
  /-- POWER_SAMPLE (R408): Package power is sampled every 1 µs and CEIL is adjusted. -/
  | powerSample
  /-- FREQ_STEP (R407): A cluster's frequency-locked loop takes a 25 MHz step towards its target. -/
  | freqStep
  /-- THERMAL_PERIOD_START (R371): A new 1,600-hub-cycle period begins and USED counts of THERM_ALLOW restart. -/
  | thermalPeriodStart
  /-- WATCHDOG (R357): A context's no-progress counter reaches LIMIT, and its counted waiters take an unrecoverable trap. -/
  | watchdog
  /-- BASIN_CLOSE (R246): A basin closes 64 cycles after its first thread and becomes an eligible barge. -/
  | basinClose
  /-- BARRIER_OPEN (R348): A barrier phase opens once all members have arrived and releases, drains and pulls are complete. -/
  | barrierOpen
  /-- SLUICE_WAVE (R351): A wave of up to two barges per quarter leaves the cluster's release queue. -/
  | sluiceWave
  /-- HANDLER_ENTRY (R389): After issued words finish, the trap frame is written and the barge enters handler mode. -/
  | handlerEntry
  /-- UNRECOVERABLE_FAULT (R398): An unrecoverable fault writes a frame and FAULT_LOG record and ends its relaunch unit. -/
  | unrecoverableFault
  /-- CHUNK_COMMIT_REQUEST (R342): The weir tests a finished chunked task's write signature, aborts conflicting slots and commits it. -/
  | chunkCommitRequest
  /-- FORK_GRANT (R143): FORK reaches the hub after its release steps; labels are granted and FORK_SEQ advances. -/
  | forkGrant
  /-- COMMIT_POINT (R146): After hold and drain, the committed label becomes base, siblings die, held launches are released and L1 epochs step. -/
  | commitPoint
  /-- SQUASH_POINT (R149): After drain, squashed labels become dead and their work and launches are cancelled. -/
  | squashPoint
  /-- REACH_STARVED (R142): A label's spill or pool creation finds its pool or directory set full and the hub squashes it. -/
  | reachStarved
  /-- SETTLING_COMPLETE (R153): Column sweeps and the directory walk finish, and the label or slot becomes free. -/
  | settlingComplete
  /-- CARD_START (R163): An engine starts its oldest eligible card once the previous card has finished. -/
  | cardStart
  /-- CARD_COMPLETE (R166): Every write of a card is performed, and the sync unit adds INC to its semaphore. -/
  | cardComplete
  /-- CARD_FAULT (R167): A card's faulting access stops it, sets ERR and records SEM_FAULT. -/
  | cardFault
  /-- MMA_START (R267): An accepted MMA starts in the engine and samples its skip set. -/
  | mmaStart
  /-- MMA_GROUP_FULL (R266): A column group of accumulators is written full; the last also writes the fold report. -/
  | mmaGroupFull
  /-- SETUP_TAKE (R287): Setup takes an export and sends records or tokens to each tower's window. -/
  | setupTake
  /-- WINDOW_RELEASE (R288): A tower's front end releases up to 4 entries at B, sending records to the rasteriser. -/
  | windowRelease
  /-- PIXEL_BARGE_CLOSE (R288): A pixel barge closes at 8 quads, at a tile change, or 32 cycles after its first quad, and is placed. -/
  | pixelBargeClose
  /-- EARLY_Z_TEST (R296): With EARLYZ, the front end tests depth before shading in release order. -/
  | earlyZTest
  /-- PIXEL_RETIRE (R294): A covered pixel retires in sequence order, with depth test and blending into targets. -/
  | pixelRetire
  /-- BIN_BUILD (R290): The front end writes each owned tile's ray-space bin bitmap before the draw's pixel barges start. -/
  | binBuild
  /-- VERTICAL_BLANK (R380): At vertical blank the oldest flip is judged and presented, late, cancelled or kept. -/
  | verticalBlank
  /-- FRAME_START (R381): A display head begins a frame, taking any new mode or timing. -/
  | frameStart
  /-- QUEUE_SLOT_WRITE (R360): A host write to a queue slot, ignored while FULL is 1, posts a packet when it sets FULL. -/
  | queueSlotWrite
  /-- WHARF_TAKE (R361): The wharf takes one full head slot round-robin, clears FULL and checks the packet. -/
  | wharfTake
  /-- WHARF_DISPATCH (R367): A partition places the next unit of the highest-ranked ready node that fits. -/
  | wharfDispatch
  /-- WORKGROUP_START (R372): A placed workgroup's record reaches its core, local memory is zero-filled and its barges issue first. -/
  | workgroupStart
  /-- TASK_COMPLETE (R373): A task completes, releases at device scope and writes its completion signal. -/
  | taskComplete
  /-- CTX_TEARDOWN (R359): A write of CTX_CTRL.VALID = 0 kills placed work and discards queued packets of the context. -/
  | ctxTeardown
  /-- CTX_KILL (R400): CTX_KILL.GO starts a context kill: queued nodes discarded, barges stopped, writes dropped or written back. -/
  | ctxKill
  /-- CTX_KILL_DONE (R400): Once every write-back is acknowledged, DONE is set, VALID cleared and killed values written. -/
  | ctxKillDone
  /-- DEVICE_FATAL (R401): An uncorrectable stacked-cache metadata error kills every context and records FATAL_STATUS. -/
  | deviceFatal
  /-- TLBI_GO (R92): TLBI_CTRL.GO starts invalidation of matching entries in every TLB and walk cache. -/
  | tlbiGo
  /-- TLBI_DONE (R92): The invalidation completes after 180 cycles plus in-flight walks, and DONE is set. -/
  | tlbiDone
  /-- MIG_LOCK (R94): LOCK holds writes to the old frame and starts write-back of its dirty copies, or sets BUSYFAIL. -/
  | migLock
  /-- MIG_LOCKED (R94): All write-backs of the locked frame finish and STATE becomes 2. -/
  | migLocked
  /-- MIG_SWITCH (R94): SWITCH redirects the old frame to the new one, invalidates old lines and performs held writes. -/
  | migSwitch
  /-- MIG_RELEASE (R94): RELEASE removes the redirect and returns the slot to idle. -/
  | migRelease
  /-- COL_SPLIT_REQUEST (R111): A write of SCR differing from CUR sets BUSY and stops new work on the cluster. -/
  | colSplitRequest
  /-- COL_SPLIT_APPLY (R111): When the cluster is empty, the column writes back, invalidates, zeroes and sets CUR. -/
  | colSplitApply
  /-- VBUS_TEST_GO (R114): VBUS_TEST.GO drives a pattern on a repair group and stops the column's arbiter. -/
  | vbusTestGo
  /-- VBUS_CAPT_DONE (R114): 4 hub cycles after GO the received levels are captured and DONE is set. -/
  | vbusCaptDone
  /-- VBUS_LOCK (R114): VBUS_CTRL.LOCK sets LOCKED, freezing repair, test and retirement. -/
  | vbusLock
  /-- VBUS_RETIRE (R115): VBUS_CTRL.RETIRE retires the bus; the substitute column re-lays its cache and hosted scratchpad. -/
  | vbusRetire
  /-- MTX_LAYER_LOCK (R264): MTX_LAYER.LOCK sets LOCKED, freezing FAILED and THROT_C. -/
  | mtxLayerLock
  /-- INPUT_PUBLISH (R155): PUBLISH copies staging input to the visible registers, advances SEQ, captures the time and raises tsems. -/
  | inputPublish
  /-- SEM_VAL_WRITE (R174): A host write to SEM_VAL sets a semaphore as SEMSET does, without a release. -/
  | semValWrite
  /-- FAULT_LOG_READ (R397): A read of FAULT_LOG pops the oldest record and frees its frame slot. -/
  | faultLogRead
  /-- FAULT_RESUME (R397): FAULT_RESUME.GO makes a held chunked node, or every held node, ready anew. -/
  | faultResume
  /-- PREEMPT_VACATE (R403): CMD 1 saves every workgroup of the context on the K highest-numbered cores holding it. -/
  | preemptVacate
  /-- PREEMPT_SAVE_GRAPHICS (R406): CMD 2 saves every graphics workgroup and front-end state of the context on all towers. -/
  | preemptSaveGraphics
  /-- PREEMPT_RESTORE_GRAPHICS (R406): CMD 3 restores the saved graphics state on the same towers. -/
  | preemptRestoreGraphics
  /-- PREEMPT_RELEASE (R405): CMD 4 releases the vacated cores to the context. -/
  | preemptRelease
  /-- PREEMPT_DONE (R403): DONE is set 64 cycles after the last save unit is acknowledged. -/
  | preemptDone
  /-- SAVED_WORKGROUP_RESTORE (R405): Saved records of a vacated core are restored onto a substitute core once it has room. -/
  | savedWorkgroupRestore
  /-- POWER_UP (R413): Power is applied or the host link wakes the device, which resets and awaits firmware. -/
  | powerUp
  /-- BOOT_VERIFY (R410): BOOT_CTRL.GO makes the boot ROM check length, key digest and signature of the staged image. -/
  | bootVerify
  /-- BOOT_VERIFY_COMPLETE (R410): Verification ends: the log is extended and the body run, or STATE becomes failed with ERR. -/
  | bootVerifyComplete
  /-- ATTEST_EXTEND (R411): EXT from hub firmware extends ATTEST_LOG by the nonce registers. -/
  | attestExtend
  /-- QUOTE_START (R412): QGO starts signing the log, nonce and serial with the identity key. -/
  | quoteStart
  /-- QUOTE_DONE (R412): 1,200,000 hub cycles after QGO the signature is in ATTEST_SIG and QDONE is set. -/
  | quoteDone
  /-- BOOT_KERNEL_GO (R424): Firmware's BOOT_KERNEL.GO places a boot workgroup in context 0 on the first usable partition core. -/
  | bootKernelGo
  /-- REGISTER_WRITE (R5): A write to a register with no behaviour of its own stores its RW fields and ignores the rest. -/
  | registerWrite
  /-- ILLEGAL_ENCODING (R46): A word of class 25 to 30, an unused op, or a prefix of kind 6 or 7 such as 0xFFFF_FFFF reaches issue and raises a precise trap. -/
  | illegalEncoding
  /-- POWER_OFF (R413): The device loses its supply and enters the wholly unpowered off state. -/
  | powerOff
  /-- HOST_MEM_WRITE (R104): The host writes a GDDR line through the HDM decoder over CXL.mem, and the write is performed at the home after sharer invalidation. -/
  | hostMemWrite
  /-- BACK_INVALIDATE_RESPONSE (R105): The host's response to a back-invalidate snoop arrives, H is cleared and the held device write is performed. -/
  | backInvalidateResponse
  /-- HOST_DATA_ARRIVAL (R107): Data for a device read of host or fabric-pool memory arrives at the bridge and fills the stacked cache, releasing any snoop that waited on it. -/
  | hostDataArrival
  /-- SEMAPHORE_UPDATE (R172): A SEMSIG or SEMSET reaches its sync unit some cycles after issue and is applied in the order of R172, waking satisfied SEMWAITs. -/
  | semaphoreUpdate
  /-- WRITE_BUFFER_ARRIVAL (R125): An STP or aperture store arrives in its bank's write buffer, is performed there, and is acknowledged to the barge 10 or more cycles later. -/
  | writeBufferArrival
  /-- WRITE_BUFFER_COMMIT (R125): A bank commits one write-buffer entry to its array in a memory-layer cycle in which it is not refreshing. -/
  | writeBufferCommit
  /-- TILE_STORE_ACCESS (R176): A tile-store access, TST, TCOPY or TCLR reaches the tile store and is performed in the arbitration order of R176, completing so that later tile accesses of the barge may proceed. -/
  | tileStoreAccess
  /-- LOCAL_MEMORY_ACCESS (R188): A local-memory request, such as an STL, reaches local memory, is served in the order of R188 and is performed. -/
  | localMemoryAccess
  deriving DecidableEq, Repr

end Sys2Proof
end

