-- ==== Sys2Proof/WellFormed.lean ====
section
/-!
DEFINITION. What makes an encoded word legal on its own (R19 to R24, R38 to R45, R47 steps 3 and 4). Rules
that need the rest of the chain, the allocation or the registers are checked when the word issues.
-/
namespace Sys2Proof

/-- Does an operand specifier name a scalar register (R20)? -/
def isScalar (x : BitVec 7) : Bool := decide (96 ≤ x.toNat)

/-- Does an operand specifier name a vector register (R20)? -/
def isVector (x : BitVec 7) : Bool := decide (x.toNat < 96)

/-- May the specifier name a 64-bit operand: a scalar, or an even vector register (R21)? -/
def pairOk (x : BitVec 7) : Bool := isScalar x || decide (x.toNat % 2 = 0)

/-- May the specifier name four consecutive vector registers (R43)? -/
def quadOk (x : BitVec 7) : Bool := isVector x && decide (x.toNat % 4 = 0)

/-- May the specifier name a ray record of 16 registers (R274)? -/
def recordOk (x : BitVec 7) : Bool := decide (x.toNat % 8 = 0) && decide (x.toNat + 16 ≤ 96)

/-- Is the sub-op of ATOM or RED a 64-bit type (R45)? -/
def wideType (t : BitVec 3) : Bool := decide (t = 2) || decide (t = 3) || decide (t = 7)

/-- Level and number of BAR and BARARR (R42). -/
def barrierOk (l : BitVec 2) (n : BitVec 6) : Bool :=
  match l.toNat with
  | 0 => decide (n.toNat < 16)
  | 1 => decide (n.toNat < 8)
  | 2 => decide (n.toNat < 4)
  | _ => false

/-- R47 step 3, as far as the word alone decides it: every field holds a value the class accepts. The rules
that depend on the chain's prefixes are checked at issue. Events have no fields to check. -/
def Instr.fieldsOk : Instr → Bool
  | .ximm _ => true
  | .ximmh _ => true
  | .xmod _ => true
  | .xpred _ _ => true
  | .xopd _ _ _ _ _ => true
  | .xsch _ _ => true
  | .iadd _ _ _ _ _ => true
  | .isub _ _ _ _ _ => true
  | .imul _ _ _ _ _ => true
  | .imulh _ _ _ _ _ => true
  | .imad _ _ _ _ _ => true
  | .imin _ _ _ _ _ => true
  | .imax _ _ _ _ _ => true
  | .iabs _ _ _ => true
  | .ishl _ _ _ _ _ => true
  | .ishr _ _ _ _ _ => true
  | .lshr _ _ _ _ _ => true
  | .popc _ _ _ => true
  | .clz _ _ _ => true
  | .brev _ _ _ => true
  | .iaddImm _ _ _ _ => true
  | .imulImm _ _ _ _ => true
  | .iminImm _ _ _ _ => true
  | .imaxImm _ _ _ _ => true
  | .ishlImm _ _ _ _ => true
  | .ishrImm _ _ _ _ => true
  | .lshrImm _ _ _ _ => true
  | .logic3 _ _ _ _ => true
  | .bfe _ _ _ _ _ => true
  | .bfi _ _ _ _ _ => true
  | .lea d a _ _ _ => pairOk d && pairOk a
  | .shf d a _ _ _ => pairOk d && pairOk a
  | .iadd64 d a _ _ _ => pairOk d && pairOk a
  | .isub64 d a _ _ _ => pairOk d && pairOk a
  | .imul64 d a _ _ _ => pairOk d && pairOk a
  | .imad64 d a _ _ _ => pairOk d && pairOk a
  | .icmp k _ _ _ _ _ => decide (k.toNat ≤ 5)
  | .fcmp k _ _ _ _ _ => decide (k.toNat ≤ 7)
  | .fclass _ _ _ _ => true
  | .sel _ _ _ _ _ => true
  | .pand _ _ _ => true
  | .por _ _ _ => true
  | .pxor _ _ _ => true
  | .pnot _ _ => true
  | .fadd _ _ _ _ _ => true
  | .fsub _ _ _ _ _ => true
  | .fmul _ _ _ _ _ => true
  | .ffma _ _ _ _ _ => true
  | .fmin _ _ _ _ _ => true
  | .fmax _ _ _ _ _ => true
  | .frnd _ _ _ => true
  | .fabs _ _ _ => true
  | .fneg _ _ _ => true
  | .fscale _ _ _ _ _ => true
  | .faddPacked _ _ _ _ _ => true
  | .fsubPacked _ _ _ _ _ => true
  | .fmulPacked _ _ _ _ _ => true
  | .ffmaPacked _ _ _ _ _ => true
  | .fminPacked _ _ _ _ _ => true
  | .fmaxPacked _ _ _ _ _ => true
  | .frndPacked _ _ _ => true
  | .fabsPacked _ _ _ => true
  | .fnegPacked _ _ _ => true
  | .fscalePacked _ _ _ _ _ => true
  | .faddImm _ _ _ _ => true
  | .fmulImm _ _ _ _ => true
  | .ffmaImm _ _ _ _ => true
  | .fminImm _ _ _ _ => true
  | .rcp _ _ _ => true
  | .rsq _ _ _ => true
  | .sqrt _ _ _ => true
  | .exp2 _ _ _ => true
  | .log2 _ _ _ => true
  | .sinpi _ _ _ => true
  | .cospi _ _ _ => true
  | .tanh _ _ _ => true
  | .divf _ _ _ _ _ => true
  | .fcvt _ _ _ => true
  | .icvt _ _ _ => true
  | .ftoi _ _ _ => true
  | .itof _ _ _ => true
  | .npack _ _ _ _ _ => true
  | .nunpack _ _ _ => true
  | .qscale _ _ _ => true
  | .qpack _ _ _ _ _ => true
  | .qunpack _ _ _ _ _ => true
  | .qdot4 _ _ _ _ _ => true
  | .dsmul _ _ _ _ _ => true
  | .mov _ _ _ => true
  | .movi _ _ => true
  | .movs d _ _ _ _ => isScalar d
  | .shfl _ _ _ _ _ => true
  | .ballot _ _ _ => true
  | .vote k _ _ _ => decide (k.toNat ≤ 3)
  | .bsel _ _ _ _ _ => true
  | .bred _ _ _ => true
  | .elect _ => true
  | .csel _ _ _ _ _ => true
  | .matchLanes _ _ _ => true
  | .lanemask _ _ _ => true
  | .bra c e _ => decide (c.toNat ≤ 5) && (decide (c ≠ 0) || decide (e = 0))
  | .jmp a _ => pairOk a
  | .call d _ => pairOk d
  | .calli d a _ => pairOk d && pairOk a
  | .ret a _ => pairOk a
  | .mark _ => true
  | .join => true
  | .reform d _ _ _ => decide (d.toNat ≤ 12)
  | .exit => true
  | .nop => true
  | .sleep _ => true
  | .yield => true
  | .ldB32 _ b _ _ => pairOk b
  | .ldB64 d b _ _ => pairOk d && pairOk b
  | .ldB128 d b _ _ => quadOk d && pairOk b
  | .ldbB32 _ b _ _ => pairOk b
  | .ldbB64 d b _ _ => pairOk d && pairOk b
  | .ldbB128 d b _ _ => quadOk d && pairOk b
  | .ldlB32 _ _ _ _ => true
  | .ldlB64 d _ _ _ => pairOk d
  | .ldlB128 d _ _ _ => quadOk d
  | .ldpB32 _ _ _ _ => true
  | .ldpB64 d _ _ _ => pairOk d
  | .ldpB128 d _ _ _ => quadOk d
  | .ldvB32 _ b _ _ => pairOk b
  | .ldvB128 d b _ _ => quadOk d && pairOk b
  | .prefetch b _ _ => pairOk b
  | .invl1 => true
  | .stB32 _ b _ _ => pairOk b
  | .stB64 d b _ _ => pairOk d && pairOk b
  | .stB128 d b _ _ => quadOk d && pairOk b
  | .stlB32 _ _ _ _ => true
  | .stlB64 d _ _ _ => pairOk d
  | .stlB128 d _ _ _ => quadOk d
  | .stpB32 _ _ _ _ => true
  | .stpB64 d _ _ _ => pairOk d
  | .stpB128 d _ _ _ => quadOk d
  | .cstoreB32 _ b _ _ => isScalar b
  | .cstoreB64 d b _ _ => pairOk d && isScalar b
  | .atomAdd d _ s _ t _ => decide (s ≠ 7) && (!wideType t || pairOk d)
  | .atomMin d _ s _ t _ => decide (s ≠ 7) && (!wideType t || pairOk d)
  | .atomMax d _ s _ t _ => decide (s ≠ 7) && (!wideType t || pairOk d)
  | .atomAnd d _ s _ t _ => decide (s ≠ 7) && (decide (t = 0) || decide (t = 2)) && (!wideType t || pairOk d)
  | .atomOr d _ s _ t _ => decide (s ≠ 7) && (decide (t = 0) || decide (t = 2)) && (!wideType t || pairOk d)
  | .atomXor d _ s _ t _ => decide (s ≠ 7) && (decide (t = 0) || decide (t = 2)) && (!wideType t || pairOk d)
  | .atomExch d _ s _ t _ => decide (s ≠ 7) && (decide (t = 0) || decide (t = 2)) && (!wideType t || pairOk d)
  | .atomCas d _ s _ t _ => decide (s ≠ 7) && (decide (t = 0) || decide (t = 2)) && (!wideType t || pairOk d)
  | .redAdd d _ s _ t _ => decide (s ≠ 7) && (!wideType t || pairOk d)
  | .redMin d _ s _ t _ => decide (s ≠ 7) && (!wideType t || pairOk d)
  | .redMax d _ s _ t _ => decide (s ≠ 7) && (!wideType t || pairOk d)
  | .redAnd d _ s _ t _ => decide (s ≠ 7) && (decide (t = 0) || decide (t = 2)) && (!wideType t || pairOk d)
  | .redOr d _ s _ t _ => decide (s ≠ 7) && (decide (t = 0) || decide (t = 2)) && (!wideType t || pairOk d)
  | .redXor d _ s _ t _ => decide (s ≠ 7) && (decide (t = 0) || decide (t = 2)) && (!wideType t || pairOk d)
  | .redflush => true
  | .mxacc _ b s _ k _ => pairOk b && decide (s ≠ 7) && decide (k.toNat ≤ 5)
  | .syncLd d _ s _ w _ => decide (s ≠ 7) && decide (w.toNat ≤ 4) && (decide (w ≠ 1) || pairOk d) && (decide (w ≠ 2) || quadOk d)
  | .syncLdb d _ s _ w _ => decide (s ≠ 7) && decide (w.toNat ≤ 4) && (decide (w ≠ 1) || pairOk d) && (decide (w ≠ 2) || quadOk d)
  | .syncSt d _ s _ w _ => decide (s ≠ 7) && decide (w.toNat ≤ 4) && (decide (w ≠ 1) || pairOk d) && (decide (w ≠ 2) || quadOk d)
  | .fence s r => decide (s ≠ 7) && decide (r ≠ 0)
  | .fenceLayer s _ => decide (s ≠ 7)
  | .bar l n => barrierOk l n
  | .bararr l n => barrierOk l n
  | .bsync a _ => isScalar a
  | .semwait f a _ n => isScalar a && (decide (f = 1) || decide (n.toNat < 64))
  | .semsig f a _ n => isScalar a && (decide (f = 1) || decide (n.toNat < 64))
  | .semset f a _ n => isScalar a && (decide (f = 1) || decide (n.toNat < 64))
  | .mma d a b _ _ => isScalar d && isScalar a && isScalar b
  | .tld _ _ _ _ _ => true
  | .tst _ _ _ _ _ => true
  | .tcopy d a b _ _ => isScalar d && isScalar a && isScalar b
  | .tclr d a _ => isScalar d && isScalar a
  | .job d a _ => isScalar d && isScalar a
  | .jobq d a _ => isScalar d && isScalar a
  | .boxt d a _ _ _ => isVector d && pairOk d && recordOk a
  | .trit d a _ _ _ => isVector d && quadOk d && recordOk a
  | .tspush d a _ _ _ => isVector d && pairOk a
  | .tspop d a _ _ _ => isVector d && pairOk d && isVector a
  | .rayinit d _ => recordOk d
  | .vexport a _ _ _ => quadOk a
  | .pexport t a _ => decide (t.toNat ≤ 4) && isVector a && (decide (t = 4) || quadOk a)
  | .sample d a _ _ _ => quadOk d && isVector a && pairOk a
  | .samplel d a _ _ _ => quadOk d && isVector a && pairOk a
  | .sampleg d a _ _ _ => quadOk d && isVector a && pairOk a
  | .attr d _ => isVector d
  | .zquery d => isVector d
  | .launch d a b _ _ => isScalar d && isScalar a && isScalar b
  | .signal a b _ _ => isScalar a && isScalar b
  | .perfcl _ => true
  | .flip d a b _ _ => isScalar d && isScalar a && isScalar b
  | .fork d a b _ _ => isScalar d && isScalar a && isScalar b
  | .reach _ => true
  | .commit d k => isScalar d && decide (k ≠ 0)
  | .commitReg d a _ => isScalar d && isScalar a
  | .squash d _ => isScalar d
  | .squashReg d a _ => isScalar d && isScalar a
  | .rquery d a _ => isScalar d && isScalar a
  | .trap _ => true
  | .brk _ => true
  | .rett => true
  | .csrr _ _ => true
  | .csrw a _ _ => isScalar a
  | .csrs _ a _ _ => isScalar a
  | .wfi => true
  | .registerFill => true
  | .sleepEnd => true
  | .wfiWake => true
  | .l1Fill => true
  | .writeAcknowledge => true
  | .homeRead => true
  | .homeWrite => true
  | .homeAtomic => true
  | .redDrainEntry => true
  | .mxaccAtHome => true
  | .pull => true
  | .pullReply => true
  | .walkRequest => true
  | .walkComplete => true
  | .hostSnoop => true
  | .hostMemRead => true
  | .refreshWindow => true
  | .memTempSample => true
  | .hotStateChange => true
  | .layerTempSample => true
  | .powerSample => true
  | .freqStep => true
  | .thermalPeriodStart => true
  | .watchdog => true
  | .basinClose => true
  | .barrierOpen => true
  | .sluiceWave => true
  | .handlerEntry => true
  | .unrecoverableFault => true
  | .chunkCommitRequest => true
  | .forkGrant => true
  | .commitPoint => true
  | .squashPoint => true
  | .reachStarved => true
  | .settlingComplete => true
  | .cardStart => true
  | .cardComplete => true
  | .cardFault => true
  | .mmaStart => true
  | .mmaGroupFull => true
  | .setupTake => true
  | .windowRelease => true
  | .pixelBargeClose => true
  | .earlyZTest => true
  | .pixelRetire => true
  | .binBuild => true
  | .verticalBlank => true
  | .frameStart => true
  | .queueSlotWrite => true
  | .wharfTake => true
  | .wharfDispatch => true
  | .workgroupStart => true
  | .taskComplete => true
  | .ctxTeardown => true
  | .ctxKill => true
  | .ctxKillDone => true
  | .deviceFatal => true
  | .tlbiGo => true
  | .tlbiDone => true
  | .migLock => true
  | .migLocked => true
  | .migSwitch => true
  | .migRelease => true
  | .colSplitRequest => true
  | .colSplitApply => true
  | .vbusTestGo => true
  | .vbusCaptDone => true
  | .vbusLock => true
  | .vbusRetire => true
  | .mtxLayerLock => true
  | .inputPublish => true
  | .semValWrite => true
  | .faultLogRead => true
  | .faultResume => true
  | .preemptVacate => true
  | .preemptSaveGraphics => true
  | .preemptRestoreGraphics => true
  | .preemptRelease => true
  | .preemptDone => true
  | .savedWorkgroupRestore => true
  | .powerUp => true
  | .bootVerify => true
  | .bootVerifyComplete => true
  | .attestExtend => true
  | .quoteStart => true
  | .quoteDone => true
  | .bootKernelGo => true
  | .registerWrite => true
  | .illegalEncoding => true
  | .powerOff => true
  | .hostMemWrite => true
  | .backInvalidateResponse => true
  | .hostDataArrival => true
  | .semaphoreUpdate => true
  | .writeBufferArrival => true
  | .writeBufferCommit => true
  | .tileStoreAccess => true
  | .localMemoryAccess => true

/-- R47 step 4: the order field holds a value the op accepts (R44, R45, R314, R319). -/
def Instr.orderOk : Instr → Bool
  | .ximm _ => true
  | .ximmh _ => true
  | .xmod _ => true
  | .xpred _ _ => true
  | .xopd _ _ _ _ _ => true
  | .xsch _ _ => true
  | .iadd _ _ _ _ _ => true
  | .isub _ _ _ _ _ => true
  | .imul _ _ _ _ _ => true
  | .imulh _ _ _ _ _ => true
  | .imad _ _ _ _ _ => true
  | .imin _ _ _ _ _ => true
  | .imax _ _ _ _ _ => true
  | .iabs _ _ _ => true
  | .ishl _ _ _ _ _ => true
  | .ishr _ _ _ _ _ => true
  | .lshr _ _ _ _ _ => true
  | .popc _ _ _ => true
  | .clz _ _ _ => true
  | .brev _ _ _ => true
  | .iaddImm _ _ _ _ => true
  | .imulImm _ _ _ _ => true
  | .iminImm _ _ _ _ => true
  | .imaxImm _ _ _ _ => true
  | .ishlImm _ _ _ _ => true
  | .ishrImm _ _ _ _ => true
  | .lshrImm _ _ _ _ => true
  | .logic3 _ _ _ _ => true
  | .bfe _ _ _ _ _ => true
  | .bfi _ _ _ _ _ => true
  | .lea _ _ _ _ _ => true
  | .shf _ _ _ _ _ => true
  | .iadd64 _ _ _ _ _ => true
  | .isub64 _ _ _ _ _ => true
  | .imul64 _ _ _ _ _ => true
  | .imad64 _ _ _ _ _ => true
  | .icmp _ _ _ _ _ _ => true
  | .fcmp _ _ _ _ _ _ => true
  | .fclass _ _ _ _ => true
  | .sel _ _ _ _ _ => true
  | .pand _ _ _ => true
  | .por _ _ _ => true
  | .pxor _ _ _ => true
  | .pnot _ _ => true
  | .fadd _ _ _ _ _ => true
  | .fsub _ _ _ _ _ => true
  | .fmul _ _ _ _ _ => true
  | .ffma _ _ _ _ _ => true
  | .fmin _ _ _ _ _ => true
  | .fmax _ _ _ _ _ => true
  | .frnd _ _ _ => true
  | .fabs _ _ _ => true
  | .fneg _ _ _ => true
  | .fscale _ _ _ _ _ => true
  | .faddPacked _ _ _ _ _ => true
  | .fsubPacked _ _ _ _ _ => true
  | .fmulPacked _ _ _ _ _ => true
  | .ffmaPacked _ _ _ _ _ => true
  | .fminPacked _ _ _ _ _ => true
  | .fmaxPacked _ _ _ _ _ => true
  | .frndPacked _ _ _ => true
  | .fabsPacked _ _ _ => true
  | .fnegPacked _ _ _ => true
  | .fscalePacked _ _ _ _ _ => true
  | .faddImm _ _ _ _ => true
  | .fmulImm _ _ _ _ => true
  | .ffmaImm _ _ _ _ => true
  | .fminImm _ _ _ _ => true
  | .rcp _ _ _ => true
  | .rsq _ _ _ => true
  | .sqrt _ _ _ => true
  | .exp2 _ _ _ => true
  | .log2 _ _ _ => true
  | .sinpi _ _ _ => true
  | .cospi _ _ _ => true
  | .tanh _ _ _ => true
  | .divf _ _ _ _ _ => true
  | .fcvt _ _ _ => true
  | .icvt _ _ _ => true
  | .ftoi _ _ _ => true
  | .itof _ _ _ => true
  | .npack _ _ _ _ _ => true
  | .nunpack _ _ _ => true
  | .qscale _ _ _ => true
  | .qpack _ _ _ _ _ => true
  | .qunpack _ _ _ _ _ => true
  | .qdot4 _ _ _ _ _ => true
  | .dsmul _ _ _ _ _ => true
  | .mov _ _ _ => true
  | .movi _ _ => true
  | .movs _ _ _ _ _ => true
  | .shfl _ _ _ _ _ => true
  | .ballot _ _ _ => true
  | .vote _ _ _ _ => true
  | .bsel _ _ _ _ _ => true
  | .bred _ _ _ => true
  | .elect _ => true
  | .csel _ _ _ _ _ => true
  | .matchLanes _ _ _ => true
  | .lanemask _ _ _ => true
  | .bra _ _ _ => true
  | .jmp _ _ => true
  | .call _ _ => true
  | .calli _ _ _ => true
  | .ret _ _ => true
  | .mark _ => true
  | .join => true
  | .reform _ _ _ _ => true
  | .exit => true
  | .nop => true
  | .sleep _ => true
  | .yield => true
  | .ldB32 _ _ _ _ => true
  | .ldB64 _ _ _ _ => true
  | .ldB128 _ _ _ _ => true
  | .ldbB32 _ _ _ _ => true
  | .ldbB64 _ _ _ _ => true
  | .ldbB128 _ _ _ _ => true
  | .ldlB32 _ _ _ _ => true
  | .ldlB64 _ _ _ _ => true
  | .ldlB128 _ _ _ _ => true
  | .ldpB32 _ _ _ _ => true
  | .ldpB64 _ _ _ _ => true
  | .ldpB128 _ _ _ _ => true
  | .ldvB32 _ _ _ _ => true
  | .ldvB128 _ _ _ _ => true
  | .prefetch _ _ _ => true
  | .invl1 => true
  | .stB32 _ _ _ _ => true
  | .stB64 _ _ _ _ => true
  | .stB128 _ _ _ _ => true
  | .stlB32 _ _ _ _ => true
  | .stlB64 _ _ _ _ => true
  | .stlB128 _ _ _ _ => true
  | .stpB32 _ _ _ _ => true
  | .stpB64 _ _ _ _ => true
  | .stpB128 _ _ _ _ => true
  | .cstoreB32 _ _ _ _ => true
  | .cstoreB64 _ _ _ _ => true
  | .atomAdd _ _ _ _ _ _ => true
  | .atomMin _ _ _ _ _ _ => true
  | .atomMax _ _ _ _ _ _ => true
  | .atomAnd _ _ _ _ _ _ => true
  | .atomOr _ _ _ _ _ _ => true
  | .atomXor _ _ _ _ _ _ => true
  | .atomExch _ _ _ _ _ _ => true
  | .atomCas _ _ _ _ _ _ => true
  | .redAdd _ _ _ r _ _ => (decide (r = 0) || decide (r = 2))
  | .redMin _ _ _ r _ _ => (decide (r = 0) || decide (r = 2))
  | .redMax _ _ _ r _ _ => (decide (r = 0) || decide (r = 2))
  | .redAnd _ _ _ r _ _ => (decide (r = 0) || decide (r = 2))
  | .redOr _ _ _ r _ _ => (decide (r = 0) || decide (r = 2))
  | .redXor _ _ _ r _ _ => (decide (r = 0) || decide (r = 2))
  | .redflush => true
  | .mxacc _ _ _ r _ _ => (decide (r = 0) || decide (r = 2))
  | .syncLd _ _ _ r _ _ => decide (r.toNat ≤ 1)
  | .syncLdb _ _ _ r _ _ => decide (r.toNat ≤ 1)
  | .syncSt _ _ _ r _ _ => (decide (r = 0) || decide (r = 2))
  | .fence _ _ => true
  | .fenceLayer _ _ => true
  | .bar _ _ => true
  | .bararr _ _ => true
  | .bsync _ _ => true
  | .semwait _ _ _ _ => true
  | .semsig _ _ _ _ => true
  | .semset _ _ _ _ => true
  | .mma _ _ _ _ _ => true
  | .tld _ _ _ _ _ => true
  | .tst _ _ _ _ _ => true
  | .tcopy _ _ _ _ _ => true
  | .tclr _ _ _ => true
  | .job _ _ _ => true
  | .jobq _ _ _ => true
  | .boxt _ _ _ _ _ => true
  | .trit _ _ _ _ _ => true
  | .tspush _ _ _ _ _ => true
  | .tspop _ _ _ _ _ => true
  | .rayinit _ _ => true
  | .vexport _ _ _ _ => true
  | .pexport _ _ _ => true
  | .sample _ _ _ _ _ => true
  | .samplel _ _ _ _ _ => true
  | .sampleg _ _ _ _ _ => true
  | .attr _ _ => true
  | .zquery _ => true
  | .launch _ _ _ _ _ => true
  | .signal _ _ _ _ => true
  | .perfcl _ => true
  | .flip _ _ _ _ _ => true
  | .fork _ _ _ _ _ => true
  | .reach _ => true
  | .commit _ _ => true
  | .commitReg _ _ _ => true
  | .squash _ _ => true
  | .squashReg _ _ _ => true
  | .rquery _ _ _ => true
  | .trap _ => true
  | .brk _ => true
  | .rett => true
  | .csrr _ _ => true
  | .csrw _ _ _ => true
  | .csrs _ _ _ _ => true
  | .wfi => true
  | .registerFill => true
  | .sleepEnd => true
  | .wfiWake => true
  | .l1Fill => true
  | .writeAcknowledge => true
  | .homeRead => true
  | .homeWrite => true
  | .homeAtomic => true
  | .redDrainEntry => true
  | .mxaccAtHome => true
  | .pull => true
  | .pullReply => true
  | .walkRequest => true
  | .walkComplete => true
  | .hostSnoop => true
  | .hostMemRead => true
  | .refreshWindow => true
  | .memTempSample => true
  | .hotStateChange => true
  | .layerTempSample => true
  | .powerSample => true
  | .freqStep => true
  | .thermalPeriodStart => true
  | .watchdog => true
  | .basinClose => true
  | .barrierOpen => true
  | .sluiceWave => true
  | .handlerEntry => true
  | .unrecoverableFault => true
  | .chunkCommitRequest => true
  | .forkGrant => true
  | .commitPoint => true
  | .squashPoint => true
  | .reachStarved => true
  | .settlingComplete => true
  | .cardStart => true
  | .cardComplete => true
  | .cardFault => true
  | .mmaStart => true
  | .mmaGroupFull => true
  | .setupTake => true
  | .windowRelease => true
  | .pixelBargeClose => true
  | .earlyZTest => true
  | .pixelRetire => true
  | .binBuild => true
  | .verticalBlank => true
  | .frameStart => true
  | .queueSlotWrite => true
  | .wharfTake => true
  | .wharfDispatch => true
  | .workgroupStart => true
  | .taskComplete => true
  | .ctxTeardown => true
  | .ctxKill => true
  | .ctxKillDone => true
  | .deviceFatal => true
  | .tlbiGo => true
  | .tlbiDone => true
  | .migLock => true
  | .migLocked => true
  | .migSwitch => true
  | .migRelease => true
  | .colSplitRequest => true
  | .colSplitApply => true
  | .vbusTestGo => true
  | .vbusCaptDone => true
  | .vbusLock => true
  | .vbusRetire => true
  | .mtxLayerLock => true
  | .inputPublish => true
  | .semValWrite => true
  | .faultLogRead => true
  | .faultResume => true
  | .preemptVacate => true
  | .preemptSaveGraphics => true
  | .preemptRestoreGraphics => true
  | .preemptRelease => true
  | .preemptDone => true
  | .savedWorkgroupRestore => true
  | .powerUp => true
  | .bootVerify => true
  | .bootVerifyComplete => true
  | .attestExtend => true
  | .quoteStart => true
  | .quoteDone => true
  | .bootKernelGo => true
  | .registerWrite => true
  | .illegalEncoding => true
  | .powerOff => true
  | .hostMemWrite => true
  | .backInvalidateResponse => true
  | .hostDataArrival => true
  | .semaphoreUpdate => true
  | .writeBufferArrival => true
  | .writeBufferCommit => true
  | .tileStoreAccess => true
  | .localMemoryAccess => true

/-- Is this step an encoded word, not an event? -/
def Instr.isWord : Instr → Bool
  | .ximm _ => true
  | .ximmh _ => true
  | .xmod _ => true
  | .xpred _ _ => true
  | .xopd _ _ _ _ _ => true
  | .xsch _ _ => true
  | .iadd _ _ _ _ _ => true
  | .isub _ _ _ _ _ => true
  | .imul _ _ _ _ _ => true
  | .imulh _ _ _ _ _ => true
  | .imad _ _ _ _ _ => true
  | .imin _ _ _ _ _ => true
  | .imax _ _ _ _ _ => true
  | .iabs _ _ _ => true
  | .ishl _ _ _ _ _ => true
  | .ishr _ _ _ _ _ => true
  | .lshr _ _ _ _ _ => true
  | .popc _ _ _ => true
  | .clz _ _ _ => true
  | .brev _ _ _ => true
  | .iaddImm _ _ _ _ => true
  | .imulImm _ _ _ _ => true
  | .iminImm _ _ _ _ => true
  | .imaxImm _ _ _ _ => true
  | .ishlImm _ _ _ _ => true
  | .ishrImm _ _ _ _ => true
  | .lshrImm _ _ _ _ => true
  | .logic3 _ _ _ _ => true
  | .bfe _ _ _ _ _ => true
  | .bfi _ _ _ _ _ => true
  | .lea _ _ _ _ _ => true
  | .shf _ _ _ _ _ => true
  | .iadd64 _ _ _ _ _ => true
  | .isub64 _ _ _ _ _ => true
  | .imul64 _ _ _ _ _ => true
  | .imad64 _ _ _ _ _ => true
  | .icmp _ _ _ _ _ _ => true
  | .fcmp _ _ _ _ _ _ => true
  | .fclass _ _ _ _ => true
  | .sel _ _ _ _ _ => true
  | .pand _ _ _ => true
  | .por _ _ _ => true
  | .pxor _ _ _ => true
  | .pnot _ _ => true
  | .fadd _ _ _ _ _ => true
  | .fsub _ _ _ _ _ => true
  | .fmul _ _ _ _ _ => true
  | .ffma _ _ _ _ _ => true
  | .fmin _ _ _ _ _ => true
  | .fmax _ _ _ _ _ => true
  | .frnd _ _ _ => true
  | .fabs _ _ _ => true
  | .fneg _ _ _ => true
  | .fscale _ _ _ _ _ => true
  | .faddPacked _ _ _ _ _ => true
  | .fsubPacked _ _ _ _ _ => true
  | .fmulPacked _ _ _ _ _ => true
  | .ffmaPacked _ _ _ _ _ => true
  | .fminPacked _ _ _ _ _ => true
  | .fmaxPacked _ _ _ _ _ => true
  | .frndPacked _ _ _ => true
  | .fabsPacked _ _ _ => true
  | .fnegPacked _ _ _ => true
  | .fscalePacked _ _ _ _ _ => true
  | .faddImm _ _ _ _ => true
  | .fmulImm _ _ _ _ => true
  | .ffmaImm _ _ _ _ => true
  | .fminImm _ _ _ _ => true
  | .rcp _ _ _ => true
  | .rsq _ _ _ => true
  | .sqrt _ _ _ => true
  | .exp2 _ _ _ => true
  | .log2 _ _ _ => true
  | .sinpi _ _ _ => true
  | .cospi _ _ _ => true
  | .tanh _ _ _ => true
  | .divf _ _ _ _ _ => true
  | .fcvt _ _ _ => true
  | .icvt _ _ _ => true
  | .ftoi _ _ _ => true
  | .itof _ _ _ => true
  | .npack _ _ _ _ _ => true
  | .nunpack _ _ _ => true
  | .qscale _ _ _ => true
  | .qpack _ _ _ _ _ => true
  | .qunpack _ _ _ _ _ => true
  | .qdot4 _ _ _ _ _ => true
  | .dsmul _ _ _ _ _ => true
  | .mov _ _ _ => true
  | .movi _ _ => true
  | .movs _ _ _ _ _ => true
  | .shfl _ _ _ _ _ => true
  | .ballot _ _ _ => true
  | .vote _ _ _ _ => true
  | .bsel _ _ _ _ _ => true
  | .bred _ _ _ => true
  | .elect _ => true
  | .csel _ _ _ _ _ => true
  | .matchLanes _ _ _ => true
  | .lanemask _ _ _ => true
  | .bra _ _ _ => true
  | .jmp _ _ => true
  | .call _ _ => true
  | .calli _ _ _ => true
  | .ret _ _ => true
  | .mark _ => true
  | .join => true
  | .reform _ _ _ _ => true
  | .exit => true
  | .nop => true
  | .sleep _ => true
  | .yield => true
  | .ldB32 _ _ _ _ => true
  | .ldB64 _ _ _ _ => true
  | .ldB128 _ _ _ _ => true
  | .ldbB32 _ _ _ _ => true
  | .ldbB64 _ _ _ _ => true
  | .ldbB128 _ _ _ _ => true
  | .ldlB32 _ _ _ _ => true
  | .ldlB64 _ _ _ _ => true
  | .ldlB128 _ _ _ _ => true
  | .ldpB32 _ _ _ _ => true
  | .ldpB64 _ _ _ _ => true
  | .ldpB128 _ _ _ _ => true
  | .ldvB32 _ _ _ _ => true
  | .ldvB128 _ _ _ _ => true
  | .prefetch _ _ _ => true
  | .invl1 => true
  | .stB32 _ _ _ _ => true
  | .stB64 _ _ _ _ => true
  | .stB128 _ _ _ _ => true
  | .stlB32 _ _ _ _ => true
  | .stlB64 _ _ _ _ => true
  | .stlB128 _ _ _ _ => true
  | .stpB32 _ _ _ _ => true
  | .stpB64 _ _ _ _ => true
  | .stpB128 _ _ _ _ => true
  | .cstoreB32 _ _ _ _ => true
  | .cstoreB64 _ _ _ _ => true
  | .atomAdd _ _ _ _ _ _ => true
  | .atomMin _ _ _ _ _ _ => true
  | .atomMax _ _ _ _ _ _ => true
  | .atomAnd _ _ _ _ _ _ => true
  | .atomOr _ _ _ _ _ _ => true
  | .atomXor _ _ _ _ _ _ => true
  | .atomExch _ _ _ _ _ _ => true
  | .atomCas _ _ _ _ _ _ => true
  | .redAdd _ _ _ _ _ _ => true
  | .redMin _ _ _ _ _ _ => true
  | .redMax _ _ _ _ _ _ => true
  | .redAnd _ _ _ _ _ _ => true
  | .redOr _ _ _ _ _ _ => true
  | .redXor _ _ _ _ _ _ => true
  | .redflush => true
  | .mxacc _ _ _ _ _ _ => true
  | .syncLd _ _ _ _ _ _ => true
  | .syncLdb _ _ _ _ _ _ => true
  | .syncSt _ _ _ _ _ _ => true
  | .fence _ _ => true
  | .fenceLayer _ _ => true
  | .bar _ _ => true
  | .bararr _ _ => true
  | .bsync _ _ => true
  | .semwait _ _ _ _ => true
  | .semsig _ _ _ _ => true
  | .semset _ _ _ _ => true
  | .mma _ _ _ _ _ => true
  | .tld _ _ _ _ _ => true
  | .tst _ _ _ _ _ => true
  | .tcopy _ _ _ _ _ => true
  | .tclr _ _ _ => true
  | .job _ _ _ => true
  | .jobq _ _ _ => true
  | .boxt _ _ _ _ _ => true
  | .trit _ _ _ _ _ => true
  | .tspush _ _ _ _ _ => true
  | .tspop _ _ _ _ _ => true
  | .rayinit _ _ => true
  | .vexport _ _ _ _ => true
  | .pexport _ _ _ => true
  | .sample _ _ _ _ _ => true
  | .samplel _ _ _ _ _ => true
  | .sampleg _ _ _ _ _ => true
  | .attr _ _ => true
  | .zquery _ => true
  | .launch _ _ _ _ _ => true
  | .signal _ _ _ _ => true
  | .perfcl _ => true
  | .flip _ _ _ _ _ => true
  | .fork _ _ _ _ _ => true
  | .reach _ => true
  | .commit _ _ => true
  | .commitReg _ _ _ => true
  | .squash _ _ => true
  | .squashReg _ _ _ => true
  | .rquery _ _ _ => true
  | .trap _ => true
  | .brk _ => true
  | .rett => true
  | .csrr _ _ => true
  | .csrw _ _ _ => true
  | .csrs _ _ _ _ => true
  | .wfi => true
  | .registerFill => false
  | .sleepEnd => false
  | .wfiWake => false
  | .l1Fill => false
  | .writeAcknowledge => false
  | .homeRead => false
  | .homeWrite => false
  | .homeAtomic => false
  | .redDrainEntry => false
  | .mxaccAtHome => false
  | .pull => false
  | .pullReply => false
  | .walkRequest => false
  | .walkComplete => false
  | .hostSnoop => false
  | .hostMemRead => false
  | .refreshWindow => false
  | .memTempSample => false
  | .hotStateChange => false
  | .layerTempSample => false
  | .powerSample => false
  | .freqStep => false
  | .thermalPeriodStart => false
  | .watchdog => false
  | .basinClose => false
  | .barrierOpen => false
  | .sluiceWave => false
  | .handlerEntry => false
  | .unrecoverableFault => false
  | .chunkCommitRequest => false
  | .forkGrant => false
  | .commitPoint => false
  | .squashPoint => false
  | .reachStarved => false
  | .settlingComplete => false
  | .cardStart => false
  | .cardComplete => false
  | .cardFault => false
  | .mmaStart => false
  | .mmaGroupFull => false
  | .setupTake => false
  | .windowRelease => false
  | .pixelBargeClose => false
  | .earlyZTest => false
  | .pixelRetire => false
  | .binBuild => false
  | .verticalBlank => false
  | .frameStart => false
  | .queueSlotWrite => false
  | .wharfTake => false
  | .wharfDispatch => false
  | .workgroupStart => false
  | .taskComplete => false
  | .ctxTeardown => false
  | .ctxKill => false
  | .ctxKillDone => false
  | .deviceFatal => false
  | .tlbiGo => false
  | .tlbiDone => false
  | .migLock => false
  | .migLocked => false
  | .migSwitch => false
  | .migRelease => false
  | .colSplitRequest => false
  | .colSplitApply => false
  | .vbusTestGo => false
  | .vbusCaptDone => false
  | .vbusLock => false
  | .vbusRetire => false
  | .mtxLayerLock => false
  | .inputPublish => false
  | .semValWrite => false
  | .faultLogRead => false
  | .faultResume => false
  | .preemptVacate => false
  | .preemptSaveGraphics => false
  | .preemptRestoreGraphics => false
  | .preemptRelease => false
  | .preemptDone => false
  | .savedWorkgroupRestore => false
  | .powerUp => false
  | .bootVerify => false
  | .bootVerifyComplete => false
  | .attestExtend => false
  | .quoteStart => false
  | .quoteDone => false
  | .bootKernelGo => false
  | .registerWrite => false
  | .illegalEncoding => false
  | .powerOff => false
  | .hostMemWrite => false
  | .backInvalidateResponse => false
  | .hostDataArrival => false
  | .semaphoreUpdate => false
  | .writeBufferArrival => false
  | .writeBufferCommit => false
  | .tileStoreAccess => false
  | .localMemoryAccess => false

/-- A word whose own fields are all legal (R46, R47 steps 3 and 4). -/
def Instr.wellFormed (i : Instr) : Bool := i.fieldsOk && i.orderOk

end Sys2Proof
end

