-- ==== Sys2Proof/Decode.lean ====
section
/-!
DEFINITION. The decoder of the 32-bit word (R18, R19, R38 to R46) and its encoder. The decoder is total: a word
that is no instruction is rejected by the name of the check it fails, in the order of R47 steps 1 to 4.
-/
namespace Sys2Proof

/-- Why a word is no instruction (R46, R47). `badPrefix` is a word of class 31 whose kind is reserved or whose
payload breaks R34 to R36: it stays in its chain, and the chain's other checks come first (R47 steps 1 to 6). -/
inductive DecodeError where
  | illClass | illOp | illField | illOrder | badPrefix
  deriving DecidableEq, Repr

/-- Bits [31:27] (R19). -/
def wordClass (w : Word) : BitVec 5 := w.extractLsb' 27 5

/-- Bits [26:23] (R19). -/
def wordOp (w : Word) : BitVec 4 := w.extractLsb' 23 4

/-- Bits [22:16] (R19). -/
def wordD (w : Word) : BitVec 7 := w.extractLsb' 16 7

/-- Bits [15:9] (R19). -/
def wordA (w : Word) : BitVec 7 := w.extractLsb' 9 7

/-- Bits [8:0] (R19). -/
def wordLow (w : Word) : BitVec 9 := w.extractLsb' 0 9

/-- Class 0 IALU-R (Tables 2.6 to 2.8): the op and the three field regions. -/
def decodeClass0 (op : Nat) (d a : BitVec 7) (l : BitVec 9) : Except DecodeError Instr :=
  match op with
  | 0 => .ok (.iadd d a (l.extractLsb' 2 7) (l.extractLsb' 1 1) (l.extractLsb' 0 1))
  | 1 => .ok (.isub d a (l.extractLsb' 2 7) (l.extractLsb' 1 1) (l.extractLsb' 0 1))
  | 2 => .ok (.imul d a (l.extractLsb' 2 7) (l.extractLsb' 1 1) (l.extractLsb' 0 1))
  | 3 => .ok (.imulh d a (l.extractLsb' 2 7) (l.extractLsb' 1 1) (l.extractLsb' 0 1))
  | 4 => .ok (.imad d a (l.extractLsb' 2 7) (l.extractLsb' 1 1) (l.extractLsb' 0 1))
  | 5 => .ok (.imin d a (l.extractLsb' 2 7) (l.extractLsb' 1 1) (l.extractLsb' 0 1))
  | 6 => .ok (.imax d a (l.extractLsb' 2 7) (l.extractLsb' 1 1) (l.extractLsb' 0 1))
  | 7 => if decide (l.extractLsb' 2 7 = 0#7) && decide (l.extractLsb' 0 1 = 0#1) then .ok (.iabs d a (l.extractLsb' 1 1)) else .error .illField
  | 8 => .ok (.ishl d a (l.extractLsb' 2 7) (l.extractLsb' 1 1) (l.extractLsb' 0 1))
  | 9 => .ok (.ishr d a (l.extractLsb' 2 7) (l.extractLsb' 1 1) (l.extractLsb' 0 1))
  | 10 => .ok (.lshr d a (l.extractLsb' 2 7) (l.extractLsb' 1 1) (l.extractLsb' 0 1))
  | 11 => if decide (l.extractLsb' 2 7 = 0#7) && decide (l.extractLsb' 0 1 = 0#1) then .ok (.popc d a (l.extractLsb' 1 1)) else .error .illField
  | 12 => if decide (l.extractLsb' 2 7 = 0#7) && decide (l.extractLsb' 0 1 = 0#1) then .ok (.clz d a (l.extractLsb' 1 1)) else .error .illField
  | 13 => if decide (l.extractLsb' 2 7 = 0#7) && decide (l.extractLsb' 0 1 = 0#1) then .ok (.brev d a (l.extractLsb' 1 1)) else .error .illField
  | _ => .error .illOp

/-- Class 1 IALU-I (Tables 2.6 to 2.8): the op and the three field regions. -/
def decodeClass1 (op : Nat) (d a : BitVec 7) (l : BitVec 9) : Except DecodeError Instr :=
  match op with
  | 0 => .ok (.iaddImm d a (l.extractLsb' 8 1) (l.extractLsb' 0 8))
  | 1 => .ok (.imulImm d a (l.extractLsb' 8 1) (l.extractLsb' 0 8))
  | 2 => .ok (.iminImm d a (l.extractLsb' 8 1) (l.extractLsb' 0 8))
  | 3 => .ok (.imaxImm d a (l.extractLsb' 8 1) (l.extractLsb' 0 8))
  | 4 => .ok (.ishlImm d a (l.extractLsb' 8 1) (l.extractLsb' 0 8))
  | 5 => .ok (.ishrImm d a (l.extractLsb' 8 1) (l.extractLsb' 0 8))
  | 6 => .ok (.lshrImm d a (l.extractLsb' 8 1) (l.extractLsb' 0 8))
  | 7 => .ok (.logic3 d a (l.extractLsb' 8 1) (l.extractLsb' 0 8))
  | _ => .error .illOp

/-- Class 2 BITF (Tables 2.6 to 2.8): the op and the three field regions. -/
def decodeClass2 (op : Nat) (d a : BitVec 7) (l : BitVec 9) : Except DecodeError Instr :=
  match op with
  | 0 => .ok (.bfe d a (l.extractLsb' 2 7) (l.extractLsb' 1 1) (l.extractLsb' 0 1))
  | 1 => .ok (.bfi d a (l.extractLsb' 2 7) (l.extractLsb' 1 1) (l.extractLsb' 0 1))
  | 2 => .ok (.lea d a (l.extractLsb' 2 7) (l.extractLsb' 1 1) (l.extractLsb' 0 1))
  | 3 => .ok (.shf d a (l.extractLsb' 2 7) (l.extractLsb' 1 1) (l.extractLsb' 0 1))
  | 4 => .ok (.iadd64 d a (l.extractLsb' 2 7) (l.extractLsb' 1 1) (l.extractLsb' 0 1))
  | 5 => .ok (.isub64 d a (l.extractLsb' 2 7) (l.extractLsb' 1 1) (l.extractLsb' 0 1))
  | 6 => .ok (.imul64 d a (l.extractLsb' 2 7) (l.extractLsb' 1 1) (l.extractLsb' 0 1))
  | 7 => .ok (.imad64 d a (l.extractLsb' 2 7) (l.extractLsb' 1 1) (l.extractLsb' 0 1))
  | _ => .error .illOp

/-- Class 3 CMP/PRED (Tables 2.6 to 2.8): the op and the three field regions. -/
def decodeClass3 (op : Nat) (d a : BitVec 7) (l : BitVec 9) : Except DecodeError Instr :=
  match op with
  | 0 => .ok (.icmp (d.extractLsb' 3 4) (d.extractLsb' 0 3) a (l.extractLsb' 2 7) (l.extractLsb' 1 1) (l.extractLsb' 0 1))
  | 1 => .ok (.fcmp (d.extractLsb' 3 4) (d.extractLsb' 0 3) a (l.extractLsb' 2 7) (l.extractLsb' 1 1) (l.extractLsb' 0 1))
  | 2 => if decide (d.extractLsb' 3 4 = 0#4) && decide (l.extractLsb' 0 1 = 0#1) then .ok (.fclass (d.extractLsb' 0 3) a (l.extractLsb' 2 7) (l.extractLsb' 1 1)) else .error .illField
  | 3 => .ok (.sel d a (l.extractLsb' 2 7) (l.extractLsb' 1 1) (l.extractLsb' 0 1))
  | 4 => if decide (d.extractLsb' 3 4 = 0#4) && decide (a.extractLsb' 3 4 = 0#4) && decide (l.extractLsb' 5 4 = 0#4) && decide (l.extractLsb' 0 2 = 0#2) then .ok (.pand (d.extractLsb' 0 3) (a.extractLsb' 0 3) (l.extractLsb' 2 3)) else .error .illField
  | 5 => if decide (d.extractLsb' 3 4 = 0#4) && decide (a.extractLsb' 3 4 = 0#4) && decide (l.extractLsb' 5 4 = 0#4) && decide (l.extractLsb' 0 2 = 0#2) then .ok (.por (d.extractLsb' 0 3) (a.extractLsb' 0 3) (l.extractLsb' 2 3)) else .error .illField
  | 6 => if decide (d.extractLsb' 3 4 = 0#4) && decide (a.extractLsb' 3 4 = 0#4) && decide (l.extractLsb' 5 4 = 0#4) && decide (l.extractLsb' 0 2 = 0#2) then .ok (.pxor (d.extractLsb' 0 3) (a.extractLsb' 0 3) (l.extractLsb' 2 3)) else .error .illField
  | 7 => if decide (d.extractLsb' 3 4 = 0#4) && decide (a.extractLsb' 3 4 = 0#4) && decide (l = 0#9) then .ok (.pnot (d.extractLsb' 0 3) (a.extractLsb' 0 3)) else .error .illField
  | _ => .error .illOp

/-- Class 4 FALU-32 (Tables 2.6 to 2.8): the op and the three field regions. -/
def decodeClass4 (op : Nat) (d a : BitVec 7) (l : BitVec 9) : Except DecodeError Instr :=
  match op with
  | 0 => .ok (.fadd d a (l.extractLsb' 2 7) (l.extractLsb' 1 1) (l.extractLsb' 0 1))
  | 1 => .ok (.fsub d a (l.extractLsb' 2 7) (l.extractLsb' 1 1) (l.extractLsb' 0 1))
  | 2 => .ok (.fmul d a (l.extractLsb' 2 7) (l.extractLsb' 1 1) (l.extractLsb' 0 1))
  | 3 => .ok (.ffma d a (l.extractLsb' 2 7) (l.extractLsb' 1 1) (l.extractLsb' 0 1))
  | 4 => .ok (.fmin d a (l.extractLsb' 2 7) (l.extractLsb' 1 1) (l.extractLsb' 0 1))
  | 5 => .ok (.fmax d a (l.extractLsb' 2 7) (l.extractLsb' 1 1) (l.extractLsb' 0 1))
  | 6 => if decide (l.extractLsb' 2 7 = 0#7) && decide (l.extractLsb' 0 1 = 0#1) then .ok (.frnd d a (l.extractLsb' 1 1)) else .error .illField
  | 7 => if decide (l.extractLsb' 2 7 = 0#7) && decide (l.extractLsb' 0 1 = 0#1) then .ok (.fabs d a (l.extractLsb' 1 1)) else .error .illField
  | 8 => if decide (l.extractLsb' 2 7 = 0#7) && decide (l.extractLsb' 0 1 = 0#1) then .ok (.fneg d a (l.extractLsb' 1 1)) else .error .illField
  | 9 => .ok (.fscale d a (l.extractLsb' 2 7) (l.extractLsb' 1 1) (l.extractLsb' 0 1))
  | _ => .error .illOp

/-- Class 5 FALU-16 (Tables 2.6 to 2.8): the op and the three field regions. -/
def decodeClass5 (op : Nat) (d a : BitVec 7) (l : BitVec 9) : Except DecodeError Instr :=
  match op with
  | 0 => .ok (.faddPacked d a (l.extractLsb' 2 7) (l.extractLsb' 1 1) (l.extractLsb' 0 1))
  | 1 => .ok (.fsubPacked d a (l.extractLsb' 2 7) (l.extractLsb' 1 1) (l.extractLsb' 0 1))
  | 2 => .ok (.fmulPacked d a (l.extractLsb' 2 7) (l.extractLsb' 1 1) (l.extractLsb' 0 1))
  | 3 => .ok (.ffmaPacked d a (l.extractLsb' 2 7) (l.extractLsb' 1 1) (l.extractLsb' 0 1))
  | 4 => .ok (.fminPacked d a (l.extractLsb' 2 7) (l.extractLsb' 1 1) (l.extractLsb' 0 1))
  | 5 => .ok (.fmaxPacked d a (l.extractLsb' 2 7) (l.extractLsb' 1 1) (l.extractLsb' 0 1))
  | 6 => if decide (l.extractLsb' 2 7 = 0#7) && decide (l.extractLsb' 0 1 = 0#1) then .ok (.frndPacked d a (l.extractLsb' 1 1)) else .error .illField
  | 7 => if decide (l.extractLsb' 2 7 = 0#7) && decide (l.extractLsb' 0 1 = 0#1) then .ok (.fabsPacked d a (l.extractLsb' 1 1)) else .error .illField
  | 8 => if decide (l.extractLsb' 2 7 = 0#7) && decide (l.extractLsb' 0 1 = 0#1) then .ok (.fnegPacked d a (l.extractLsb' 1 1)) else .error .illField
  | 9 => .ok (.fscalePacked d a (l.extractLsb' 2 7) (l.extractLsb' 1 1) (l.extractLsb' 0 1))
  | _ => .error .illOp

/-- Class 6 FALU-I (Tables 2.6 to 2.8): the op and the three field regions. -/
def decodeClass6 (op : Nat) (d a : BitVec 7) (l : BitVec 9) : Except DecodeError Instr :=
  match op with
  | 0 => .ok (.faddImm d a (l.extractLsb' 8 1) (l.extractLsb' 0 8))
  | 1 => .ok (.fmulImm d a (l.extractLsb' 8 1) (l.extractLsb' 0 8))
  | 2 => .ok (.ffmaImm d a (l.extractLsb' 8 1) (l.extractLsb' 0 8))
  | 3 => .ok (.fminImm d a (l.extractLsb' 8 1) (l.extractLsb' 0 8))
  | _ => .error .illOp

/-- Class 7 SFU (Tables 2.6 to 2.8): the op and the three field regions. -/
def decodeClass7 (op : Nat) (d a : BitVec 7) (l : BitVec 9) : Except DecodeError Instr :=
  match op with
  | 0 => if decide (l.extractLsb' 2 7 = 0#7) && decide (l.extractLsb' 0 1 = 0#1) then .ok (.rcp d a (l.extractLsb' 1 1)) else .error .illField
  | 1 => if decide (l.extractLsb' 2 7 = 0#7) && decide (l.extractLsb' 0 1 = 0#1) then .ok (.rsq d a (l.extractLsb' 1 1)) else .error .illField
  | 2 => if decide (l.extractLsb' 2 7 = 0#7) && decide (l.extractLsb' 0 1 = 0#1) then .ok (.sqrt d a (l.extractLsb' 1 1)) else .error .illField
  | 3 => if decide (l.extractLsb' 2 7 = 0#7) && decide (l.extractLsb' 0 1 = 0#1) then .ok (.exp2 d a (l.extractLsb' 1 1)) else .error .illField
  | 4 => if decide (l.extractLsb' 2 7 = 0#7) && decide (l.extractLsb' 0 1 = 0#1) then .ok (.log2 d a (l.extractLsb' 1 1)) else .error .illField
  | 5 => if decide (l.extractLsb' 2 7 = 0#7) && decide (l.extractLsb' 0 1 = 0#1) then .ok (.sinpi d a (l.extractLsb' 1 1)) else .error .illField
  | 6 => if decide (l.extractLsb' 2 7 = 0#7) && decide (l.extractLsb' 0 1 = 0#1) then .ok (.cospi d a (l.extractLsb' 1 1)) else .error .illField
  | 7 => if decide (l.extractLsb' 2 7 = 0#7) && decide (l.extractLsb' 0 1 = 0#1) then .ok (.tanh d a (l.extractLsb' 1 1)) else .error .illField
  | 8 => .ok (.divf d a (l.extractLsb' 2 7) (l.extractLsb' 1 1) (l.extractLsb' 0 1))
  | _ => .error .illOp

/-- Class 8 CVT (Tables 2.6 to 2.8): the op and the three field regions. -/
def decodeClass8 (op : Nat) (d a : BitVec 7) (l : BitVec 9) : Except DecodeError Instr :=
  match op with
  | 0 => if decide (l.extractLsb' 2 7 = 0#7) && decide (l.extractLsb' 0 1 = 0#1) then .ok (.fcvt d a (l.extractLsb' 1 1)) else .error .illField
  | 1 => if decide (l.extractLsb' 2 7 = 0#7) && decide (l.extractLsb' 0 1 = 0#1) then .ok (.icvt d a (l.extractLsb' 1 1)) else .error .illField
  | 2 => if decide (l.extractLsb' 2 7 = 0#7) && decide (l.extractLsb' 0 1 = 0#1) then .ok (.ftoi d a (l.extractLsb' 1 1)) else .error .illField
  | 3 => if decide (l.extractLsb' 2 7 = 0#7) && decide (l.extractLsb' 0 1 = 0#1) then .ok (.itof d a (l.extractLsb' 1 1)) else .error .illField
  | 4 => .ok (.npack d a (l.extractLsb' 2 7) (l.extractLsb' 1 1) (l.extractLsb' 0 1))
  | 5 => if decide (l.extractLsb' 2 7 = 0#7) && decide (l.extractLsb' 0 1 = 0#1) then .ok (.nunpack d a (l.extractLsb' 1 1)) else .error .illField
  | _ => .error .illOp

/-- Class 9 NARROW (Tables 2.6 to 2.8): the op and the three field regions. -/
def decodeClass9 (op : Nat) (d a : BitVec 7) (l : BitVec 9) : Except DecodeError Instr :=
  match op with
  | 0 => if decide (l.extractLsb' 2 7 = 0#7) && decide (l.extractLsb' 0 1 = 0#1) then .ok (.qscale d a (l.extractLsb' 1 1)) else .error .illField
  | 1 => .ok (.qpack d a (l.extractLsb' 2 7) (l.extractLsb' 1 1) (l.extractLsb' 0 1))
  | 2 => .ok (.qunpack d a (l.extractLsb' 2 7) (l.extractLsb' 1 1) (l.extractLsb' 0 1))
  | 3 => .ok (.qdot4 d a (l.extractLsb' 2 7) (l.extractLsb' 1 1) (l.extractLsb' 0 1))
  | 4 => .ok (.dsmul d a (l.extractLsb' 2 7) (l.extractLsb' 1 1) (l.extractLsb' 0 1))
  | _ => .error .illOp

/-- Class 10 LANE (Tables 2.6 to 2.8): the op and the three field regions. DESIGN CHOICE (log 53): the empty-policy bit of
a field that names no register must be 0, but for the words to which the spec gives that bit. -/
def decodeClass10 (op : Nat) (d a : BitVec 7) (l : BitVec 9) : Except DecodeError Instr :=
  match op with
  | 0 => if decide (l.extractLsb' 2 7 = 0#7) && decide (l.extractLsb' 0 1 = 0#1) then .ok (.mov d a (l.extractLsb' 1 1)) else .error .illField
  | 1 => if decide (a = 0#7) && decide (l.extractLsb' 8 1 = 0#1) then .ok (.movi d (l.extractLsb' 0 8)) else .error .illField
  | 2 => .ok (.movs d a (l.extractLsb' 2 7) (l.extractLsb' 1 1) (l.extractLsb' 0 1))
  | 3 => .ok (.shfl d a (l.extractLsb' 2 7) (l.extractLsb' 1 1) (l.extractLsb' 0 1))
  | 4 => if decide (a.extractLsb' 3 4 = 0#4) && decide (l.extractLsb' 2 7 = 0#7) && decide (l.extractLsb' 0 1 = 0#1) then .ok (.ballot d (a.extractLsb' 0 3) (l.extractLsb' 1 1)) else .error .illField
  | 5 => if decide (a.extractLsb' 3 4 = 0#4) && decide (l.extractLsb' 2 7 = 0#7) && decide (l.extractLsb' 0 1 = 0#1) then .ok (.vote (d.extractLsb' 3 4) (d.extractLsb' 0 3) (a.extractLsb' 0 3) (l.extractLsb' 1 1)) else .error .illField
  | 6 => .ok (.bsel d a (l.extractLsb' 2 7) (l.extractLsb' 1 1) (l.extractLsb' 0 1))
  | 7 => if decide (l.extractLsb' 2 7 = 0#7) && decide (l.extractLsb' 0 1 = 0#1) then .ok (.bred d a (l.extractLsb' 1 1)) else .error .illField
  | 8 => if decide (d.extractLsb' 3 4 = 0#4) && decide (a = 0#7) && decide (l = 0#9) then .ok (.elect (d.extractLsb' 0 3)) else .error .illField
  | 9 => .ok (.csel d a (l.extractLsb' 2 7) (l.extractLsb' 1 1) (l.extractLsb' 0 1))
  | 10 => if decide (l.extractLsb' 2 7 = 0#7) && decide (l.extractLsb' 0 1 = 0#1) then .ok (.matchLanes d a (l.extractLsb' 1 1)) else .error .illField
  | 11 => if decide (l.extractLsb' 2 7 = 0#7) && decide (l.extractLsb' 0 1 = 0#1) then .ok (.lanemask d a (l.extractLsb' 1 1)) else .error .illField
  | _ => .error .illOp

/-- Class 12 CONTROL (Tables 2.6 to 2.8): the op and the three field regions. -/
def decodeClass12 (op : Nat) (d a : BitVec 7) (l : BitVec 9) : Except DecodeError Instr :=
  match op with
  | 0 => if decide (d = 0#7) && decide (l.extractLsb' 2 7 = 0#7) && decide (l.extractLsb' 0 1 = 0#1) then .ok (.jmp a (l.extractLsb' 1 1)) else .error .illField
  | 1 => if decide (a = 0#7) && decide (l.extractLsb' 8 1 = 0#1) then .ok (.call d (l.extractLsb' 0 8)) else .error .illField
  | 2 => if decide (l.extractLsb' 2 7 = 0#7) && decide (l.extractLsb' 0 1 = 0#1) then .ok (.calli d a (l.extractLsb' 1 1)) else .error .illField
  | 3 => if decide (d = 0#7) && decide (l.extractLsb' 2 7 = 0#7) && decide (l.extractLsb' 0 1 = 0#1) then .ok (.ret a (l.extractLsb' 1 1)) else .error .illField
  | 4 => if decide (d = 0#7) && decide (a = 0#7) && decide (l.extractLsb' 8 1 = 0#1) then .ok (.mark (l.extractLsb' 0 8)) else .error .illField
  | 5 => if decide (d = 0#7) && decide (a = 0#7) && decide (l = 0#9) then .ok (.join) else .error .illField
  | 6 => .ok (.reform d a (l.extractLsb' 8 1) (l.extractLsb' 0 8))
  | 7 => if decide (d = 0#7) && decide (a = 0#7) && decide (l = 0#9) then .ok (.exit) else .error .illField
  | 8 => if decide (d = 0#7) && decide (a = 0#7) && decide (l = 0#9) then .ok (.nop) else .error .illField
  | 9 => if decide (d = 0#7) && decide (a = 0#7) && decide (l.extractLsb' 8 1 = 0#1) then .ok (.sleep (l.extractLsb' 0 8)) else .error .illField
  | 10 => if decide (d = 0#7) && decide (a = 0#7) && decide (l = 0#9) then .ok (.yield) else .error .illField
  | _ => .error .illOp

/-- Class 13 LOAD (Tables 2.6 to 2.8): the op and the three field regions. -/
def decodeClass13 (op : Nat) (d a : BitVec 7) (l : BitVec 9) : Except DecodeError Instr :=
  match op with
  | 0 => .ok (.ldB32 d a (l.extractLsb' 1 8) (l.extractLsb' 0 1))
  | 1 => .ok (.ldB64 d a (l.extractLsb' 1 8) (l.extractLsb' 0 1))
  | 2 => .ok (.ldB128 d a (l.extractLsb' 1 8) (l.extractLsb' 0 1))
  | 3 => .ok (.ldbB32 d a (l.extractLsb' 1 8) (l.extractLsb' 0 1))
  | 4 => .ok (.ldbB64 d a (l.extractLsb' 1 8) (l.extractLsb' 0 1))
  | 5 => .ok (.ldbB128 d a (l.extractLsb' 1 8) (l.extractLsb' 0 1))
  | 6 => .ok (.ldlB32 d a (l.extractLsb' 1 8) (l.extractLsb' 0 1))
  | 7 => .ok (.ldlB64 d a (l.extractLsb' 1 8) (l.extractLsb' 0 1))
  | 8 => .ok (.ldlB128 d a (l.extractLsb' 1 8) (l.extractLsb' 0 1))
  | 9 => .ok (.ldpB32 d a (l.extractLsb' 1 8) (l.extractLsb' 0 1))
  | 10 => .ok (.ldpB64 d a (l.extractLsb' 1 8) (l.extractLsb' 0 1))
  | 11 => .ok (.ldpB128 d a (l.extractLsb' 1 8) (l.extractLsb' 0 1))
  | 12 => .ok (.ldvB32 d a (l.extractLsb' 1 8) (l.extractLsb' 0 1))
  | 13 => .ok (.ldvB128 d a (l.extractLsb' 1 8) (l.extractLsb' 0 1))
  | 14 => if decide (d = 0#7) then .ok (.prefetch a (l.extractLsb' 1 8) (l.extractLsb' 0 1)) else .error .illField
  | 15 => if decide (d = 0#7) && decide (a = 0#7) && decide (l = 0#9) then .ok (.invl1) else .error .illField
  | _ => .error .illOp

/-- Class 14 STORE (Tables 2.6 to 2.8): the op and the three field regions. -/
def decodeClass14 (op : Nat) (d a : BitVec 7) (l : BitVec 9) : Except DecodeError Instr :=
  match op with
  | 0 => .ok (.stB32 d a (l.extractLsb' 1 8) (l.extractLsb' 0 1))
  | 1 => .ok (.stB64 d a (l.extractLsb' 1 8) (l.extractLsb' 0 1))
  | 2 => .ok (.stB128 d a (l.extractLsb' 1 8) (l.extractLsb' 0 1))
  | 3 => .ok (.stlB32 d a (l.extractLsb' 1 8) (l.extractLsb' 0 1))
  | 4 => .ok (.stlB64 d a (l.extractLsb' 1 8) (l.extractLsb' 0 1))
  | 5 => .ok (.stlB128 d a (l.extractLsb' 1 8) (l.extractLsb' 0 1))
  | 6 => .ok (.stpB32 d a (l.extractLsb' 1 8) (l.extractLsb' 0 1))
  | 7 => .ok (.stpB64 d a (l.extractLsb' 1 8) (l.extractLsb' 0 1))
  | 8 => .ok (.stpB128 d a (l.extractLsb' 1 8) (l.extractLsb' 0 1))
  | 9 => .ok (.cstoreB32 d a (l.extractLsb' 1 8) (l.extractLsb' 0 1))
  | 10 => .ok (.cstoreB64 d a (l.extractLsb' 1 8) (l.extractLsb' 0 1))
  | _ => .error .illOp

/-- Class 15 ATOMIC (Tables 2.6 to 2.8): the op and the three field regions. -/
def decodeClass15 (op : Nat) (d a : BitVec 7) (l : BitVec 9) : Except DecodeError Instr :=
  match op with
  | 0 => .ok (.atomAdd d a (l.extractLsb' 6 3) (l.extractLsb' 4 2) (l.extractLsb' 1 3) (l.extractLsb' 0 1))
  | 1 => .ok (.atomMin d a (l.extractLsb' 6 3) (l.extractLsb' 4 2) (l.extractLsb' 1 3) (l.extractLsb' 0 1))
  | 2 => .ok (.atomMax d a (l.extractLsb' 6 3) (l.extractLsb' 4 2) (l.extractLsb' 1 3) (l.extractLsb' 0 1))
  | 3 => .ok (.atomAnd d a (l.extractLsb' 6 3) (l.extractLsb' 4 2) (l.extractLsb' 1 3) (l.extractLsb' 0 1))
  | 4 => .ok (.atomOr d a (l.extractLsb' 6 3) (l.extractLsb' 4 2) (l.extractLsb' 1 3) (l.extractLsb' 0 1))
  | 5 => .ok (.atomXor d a (l.extractLsb' 6 3) (l.extractLsb' 4 2) (l.extractLsb' 1 3) (l.extractLsb' 0 1))
  | 6 => .ok (.atomExch d a (l.extractLsb' 6 3) (l.extractLsb' 4 2) (l.extractLsb' 1 3) (l.extractLsb' 0 1))
  | 7 => .ok (.atomCas d a (l.extractLsb' 6 3) (l.extractLsb' 4 2) (l.extractLsb' 1 3) (l.extractLsb' 0 1))
  | 8 => .ok (.redAdd d a (l.extractLsb' 6 3) (l.extractLsb' 4 2) (l.extractLsb' 1 3) (l.extractLsb' 0 1))
  | 9 => .ok (.redMin d a (l.extractLsb' 6 3) (l.extractLsb' 4 2) (l.extractLsb' 1 3) (l.extractLsb' 0 1))
  | 10 => .ok (.redMax d a (l.extractLsb' 6 3) (l.extractLsb' 4 2) (l.extractLsb' 1 3) (l.extractLsb' 0 1))
  | 11 => .ok (.redAnd d a (l.extractLsb' 6 3) (l.extractLsb' 4 2) (l.extractLsb' 1 3) (l.extractLsb' 0 1))
  | 12 => .ok (.redOr d a (l.extractLsb' 6 3) (l.extractLsb' 4 2) (l.extractLsb' 1 3) (l.extractLsb' 0 1))
  | 13 => .ok (.redXor d a (l.extractLsb' 6 3) (l.extractLsb' 4 2) (l.extractLsb' 1 3) (l.extractLsb' 0 1))
  | 14 => if decide (d = 0#7) && decide (a = 0#7) && decide (l = 0#9) then .ok (.redflush) else .error .illField
  | 15 => .ok (.mxacc d a (l.extractLsb' 6 3) (l.extractLsb' 4 2) (l.extractLsb' 1 3) (l.extractLsb' 0 1))
  | _ => .error .illOp

/-- Class 16 SYNC (Tables 2.6 to 2.8): the op and the three field regions. DESIGN CHOICE (log 52): bit [0] of FENCE, the
empty policy of a field that names no register, must be 0. -/
def decodeClass16 (op : Nat) (d a : BitVec 7) (l : BitVec 9) : Except DecodeError Instr :=
  match op with
  | 0 => .ok (.syncLd d a (l.extractLsb' 6 3) (l.extractLsb' 4 2) (l.extractLsb' 1 3) (l.extractLsb' 0 1))
  | 1 => .ok (.syncLdb d a (l.extractLsb' 6 3) (l.extractLsb' 4 2) (l.extractLsb' 1 3) (l.extractLsb' 0 1))
  | 2 => .ok (.syncSt d a (l.extractLsb' 6 3) (l.extractLsb' 4 2) (l.extractLsb' 1 3) (l.extractLsb' 0 1))
  | 3 => if decide (l.extractLsb' 1 3 = 0#3) then if decide (d = 0#7) && decide (a = 0#7) && decide (l.extractLsb' 0 4 = 0#4) then .ok (.fence (l.extractLsb' 6 3) (l.extractLsb' 4 2)) else .error .illField
         else if decide (d = 0#7) && decide (a = 0#7) && decide (l.extractLsb' 0 4 = 2#4) then .ok (.fenceLayer (l.extractLsb' 6 3) (l.extractLsb' 4 2)) else .error .illField
  | _ => .error .illOp

/-- Class 17 BARRIER (Tables 2.6 to 2.8): the op and the three field regions. -/
def decodeClass17 (op : Nat) (d a : BitVec 7) (l : BitVec 9) : Except DecodeError Instr :=
  match op with
  | 0 => if decide (d = 0#7) && decide (a = 0#7) && decide (l.extractLsb' 8 1 = 0#1) then .ok (.bar (l.extractLsb' 6 2) (l.extractLsb' 0 6)) else .error .illField
  | 1 => if decide (d = 0#7) && decide (a = 0#7) && decide (l.extractLsb' 8 1 = 0#1) then .ok (.bararr (l.extractLsb' 6 2) (l.extractLsb' 0 6)) else .error .illField
  | 2 => if decide (d = 0#7) && decide (l.extractLsb' 2 7 = 0#7) && decide (l.extractLsb' 0 1 = 0#1) then .ok (.bsync a (l.extractLsb' 1 1)) else .error .illField
  | 3 => if decide (d.extractLsb' 1 6 = 0#6) then .ok (.semwait (d.extractLsb' 0 1) a (l.extractLsb' 8 1) (l.extractLsb' 0 8)) else .error .illField
  | 4 => if decide (d.extractLsb' 1 6 = 0#6) then .ok (.semsig (d.extractLsb' 0 1) a (l.extractLsb' 8 1) (l.extractLsb' 0 8)) else .error .illField
  | 5 => if decide (d.extractLsb' 1 6 = 0#6) then .ok (.semset (d.extractLsb' 0 1) a (l.extractLsb' 8 1) (l.extractLsb' 0 8)) else .error .illField
  | _ => .error .illOp

/-- Class 18 MATRIX (Tables 2.6 to 2.8): the op and the three field regions. -/
def decodeClass18 (op : Nat) (d a : BitVec 7) (l : BitVec 9) : Except DecodeError Instr :=
  match op with
  | 0 => .ok (.mma d a (l.extractLsb' 2 7) (l.extractLsb' 1 1) (l.extractLsb' 0 1))
  | 1 => .ok (.tld d a (l.extractLsb' 2 7) (l.extractLsb' 1 1) (l.extractLsb' 0 1))
  | 2 => .ok (.tst d a (l.extractLsb' 2 7) (l.extractLsb' 1 1) (l.extractLsb' 0 1))
  | 3 => .ok (.tcopy d a (l.extractLsb' 2 7) (l.extractLsb' 1 1) (l.extractLsb' 0 1))
  | 4 => if decide (l.extractLsb' 2 7 = 0#7) && decide (l.extractLsb' 0 1 = 0#1) then .ok (.tclr d a (l.extractLsb' 1 1)) else .error .illField
  | _ => .error .illOp

/-- Class 19 ENGINE (Tables 2.6 to 2.8): the op and the three field regions. -/
def decodeClass19 (op : Nat) (d a : BitVec 7) (l : BitVec 9) : Except DecodeError Instr :=
  match op with
  | 0 => if decide (l.extractLsb' 2 7 = 0#7) && decide (l.extractLsb' 0 1 = 0#1) then .ok (.job d a (l.extractLsb' 1 1)) else .error .illField
  | 1 => if decide (l.extractLsb' 2 7 = 0#7) && decide (l.extractLsb' 0 1 = 0#1) then .ok (.jobq d a (l.extractLsb' 1 1)) else .error .illField
  | _ => .error .illOp

/-- Class 20 TRAVERSE (Tables 2.6 to 2.8): the op and the three field regions. -/
def decodeClass20 (op : Nat) (d a : BitVec 7) (l : BitVec 9) : Except DecodeError Instr :=
  match op with
  | 0 => .ok (.boxt d a (l.extractLsb' 2 7) (l.extractLsb' 1 1) (l.extractLsb' 0 1))
  | 1 => .ok (.trit d a (l.extractLsb' 2 7) (l.extractLsb' 1 1) (l.extractLsb' 0 1))
  | 2 => .ok (.tspush d a (l.extractLsb' 2 7) (l.extractLsb' 1 1) (l.extractLsb' 0 1))
  | 3 => .ok (.tspop d a (l.extractLsb' 2 7) (l.extractLsb' 1 1) (l.extractLsb' 0 1))
  | 4 => if decide (a = 0#7) && decide (l.extractLsb' 2 7 = 0#7) && decide (l.extractLsb' 0 1 = 0#1) then .ok (.rayinit d (l.extractLsb' 1 1)) else .error .illField
  | _ => .error .illOp

/-- Class 21 GRAPHICS (Tables 2.6 to 2.8): the op and the three field regions. DESIGN CHOICE (log 53): the empty-policy bit of
a field that names no register must be 0, but for the words to which the spec gives that bit. -/
def decodeClass21 (op : Nat) (d a : BitVec 7) (l : BitVec 9) : Except DecodeError Instr :=
  match op with
  | 0 => if decide (d = 0#7) then .ok (.vexport a (l.extractLsb' 2 7) (l.extractLsb' 1 1) (l.extractLsb' 0 1)) else .error .illField
  | 1 => if decide (l.extractLsb' 2 7 = 0#7) && decide (l.extractLsb' 0 1 = 0#1) then .ok (.pexport d a (l.extractLsb' 1 1)) else .error .illField
  | 2 => .ok (.sample d a (l.extractLsb' 2 7) (l.extractLsb' 1 1) (l.extractLsb' 0 1))
  | 3 => .ok (.samplel d a (l.extractLsb' 2 7) (l.extractLsb' 1 1) (l.extractLsb' 0 1))
  | 4 => .ok (.sampleg d a (l.extractLsb' 2 7) (l.extractLsb' 1 1) (l.extractLsb' 0 1))
  | 5 => if decide (a = 0#7) && decide (l.extractLsb' 0 2 = 0#2) then .ok (.attr d (l.extractLsb' 2 7)) else .error .illField
  | 6 => if decide (a = 0#7) && decide (l = 0#9) then .ok (.zquery d) else .error .illField
  | _ => .error .illOp

/-- Class 22 TASK (Tables 2.6 to 2.8): the op and the three field regions. -/
def decodeClass22 (op : Nat) (d a : BitVec 7) (l : BitVec 9) : Except DecodeError Instr :=
  match op with
  | 0 => .ok (.launch d a (l.extractLsb' 2 7) (l.extractLsb' 1 1) (l.extractLsb' 0 1))
  | 1 => if decide (d = 0#7) then .ok (.signal a (l.extractLsb' 2 7) (l.extractLsb' 1 1) (l.extractLsb' 0 1)) else .error .illField
  | 2 => if decide (d = 0#7) && decide (a = 0#7) && decide (l.extractLsb' 3 6 = 0#6) then .ok (.perfcl (l.extractLsb' 0 3)) else .error .illField
  | 3 => .ok (.flip d a (l.extractLsb' 2 7) (l.extractLsb' 1 1) (l.extractLsb' 0 1))
  | _ => .error .illOp

/-- Class 23 REACH (Tables 2.6 to 2.8): the op and the three field regions. DESIGN CHOICE (log 53): the empty-policy bit of
a field that names no register must be 0, but for the words to which the spec gives that bit. -/
def decodeClass23 (op : Nat) (d a : BitVec 7) (l : BitVec 9) : Except DecodeError Instr :=
  match op with
  | 0 => .ok (.fork d a (l.extractLsb' 2 7) (l.extractLsb' 1 1) (l.extractLsb' 0 1))
  | 1 => if decide (d = 0#7) && decide (a = 0#7) && decide (l.extractLsb' 3 6 = 0#6) then .ok (.reach (l.extractLsb' 0 3)) else .error .illField
  | 2 => if decide (l.extractLsb' 0 8 = 0#8) then if decide (l.extractLsb' 0 8 = 0#8) then .ok (.commitReg d a (l.extractLsb' 8 1)) else .error .illField
         else if decide (a = 0#7) && decide (l.extractLsb' 3 6 = 0#6) then .ok (.commit d (l.extractLsb' 0 3)) else .error .illField
  | 3 => if decide (l.extractLsb' 0 1 = 0#1) then if decide (a = 0#7) && decide (l.extractLsb' 8 1 = 0#1) && decide (l.extractLsb' 0 1 = 0#1) then .ok (.squash d (l.extractLsb' 1 7)) else .error .illField
         else if decide (l.extractLsb' 0 8 = 1#8) then .ok (.squashReg d a (l.extractLsb' 8 1)) else .error .illField
  | 4 => if decide (l.extractLsb' 2 7 = 0#7) && decide (l.extractLsb' 0 1 = 0#1) then .ok (.rquery d a (l.extractLsb' 1 1)) else .error .illField
  | _ => .error .illOp

/-- Class 24 SYSTEM (Tables 2.6 to 2.8): the op and the three field regions. -/
def decodeClass24 (op : Nat) (d a : BitVec 7) (l : BitVec 9) : Except DecodeError Instr :=
  match op with
  | 0 => if decide (d = 0#7) && decide (a = 0#7) && decide (l.extractLsb' 8 1 = 0#1) then .ok (.trap (l.extractLsb' 0 8)) else .error .illField
  | 1 => if decide (d = 0#7) && decide (a = 0#7) && decide (l.extractLsb' 8 1 = 0#1) then .ok (.brk (l.extractLsb' 0 8)) else .error .illField
  | 2 => if decide (d = 0#7) && decide (a = 0#7) && decide (l = 0#9) then .ok (.rett) else .error .illField
  | 3 => if decide (a = 0#7) && decide (l.extractLsb' 8 1 = 0#1) then .ok (.csrr d (l.extractLsb' 0 8)) else .error .illField
  | 4 => if decide (d = 0#7) then .ok (.csrw a (l.extractLsb' 8 1) (l.extractLsb' 0 8)) else .error .illField
  | 5 => .ok (.csrs d a (l.extractLsb' 8 1) (l.extractLsb' 0 8))
  | 6 => if decide (d = 0#7) && decide (a = 0#7) && decide (l = 0#9) then .ok (.wfi) else .error .illField
  | _ => .error .illOp

/-- Class 11, branches (R19, R40). -/
def decodeBranch (c e : BitVec 3) (o : BitVec 21) : Except DecodeError Instr := .ok (.bra c e o)

/-- Class 31, prefixes (R30, R34 to R36): a payload or kind no prefix accepts is `badPrefix`. -/
def decodePrefix (kind : Nat) (x : BitVec 24) : Except DecodeError Instr :=
  match kind with
  | 0 => .ok (.ximm x)
  | 1 => .ok (.ximmh x)
  | 2 => .ok (.xmod x)
  | 3 => if decide (x.extractLsb' 0 20 = 0#20) then .ok (.xpred (x.extractLsb' 23 1) (x.extractLsb' 20 3)) else .error .badPrefix
  | 4 => if decide (x.extractLsb' 1 7 = 0#7) then .ok (.xopd (x.extractLsb' 23 1) (x.extractLsb' 16 7) (x.extractLsb' 15 1) (x.extractLsb' 8 7) (x.extractLsb' 0 1)) else .error .badPrefix
  | 5 => if decide (x.extractLsb' 0 18 = 0#18) then .ok (.xsch (x.extractLsb' 23 1) (x.extractLsb' 18 5)) else .error .badPrefix
  | _ => .error .badPrefix

/-- The fields of a word by its class (R19, R38 to R45), before the checks of its values. -/
def decodeFields (w : Word) : Except DecodeError Instr :=
  match (wordClass w).toNat with
  | 0 => decodeClass0 (wordOp w).toNat (wordD w) (wordA w) (wordLow w)
  | 1 => decodeClass1 (wordOp w).toNat (wordD w) (wordA w) (wordLow w)
  | 2 => decodeClass2 (wordOp w).toNat (wordD w) (wordA w) (wordLow w)
  | 3 => decodeClass3 (wordOp w).toNat (wordD w) (wordA w) (wordLow w)
  | 4 => decodeClass4 (wordOp w).toNat (wordD w) (wordA w) (wordLow w)
  | 5 => decodeClass5 (wordOp w).toNat (wordD w) (wordA w) (wordLow w)
  | 6 => decodeClass6 (wordOp w).toNat (wordD w) (wordA w) (wordLow w)
  | 7 => decodeClass7 (wordOp w).toNat (wordD w) (wordA w) (wordLow w)
  | 8 => decodeClass8 (wordOp w).toNat (wordD w) (wordA w) (wordLow w)
  | 9 => decodeClass9 (wordOp w).toNat (wordD w) (wordA w) (wordLow w)
  | 10 => decodeClass10 (wordOp w).toNat (wordD w) (wordA w) (wordLow w)
  | 11 => decodeBranch (w.extractLsb' 24 3) (w.extractLsb' 21 3) (w.extractLsb' 0 21)
  | 12 => decodeClass12 (wordOp w).toNat (wordD w) (wordA w) (wordLow w)
  | 13 => decodeClass13 (wordOp w).toNat (wordD w) (wordA w) (wordLow w)
  | 14 => decodeClass14 (wordOp w).toNat (wordD w) (wordA w) (wordLow w)
  | 15 => decodeClass15 (wordOp w).toNat (wordD w) (wordA w) (wordLow w)
  | 16 => decodeClass16 (wordOp w).toNat (wordD w) (wordA w) (wordLow w)
  | 17 => decodeClass17 (wordOp w).toNat (wordD w) (wordA w) (wordLow w)
  | 18 => decodeClass18 (wordOp w).toNat (wordD w) (wordA w) (wordLow w)
  | 19 => decodeClass19 (wordOp w).toNat (wordD w) (wordA w) (wordLow w)
  | 20 => decodeClass20 (wordOp w).toNat (wordD w) (wordA w) (wordLow w)
  | 21 => decodeClass21 (wordOp w).toNat (wordD w) (wordA w) (wordLow w)
  | 22 => decodeClass22 (wordOp w).toNat (wordD w) (wordA w) (wordLow w)
  | 23 => decodeClass23 (wordOp w).toNat (wordD w) (wordA w) (wordLow w)
  | 24 => decodeClass24 (wordOp w).toNat (wordD w) (wordA w) (wordLow w)
  | 31 => decodePrefix (w.extractLsb' 24 3).toNat (w.extractLsb' 0 24)
  | _ => .error .illClass

/-- The instruction of a word, or the first of R47 steps 1 to 4 that it fails. -/
def decode (w : Word) : Except DecodeError Instr :=
  match decodeFields w with
  | .error e => .error e
  | .ok i =>
    if !i.fieldsOk then .error .illField
    else if !i.orderOk then .error .illOrder
    else .ok i

/-- Four bytes in address order as a little-endian word (R3, R18). -/
def wordOfBytes (b0 b1 b2 b3 : Byte) : Word := b3 ++ b2 ++ b1 ++ b0

/-- Decode the first word of a list of bytes and return the rest; fewer than four bytes hold no word. -/
def decodeBytes : List Byte → Except DecodeError (Instr × List Byte)
  | b0 :: b1 :: b2 :: b3 :: rest => (decode (wordOfBytes b0 b1 b2 b3)).map fun i => (i, rest)
  | _ => .error .illField

/-- The host's probe: the instruction this decoder reads from a word numbered as the opcode table numbers it. -/
def decodeTableWord (nbits w : Nat) : Option Instr :=
  let v : Word := BitVec.ofNat 32 (w % 2 ^ nbits)
  let bytes : List Byte := [v.extractLsb' 0 8, v.extractLsb' 8 8, v.extractLsb' 16 8, v.extractLsb' 24 8]
  match decodeBytes bytes with
  | .ok (i, _) => some i
  | .error _ => none

/-- A word of the register, immediate, memory or synchronising-memory format (R19). -/
def packWord (cls : BitVec 5) (op : BitVec 4) (d a : BitVec 7) (low : BitVec 9) : Word := cls ++ op ++ d ++ a ++ low

/-- A word of the branch format (R19). -/
def packBranch (c e : BitVec 3) (o : BitVec 21) : Word := 11#5 ++ c ++ e ++ o

/-- A word of the prefix format (R19, R30). -/
def packPrefix (kind : BitVec 3) (x : BitVec 24) : Word := 31#5 ++ kind ++ x

/-- The word of an instruction, written from the encodings of 02_instruction_word.md; an event has none. -/
def encode : Instr → Option Word
  | .ximm x => some (packPrefix 0#3 x)
  | .ximmh x => some (packPrefix 1#3 x)
  | .xmod x => some (packPrefix 2#3 x)
  | .xpred n e => some (packPrefix 3#3 (n ++ e ++ 0#20))
  | .xopd p c q e z => some (packPrefix 4#3 (p ++ c ++ q ++ e ++ 0#7 ++ z))
  | .xsch y s => some (packPrefix 5#3 (y ++ s ++ 0#18))
  | .iadd d a b p q => some (packWord 0#5 0#4 d a (b ++ p ++ q))
  | .isub d a b p q => some (packWord 0#5 1#4 d a (b ++ p ++ q))
  | .imul d a b p q => some (packWord 0#5 2#4 d a (b ++ p ++ q))
  | .imulh d a b p q => some (packWord 0#5 3#4 d a (b ++ p ++ q))
  | .imad d a b p q => some (packWord 0#5 4#4 d a (b ++ p ++ q))
  | .imin d a b p q => some (packWord 0#5 5#4 d a (b ++ p ++ q))
  | .imax d a b p q => some (packWord 0#5 6#4 d a (b ++ p ++ q))
  | .iabs d a p => some (packWord 0#5 7#4 d a (0#7 ++ p ++ 0#1))
  | .ishl d a b p q => some (packWord 0#5 8#4 d a (b ++ p ++ q))
  | .ishr d a b p q => some (packWord 0#5 9#4 d a (b ++ p ++ q))
  | .lshr d a b p q => some (packWord 0#5 10#4 d a (b ++ p ++ q))
  | .popc d a p => some (packWord 0#5 11#4 d a (0#7 ++ p ++ 0#1))
  | .clz d a p => some (packWord 0#5 12#4 d a (0#7 ++ p ++ 0#1))
  | .brev d a p => some (packWord 0#5 13#4 d a (0#7 ++ p ++ 0#1))
  | .iaddImm d a p i => some (packWord 1#5 0#4 d a (p ++ i))
  | .imulImm d a p i => some (packWord 1#5 1#4 d a (p ++ i))
  | .iminImm d a p i => some (packWord 1#5 2#4 d a (p ++ i))
  | .imaxImm d a p i => some (packWord 1#5 3#4 d a (p ++ i))
  | .ishlImm d a p i => some (packWord 1#5 4#4 d a (p ++ i))
  | .ishrImm d a p i => some (packWord 1#5 5#4 d a (p ++ i))
  | .lshrImm d a p i => some (packWord 1#5 6#4 d a (p ++ i))
  | .logic3 d a p t => some (packWord 1#5 7#4 d a (p ++ t))
  | .bfe d a b p q => some (packWord 2#5 0#4 d a (b ++ p ++ q))
  | .bfi d a b p q => some (packWord 2#5 1#4 d a (b ++ p ++ q))
  | .lea d a b p q => some (packWord 2#5 2#4 d a (b ++ p ++ q))
  | .shf d a b p q => some (packWord 2#5 3#4 d a (b ++ p ++ q))
  | .iadd64 d a b p q => some (packWord 2#5 4#4 d a (b ++ p ++ q))
  | .isub64 d a b p q => some (packWord 2#5 5#4 d a (b ++ p ++ q))
  | .imul64 d a b p q => some (packWord 2#5 6#4 d a (b ++ p ++ q))
  | .imad64 d a b p q => some (packWord 2#5 7#4 d a (b ++ p ++ q))
  | .icmp k e a b p q => some (packWord 3#5 0#4 (k ++ e) a (b ++ p ++ q))
  | .fcmp k e a b p q => some (packWord 3#5 1#4 (k ++ e) a (b ++ p ++ q))
  | .fclass e a m p => some (packWord 3#5 2#4 (0#4 ++ e) a (m ++ p ++ 0#1))
  | .sel d a b p q => some (packWord 3#5 3#4 d a (b ++ p ++ q))
  | .pand e f g => some (packWord 3#5 4#4 (0#4 ++ e) (0#4 ++ f) (0#4 ++ g ++ 0#2))
  | .por e f g => some (packWord 3#5 5#4 (0#4 ++ e) (0#4 ++ f) (0#4 ++ g ++ 0#2))
  | .pxor e f g => some (packWord 3#5 6#4 (0#4 ++ e) (0#4 ++ f) (0#4 ++ g ++ 0#2))
  | .pnot e f => some (packWord 3#5 7#4 (0#4 ++ e) (0#4 ++ f) 0#9)
  | .fadd d a b p q => some (packWord 4#5 0#4 d a (b ++ p ++ q))
  | .fsub d a b p q => some (packWord 4#5 1#4 d a (b ++ p ++ q))
  | .fmul d a b p q => some (packWord 4#5 2#4 d a (b ++ p ++ q))
  | .ffma d a b p q => some (packWord 4#5 3#4 d a (b ++ p ++ q))
  | .fmin d a b p q => some (packWord 4#5 4#4 d a (b ++ p ++ q))
  | .fmax d a b p q => some (packWord 4#5 5#4 d a (b ++ p ++ q))
  | .frnd d a p => some (packWord 4#5 6#4 d a (0#7 ++ p ++ 0#1))
  | .fabs d a p => some (packWord 4#5 7#4 d a (0#7 ++ p ++ 0#1))
  | .fneg d a p => some (packWord 4#5 8#4 d a (0#7 ++ p ++ 0#1))
  | .fscale d a b p q => some (packWord 4#5 9#4 d a (b ++ p ++ q))
  | .faddPacked d a b p q => some (packWord 5#5 0#4 d a (b ++ p ++ q))
  | .fsubPacked d a b p q => some (packWord 5#5 1#4 d a (b ++ p ++ q))
  | .fmulPacked d a b p q => some (packWord 5#5 2#4 d a (b ++ p ++ q))
  | .ffmaPacked d a b p q => some (packWord 5#5 3#4 d a (b ++ p ++ q))
  | .fminPacked d a b p q => some (packWord 5#5 4#4 d a (b ++ p ++ q))
  | .fmaxPacked d a b p q => some (packWord 5#5 5#4 d a (b ++ p ++ q))
  | .frndPacked d a p => some (packWord 5#5 6#4 d a (0#7 ++ p ++ 0#1))
  | .fabsPacked d a p => some (packWord 5#5 7#4 d a (0#7 ++ p ++ 0#1))
  | .fnegPacked d a p => some (packWord 5#5 8#4 d a (0#7 ++ p ++ 0#1))
  | .fscalePacked d a b p q => some (packWord 5#5 9#4 d a (b ++ p ++ q))
  | .faddImm d a p i => some (packWord 6#5 0#4 d a (p ++ i))
  | .fmulImm d a p i => some (packWord 6#5 1#4 d a (p ++ i))
  | .ffmaImm d a p i => some (packWord 6#5 2#4 d a (p ++ i))
  | .fminImm d a p i => some (packWord 6#5 3#4 d a (p ++ i))
  | .rcp d a p => some (packWord 7#5 0#4 d a (0#7 ++ p ++ 0#1))
  | .rsq d a p => some (packWord 7#5 1#4 d a (0#7 ++ p ++ 0#1))
  | .sqrt d a p => some (packWord 7#5 2#4 d a (0#7 ++ p ++ 0#1))
  | .exp2 d a p => some (packWord 7#5 3#4 d a (0#7 ++ p ++ 0#1))
  | .log2 d a p => some (packWord 7#5 4#4 d a (0#7 ++ p ++ 0#1))
  | .sinpi d a p => some (packWord 7#5 5#4 d a (0#7 ++ p ++ 0#1))
  | .cospi d a p => some (packWord 7#5 6#4 d a (0#7 ++ p ++ 0#1))
  | .tanh d a p => some (packWord 7#5 7#4 d a (0#7 ++ p ++ 0#1))
  | .divf d a b p q => some (packWord 7#5 8#4 d a (b ++ p ++ q))
  | .fcvt d a p => some (packWord 8#5 0#4 d a (0#7 ++ p ++ 0#1))
  | .icvt d a p => some (packWord 8#5 1#4 d a (0#7 ++ p ++ 0#1))
  | .ftoi d a p => some (packWord 8#5 2#4 d a (0#7 ++ p ++ 0#1))
  | .itof d a p => some (packWord 8#5 3#4 d a (0#7 ++ p ++ 0#1))
  | .npack d a b p q => some (packWord 8#5 4#4 d a (b ++ p ++ q))
  | .nunpack d a p => some (packWord 8#5 5#4 d a (0#7 ++ p ++ 0#1))
  | .qscale d a p => some (packWord 9#5 0#4 d a (0#7 ++ p ++ 0#1))
  | .qpack d a b p q => some (packWord 9#5 1#4 d a (b ++ p ++ q))
  | .qunpack d a b p q => some (packWord 9#5 2#4 d a (b ++ p ++ q))
  | .qdot4 d a b p q => some (packWord 9#5 3#4 d a (b ++ p ++ q))
  | .dsmul d a b p q => some (packWord 9#5 4#4 d a (b ++ p ++ q))
  | .mov d a p => some (packWord 10#5 0#4 d a (0#7 ++ p ++ 0#1))
  | .movi d i => some (packWord 10#5 1#4 d 0#7 (0#1 ++ i))
  | .movs d a b p q => some (packWord 10#5 2#4 d a (b ++ p ++ q))
  | .shfl d a b p q => some (packWord 10#5 3#4 d a (b ++ p ++ q))
  | .ballot d e p => some (packWord 10#5 4#4 d (0#4 ++ e) (0#7 ++ p ++ 0#1))
  | .vote k e f p => some (packWord 10#5 5#4 (k ++ e) (0#4 ++ f) (0#7 ++ p ++ 0#1))
  | .bsel d a b p q => some (packWord 10#5 6#4 d a (b ++ p ++ q))
  | .bred d a p => some (packWord 10#5 7#4 d a (0#7 ++ p ++ 0#1))
  | .elect e => some (packWord 10#5 8#4 (0#4 ++ e) 0#7 0#9)
  | .csel d a b p q => some (packWord 10#5 9#4 d a (b ++ p ++ q))
  | .matchLanes d a p => some (packWord 10#5 10#4 d a (0#7 ++ p ++ 0#1))
  | .lanemask d a p => some (packWord 10#5 11#4 d a (0#7 ++ p ++ 0#1))
  | .bra c e o => some (packBranch c e o)
  | .jmp a p => some (packWord 12#5 0#4 0#7 a (0#7 ++ p ++ 0#1))
  | .call d i => some (packWord 12#5 1#4 d 0#7 (0#1 ++ i))
  | .calli d a p => some (packWord 12#5 2#4 d a (0#7 ++ p ++ 0#1))
  | .ret a p => some (packWord 12#5 3#4 0#7 a (0#7 ++ p ++ 0#1))
  | .mark i => some (packWord 12#5 4#4 0#7 0#7 (0#1 ++ i))
  | .join => some (packWord 12#5 5#4 0#7 0#7 0#9)
  | .reform d a p i => some (packWord 12#5 6#4 d a (p ++ i))
  | .exit => some (packWord 12#5 7#4 0#7 0#7 0#9)
  | .nop => some (packWord 12#5 8#4 0#7 0#7 0#9)
  | .sleep i => some (packWord 12#5 9#4 0#7 0#7 (0#1 ++ i))
  | .yield => some (packWord 12#5 10#4 0#7 0#7 0#9)
  | .ldB32 d b o p => some (packWord 13#5 0#4 d b (o ++ p))
  | .ldB64 d b o p => some (packWord 13#5 1#4 d b (o ++ p))
  | .ldB128 d b o p => some (packWord 13#5 2#4 d b (o ++ p))
  | .ldbB32 d b o p => some (packWord 13#5 3#4 d b (o ++ p))
  | .ldbB64 d b o p => some (packWord 13#5 4#4 d b (o ++ p))
  | .ldbB128 d b o p => some (packWord 13#5 5#4 d b (o ++ p))
  | .ldlB32 d b o p => some (packWord 13#5 6#4 d b (o ++ p))
  | .ldlB64 d b o p => some (packWord 13#5 7#4 d b (o ++ p))
  | .ldlB128 d b o p => some (packWord 13#5 8#4 d b (o ++ p))
  | .ldpB32 d b o p => some (packWord 13#5 9#4 d b (o ++ p))
  | .ldpB64 d b o p => some (packWord 13#5 10#4 d b (o ++ p))
  | .ldpB128 d b o p => some (packWord 13#5 11#4 d b (o ++ p))
  | .ldvB32 d b o p => some (packWord 13#5 12#4 d b (o ++ p))
  | .ldvB128 d b o p => some (packWord 13#5 13#4 d b (o ++ p))
  | .prefetch b o p => some (packWord 13#5 14#4 0#7 b (o ++ p))
  | .invl1 => some (packWord 13#5 15#4 0#7 0#7 0#9)
  | .stB32 d b o p => some (packWord 14#5 0#4 d b (o ++ p))
  | .stB64 d b o p => some (packWord 14#5 1#4 d b (o ++ p))
  | .stB128 d b o p => some (packWord 14#5 2#4 d b (o ++ p))
  | .stlB32 d b o p => some (packWord 14#5 3#4 d b (o ++ p))
  | .stlB64 d b o p => some (packWord 14#5 4#4 d b (o ++ p))
  | .stlB128 d b o p => some (packWord 14#5 5#4 d b (o ++ p))
  | .stpB32 d b o p => some (packWord 14#5 6#4 d b (o ++ p))
  | .stpB64 d b o p => some (packWord 14#5 7#4 d b (o ++ p))
  | .stpB128 d b o p => some (packWord 14#5 8#4 d b (o ++ p))
  | .cstoreB32 d b o p => some (packWord 14#5 9#4 d b (o ++ p))
  | .cstoreB64 d b o p => some (packWord 14#5 10#4 d b (o ++ p))
  | .atomAdd d b s r t p => some (packWord 15#5 0#4 d b (s ++ r ++ t ++ p))
  | .atomMin d b s r t p => some (packWord 15#5 1#4 d b (s ++ r ++ t ++ p))
  | .atomMax d b s r t p => some (packWord 15#5 2#4 d b (s ++ r ++ t ++ p))
  | .atomAnd d b s r t p => some (packWord 15#5 3#4 d b (s ++ r ++ t ++ p))
  | .atomOr d b s r t p => some (packWord 15#5 4#4 d b (s ++ r ++ t ++ p))
  | .atomXor d b s r t p => some (packWord 15#5 5#4 d b (s ++ r ++ t ++ p))
  | .atomExch d b s r t p => some (packWord 15#5 6#4 d b (s ++ r ++ t ++ p))
  | .atomCas d b s r t p => some (packWord 15#5 7#4 d b (s ++ r ++ t ++ p))
  | .redAdd d b s r t p => some (packWord 15#5 8#4 d b (s ++ r ++ t ++ p))
  | .redMin d b s r t p => some (packWord 15#5 9#4 d b (s ++ r ++ t ++ p))
  | .redMax d b s r t p => some (packWord 15#5 10#4 d b (s ++ r ++ t ++ p))
  | .redAnd d b s r t p => some (packWord 15#5 11#4 d b (s ++ r ++ t ++ p))
  | .redOr d b s r t p => some (packWord 15#5 12#4 d b (s ++ r ++ t ++ p))
  | .redXor d b s r t p => some (packWord 15#5 13#4 d b (s ++ r ++ t ++ p))
  | .redflush => some (packWord 15#5 14#4 0#7 0#7 0#9)
  | .mxacc d b s r k p => some (packWord 15#5 15#4 d b (s ++ r ++ k ++ p))
  | .syncLd d b s r w p => some (packWord 16#5 0#4 d b (s ++ r ++ w ++ p))
  | .syncLdb d b s r w p => some (packWord 16#5 1#4 d b (s ++ r ++ w ++ p))
  | .syncSt d b s r w p => some (packWord 16#5 2#4 d b (s ++ r ++ w ++ p))
  | .fence s r => some (packWord 16#5 3#4 0#7 0#7 (s ++ r ++ 0#4))
  | .fenceLayer s r => some (packWord 16#5 3#4 0#7 0#7 (s ++ r ++ 2#4))
  | .bar l n => some (packWord 17#5 0#4 0#7 0#7 (0#1 ++ l ++ n))
  | .bararr l n => some (packWord 17#5 1#4 0#7 0#7 (0#1 ++ l ++ n))
  | .bsync a p => some (packWord 17#5 2#4 0#7 a (0#7 ++ p ++ 0#1))
  | .semwait f a p n => some (packWord 17#5 3#4 (0#6 ++ f) a (p ++ n))
  | .semsig f a p n => some (packWord 17#5 4#4 (0#6 ++ f) a (p ++ n))
  | .semset f a p n => some (packWord 17#5 5#4 (0#6 ++ f) a (p ++ n))
  | .mma d a b p q => some (packWord 18#5 0#4 d a (b ++ p ++ q))
  | .tld d a b p q => some (packWord 18#5 1#4 d a (b ++ p ++ q))
  | .tst d a b p q => some (packWord 18#5 2#4 d a (b ++ p ++ q))
  | .tcopy d a b p q => some (packWord 18#5 3#4 d a (b ++ p ++ q))
  | .tclr d a p => some (packWord 18#5 4#4 d a (0#7 ++ p ++ 0#1))
  | .job d a p => some (packWord 19#5 0#4 d a (0#7 ++ p ++ 0#1))
  | .jobq d a p => some (packWord 19#5 1#4 d a (0#7 ++ p ++ 0#1))
  | .boxt d a b p q => some (packWord 20#5 0#4 d a (b ++ p ++ q))
  | .trit d a b p q => some (packWord 20#5 1#4 d a (b ++ p ++ q))
  | .tspush d a b p q => some (packWord 20#5 2#4 d a (b ++ p ++ q))
  | .tspop d a b p q => some (packWord 20#5 3#4 d a (b ++ p ++ q))
  | .rayinit d p => some (packWord 20#5 4#4 d 0#7 (0#7 ++ p ++ 0#1))
  | .vexport a b p q => some (packWord 21#5 0#4 0#7 a (b ++ p ++ q))
  | .pexport t a p => some (packWord 21#5 1#4 t a (0#7 ++ p ++ 0#1))
  | .sample d a b p q => some (packWord 21#5 2#4 d a (b ++ p ++ q))
  | .samplel d a b p q => some (packWord 21#5 3#4 d a (b ++ p ++ q))
  | .sampleg d a b p q => some (packWord 21#5 4#4 d a (b ++ p ++ q))
  | .attr d k => some (packWord 21#5 5#4 d 0#7 (k ++ 0#2))
  | .zquery d => some (packWord 21#5 6#4 d 0#7 0#9)
  | .launch d a b p q => some (packWord 22#5 0#4 d a (b ++ p ++ q))
  | .signal a b p q => some (packWord 22#5 1#4 0#7 a (b ++ p ++ q))
  | .perfcl i => some (packWord 22#5 2#4 0#7 0#7 (0#6 ++ i))
  | .flip d a b p q => some (packWord 22#5 3#4 d a (b ++ p ++ q))
  | .fork d a b p q => some (packWord 23#5 0#4 d a (b ++ p ++ q))
  | .reach k => some (packWord 23#5 1#4 0#7 0#7 (0#6 ++ k))
  | .commit d k => some (packWord 23#5 2#4 d 0#7 (0#6 ++ k))
  | .commitReg d a p => some (packWord 23#5 2#4 d a (p ++ 0#8))
  | .squash d m => some (packWord 23#5 3#4 d 0#7 (0#1 ++ m ++ 0#1))
  | .squashReg d a p => some (packWord 23#5 3#4 d a (p ++ 1#8))
  | .rquery d a p => some (packWord 23#5 4#4 d a (0#7 ++ p ++ 0#1))
  | .trap n => some (packWord 24#5 0#4 0#7 0#7 (0#1 ++ n))
  | .brk n => some (packWord 24#5 1#4 0#7 0#7 (0#1 ++ n))
  | .rett => some (packWord 24#5 2#4 0#7 0#7 0#9)
  | .csrr d c => some (packWord 24#5 3#4 d 0#7 (0#1 ++ c))
  | .csrw a p c => some (packWord 24#5 4#4 0#7 a (p ++ c))
  | .csrs d a p c => some (packWord 24#5 5#4 d a (p ++ c))
  | .wfi => some (packWord 24#5 6#4 0#7 0#7 0#9)
  | .registerFill => none
  | .sleepEnd => none
  | .wfiWake => none
  | .l1Fill => none
  | .writeAcknowledge => none
  | .homeRead => none
  | .homeWrite => none
  | .homeAtomic => none
  | .redDrainEntry => none
  | .mxaccAtHome => none
  | .pull => none
  | .pullReply => none
  | .walkRequest => none
  | .walkComplete => none
  | .hostSnoop => none
  | .hostMemRead => none
  | .refreshWindow => none
  | .memTempSample => none
  | .hotStateChange => none
  | .layerTempSample => none
  | .powerSample => none
  | .freqStep => none
  | .thermalPeriodStart => none
  | .watchdog => none
  | .basinClose => none
  | .barrierOpen => none
  | .sluiceWave => none
  | .handlerEntry => none
  | .unrecoverableFault => none
  | .chunkCommitRequest => none
  | .forkGrant => none
  | .commitPoint => none
  | .squashPoint => none
  | .reachStarved => none
  | .settlingComplete => none
  | .cardStart => none
  | .cardComplete => none
  | .cardFault => none
  | .mmaStart => none
  | .mmaGroupFull => none
  | .setupTake => none
  | .windowRelease => none
  | .pixelBargeClose => none
  | .earlyZTest => none
  | .pixelRetire => none
  | .binBuild => none
  | .verticalBlank => none
  | .frameStart => none
  | .queueSlotWrite => none
  | .wharfTake => none
  | .wharfDispatch => none
  | .workgroupStart => none
  | .taskComplete => none
  | .ctxTeardown => none
  | .ctxKill => none
  | .ctxKillDone => none
  | .deviceFatal => none
  | .tlbiGo => none
  | .tlbiDone => none
  | .migLock => none
  | .migLocked => none
  | .migSwitch => none
  | .migRelease => none
  | .colSplitRequest => none
  | .colSplitApply => none
  | .vbusTestGo => none
  | .vbusCaptDone => none
  | .vbusLock => none
  | .vbusRetire => none
  | .mtxLayerLock => none
  | .inputPublish => none
  | .semValWrite => none
  | .faultLogRead => none
  | .faultResume => none
  | .preemptVacate => none
  | .preemptSaveGraphics => none
  | .preemptRestoreGraphics => none
  | .preemptRelease => none
  | .preemptDone => none
  | .savedWorkgroupRestore => none
  | .powerUp => none
  | .bootVerify => none
  | .bootVerifyComplete => none
  | .attestExtend => none
  | .quoteStart => none
  | .quoteDone => none
  | .bootKernelGo => none
  | .registerWrite => none
  | .illegalEncoding => none
  | .powerOff => none
  | .hostMemWrite => none
  | .backInvalidateResponse => none
  | .hostDataArrival => none
  | .semaphoreUpdate => none
  | .writeBufferArrival => none
  | .writeBufferCommit => none
  | .tileStoreAccess => none
  | .localMemoryAccess => none

end Sys2Proof
end

