-- ==== Sys2Proof/Config.lean ====
section
/-!
DEFINITION. What is fixed for one part and what the spec leaves open. The opaque constants have no body:
nothing can be proved of their values, so a claim that mentions them holds for every value.
-/
namespace Sys2Proof.Config

/-- Towers, cores per tower, clusters in all, cores in all (R12, R13). -/
def towers : Nat := 4
/-- Cores of one tower (R13). -/
def coresPerTower : Nat := 48
/-- Cores of the part, which is also the number of columns (R12, R13). -/
def cores : Nat := 192
/-- Clusters of the part (R12, R13). -/
def clusters : Nat := 48
/-- Barge slots of a core (R13). -/
def slotsPerCore : Nat := 512
/-- Barge slots of a quarter (R13). -/
def slotsPerQuarter : Nat := 128
/-- Barge-registers of a quarter (R13). -/
def bargeRegsPerQuarter : Nat := 6144

/-- Free values: what the spec leaves open although the machine goes on (log 4). -/
opaque freeValue : Nat → BitVec 64

/-- The fused SHA-384 digest of the vendor's public key, six 64-bit words (R410; log 3). -/
opaque vendorKeyDigest : Nat

/-- The fused serial number DEV_SERIAL (Table 19.3; log 3). -/
opaque devSerial : Nat → BitVec 64

/-- The public half of the fused identity key IDKEY_00 to IDKEY_11 (Table 19.3; log 3). -/
opaque idKey : Nat → BitVec 64

/-- Word n of the signature over a digest, in the k-th quote (R412): the nonce inside an ECDSA signature is not stated, so
the signature is a free value (log 4). -/
opaque quoteSignature : (digest k n : Nat) → BitVec 64

/-- The check code CHK over the 128 data bytes of a line: R101 says what it corrects, and gives no code (log 7). -/
opaque lineCode : List (BitVec 8) → BitVec 48

/-- Core cycles that a GDDR channel spends on a command: R368 gives the order of its grants and no time (log 56). -/
opaque commandTime : Nat

end Sys2Proof.Config
end

