-- ==== Sys2Proof/Machine/Num.lean ====
section
/-!
DEFINITION. Numbers, bit by bit (03_numbers.md): the float formats of Tables 3.1 and 3.2, exact values,
the one rounding round(x, F, mode) of R60 to R64, conversion to integers (R65), ds8 (R55, R67) and the
shared block scales (R57, R58, R68).
-/
namespace Sys2Proof.Machine

/-! ## Rounding modes and flags -/

/-- The five rounding modes (R60). -/
inductive RMode where
  | rn | rz | rp | rm | rna
  deriving DecidableEq, Repr

/-- The codes of a rounding mode (R32, Table 3.3); 0, 6 and 7 name none. -/
def RMode.ofCode : Nat → Option RMode
  | 1 => some .rn
  | 2 => some .rz
  | 3 => some .rp
  | 4 => some .rm
  | 5 => some .rna
  | _ => none

/-- The code of a mode in FCTL.RND and in XMOD (R32, Table 3.3). -/
def RMode.code : RMode → Nat
  | .rn => 1
  | .rz => 2
  | .rp => 3
  | .rm => 4
  | .rna => 5

/-- The six exception flags of FCTL (Table 3.3, R71). -/
structure Flags where
  nv : Bool := false
  dz : Bool := false
  ovf : Bool := false
  uf : Bool := false
  nx : Bool := false
  sat : Bool := false
  deriving DecidableEq, Repr

/-- No flag raised. -/
def Flags.none : Flags := {}

/-- The flags raised by either of two results. -/
def Flags.or (a b : Flags) : Flags :=
  { nv := a.nv || b.nv, dz := a.dz || b.dz, ovf := a.ovf || b.ovf,
    uf := a.uf || b.uf, nx := a.nx || b.nx, sat := a.sat || b.sat }

/-! ## Formats -/

/-- The float formats of Table 3.1 (R52). -/
inductive Fmt where
  | f64 | f32 | f16 | bf16 | e5m2 | e4m3 | e3m2 | e2m3 | e2m1
  deriving DecidableEq, Repr

/-- Width in bits (Table 3.1). -/
def Fmt.width : Fmt → Nat
  | .f64 => 64 | .f32 => 32 | .f16 => 16 | .bf16 => 16 | .e5m2 => 8 | .e4m3 => 8
  | .e3m2 => 6 | .e2m3 => 6 | .e2m1 => 4

/-- Fraction bits m (Table 3.1). -/
def Fmt.frac : Fmt → Nat
  | .f64 => 52 | .f32 => 23 | .f16 => 10 | .bf16 => 7 | .e5m2 => 2 | .e4m3 => 3
  | .e3m2 => 2 | .e2m3 => 3 | .e2m1 => 1

/-- Exponent bias (Table 3.1). -/
def Fmt.bias : Fmt → Nat
  | .f64 => 1023 | .f32 => 127 | .f16 => 15 | .bf16 => 127 | .e5m2 => 15 | .e4m3 => 7
  | .e3m2 => 3 | .e2m3 => 1 | .e2m1 => 1

/-- The code of the largest finite value, sign clear (Table 3.2). -/
def Fmt.maxCode : Fmt → Nat
  | .f64 => 0x7FEFFFFFFFFFFFFF | .f32 => 0x7F7FFFFF | .f16 => 0x7BFF | .bf16 => 0x7F7F
  | .e5m2 => 0x7B | .e4m3 => 0x7E | .e3m2 => 0x1F | .e2m3 => 0x1F | .e2m1 => 0x7

/-- The code of infinity, where the format has one (Table 3.2). -/
def Fmt.infCode : Fmt → Option Nat
  | .f64 => some 0x7FF0000000000000 | .f32 => some 0x7F800000 | .f16 => some 0x7C00
  | .bf16 => some 0x7F80 | .e5m2 => some 0x7C
  | .e4m3 => none | .e3m2 => none | .e2m3 => none | .e2m1 => none

/-- The canonical NaN, where the format has one (Table 3.2). -/
def Fmt.nanCode : Fmt → Option Nat
  | .f64 => some 0x7FF8000000000000 | .f32 => some 0x7FC00000 | .f16 => some 0x7E00
  | .bf16 => some 0x7FC0 | .e5m2 => some 0x7E | .e4m3 => some 0x7F
  | .e3m2 => none | .e2m3 => none | .e2m1 => none

/-- Is this one of the four wide formats, whose NaNs may signal (R54)? -/
def Fmt.wide : Fmt → Bool
  | .f64 => true | .f32 => true | .f16 => true | .bf16 => true
  | .e5m2 => false | .e4m3 => false | .e3m2 => false | .e2m3 => false | .e2m1 => false

/-- The sign bit of a code. -/
def Fmt.signOf (f : Fmt) (c : Nat) : Bool := c.testBit (f.width - 1)

/-- The code without its sign bit. -/
def Fmt.absOf (f : Fmt) (c : Nat) : Nat := c % 2 ^ (f.width - 1)

/-- Put a sign on a code. -/
def Fmt.withSign (f : Fmt) (neg : Bool) (c : Nat) : Nat :=
  if neg then c + 2 ^ (f.width - 1) else c

/-! ## Exact values -/

/-- An exact real number, a signed zero, an infinity or a NaN (R60). `mag neg m e sticky` has the
magnitude m·2^e, or lies strictly between m·2^e and (m+1)·2^e when `sticky` is set. -/
inductive Exact where
  | nan (invalid : Bool)
  | inf (neg : Bool)
  | zero (neg : Bool)
  | mag (neg : Bool) (m : Nat) (e : Int) (sticky : Bool)
  deriving DecidableEq, Repr

/-- A magnitude, or a zero of the same sign when it is 0 and exact. -/
def Exact.ofMag (neg : Bool) (m : Nat) (e : Int) (sticky : Bool) : Exact :=
  if m = 0 && !sticky then .zero neg else .mag neg m e sticky

/-- The value of an integer. -/
def Exact.ofInt (i : Int) : Exact := .ofMag (decide (i < 0)) i.natAbs 0 false

/-- The same value with its sign inverted. -/
def Exact.neg : Exact → Exact
  | .nan i => .nan i
  | .inf n => .inf !n
  | .zero n => .zero !n
  | .mag n m e s => .mag (!n) m e s

/-- The value without its sign. -/
def Exact.abs : Exact → Exact
  | .nan i => .nan i
  | .inf _ => .inf false
  | .zero _ => .zero false
  | .mag _ m e s => .mag false m e s

/-- Is the value a NaN? -/
def Exact.isNan : Exact → Bool
  | .nan _ => true
  | _ => false

/-- Is the value an infinity? -/
def Exact.isInf : Exact → Bool
  | .inf _ => true
  | _ => false

/-- The sign of a value; a NaN counts as positive. -/
def Exact.signBit : Exact → Bool
  | .nan _ => false
  | .inf n => n
  | .zero n => n
  | .mag n _ _ _ => n

/-- The value of a code (R53, R54). A signalling NaN carries `invalid` (R64). -/
def Fmt.value (f : Fmt) (c : Nat) : Exact :=
  let neg := f.signOf c
  let a := f.absOf c
  if f.infCode = some a then .inf neg
  else if f.nanCode.isSome && decide (f.maxCode < a) then
    .nan (f.wide && !(a.testBit (f.frac - 1)))
  else
    let e := a / 2 ^ f.frac
    let fr := a % 2 ^ f.frac
    if e = 0 then .ofMag neg fr (1 - (f.bias : Int) - f.frac) false
    else .mag neg (2 ^ f.frac + fr) ((e : Int) - f.bias - f.frac) false

/-- Is the code a nonzero subnormal? -/
def Fmt.isSubnormal (f : Fmt) (c : Nat) : Bool :=
  let a := f.absOf c
  decide (0 < a) && decide (a < 2 ^ f.frac)

/-- The value of an operand, a subnormal read as a zero of its sign under a flush bit (R63). -/
def Fmt.operand (f : Fmt) (ftz : Bool) (c : Nat) : Exact :=
  if ftz && f.isSubnormal c then .zero (f.signOf c) else f.value c

/-! ## Exact arithmetic -/

/-- The sum of terms that are signed magnitudes m·2^e, as an integer multiple of 2^e0. -/
def alignTo (e0 : Int) (neg : Bool) (m : Nat) (e : Int) : Int :=
  let v : Int := (m * 2 ^ (e - e0).toNat : Nat)
  if neg then -v else v

/-- The exact sum of two values (R60). Both zero: equal signs keep the sign; an exact zero sum is +0,
or −0 under `.rm`. -/
def Exact.add (mode : RMode) (a b : Exact) : Exact :=
  match a, b with
  | .nan i, .nan j => .nan (i || j)
  | .nan i, _ => .nan i
  | _, .nan j => .nan j
  | .inf n, .inf k => if n = k then .inf n else .nan true
  | .inf n, _ => .inf n
  | _, .inf k => .inf k
  | .zero n, .zero k => if n = k then .zero n else .zero (mode = .rm)
  | .zero _, .mag n m e s => .mag n m e s
  | .mag n m e s, .zero _ => .mag n m e s
  | .mag n m e s, .mag k p g t =>
    let e0 := min e g
    let x := alignTo e0 n m e + alignTo e0 k p g
    if x = 0 && !s && !t then .zero (mode = .rm)
    else .mag (decide (x < 0)) x.natAbs e0 (s || t)

/-- The exact sum of some terms, taken from the first on, so that terms that are all −0 sum to −0 (R60). -/
def Exact.sum (mode : RMode) : List Exact → Exact
  | [] => .zero false
  | x :: xs => xs.foldl (Exact.add mode) x

/-- The exact product of two values (R60, R64). -/
def Exact.mul (a b : Exact) : Exact :=
  match a, b with
  | .nan i, .nan j => .nan (i || j)
  | .nan i, _ => .nan i
  | _, .nan j => .nan j
  | .inf n, .inf k => .inf (n != k)
  | .inf _, .zero _ => .nan true
  | .zero _, .inf _ => .nan true
  | .inf n, .mag k _ _ _ => .inf (n != k)
  | .mag n _ _ _, .inf k => .inf (n != k)
  | .zero n, .zero k => .zero (n != k)
  | .zero n, .mag k _ _ _ => .zero (n != k)
  | .mag n _ _ _, .zero k => .zero (n != k)
  | .mag n m e s, .mag k p g t => .mag (n != k) (m * p) (e + g) (s || t)

/-- Bits kept by an inexact quotient or root: more than twice any format's precision. -/
def guardBits : Nat := 160

/-- The exact quotient of two magnitudes p·2^g into m·2^e, as a floor with a sticky bit. -/
def divMag (neg : Bool) (m : Nat) (e : Int) (p : Nat) (g : Int) : Exact :=
  let k := guardBits + p.log2
  let n := m * 2 ^ k
  .mag neg (n / p) (e - g - k) (n % p != 0)

/-- The exact quotient (R216, DIVF as IEEE 754-2019 divides). A finite nonzero value over a zero is an
infinity; the caller raises DZ for it. -/
def Exact.div (a b : Exact) : Exact :=
  match a, b with
  | .nan i, .nan j => .nan (i || j)
  | .nan i, _ => .nan i
  | _, .nan j => .nan j
  | .inf _, .inf _ => .nan true
  | .inf n, .zero k => .inf (n != k)
  | .inf n, .mag k _ _ _ => .inf (n != k)
  | .zero _, .zero _ => .nan true
  | .zero n, .inf k => .zero (n != k)
  | .zero n, .mag k _ _ _ => .zero (n != k)
  | .mag n _ _ _, .inf k => .zero (n != k)
  | .mag n _ _ _, .zero k => .inf (n != k)
  | .mag n m e _, .mag k p g _ => divMag (n != k) m e p g

/-- The value times 2^n. -/
def Exact.scale (a : Exact) (n : Int) : Exact :=
  match a with
  | .mag neg m e s => .mag neg m (e + n) s
  | .nan i => .nan i
  | .inf n => .inf n
  | .zero n => .zero n

/-- Comparison of two values that are not NaN, zeros equal: the sign of a − b. -/
def Exact.cmp (a b : Exact) : Int :=
  match a, b with
  | .inf n, .inf k => if n = k then 0 else if n then -1 else 1
  | .inf n, _ => if n then -1 else 1
  | _, .inf k => if k then 1 else -1
  | .mag n m e _, .mag k p g _ =>
    let e0 := min e g
    (alignTo e0 n m e - alignTo e0 k p g).sign
  | .mag n _ _ _, _ => if n then -1 else 1
  | _, .mag k _ _ _ => if k then 1 else -1
  | _, _ => 0

/-- Integer square root, bit by bit from bit k − 1 of the root down. -/
def isqrtGo (x : Nat) : Nat → Nat → Nat
  | 0, r => r
  | k + 1, r =>
    let r' := r + 2 ^ k
    if r' * r' ≤ x then isqrtGo x k r' else isqrtGo x k r

/-- floor(√x). -/
def isqrt (x : Nat) : Nat := isqrtGo x (x.log2 / 2 + 1) 0

/-- √(m·2^e), exact or as a floor with a sticky bit. -/
def sqrtMag (m : Nat) (e : Int) : Exact :=
  let k := guardBits + (if (e - guardBits) % 2 = 0 then 0 else 1)
  let x := m * 2 ^ k
  let r := isqrt x
  .mag false r ((e - k) / 2) (r * r != x)

/-- 1/√(m·2^e), exact or as a floor with a sticky bit. -/
def rsqrtMag (m : Nat) (e : Int) : Exact :=
  let k := 2 * guardBits + m.log2 + (if (e - (2 * guardBits + m.log2 : Nat)) % 2 = 0 then 0 else 1)
  let x := 2 ^ k / m
  let r := isqrt x
  .mag false r ((-e - k) / 2) (r * r * m != 2 ^ k)

/-! ## Rounding -/

/-- The magnitude m·2^e (+ sticky) in units of 2^q, with its half bit and whether anything lies below
the half bit. A shift beyond all of m leaves only "something below". -/
def quantize (m : Nat) (e : Int) (sticky : Bool) (q : Int) : Nat × Bool × Bool :=
  if q ≤ e then (m * 2 ^ (e - q).toNat, false, sticky)
  else
    let k := (q - e).toNat
    if m.log2 + 2 < k then (0, false, m != 0 || sticky)
    else (m / 2 ^ k, m.testBit (k - 1), m % 2 ^ (k - 1) != 0 || sticky)

/-- Does a magnitude with these discarded parts round up in this mode (R60)? -/
def roundsUp (mode : RMode) (neg odd half below : Bool) : Bool :=
  match mode with
  | .rn => half && (below || odd)
  | .rna => half
  | .rz => false
  | .rp => !neg && (half || below)
  | .rm => neg && (half || below)

/-- Round a magnitude to a multiple of 2^q: the multiple, and whether it is inexact. -/
def roundAt (mode : RMode) (neg : Bool) (m : Nat) (e : Int) (sticky : Bool) (q : Int) : Nat × Bool :=
  let (n, half, below) := quantize m e sticky q
  (if roundsUp mode neg (n % 2 = 1) half below then n + 1 else n, half || below)

/-- What of FCTL and of the word governs a float result: the overflow bits of R61, `.sat`, and the flush
bit of R63 that applies to the destination. -/
structure FCtx where
  e5m2Sat : Bool := false
  e4m3Nan : Bool := false
  sat : Bool := false
  ftz : Bool := false
  deriving DecidableEq, Repr

/-- A code with its flags. -/
structure Rounded where
  code : Nat
  flags : Flags := {}
  deriving DecidableEq, Repr

/-- What an overflowing finite result becomes (R61): `none` is ±max, else the code that replaces it. -/
def overflowCode (f : Fmt) (mode : RMode) (cx : FCtx) (neg : Bool) : Option Nat :=
  if cx.sat then none
  else
    match f with
    | .e4m3 =>
      if cx.e4m3Nan then (match mode with | .rn | .rna => some 0x7F | .rz | .rp | .rm => none) else none
    | .e5m2 => if cx.e5m2Sat then none else directed
    | .f64 | .f32 | .f16 | .bf16 => directed
    | .e3m2 | .e2m3 | .e2m1 => none
where
  /-- The columns of R61 for a format that keeps its infinity. -/
  directed : Option Nat :=
    match mode with
    | .rn | .rna => f.infCode
    | .rz => none
    | .rp => if neg then none else f.infCode
    | .rm => if neg then f.infCode else none

/-- A NaN result in format f (R64): the canonical NaN, or the +0 code with NV where f has none. -/
def nanResult (f : Fmt) (invalid : Bool) : Rounded :=
  match f.nanCode with
  | some c => ⟨c, { nv := invalid }⟩
  | none => ⟨0, { nv := true }⟩

/-- An infinite result in format f (R61). -/
def infResult (f : Fmt) (cx : FCtx) (neg : Bool) : Rounded :=
  if cx.sat then ⟨f.withSign neg f.maxCode, { sat := true }⟩
  else
    match f.infCode with
    | some c =>
      -- e5m2 keeps its infinity: only a finite overflow and an explicit `.sat` meet E5M2_SAT
      ⟨f.withSign neg c, {}⟩
    | none =>
      if f = .e4m3 && cx.e4m3Nan then ⟨f.withSign neg 0x7F, { nv := true }⟩
      else ⟨f.withSign neg f.maxCode, { sat := true }⟩

/-- Round a nonzero finite magnitude to format f (R60 to R63). -/
def roundMag (f : Fmt) (mode : RMode) (cx : FCtx) (neg : Bool) (m : Nat) (e : Int) (sticky : Bool) : Rounded :=
  let p := f.frac
  let emin : Int := 1 - f.bias
  let ex : Int := (m.log2 : Int) + e
  let q := max ex emin - p
  let (n, inexact) := roundAt mode neg m e sticky q
  let code := (q + p + f.bias - 1).toNat * 2 ^ p + n
  if f.maxCode < code then
    match overflowCode f mode cx neg with
    | some c => ⟨f.withSign neg c, { ovf := true, nx := true }⟩
    | none => ⟨f.withSign neg f.maxCode, { ovf := true, nx := true, sat := true }⟩
  else if cx.ftz && decide (0 < code) && decide (code < 2 ^ p) then
    ⟨f.withSign neg 0, { uf := true, nx := true }⟩
  else
    let tiny := decide (ex < emin) && decide ((roundAt mode neg m e sticky (ex - p)).1 < 2 ^ (p + 1) ∨ ex + 1 < emin)
    ⟨f.withSign neg code, { uf := tiny && inexact, nx := inexact }⟩

/-- round(x, F, mode) of R60, with R61 to R64. -/
def round (f : Fmt) (mode : RMode) (cx : FCtx) (x : Exact) : Rounded :=
  match x with
  | .nan i => nanResult f i
  | .inf n => infResult f cx n
  | .zero n => ⟨f.withSign n 0, {}⟩
  | .mag n m e s => roundMag f mode cx n m e s

/-- A finite value rounded to an integer, and whether it changed (R60, R65). -/
def roundInt (mode : RMode) (x : Exact) : Int × Bool :=
  match x with
  | .mag n m e s =>
    let (k, nx) := roundAt mode n m e s 0
    (if n then -(k : Int) else k, nx)
  | _ => (0, false)

/-- float → integer (R65): clamped to [lo, hi]; a clamp raises NV and SAT, a NaN gives 0 and NV. -/
def toInteger (mode : RMode) (lo hi : Int) (x : Exact) : Int × Flags :=
  match x with
  | .nan _ => (0, { nv := true })
  | .inf n => (if n then lo else hi, { nv := true, sat := true })
  | .zero _ => (0, {})
  | .mag n m e s =>
    let (k, nx) := roundInt mode (.mag n m e s)
    if k < lo then (lo, { nv := true, sat := true })
    else if hi < k then (hi, { nv := true, sat := true })
    else (k, { nx := nx })

/-- A float result of a value rounded to an integral value (FRND, R211): the sign of a zero is kept, and
no NX is raised. -/
def roundIntegral (f : Fmt) (mode : RMode) (cx : FCtx) (x : Exact) : Rounded :=
  match x with
  | .mag n m e s =>
    let (k, _) := roundAt mode n m e s 0
    let r := round f .rz cx (.ofMag n k 0 false)
    ⟨r.code, { sat := r.flags.sat }⟩
  | y => round f mode cx y

/-! ## ds8 (R55, R67) -/

/-- One term of a ds8 code in units of 2^−6: shift codes 0 to 6, and 7 for no term. -/
def ds8Term (neg : Bool) (h : Nat) : Int :=
  if h = 7 then 0 else if neg then -(2 ^ (6 - h) : Nat) else (2 ^ (6 - h) : Nat)

/-- The value of a ds8 code in units of 2^−6 (R55). -/
def ds8Units (c : Nat) : Int :=
  ds8Term (c.testBit 7) (c / 16 % 8) + ds8Term (c.testBit 3) (c % 8)

/-- The value of a ds8 code (R55): no signed zero, a zero counts as +0 (R226). -/
def ds8Value (c : Nat) : Exact := (Exact.ofInt (ds8Units c)).scale (-6)

/-- How many terms of a code are present. -/
def ds8Terms (c : Nat) : Nat :=
  (if c / 16 % 8 = 7 then 0 else 1) + (if c % 8 = 7 then 0 else 1)

/-- The code R67 writes for a value of `u` units: fewest terms, then smallest code; `none` where no code
has that value. -/
def ds8CodeOf (u : Int) : Option Nat :=
  (List.range 256).foldl (fun best c =>
    if ds8Units c = u then
      match best with
      | none => some c
      | some b => if ds8Terms c < ds8Terms b then some c else some b
    else best) none

/-- Has some code the magnitude of u units? -/
def ds8Has (u : Nat) : Bool :=
  (List.range 8).any fun h1 => (List.range 8).any fun h0 =>
    decide (ds8Term false h1 + ds8Term false h0 = (u : Int)) || decide (ds8Term false h1 + ds8Term true h0 = (u : Int))

/-- Does m·2^e (+ sticky) exceed t·2^−7? -/
def aboveHalfUnits (m : Nat) (e : Int) (sticky : Bool) (t : Nat) : Bool :=
  let e0 := min e (-7)
  let x := m * 2 ^ (e - e0).toNat
  let y := t * 2 ^ (-7 - e0).toNat
  decide (y < x) || (decide (y = x) && sticky)

/-- The nearest ds8 magnitude, in units, to m·2^e (+ sticky), scanning magnitudes upward from u; a tie
keeps the smaller one (R67). -/
def ds8Nearest (m : Nat) (e : Int) (sticky : Bool) : Nat :=
  (List.range 129).foldl (fun (best u : Nat) =>
    if ds8Has u && aboveHalfUnits m e sticky (best + u) && decide (best < u) then u else best) (0 : Nat)

/-- The same with the clamp of R67: is the magnitude above 2? -/
def ds8Above (m : Nat) (e : Int) (sticky : Bool) : Bool := aboveHalfUnits m e sticky 256

/-- Conversion to ds8 (R67). -/
def toDs8 (x : Exact) : Rounded :=
  match x with
  | .nan _ => ⟨0x77, { nv := true }⟩
  | .zero _ => ⟨0x77, {}⟩
  | .inf n => ⟨(ds8CodeOf (if n then -128 else 128)).getD 0x77, { sat := true, nx := true }⟩
  | .mag n m e s =>
    if ds8Above m e s then ⟨(ds8CodeOf (if n then -128 else 128)).getD 0x77, { sat := true, nx := true }⟩
    else
      let u := ds8Nearest m e s
      let c := (ds8CodeOf (if n then -(u : Int) else u)).getD 0x77
      let exact := decide (Exact.cmp (.ofMag false m e s) (.ofMag false u (-6) false) = 0) && !s
      ⟨c, { nx := !exact }⟩

/-! ## Element formats of blocks and packed fields -/

/-- An element format: one of the narrow floats, or ds8 (R58, R218). -/
inductive Elem where
  | fl (f : Fmt)
  | ds8
  deriving DecidableEq, Repr

/-- Element width in bits. -/
def Elem.width : Elem → Nat
  | .fl f => f.width
  | .ds8 => 8

/-- The value of an element code. -/
def Elem.value : Elem → Nat → Exact
  | .fl f, c => f.value c
  | .ds8, c => ds8Value c

/-- The +0 code (R64, R68): 0x77 for ds8. -/
def Elem.zeroCode : Elem → Nat
  | .fl _ => 0
  | .ds8 => 0x77

/-- round(x, element, mode); ds8 follows R67. -/
def Elem.round (el : Elem) (mode : RMode) (cx : FCtx) (x : Exact) : Rounded :=
  match el with
  | .fl f => Machine.round f mode cx x
  | .ds8 => toDs8 x

/-- EMAX of R68 as m·2^e. -/
def Elem.emax : Elem → Nat × Int
  | .fl .e5m2 => (57344, 0)
  | .fl .e4m3 => (448, 0)
  | .fl .e3m2 => (28, 0)
  | .fl .e2m3 => (15, -1)
  | .fl .e2m1 => (6, 0)
  | .fl _ => (0, 0)
  | .ds8 => (2, 0)

/-! ## Shared scales (R57, R68) -/

/-- The two scale formats (R57). -/
inductive ScaleKind where
  | e8m0 | e8m1
  deriving DecidableEq, Repr

/-- The NaN code of a scale format (R57). -/
def ScaleKind.nanCode : ScaleKind → Nat
  | .e8m0 => 0xFF
  | .e8m1 => 0x1FF

/-- The code of the scale 1.0 (R57). -/
def ScaleKind.oneCode : ScaleKind → Nat
  | .e8m0 => 0x7F
  | .e8m1 => 0x0FE

/-- Width of a scale code in bits. -/
def ScaleKind.width : ScaleKind → Nat
  | .e8m0 => 8
  | .e8m1 => 9

/-- The value of a scale code as n·2^e with n = 2 or 3 (E8M1) or 1 (E8M0); `none` for the NaN code. -/
def ScaleKind.value : ScaleKind → Nat → Option (Nat × Int)
  | .e8m0, c => if c % 256 = 0xFF then none else some (1, (c % 256 : Nat) - 127)
  | .e8m1, c =>
    if c % 512 = 0x1FF then none
    else some (2 + c % 2, ((c % 512 / 2 : Nat) : Int) - 128)

/-- Is the nonnegative finite magnitude x at most k·2^e? -/
def Exact.leMag (x : Exact) (k : Nat) (e : Int) : Bool :=
  decide (Exact.cmp x.abs (.ofMag false k e false) ≤ 0)

/-- The larger of two magnitudes. -/
def Exact.maxAbs (a b : Exact) : Exact :=
  if Exact.cmp a.abs b.abs < 0 then b.abs else a.abs

/-- Search the scale codes from `c` upward for the first that holds M (R68): codes rise with their values. -/
def scaleSearch (k : ScaleKind) (el : Elem) (m : Exact) : Nat → Nat → Nat
  | 0, c => c
  | n + 1, c =>
    match k.value c with
    | none => c - 1
    | some (sn, se) =>
      if m.leMag (el.emax.1 * sn) (el.emax.2 + se) then c else scaleSearch k el m n (c + 1)

/-- The scale code R68 chooses for a block of values. -/
def chooseScale (k : ScaleKind) (el : Elem) (vs : List Exact) : Nat :=
  if vs.any (fun v => v.isNan || v.isInf) then k.nanCode
  else
    let m := vs.foldl Exact.maxAbs (.zero false)
    match m with
    | .zero _ => k.oneCode
    | _ => scaleSearch k el m (2 ^ k.width) 0

/-- v / s for a scale s = n·2^e. -/
def Exact.overScale (v : Exact) (s : Nat × Int) : Exact := v.div (.ofMag false s.1 s.2 false)

/-- v × s for a scale s = n·2^e. -/
def Exact.timesScale (v : Exact) (s : Nat × Int) : Exact := v.mul (.ofMag false s.1 s.2 false)

/-- One element of a block under a scale code (R68, R223): rounded once from the exact quotient with
saturation to ±EMAX whatever FCTL holds; raises only NV, SAT and NX. -/
def encodeElement (k : ScaleKind) (el : Elem) (scale : Nat) (v : Exact) : Rounded :=
  match k.value scale with
  | none => ⟨el.zeroCode, { nv := true }⟩
  | some s =>
    match v with
    | .nan _ =>
      match el with
      | .fl f => ⟨(nanResult f true).code, { nv := true }⟩
      | .ds8 => ⟨0x77, { nv := true }⟩
    | .inf n =>
      match el with
      | .fl f => ⟨f.withSign n f.maxCode, { sat := true }⟩
      | .ds8 => ⟨(ds8CodeOf (if n then -128 else 128)).getD 0x77, { sat := true }⟩
    | x =>
      let r := el.round .rn { sat := true } (x.overScale s)
      ⟨r.code, { nx := r.flags.nx, sat := r.flags.sat }⟩

/-- Encode a whole block (R68): the scale code and the element codes. -/
def encodeBlock (k : ScaleKind) (el : Elem) (vs : List Exact) : Nat × List Nat :=
  let sc := chooseScale k el vs
  (sc, vs.map fun v => if sc = k.nanCode then el.zeroCode else (encodeElement k el sc v).code)

/-- Decode one element of a block into a wide format (R58, R66). -/
def decodeElement (k : ScaleKind) (el : Elem) (view : Fmt) (scale code : Nat) : Nat :=
  match k.value scale with
  | none => (nanResult view false).code
  | some s => (round view .rn {} ((el.value code).timesScale s)).code

/-! ## Integer ranges (R56) -/

/-- The least value of an integer type of w bits. -/
def intLo (signed : Bool) (w : Nat) : Int := if signed then -(2 ^ (w - 1) : Nat) else 0

/-- The greatest value of an integer type of w bits. -/
def intHi (signed : Bool) (w : Nat) : Int :=
  if signed then (2 ^ (w - 1) : Nat) - 1 else (2 ^ w : Nat) - 1

/-- x clamped to [lo, hi], and whether it changed. -/
def clampInt (lo hi x : Int) : Int × Bool :=
  if x < lo then (lo, true) else if hi < x then (hi, true) else (x, false)

/-- The value of the low w bits of a code as an integer of the given sign. -/
def intOf (signed : Bool) (w c : Nat) : Int :=
  let u := c % 2 ^ w
  if signed && decide (2 ^ (w - 1) ≤ u) then (u : Int) - (2 ^ w : Nat) else u

/-- x mod 2^w as a code. -/
def codeOf (w : Nat) (x : Int) : Nat := (x % (2 ^ w : Nat)).toNat

end Sys2Proof.Machine
end

