-- ==== Sys2Proof/Machine/State.lean ====
section
/-!
DEFINITION. The state of the Azzan Y9 as plain data: every piece of state the spec names, with the work that
is in flight. INVENTORY.md lists each field with its rule and its reset value.
-/
namespace Sys2Proof.Machine
open Sys2Proof

/-! ## Tables -/

/-- A table keyed by numbers, keys rising. -/
abbrev Tab (α : Type) := List (Nat × α)

/-- The entry at a key. -/
def Tab.look {α : Type} : Tab α → Nat → Option α
  | [], _ => none
  | (k, v) :: t, x => if x = k then some v else Tab.look t x

/-- Store an entry, keeping the keys in order. -/
def Tab.put {α : Type} : Tab α → Nat → α → Tab α
  | [], x, v => [(x, v)]
  | (k, w) :: t, x, v =>
    if x < k then (x, v) :: (k, w) :: t
    else if x = k then (k, v) :: t
    else (k, w) :: Tab.put t x v

/-- Remove an entry. -/
def Tab.cut {α : Type} : Tab α → Nat → Tab α
  | [], _ => []
  | (k, w) :: t, x => if x = k then t else (k, w) :: Tab.cut t x

/-- A sparse array of w-bit values: addresses strictly rising, and an unlisted address reads as 0, so no entry
holds 0. -/
abbrev Sparse (w : Nat) := List (Nat × BitVec w)

/-- The value at an address. -/
def Sparse.get {w : Nat} : Sparse w → Nat → BitVec w
  | [], _ => 0
  | (k, v) :: t, a => if a = k then v else Sparse.get t a

/-- List a value at its place. -/
def Sparse.put {w : Nat} : Sparse w → Nat → BitVec w → Sparse w
  | [], a, v => [(a, v)]
  | (k, x) :: t, a, v =>
    if a < k then (a, v) :: (k, x) :: t
    else if a = k then (k, v) :: t
    else (k, x) :: Sparse.put t a v

/-- Store a value; storing 0 removes the entry, so equal contents are equal data. -/
def Sparse.set {w : Nat} (m : Sparse w) (a : Nat) (v : BitVec w) : Sparse w :=
  if v = 0 then m.filter fun p => decide (p.1 ≠ a) else m.put a v

/-- Is every address of the list above the bound, the list rising and without zeros? -/
def Sparse.sortedFrom {w : Nat} (lo : Nat) : Sparse w → Bool
  | [] => true
  | (k, v) :: t => decide (lo ≤ k) && decide (v ≠ 0) && Sparse.sortedFrom (k + 1) t

/-- The canonical form. -/
def Sparse.wf {w : Nat} (m : Sparse w) : Bool := m.sortedFrom 0

/-- Physical memory: the 52-bit physical address space of Table 5.1 as a list of cells. An unlisted byte reads
as 0 (DESIGN CHOICE, log 1). -/
abbrev Memory := List Host.Cell

/-- The canonical form of memory. -/
def Memory.wf (m : Memory) : Bool := Sparse.wf m

/-- One byte of memory. -/
def Memory.read (m : Memory) (a : Nat) : Byte := Sparse.get m a

/-- Store one byte. -/
def Memory.write (m : Memory) (a : Nat) (v : Byte) : Memory := Sparse.set m a v

/-- Store a list of bytes, the later of two at one address leaving the final value (R9). -/
def Memory.writeAll (m : Memory) : List Host.Cell → Memory
  | [] => m
  | (a, v) :: t => Memory.writeAll (m.write a v) t

/-! ## Outcomes -/

/-- Why the machine stops. -/
inductive Fault where
  /-- A word's meaning was asked for while no barge is issuing. `step` never does this: it runs a word only for
  the barge that issues it. Safe: nothing is claimed of a word outside an issue. -/
  | noIssue
  deriving DecidableEq, Repr

/-- Why a meaning is refused. -/
inductive Refusal where
  /-- A step of the opcode table that has no meaning yet, by its mnemonic. Raised by the arms of `exec` alone.
  Safe: nothing can be claimed of the step. -/
  | notModelled (mnemonic : String)
  deriving DecidableEq, Repr

/-- An event with what it acts on: the numbers of a transaction, word, core, slot, context and the like, and the
values it brings, in the order its meaning reads them. -/
structure Event where
  what : Instr
  args : List Nat := []
  deriving DecidableEq, Repr

/-! ## Barges -/

/-- FCTL (Table 3.3): RND can hold no reserved code, because a write of one leaves it unchanged. -/
structure Fctl where
  rnd : RMode := .rn
  ftz32 : Bool := false
  ftz16 : Bool := false
  e4m3Nan : Bool := false
  e5m2Sat : Bool := false
  enable : Flags := {}
  sticky : Flags := {}
  deriving DecidableEq, Repr

/-- An entry of the join stack (R240). -/
structure JoinEntry where
  addr : Dword
  mask : Mask
  deriving DecidableEq, Repr

/-- The prefix words of a chain that has begun to issue: its first address, its words so far, and the group
formed at its first word (R30, R31). -/
structure Chain where
  start : Dword
  words : List Word
  group : Mask
  deriving DecidableEq, Repr

/-- A captured chain (R384, R388): a replay entry, or an issued word whose destination is not yet full. -/
structure Entry where
  words : List Word
  faulted : Bool := false
  skip : Bool := false
  lanes : Mask := 0
  addr : Dword := 0
  progress : Nat := 0
  scalars : List Dword := []
  vectors : List (List Word) := []
  deriving DecidableEq, Repr

/-- What holds a barge from issuing (R356). -/
inductive Wait where
  | none
  /-- An empty register, the room of R385, or a full engine queue (R26, R27, R259): counts. -/
  | counted
  /-- A join-stack entry that can never be satisfied (R241): counts. -/
  | join
  /-- A barrier (R353): counts. -/
  | barrier
  /-- SEMWAIT on a semaphore with this EXT bit (R169): counts while it is 0. -/
  | sem (ext : Bool)
  /-- A trap that waits for a frame slot (R386): counts. -/
  | frame
  /-- Its VEXPORT waits at setup for a window (R288): counts. -/
  | setup
  /-- Its unit is busy: the barge stays eligible (R198, R375). -/
  | unit
  /-- Everything else: fixed latencies, SLEEP, WFI, releases, writes held by a migration. -/
  | other
  deriving DecidableEq, Repr

/-- A trap taken but not yet entered (R384 to R387). -/
structure TrapRec where
  cause : BitVec 8
  code : BitVec 8 := 0
  lanes : Mask := 0
  va : Dword := 0
  first : Dword := 0
  /-- Captured chains by issue number, so in issue order. -/
  entries : Tab Entry := []
  semFault : BitVec 64 := 0
  /-- The trap cycle (R384). -/
  cycle : Nat := 0
  /-- The cycle before which the frame is not written: the trap cycle, or the finish of a fixed-latency word. -/
  notBefore : Nat := 0
  /-- The frame slot that it has taken (R386). -/
  frame : Option Nat := none
  deriving DecidableEq, Repr

/-- A member barge's flag at a barrier: the level and number, and the phase at which it arrived (R346). -/
structure BarFlag where
  level : Nat
  number : Nat
  phase : Nat
  deriving DecidableEq, Repr

/-- What a barge in SEMWAIT waits for (R170): file, unit and number of the semaphore, the threshold, and its word. -/
structure SemWait where
  file : Nat
  unit : Nat
  number : Nat
  threshold : Word
  entry : Entry
  deriving DecidableEq, Repr

/-- What a pixel barge's lane renders (R291): its primitive, position, barycentrics and exports. -/
structure Pixel where
  covered : Bool := false
  x : Nat := 0
  y : Nat := 0
  seq : Nat := 0
  prim : Nat := 0
  lambda : List Int := []
  invW : List Word := []
  depth : Word := 0
  earlyDone : Bool := false
  exports : Tab (List Word) := []
  deriving DecidableEq, Repr

/-- One barge: 32 threads that share an issue slot (R12, R227), and what it holds at any moment. -/
structure Barge where
  ctx : Nat := 0
  node : Nat := 0
  /-- The workgroup it was placed with, and its number there. -/
  wg : Nat := 0
  number : Nat := 0
  /-- The home workgroup of each lane (R248). -/
  laneWg : List Nat := []
  reformed : Bool := false
  /-- Vector registers allocated to a thread (R23). -/
  regs : Nat := 8
  /-- Attributes of the kernel (R364). -/
  reachOk : Bool := false
  chunkSlot : Option Nat := none
  gfx : Bool := false
  pixelProgram : Bool := false
  wgid : List (List Word) := []
  pcs : List Dword := []
  running : Mask := 0
  exited : Mask := 0
  /-- For a waiting thread, the join-stack entry it waits at, entry 0 the bottom (R240). -/
  waitAt : List Nat := []
  yieldMarks : Mask := 0
  preds : List Mask := [0, 0, 0, 0, 0, 0, 0, 0]
  /-- v registers: register r of lane i at 32·r + i. -/
  v : Sparse 32 := []
  s : Sparse 64 := []
  /-- Lanes in which a v register is empty, and the empty s registers (R25). -/
  vEmpty : Tab Mask := []
  sEmpty : Mask := 0
  /-- In handler mode, the registers that captured words have left empty and the handler has not written (R384, R389). -/
  heldV : Tab Mask := []
  heldS : Mask := 0
  /-- Cycle from which a fixed-latency result may be read: v registers 0 to 95, s registers from 96, predicates
  from 128 (R197). -/
  score : Tab Nat := []
  /-- Join stack, bottom first (R240). -/
  joins : List JoinEntry := []
  fctl : Fctl := {}
  /-- Flags of issued words, with the cycle of their write-back (R71). -/
  raised : List (Nat × Flags) := []
  tag : BitVec 3 := 0
  /-- TRAPCAUSE and TRAPFRAME (Table 18.7). -/
  handler : Bool := false
  trapCode : BitVec 8 := 0
  trapCause : BitVec 8 := 0
  trapFrame : BitVec 56 := 0
  frameSlot : Option Nat := none
  /-- The tag that its frame holds, and what has become of that label since: committed (true) or squashed (R146, R149). -/
  frameTag : BitVec 3 := 0
  frameEnd : Option Bool := none
  /-- The chain being issued. -/
  chain : Option Chain := none
  /-- The cycle from which it may issue, the cycle of its last word, and the address that follows that word
  (R36, R228). -/
  readyAt : Nat := 0
  lastIssue : Nat := 0
  follow : Option Dword := none
  eligibleSince : Nat := 0
  wait : Wait := .none
  waitSince : Nat := 0
  yieldPending : Bool := false
  history : List Nat := []
  /-- Waits for an agenda event to wake it, so that step passes it over. -/
  blocked : Bool := false
  /-- No later memory access before these release records have acquired (R333). -/
  memWait : List Nat := []
  memHold : Nat := 0
  /-- A reformed barge's registers v0 to v(moved − 1) were moved to it and its acquire is not known to be complete (R249). -/
  moved : Nat := 0
  /-- The cycle by which every issued word has written back, and every flag-raising one (R72, R384). -/
  busyUntil : Nat := 0
  flagUntil : Nat := 0
  pulls : List (Nat × Nat) := []
  flags : List BarFlag := []
  /-- The barrier at which it waits, and the semaphore. -/
  waitBar : Option BarFlag := none
  semWait : Option SemWait := none
  /-- It waits in WFI for a wake event (R396). -/
  wfi : Bool := false
  /-- A cause delivered at its next issue (R270, R321). -/
  delivered : Option (BitVec 8) := none
  deliveredVa : Dword := 0
  deliveredEntry : Option Entry := none
  trap : Option TrapRec := none
  /-- Entries that RETT has still to re-inject (R393). -/
  reinject : List Entry := []
  /-- It was cancelled by a squash with REACH_DEAD pending (R149). -/
  dead : Bool := false
  pixels : List Pixel := []
  /-- Stopped by pre-emption: the chains captured, by issue number (R403). -/
  stop : Option (Tab Entry) := none
  deriving DecidableEq, Repr

/-- The word being issued: whose, where, for which threads; a re-injected entry brings its own operands. -/
structure Issue where
  core : Nat
  slot : Nat
  addr : Dword
  group : Mask
  chainStart : Dword
  word : Word
  replay : Option Entry := none
  deriving DecidableEq, Repr

/-- A barrier (R346). -/
structure Barrier where
  phase : Nat := 0
  expected : Nat := 0
  /-- Arrivals of the phase: the cycle in which each is counted, and the key of its barge (R350). -/
  arrivals : List (Nat × Nat) := []
  /-- Barges whose drains for the phase have been sent (R317). -/
  sent : List Nat := []
  /-- Latest release number reported in the phase by each member core that held older dirty sectors (R349). -/
  reports : Tab Nat := []
  /-- Keys of the members that wait for the open. -/
  waiters : List Nat := []
  /-- Pulls of R349 under way before the open. -/
  pulling : List Nat := []
  deriving DecidableEq, Repr

/-- A placed workgroup (R343, R372). -/
structure Workgroup where
  ctx : Nat
  node : Nat
  index : Nat
  core : Nat
  slots : List Nat
  regs : Nat
  x : Nat
  y : Nat
  z : Nat
  localBase : Nat
  localSize : Nat
  perf : BitVec 3
  /-- Threads that have not exited, wherever they run (R248). -/
  threads : Nat
  /-- Gang key, where it belongs to one. -/
  gang : Option Nat := none
  relaunches : Nat := 0
  barriers : Tab Barrier := []
  /-- Its barges have begun: the local range is zero-filled and the arguments are read. -/
  started : Bool := false
  /-- Its threads have exited, and it has left its core: for a member of a gang, with the gang (R343). -/
  gone : Bool := false
  ended : Bool := false
  /-- Values that `.param` set (R246, R372). -/
  params : Tab Dword := []
  deriving DecidableEq, Repr

/-! ## Memory, lines and caches -/

/-- State of a stacked-cache line (Table 6.4, ST; an invalid way is not listed). -/
inductive LineState where
  | clean | dirty | poisoned
  deriving DecidableEq, Repr

/-- What the part keeps for a 128-B line at its home: poison (R102), H and SHR (Table 5.2, R103), and the release
record RCORE, RSEQ of the last release on it (Table 6.4, R332); RSEQ 0 is no record (log 8). -/
structure LineMeta where
  poison : Bool := false
  host : Bool := false
  shr : BitVec 4 := 0
  rcore : BitVec 8 := 0
  rseq : BitVec 16 := 0
  deriving DecidableEq, Repr

/-- A way of a stacked-cache column (Table 6.4): the line PA[51:7], its state, and for a version its context,
label and pending slot. -/
structure CacheWay where
  line : Nat
  st : LineState := .clean
  ctx : Nat := 0
  label : BitVec 3 := 0
  slot : Option Nat := none
  deriving DecidableEq, Repr

/-- A version of a line other than an ordinary label-0 line (R134): whose, its bytes, its poison and record, and
where it lies: in its home column, or in the overflow pool slot (R139, R141). -/
structure Version where
  ctx : Nat
  line : Nat
  label : BitVec 3
  /-- Chunk slot of a pending line (R154). -/
  slot : Option Nat := none
  bytes : List Byte
  poison : Bool := false
  rcore : BitVec 8 := 0
  rseq : BitVec 16 := 0
  /-- Its slot in a pool, and the label whose pool that is. -/
  poolSlot : Option Nat := none
  pool : BitVec 3 := 0
  deriving DecidableEq, Repr

/-- A leaf of the page tables as the TLBs hold it (Table 4.1). -/
structure Leaf where
  large : Bool := false
  cp : BitVec 2 := 0
  view : BitVec 2 := 0
  scl : Bool := false
  geom : BitVec 2 := 0
  frame : BitVec 40 := 0
  fmt : BitVec 4 := 0
  rn : Bool := false
  ver : Bool := false
  kind : BitVec 2 := 0
  x : Bool := false
  w : Bool := false
  deriving DecidableEq, Repr

/-- A TLB entry: context, first virtual page number of the page (VA[55:16]), leaf (R89). -/
structure TlbEntry where
  ctx : Nat
  vpn : Nat
  leaf : Leaf
  deriving DecidableEq, Repr

/-- A walk-cache entry: the pointer a level's entry holds for the index bits above it (R89). -/
structure WalkEntry where
  ctx : Nat
  level : Nat
  index : Nat
  frame : Nat
  deriving DecidableEq, Repr

/-- A walk in flight at a tower walker (R91): page, who waits for it, and whether an invalidation met it (R92). -/
structure Walk where
  ctx : Nat
  vpn : Nat
  tower : Nat
  /-- The core that requested it. -/
  core : Nat := 0
  /-- Cores whose coalescer waits, keys of the barges whose fetch waits, and cards whose engine waits. -/
  cores : List Nat := []
  fetchers : List Nat := []
  cards : List Nat := []
  /-- Its arrival at the walker, where it has arrived. -/
  arrived : Option Nat := none
  started : Bool := false
  restart : Bool := false
  /-- The levels still to go, the table of the next one, and its entry where the walk cache has given it. -/
  level : Nat := 4
  table : Nat := 0
  pointer : Option Nat := none
  /-- The table entry that it has read, and whether the read met an uncorrectable error (R81). -/
  entry : Option (Dword × Bool) := none
  /-- It has met its leaf, or a cause. -/
  leaf : Option Leaf := none
  cause : Option (BitVec 8) := none
  deriving DecidableEq, Repr

/-- A repair register (Table 6.2). -/
structure Repair where
  fail2 : Bool := false
  used : Bool := false
  pos : BitVec 5 := 0
  deriving DecidableEq, Repr

/-- An entry of the snoop filter (R106): the 64-B half PA[51:6], its way, whether the device holds it exclusively,
and when it was allocated. -/
structure SnoopEntry where
  half : Nat
  way : Nat
  exclusive : Bool := false
  since : Nat := 0
  deriving DecidableEq, Repr

/-! ## The core -/

/-- A 64-B sector of an L1 line (R179): validity is that of `bytes`; BM marks its dirty bytes. -/
structure Sector where
  valid : Bool := false
  dirty : Bool := false
  bm : BitVec 64 := 0
  stamp : BitVec 4 := 0
  poison : Bool := false
  bytes : List Byte := []
  deriving DecidableEq, Repr

/-- What an L1 way's tag holds besides the address (R179, R85): kind, label, context and view. -/
structure L1Tag where
  /-- PA[51:8] of the line, or on a format page the frame with the line's number in its logical view. -/
  line : Nat
  kind : BitVec 2
  label : BitVec 3 := 0
  ctx : Nat := 0
  fmt : BitVec 4 := 0
  geom : BitVec 2 := 0
  scl : Bool := false
  view : BitVec 2 := 0
  deriving DecidableEq, Repr

/-- A way of the L1 (R179). `fill` numbers the allocation, so that a fill finds the way it was requested for. -/
structure L1Way where
  tag : L1Tag
  bonus : Bool := false
  /-- Filled through a versioned page (R137, R146). -/
  ver : Bool := false
  fill : Nat := 0
  sectors : List Sector := [{}, {}, {}, {}]
  deriving DecidableEq, Repr

/-- A set of the L1: its ways by number, the order O of the three groups from most to least recent, and the
bits h, l, r of each group (R183). -/
structure L1Set where
  ways : Tab L1Way := []
  order : List Nat := [2, 1, 0]
  h : BitVec 3 := 0
  l : BitVec 3 := 0
  r : BitVec 3 := 0
  deriving DecidableEq, Repr

/-- A semaphore (R169, R170, R174): its last releaser, where one is recorded, is a core and a release number. -/
structure Sem where
  value : BitVec 32 := 0
  err : Bool := false
  ext : Bool := false
  record : Option (Nat × Nat) := none
  fault : BitVec 64 := 0
  deriving DecidableEq, Repr

/-- The operation of a reduction or an atomic (R45, R311). -/
inductive AtomOp where
  | add | min | max | and | or | xor | exch | cas
  deriving DecidableEq, Repr

/-- The types of R45. -/
inductive AtomTy where
  | n32 | i32 | n64 | i64 | f32 | f16x2 | bf16x2 | f64
  deriving DecidableEq, Repr

/-- An entry of a quarter's atomic buffer (R315). -/
structure RedEntry where
  ctx : Nat
  va : Nat
  pa : Nat
  /-- The label of its access, and whether its page carries no versions, so that it acts on the base. -/
  label : BitVec 3
  neutral : Bool
  op : AtomOp
  ty : AtomTy
  value : BitVec 64
  /-- The barge that first wrote it, and its insertion number. -/
  barge : Nat
  order : Nat
  uo : Bool := false
  /-- The chunk slot of the task that wrote it (R154). -/
  chunk : Option Nat := none
  deriving DecidableEq, Repr

/-- A basin (R244 to R246): the key of its threads, the slot it holds, and the lanes filed so far. -/
structure Basin where
  key : List Nat
  core : Nat
  slot : Nat
  opened : Nat
  lanes : Nat := 0
  deriving DecidableEq, Repr

/-! ## Accesses in flight -/

/-- The three memory spaces of a synchronising access (R328). -/
inductive Space where
  | glob | loc | pooled
  deriving DecidableEq, Repr

/-- What a memory word does with its locations once they are translated and checked. -/
inductive MemKind where
  /-- No memory: a fixed-latency word that raises an enabled flag (R71), class 7. -/
  | unit
  /-- A hub access of CSRR, CSRW or CSRS (R395). -/
  | csr
  /-- LD through the L1 (R191); `hint` is the cache hint of R32. -/
  | load
  /-- LDB, LDV and class 16 loads at the home (R191, R152, R329). -/
  | homeLoad (ldv : Bool)
  /-- ST and SYNC_ST (R305, R329); `through` forces the home. -/
  | store (through : Bool)
  /-- CSTORE (R309). -/
  | cstore
  /-- ATOM, and a RED that bypasses its buffer (R312, R315). -/
  | atom (op : AtomOp) (ty : AtomTy) (returns : Bool)
  /-- A buffered RED (R315). -/
  | red (op : AtomOp) (ty : AtomTy)
  /-- MXACC by its sub-op (R319). -/
  | mxacc (block : Nat)
  /-- PREFETCH (R195). -/
  | prefetch
  /-- LDL and STL, LDP and STP and their class 16 forms (R122, R190, R303, R329). -/
  | loc (store : Bool)
  | pool (store : Bool)
  /-- TLD, TST, TCOPY, TCLR (R177, R178). -/
  | tile
  /-- BOXT, TRIT (R279): a per-lane read handed to the testers. -/
  | box | tri
  /-- ATTR, SAMPLE and its forms: reads whose bytes the sampler combines (R292, R299). -/
  | attr | sample
  /-- The fetch of a global A of an MMA, and before it the read of the parameter block (R255, R259). -/
  | mma
  /-- ZQUERY, which waits for the blender (R297), and VEXPORT until its release is complete (R286). -/
  | zquery | vexport
  deriving DecidableEq, Repr

/-- One lane's access: its virtual address, its data (a store's, an atomic's operand), the compare value of a
cas, and the leaf of its page and of the next page where it crosses into one. -/
structure LaneAcc where
  lane : Nat
  va : Nat
  size : Nat
  data : List Byte := []
  compare : List Byte := []
  leaf : Option Leaf := none
  leaf2 : Option Leaf := none
  /-- What the walks of the two pages ended with, where they failed. -/
  fault : Option (BitVec 8) := none
  fault2 : Option (BitVec 8) := none
  /-- Bytes read so far, by offset. -/
  got : List (Nat × Byte) := []
  poison : Bool := false
  deriving DecidableEq, Repr

/-- A word that has issued and is not finished: what it may still do, and the captured chain that a trap would
list (R384, R388). -/
structure Flight where
  core : Nat
  slot : Nat
  ctx : Nat
  entry : Entry
  kind : MemKind
  space : Space := .glob
  label : BitVec 3
  chunk : Option Nat := none
  dst : BitVec 7 := 0
  /-- Bytes of one access, and how a narrow load extends (R43). -/
  width : Nat := 4
  signed : Bool := false
  hint : Nat := 0
  bonus : Bool := false
  scope : Nat := 0
  order : Nat := 0
  write : Bool := false
  alignTo : Nat := 1
  accs : List LaneAcc := []
  issued : Nat := 0
  /-- Extra cycles from translation (R88), and the pages looked up: a base page by its number, a large one by 2^40 and
  its number. -/
  extra : Nat := 0
  pages : List Nat := []
  /-- Line requests that have still to pass the tag stage (R185). -/
  toPass : Nat := 0
  /-- The phase: waiting for a page, checked, under way; whether it touches an SO page (R325). -/
  translating : Bool := true
  checked : Bool := false
  sent : Bool := false
  so : Bool := false
  /-- A class 16 load that acquires, or that hands its records to the pull list (R332, R333). -/
  acquire : Bool := false
  collect : Bool := false
  /-- A recording write (R332). -/
  recording : Bool := false
  /-- Requests still to be answered, and the cycle by which the answers so far are usable. -/
  pending : List Nat := []
  ready : Nat := 0
  /-- The cycles by which a refresh has held up its transfers on the bus of a column (R128, R430). -/
  refreshed : Tab Nat := []
  /-- It is one of the captured kinds of R384. -/
  captured : Bool := true
  /-- It is an MMA that the engine checks or holds; the parameter block, once it is read (R259). -/
  mma : Bool := false
  block : List Byte := []
  /-- The slots of the barges that hold its accumulators, or of a SAMPLE its first free value; and, of the fetch of a global A, the
  fault of the row that it reaches first (R257, R270). -/
  slots : List Nat := []
  fetchFault : Option (BitVec 8 × Dword) := none
  cancelled : Bool := false
  /-- Its barge issues nothing further until it is filled (R159, R377 and others). -/
  blocks : Bool := false
  /-- Release record to wait for before it is sent, and the record a recording write leaves (R331, R332). -/
  release : Option Nat := none
  record : Option (Nat × Nat) := none
  /-- What the fill writes: words of each lane, or of a scalar destination in lane 0; its flags; and the cause it
  raises in place of them (R71, R321). -/
  result : List (List Word) := []
  words : Nat := 1
  flags : Flags := {}
  cause : Option (BitVec 8) := none
  failLanes : Mask := 0
  tag : Nat := 0
  deriving DecidableEq, Repr

/-- A request on its way to or from a home (R103): a sector read, a write of bytes, an atomic, a reduction entry,
an MXACC, or a pull. -/
inductive TxnKind where
  /-- A 64-B sector for an L1 way (its number and fill number) of a set, or with no way for its readers alone. -/
  | sector (tag : L1Tag) (index : Nat) (way : Option (Nat × Nat))
  /-- An access of the lanes of a word to one column of the pooled scratchpad (R122). -/
  | pooled (store : Bool)
  | write
  | writeBack
  | atomic
  | red (entry : RedEntry)
  | mxacc
  | pull (target seq : Nat)
  /-- A read and a write of an engine (R165). -/
  | cardRead
  | card
  /-- A write of the host to GDDR, its bytes by physical address (R104); and a version that is written home as the ordinary
  line of its address (R139, R153). -/
  | host
  | base (v : Version)
  /-- A version that is written to its pool slot, its bytes by physical address (R105, R139). -/
  | spill
  /-- A read of a table entry by a walk (R90), and one of a GDDR line by the host (R105). -/
  | walk (walk : Nat)
  | hostRead
  /-- A transfer on a bus, or a command to a channel, of an access that is performed elsewhere (R113, R368). -/
  | transfer
  deriving DecidableEq, Repr

/-- A transaction: who sent it, for which context, label and page, and the bytes it carries. -/
structure Txn where
  kind : TxnKind
  core : Nat
  barge : Option Nat := none
  ctx : Nat := 0
  label : BitVec 3 := 0
  chunk : Option Nat := none
  flight : Option Nat := none
  /-- Loads that wait for the sector, each with the bytes that its core held newer when it passed the tag stage (R192). -/
  readers : List (Nat × List (Nat × Byte)) := []
  /-- A sector that is read at the home, past the L1; one that a later miss may join (R185); and the bytes that stores
  written through have passed to it since (R192). -/
  atHome : Bool := false
  joinable : Bool := false
  patches : List (Nat × Byte) := []
  /-- Write-back entries that it holds (R186). -/
  entries : Nat := 0
  /-- The sector that it takes home as it leaves its core: set, way, sector and the way's fill (R334). -/
  leaves : Option (List Nat) := none
  /-- The card and the request of it that an engine's access serves. -/
  card : Option (Nat × Nat) := none
  /-- Its column, the cycle in which it reached that column's arbiter and waits there, how many transfers its instruction
  had on that bus before it and the memory-layer cycle of the first of them, and its transfers (R113). -/
  column : Nat := 0
  waits : Option Nat := none
  ahead : Nat := 0
  first : Nat := 0
  transfers : Nat := 1
  granted : Bool := false
  /-- The cycle in which its transfer has reached the column, waits included; and that in which it meets the refresh of its
  bank, which is the first one's of its instruction there (R128, R430). -/
  reached : Nat := 0
  bankAt : Nat := 0
  /-- It serves the column's gather engine; its place among those of one memory-layer cycle, where no core gives it. -/
  gather : Bool := false
  rank : Option Nat := none
  leaf : Leaf := {}
  /-- First virtual address of the sector or unit it names, and the bytes of a read. -/
  va : Nat := 0
  size : Nat := 64
  line : Nat := 0
  /-- Other lines that it writes: the scales of a format page. -/
  also : List Nat := []
  bytes : List (Nat × Byte) := []
  fullLine : Bool := false
  poison : Bool := false
  record : Option (Nat × Nat) := none
  recording : Bool := false
  data : List Byte := []
  /-- What its path adds over the own column (R17). -/
  path : Nat := 0
  acquire : Bool := false
  collect : Bool := false
  /-- The pulls made for it that are under way; they have been answered. -/
  pulls : Nat := 0
  pulled : Bool := false
  /-- The records that it has pulled, or that it hands to its barge's pull list (R332, R333). -/
  drawn : List (Nat × Nat) := []
  /-- What a write-back took from its core's L1: the tags and epochs of its sectors (R330). -/
  source : List (L1Tag × BitVec 16) := []
  /-- The 256-B granules for which a GDDR channel has granted it a command (R368). -/
  commanded : List Nat := []
  /-- A read that its first column does not hold: the cycle in which its data is due there, the cycle in which it asked for
  the bus of the column that supplies it, and the lines that its data fills (R16, R17). -/
  due : Nat := 0
  asked : Nat := 0
  fills : List Nat := []
  /-- Transactions that wait until it is performed, or acknowledged. -/
  waiters : List Nat := []
  ackWaiters : List Nat := []
  /-- How far it has come at its home: arrived, line present, sharers gone, host answered (R103, R105, R306). -/
  stage : Nat := 0
  /-- For a pull: the write-backs it waits for, and the transaction or release that waits for its reply. -/
  awaits : List Nat := []
  parent : Option Nat := none
  /-- For a drain at a gang or task-wide barrier: the barrier that orders it (R317). -/
  barrier : Option (Nat × Nat × Nat) := none
  deriving DecidableEq, Repr

/-- What follows once a release's steps, or an acquire's pulls, are complete. -/
inductive RelThen where
  /-- The write of the word that waits is sent. -/
  | sendFlight (flight : Nat)
  /-- The barge may access memory again, after this many further cycles. -/
  | resume (delay : Nat)
  /-- An arrival at a barrier is sent (R350). -/
  | arrive (level holder number : Nat)
  /-- These steps fall due after their delays; the releaser's core and number follow their arguments. -/
  | post (steps : List (Nat × Event))
  deriving DecidableEq, Repr

/-- A release, a fence or an acquire in progress (R331, R333): what it still waits for, in the order of its steps.
`scope` is the narrowed scope of R324; `uo` says whether it covers UO pages (R338). -/
structure Rel where
  core : Nat
  slot : Nat
  ctx : Nat
  step : Nat := 1
  scope : Nat
  release : Bool := true
  acquire : Bool := false
  uo : Bool := false
  /-- The barrier whose arrival it is: level, holder and number. -/
  barrier : Option (Nat × Nat × Nat) := none
  waitFor : List Nat := []
  seq : Option Nat := none
  /-- The entries that it has drained, and the number that they left in their lines' records (R332). -/
  drained : List RedEntry := []
  guess : Nat := 0
  /-- Pulls that its acquire makes: core, release number, one-way time. -/
  pulls : List (Nat × Nat × Nat) := []
  after : RelThen
  deriving DecidableEq, Repr

/-! ## Engines -/

/-- The three kinds of engine (R160): the copy engine of a core, the gather engine of a column, the collective
engine of a tower. -/
inductive Engine where
  | copy (core : Nat) | gather (column : Nat) | collective (tower : Nat)
  deriving DecidableEq, Repr

/-- A region of a card (R157). -/
structure Region where
  space : Nat
  size : Nat
  base : Nat
  deriving DecidableEq, Repr

/-- A request of a running card (R165): its place in the destination, its bytes, how far it has come (0 being read, 1 at the
engine, 2 being written), the accesses that it waits for, what has been read by offset, its data, and its fault. -/
structure JobReq where
  dst : Nat := 0
  n : Nat := 0
  stage : Nat := 0
  waits : List Nat := []
  parts : List (Nat × List Byte) := []
  data : List Byte := []
  bad : Option (BitVec 8 × Nat) := none
  deriving DecidableEq, Repr

/-- How far a running card has come (R126, R127, R158, R165): its cursor by row and offset, the number of its next request,
the cycle from which its requests are paced and their count since, its requests, the pages it has looked up, and the
requests that wait for a walk (none for the next to be issued). -/
structure Job where
  row : Nat := 0
  off : Nat := 0
  next : Nat := 0
  base : Nat := 0
  paced : Nat := 0
  reqs : Tab JobReq := []
  pages : List Nat := []
  walkers : List (Nat × Option Nat) := []
  /-- A turn to issue is due; everything is issued; requests from a number on are dropped, after a fault (R167). -/
  turning : Bool := false
  drained : Bool := false
  limit : Option Nat := none
  /-- The parts of a gather's index list that it has read, none for a poisoned index, how many parts it has asked for, how many
  elements it has packed, and the packed bytes not yet sent (R127). -/
  lists : Tab (List (Option Nat)) := []
  asked : Nat := 0
  packed : Nat := 0
  bytes : List Byte := []
  /-- The cards of a collective, rising by tower; the pieces on their way to this one, each with its cycle; and how many it
  has still to write (R158, R164). -/
  group : List Nat := []
  pieces : List (Nat × Nat × List Byte) := []
  left : Nat := 0
  deriving DecidableEq, Repr

/-- A posted job card (R156 to R163). -/
structure Card where
  engine : Engine
  seq : Nat
  ctx : Nat
  tag : BitVec 3
  core : Nat
  node : Nat
  chunk : Option Nat := none
  /-- The local range the posting workgroup held (R157). -/
  localBase : Nat
  localSize : Nat
  subop : Nat
  nr : Nat
  nw : Nat
  semf : Bool
  sem : Nat
  inc : Nat
  pa : Nat
  pb : Nat
  regions : List Region
  /-- Cards and tasks it waits for (R162), and the pull of R339. -/
  edges : List Nat := []
  taskEdges : List Nat := []
  pull : Option Nat := none
  running : Bool := false
  job : Job := {}
  /-- 0: read from local memory; 1: at the scheduler, waiting for room; 2: posted; 3: it has left its queue, and its
  requests from before its fault or its end go on (R167, R168). -/
  stage : Nat := 0
  /-- The cycle in which it reaches the scheduler (R159); its fault has been recorded, and it leaves once its earlier requests are
  over (R167). -/
  due : Nat := 0
  reported : Bool := false
  /-- The core and release number of its JOB (R339). -/
  record : Option (Nat × Nat) := none
  /-- The word that waits for sd, and whether it is JOBQ. -/
  flight : Option Nat := none
  jobq : Bool := false
  /-- What its fault records, once the engine has found one (R167). -/
  fault : Option (BitVec 8 × Nat) := none
  deriving DecidableEq, Repr

/-- An accepted matrix operation (R258 to R271): its word's number, its parameter block, its N, and the slots of the
barges that hold its accumulators; once started, its column groups as 16 registers of 32 words. -/
structure MmaOp where
  id : Nat
  barge : Nat
  wg : Nat
  ctx : Nat
  param : List Byte
  n : Nat
  dst : BitVec 7
  entry : Entry
  localBase : Nat
  slots : List Nat
  accepted : Nat
  /-- Rows of a global A and its scale entries, once they are fetched. -/
  fetched : Option (List (List Byte) × List Nat) := none
  started : Bool := false
  startAt : Nat := 0
  /-- Where a local A is streamed from local memory: the cycle in which the stream ends, and the cycles by which accesses
  of barges have held it up (R266). -/
  streamEnd : Nat := 0
  late : Nat := 0
  /-- Skipped layers, and the cycle in which its last group is full. -/
  skip : BitVec 4 := 0
  endAt : Nat := 0
  groups : List (List (List Word)) := []
  report : Dword := 0
  deriving DecidableEq, Repr

/-- Room on a core that has come free and that its count does not report yet: the cycle from which it does, the barge slot,
its registers, and the local range (R370). -/
structure Leaving where
  until_ : Nat
  slot : Option Nat := none
  regs : Nat := 0
  base : Nat := 0
  size : Nat := 0
  deriving DecidableEq, Repr

/-- MTX_LAYER_nnn (Table 12.5, R263). -/
structure MtxLayers where
  throtC : BitVec 8 := 105
  locked : Bool := false
  throttled : BitVec 4 := 0
  failed : BitVec 4 := 0
  deriving DecidableEq, Repr

/-- A line request of a word before the L1's tag stage: the word, the number of its line, and the first cycle for it
(R181, R185). -/
structure TagReq where
  flight : Nat
  line : Nat
  due : Nat
  deriving DecidableEq, Repr

/-- Everything a core holds besides its barges. -/
structure Core where
  seq : BitVec 16 := 0
  l1 : Tab L1Set := []
  fills : Nat := 0
  /-- The next cycle in which a write-back may leave (R307). -/
  wayOut : Nat := 0
  /-- Line requests in the order in which they pass the tag stage, the next cycle in which one may, and the cycle of the
  turn that is due (R185). -/
  tagQueue : List TagReq := []
  tagFree : Nat := 0
  tagTurn : Option Nat := none
  localMem : Sparse 8 := []
  localPoison : List Nat := []
  tile : Sparse 8 := []
  tileCtx : Option Nat := none
  sems : Tab Sem := []
  /-- Atomic buffers of the four quarters, and the next insertion number of each (R315). -/
  reds : Tab (List RedEntry) := []
  redNext : Tab Nat := []
  /-- The next cycle in which a drained entry may leave (R317). -/
  redOut : Nat := 0
  /-- Core TLB, most recently used first (R89). -/
  tlb : List TlbEntry := []
  copySeq : Nat := 0
  mmas : List MmaOp := []
  layers : MtxLayers := {}
  /-- Read and write signatures of each chunk slot, and the context that owns the pair (R341). -/
  sigRead : Tab (Sparse 1) := []
  sigWrite : Tab (Sparse 1) := []
  sigCtx : Tab Nat := []
  /-- Next cycle at which a unit of a quarter accepts: unit number 8·quarter + unit (R198). -/
  units : Tab Nat := []
  /-- Last issue cycle of each quarter (R375). -/
  lastIssue : Tab Nat := []
  netBusy : Nat := 0
  leaving : List Leaving := []
  localBusy : Nat := 0
  /-- Cycles in which words of barges hold the banks: the first and how many, for those not long past (R188, R266). -/
  localUses : List (Nat × Nat) := []
  /-- Streams of a local A: the cycle of the next access, and how many are left (R188, R266). -/
  streams : List (Nat × Nat) := []
  tileBusy : Nat := 0
  boxBusy : Nat := 0
  triBusy : Nat := 0
  sampleBusy : Nat := 0
  basins : Tab Basin := []
  deriving DecidableEq, Repr

/-- A memory column (R109 to R128). -/
structure Column where
  cur : BitVec 2 := 1
  scr : BitVec 2 := 1
  busy : Bool := false
  repairs : Tab Repair := []
  testGroup : BitVec 5 := 0
  testPat : BitVec 33 := 0
  captDone : Bool := false
  capt : BitVec 33 := 0
  locked : Bool := false
  retired : Bool := false
  /-- Physical wires stuck at a level, numbered 33·group + wire (an input from outside, R426). -/
  stuck : Tab Bool := []
  /-- Stacked-cache ways, numbered 16·set + way, and the node bits of each set (R118, R439). -/
  ways : Tab CacheWay := []
  bits : Tab (BitVec 16) := []
  gatherSeq : Nat := 0
  /-- Write-buffer entries not yet committed, by bank (R125). -/
  buffers : Tab Nat := []
  pooledPoison : List Nat := []
  /-- The first memory-layer cycle in which the bus is free, the cycle of the arbiter's next turn, and the cycles between
  which a test keeps it from granting (R113, R425). -/
  busFree : Nat := 0
  busTurn : Nat := 0
  /-- The memory-layer cycles of late in which an access was at its tag port; kept while a sweep goes on (R153). -/
  tagUses : List Nat := []
  testFrom : Nat := 0
  testUntil : Nat := 0
  deriving DecidableEq, Repr

/-- What a tower holds besides its cores and columns. -/
structure Tower where
  tsems : Tab Sem := []
  collSeq : Nat := 0
  walkCache : List WalkEntry := []
  temp : BitVec 10 := 0
  hot : Bool := false
  hotSeen : Bool := false
  /-- The memory-layer cycle of the latest clear of HOT_SEEN while HOT was 1 (Table 6.5). -/
  hotClear : Option Nat := none
  hotPending : Option (Nat × Bool) := none
  /-- The refresh counter CNT of the memory die (R128), as its lead over the clock: all four are cleared at reset, and a
  die's own counter need not keep in step with another's (Table 23.1). -/
  refreshLead : Nat := 0
  deriving DecidableEq, Repr

/-- What a package cluster holds besides its cores. -/
structure Cluster where
  tlb : Tab TlbEntry := []
  tlbBits : Tab (BitVec 16) := []
  slopeLimit : BitVec 16 := 2600
  allow : BitVec 8 := 255
  used : BitVec 8 := 0
  mhz : BitVec 16 := 1600
  lastStep : Nat := 0
  /-- Barges queued in the sluice and the cycle of the next wave (R351). -/
  sluice : List (List Nat × Nat) := []
  nextWave : Option Nat := none
  basins : Tab Basin := []
  deriving DecidableEq, Repr

/-! ## Contexts, work and the hub -/

/-- A state of a reach label (Table 7.1). -/
inductive LabelState where
  | free | live | committed | dead
  deriving DecidableEq, Repr

/-- A reach label of a context (R130, R138, R141, R151). -/
structure Label where
  state : LabelState := .free
  starved : Bool := false
  cause : BitVec 8 := 0
  quota : BitVec 24 := 0
  poolBase : BitVec 40 := 0
  poolSlots : BitVec 21 := 0
  poolUsed : BitVec 21 := 0
  /-- No further memory access of this label may issue (R147). -/
  held : Bool := false
  /-- Its state and STARVED as VERSION_MAP shows them, behind a commit or squash point (Table 7.6). -/
  shown : LabelState := .free
  shownStarved : Bool := false
  deriving DecidableEq, Repr

/-- A chunk slot (R154). -/
inductive ChunkState where
  | free | running | committed (seq : Nat) | dead
  deriving DecidableEq, Repr

/-- What a version event asks for (R142, R143, R145, R148). -/
inductive VerOp where
  | fork (mask : BitVec 8) (quota : BitVec 24)
  | commit (k : BitVec 3)
  | squash (mask : BitVec 8)
  | starved (l : BitVec 3)
  deriving DecidableEq, Repr

/-- A version event at the hub (R147, R150): what it asks for, the cycle of its arrival and its rank among those of one
hub cycle, the cycle from which its next phase is due, and the word that waits for its status. -/
structure VerEvent where
  what : VerOp
  arrived : Nat
  rank : Nat
  due : Nat
  flight : Option Nat := none
  /-- 0 not yet taken, 1 its hold on the way, 2 draining, 3 its acknowledgements collected (Table 7.6). -/
  phase : Nat := 0
  /-- The labels it holds, and those of them that starved in its drain. -/
  mask : BitVec 8 := 0
  lost : BitVec 8 := 0
  deriving DecidableEq, Repr

/-- A context (R358, R386, R131, R141, R154, R356). -/
structure Context where
  root : BitVec 39 := 0
  valid : Bool := false
  sys : Bool := false
  trapEntry : BitVec 56 := 0
  framesBase : BitVec 39 := 0
  framesSlots : BitVec 17 := 0
  framesUsed : List Nat := []
  saveBase : BitVec 44 := 0
  killBusy : Bool := false
  killDone : Bool := false
  killHost : Bool := false
  killCause : BitVec 8 := 0
  killAwaits : List Nat := []
  forkSeq : BitVec 16 := 0
  clabel : BitVec 3 := 0
  labels : Tab Label := []
  chunks : Tab ChunkState := []
  commitSeq : Nat := 0
  events : List VerEvent := []
  watchdog : Nat := 0
  /-- Hub cycle of the latest retired instruction, for R356. -/
  retired : Nat := 0
  /-- Cores vacated for it (R402). -/
  vacated : List Nat := []
  deriving DecidableEq, Repr

/-- A launch packet as taken (Table 17.3), or a node waiting, held, ready or running in the wharf. -/
inductive NodeState where
  /-- The descriptor is being read and checked. -/
  | checking
  | waiting
  | held
  | ready
  /-- Kept after a chunked abort until FAULT_RESUME (R397). -/
  | faulted
  /-- A chunked task that overflowed pool 0, until VPOOL_USED_0 is 0 (R142). -/
  | starved
  | placed
  | done
  deriving DecidableEq, Repr

/-- The kernel descriptor's fields (Table 17.5). -/
structure Kernel where
  entry : Nat := 0
  regs : Nat := 8
  localSize : Nat := 0
  wgx : Nat := 0
  wgy : Nat := 0
  wgz : Nat := 0
  gang : Option Nat := none
  chunked : Bool := false
  idem : Bool := false
  reachOk : Bool := false
  perf : BitVec 3 := 0
  fctl : Fctl := {}
  pmask : BitVec 32 := 0
  poff : List Nat := []
  /-- Declared regions: write?, scalar register, bytes. -/
  footprints : List (Bool × Nat × Nat) := []
  deriving DecidableEq, Repr

/-- A node of the wharf (R361 to R373). -/
structure Node where
  ctx : Nat
  queue : Nat
  state : NodeState
  arrival : Nat
  readySince : Nat := 0
  kdesc : Nat := 0
  prio : Nat := 0
  args : Nat := 0
  reach : BitVec 3 := 0
  /-- The label its launch named, for a hold or a cancellation. -/
  label : BitVec 3 := 0
  hold : Bool := false
  coloc : Bool := false
  gfx : Bool := false
  gx : Nat := 0
  gy : Nat := 0
  gz : Nat := 0
  retry : Nat := 0
  sigAddr : Nat := 0
  pmap : Nat := 0
  sigVal : BitVec 32 := 0
  waitVal : BitVec 32 := 0
  preds : List Nat := []
  predsMet : List Bool := []
  kernel : Kernel := {}
  /-- The next unit to place, the units to place again with their relaunches, and how many workgroups have ended. -/
  nextUnit : Nat := 0
  again : List (Nat × Nat) := []
  ended : Nat := 0
  /-- Global regions of a running task (R162). -/
  regions : List (Bool × Nat × Nat) := []
  cancelled : Bool := false
  reformed : Bool := false
  chunkSlot : Option Nat := none
  taskSet : Option Nat := none
  desc : List Byte := []
  barriers : Tab Barrier := []
  flushing : List Nat := []
  /-- How often the whole task has been relaunched, and whether its release has been made (R373, R399). -/
  relaunched : Nat := 0
  released : Bool := false
  draw : Option Nat := none
  /-- The cores that hold or held its workgroups, and the cycle from which it may be placed (R374, R405). -/
  cores : List Nat := []
  readyAt : Nat := 0
  deriving DecidableEq, Repr

/-- A gang placed on a cluster (R344). -/
structure Gang where
  node : Nat
  cluster : Nat
  members : List Nat
  barriers : Tab Barrier := []
  deriving DecidableEq, Repr

/-- A queue (Table 17.2) with its slots as bytes; an unlisted slot reads 0. -/
structure Queue where
  en : Bool := false
  cap : BitVec 8 := 255
  agek : BitVec 4 := 4
  ctx : BitVec 8 := 0
  tail : BitVec 6 := 0
  head : BitVec 6 := 0
  slots : Sparse 8 := []
  /-- The cycle from which the wharf may take a slot that a write has made full (R374); any slot not listed, at once. -/
  takeAt : Tab Nat := []
  deriving DecidableEq, Repr

/-- A queued flip (R380). -/
structure Flip where
  ctx : Nat
  surface : Nat
  fallback : Nat
  tag : BitVec 3
  queuedAt : Nat
  /-- Its label was squashed, or committed at this hub cycle. -/
  squashed : Bool := false
  committedAt : Option Nat := none
  deriving DecidableEq, Repr

/-- A display head (Tables 17.8 and 17.10). -/
structure Head where
  lines : BitVec 16 := 16
  count : BitVec 8 := 0
  last : BitVec 2 := 0
  en : Bool := false
  fmt : BitVec 4 := 0
  vact : BitVec 14 := 0
  hact : BitVec 14 := 0
  vtotal : BitVec 16 := 0
  htotal : BitVec 16 := 0
  pclk : BitVec 32 := 0
  /-- The values under which the frame in progress runs, and its first hub cycle. -/
  running : Option (BitVec 14 × BitVec 14 × BitVec 16 × BitVec 16 × BitVec 32 × BitVec 4) := none
  frameStart : Nat := 0
  flips : List Flip := []
  /-- Surface shown with the context that queued it. -/
  shown : Option (Nat × Nat) := none
  deriving DecidableEq, Repr

/-- A record of FAULT_LOG (Table 18.8). -/
structure FaultRecord where
  noframe : Bool
  kind : Bool
  cause : BitVec 8
  ctx : Nat
  node : Nat
  frame : Nat
  va : Dword
  deriving DecidableEq, Repr

/-- A migration slot (Table 4.4). -/
structure Migration where
  src : BitVec 40 := 0
  dst : BitVec 40 := 0
  state : BitVec 2 := 0
  busyFail : Bool := false
  units : BitVec 14 := 0
  /-- Held writes in the order they arrived. -/
  held : List Nat := []
  /-- Write-backs of the lock that are not yet acknowledged. -/
  awaits : List Nat := []
  deriving DecidableEq, Repr

/-- A fabric-pool window (Table 5.4). -/
structure PoolWin where
  en : Bool := false
  size : BitVec 21 := 0
  base : BitVec 21 := 0
  fabric : BitVec 22 := 0
  deriving DecidableEq, Repr

/-- GDDR_ECC_nn (Table 5.3). -/
structure GddrEcc where
  uePa : BitVec 52 := 0
  ceCount : BitVec 10 := 0
  poisoned : Bool := false
  deriving DecidableEq, Repr

/-- A saved workgroup (R403 to R406): its number, the core it stood on, its barges with their slots, the poison of its
local range, the virtual address of its record, and whether the command that saved it was the graphics save. -/
structure SaveRec where
  ctx : Nat
  core : Nat
  id : Nat
  wg : Workgroup
  barges : Tab Barge
  localPoison : List Nat
  base : Nat
  gfx : Bool
  /-- Its gang, where it belongs to one. -/
  gang : Option (Nat × Gang) := none
  deriving DecidableEq, Repr

/-- The saved tile store of a vacated core, and the virtual address at which it lies (R404). -/
structure SaveTile where
  ctx : Nat
  core : Nat
  base : Nat
  deriving DecidableEq, Repr

/-- A GDDR channel (R368): the cycle from which it takes its next command, whether its last commands, the latest first, were
the partition's, and the transactions that wait for it, each with its 256-B granule and the cycle of its arrival. -/
structure Channel where
  free : Nat := 0
  grants : List Bool := []
  waiting : List (Nat × Nat × Nat) := []
  deriving DecidableEq, Repr

/-- The registers of the hub that belong to no context, column or core. -/
structure Hub where
  ctxSel : BitVec 8 := 0
  vctxSel : BitVec 8 := 0
  colSel : BitVec 8 := 0
  semSel : BitVec 17 := 0
  tlbiScope : BitVec 2 := 0
  tlbiCtx : BitVec 8 := 0
  tlbiVa : BitVec 40 := 0
  tlbiDone : Bool := false
  tlbiBusy : Bool := false
  /-- The cycle of the latest GO, and the cycles that walks in flight have added to it (R92). -/
  tlbiFrom : Nat := 0
  tlbiExtra : Nat := 0
  /-- The number from which requests have come after the latest GO. -/
  tlbiId : Nat := 0
  hostWin : BitVec 21 := 0
  pools : Tab PoolWin := []
  ecc : Tab GddrEcc := []
  channels : Tab Channel := []
  /-- The latest answer to a read of GDDR by the host: the line, its bytes, and the poison indication (R102, R105). -/
  hostReply : Option (Nat × List Byte × Bool) := none
  migs : Tab Migration := []
  latch : Tab (BitVec 64) := []
  latchStaging : Tab (BitVec 64) := []
  latchTime : BitVec 64 := 0
  latchSeq : BitVec 32 := 0
  /-- The hub cycle of the latest PUBLISH, and data, SEQ and TIME from before it (R155). -/
  latchBefore : Option (Nat × Tab (BitVec 64) × BitVec 32 × BitVec 64) := none
  latchTsem : BitVec 8 := 0
  latchTowers : BitVec 4 := 0
  queues : Tab Queue := []
  lastQueue : Nat := 63
  /-- Hub cycle of each partition's latest placement (R367). -/
  dispatched : Tab Nat := []
  wharfFaultValid : Bool := false
  wharfFaultCtx : BitVec 8 := 0
  wharfFaultQueue : BitVec 6 := 0
  wharfFaultCause : BitVec 8 := 0
  /-- The wharf's descriptor cache: addresses with their context, most recent first (R374). -/
  descCache : List (Nat × Nat) := []
  launched : Bool := false
  heads : Tab Head := []
  watchdogLimit : BitVec 32 := 0x01000000
  watchdogOver : Bool := false
  watchdogFired : Bool := false
  watchdogCtx : BitVec 8 := 0
  preemptCmd : BitVec 3 := 0
  preemptK : BitVec 8 := 0
  preemptCtx : BitVec 8 := 0
  preemptBusy : Bool := false
  preemptDone : Bool := false
  preemptCount : BitVec 8 := 0
  /-- The context whose graphics save is under way: its front end stands (R406). -/
  gfxHalt : Option Nat := none
  faultLog : List FaultRecord := []
  faultOvf : Bool := false
  faultVa : BitVec 64 := 0
  fatalPa : BitVec 52 := 0
  fatalValid : Bool := false
  fatalCause : BitVec 8 := 0
  bootBusy : Bool := false
  bootDone : Bool := false
  bootKilled : Bool := false
  bootNocore : Bool := false
  bootKdesc : BitVec 56 := 0
  bootArg : BitVec 64 := 0
  bootNode : Option Nat := none
  pwrLimit : BitVec 9 := 360
  pwrCeil : BitVec 3 := 7
  pwrWatts : BitVec 9 := 0
  partClusters : BitVec 48 := 0x800000800000
  partFloor : BitVec 7 := 6
  bootLen : BitVec 24 := 0
  bootErr : BitVec 4 := 0
  bootState : BitVec 2 := 0
  staging : Sparse 8 := []
  attestLog : BitVec 384 := 0
  attestNonce : BitVec 384 := 0
  attestDone : Bool := false
  /-- The digest that a running quote signs (R412). -/
  quote : Option Nat := none
  attestSig : Tab (BitVec 64) := []
  taskSets : List Nat := []
  deriving DecidableEq, Repr

/-! ## Graphics -/

/-- A draw in progress (R282 to R298): the 128-B descriptor it runs under, and what each tower has done with it. -/
structure Draw where
  node : Nat
  ctx : Nat
  desc : List Byte
  number : Nat
  label : BitVec 3 := 0
  pixel : Kernel := {}
  faulted : Bool := false
  towersDone : List Nat := []
  /-- It has left the order of draws: its context is being killed (R288). -/
  dropped : Bool := false
  deriving DecidableEq, Repr

/-- A primitive exported by a vertex program (R286): its vertices as twelve words, where and when. -/
structure Prim where
  draw : Nat
  seq : Nat
  tower : Nat
  verts : List Word
  token : Bool := false
  /-- The cycle from which a window may release it. -/
  arrive : Nat := 0
  deriving DecidableEq, Repr

/-- Setup, the reorder window, rasteriser and blender of a tower (R287, R288, R294, Table 18.10). -/
structure GfxTower where
  /-- Exports that have reached setup, with their place in its order: cycle, core, slot, lane. -/
  setup : List (List Nat × Prim) := []
  /-- The next cycle in which setup may take exports; the cycle of the blender's latest write, and the bytes it has written in
  it (R287, R288). -/
  nextSetup : Nat := 0
  blendAt : Nat := 0
  blended : Nat := 0
  base : Nat := 0
  draw : Option Nat := none
  window : Tab Prim := []
  /-- The next cycle in which entries may be released, and the cycle until which the rasteriser is busy. -/
  nextRelease : Nat := 0
  rastBusy : Nat := 0
  /-- Quads packed in release order: the cycle from which each stands, its draw, its four pixels. -/
  quads : List (Nat × Nat × List Pixel) := []
  openDraw : Nat := 0
  openBarge : List Pixel := []
  openSince : Nat := 0
  /-- Closed pixel barges that wait for a core. -/
  closed : List (Nat × List Pixel) := []
  /-- Pixels with retires pending: the primitives that cover each, in release order (R294). -/
  pendingPix : Tab (List Nat) := []
  /-- Retires under way: the cycle from which each may be applied, its draw, its pixel. -/
  retires : Tab (Nat × Nat × Pixel) := []
  /-- Draws whose bins the tower has written (R290). -/
  bins : List Nat := []
  deriving DecidableEq, Repr

/-- What pre-emption has saved of a context's graphics state: the draws, and each tower's unit (R406). -/
structure SaveGfx where
  ctx : Nat
  draws : Tab Draw
  towers : Tab GfxTower
  deriving DecidableEq, Repr

/-! ## The machine -/

/-- The state of the part (INVENTORY.md, "## State"). -/
structure State where
  /-- Core cycles since reset, and whether the part is powered (R395, R413). -/
  now : Nat
  powered : Bool
  /-- Steps that fall due, by cycle; equal cycles in the order they were posted (log 5). -/
  agenda : List (Nat × Event)
  /-- What the event being taken acts on; empty between steps. -/
  args : List Nat
  /-- Counters of the model: transaction and unit numbers (log 5), and free values (log 4). -/
  nextId : Nat
  freeIdx : Nat
  /-- The word being issued in this step. -/
  issue : Option Issue
  mem : Memory
  /-- Bytes written in the step being taken, oldest first; empty between steps. -/
  pending : List Host.Cell
  lines : Tab LineMeta
  versions : List Version
  snoop : List SnoopEntry
  columns : Tab Column
  towers : Tab Tower
  clusters : Tab Cluster
  cores : Tab Core
  /-- Resident barges by 512·core + slot. -/
  barges : Tab Barge
  wgs : Tab Workgroup
  gangs : Tab Gang
  ctxs : Tab Context
  nodes : Tab Node
  flights : Tab Flight
  txns : Tab Txn
  rels : Tab Rel
  walks : Tab Walk
  cards : Tab Card
  draws : Tab Draw
  gfx : Tab GfxTower
  saves : List SaveRec
  saveTiles : List SaveTile
  saveGfx : List SaveGfx
  hub : Hub
  deriving DecidableEq, Repr

/-- The machine right after reset (R5, R13, R69, R169, R175, R183, R330, R372, R395, R413 and the reset columns
of the register maps). -/
def State.reset : State where
  now := 0
  powered := true
  agenda := []
  args := []
  nextId := 1
  freeIdx := 0
  issue := none
  mem := []
  pending := []
  lines := []
  versions := []
  snoop := []
  columns := []
  towers := []
  clusters := []
  cores := []
  barges := []
  wgs := []
  gangs := []
  ctxs := []
  nodes := []
  flights := []
  txns := []
  rels := []
  walks := []
  cards := []
  draws := []
  gfx := []
  saves := []
  saveTiles := []
  saveGfx := []
  hub := {}

/-! ## Access to the parts -/

/-- A column; one not listed holds its reset values. -/
def State.column (s : State) (n : Nat) : Column := (s.columns.look n).getD {}
/-- A tower. -/
def State.tower (s : State) (n : Nat) : Tower := (s.towers.look n).getD {}
/-- A package cluster. -/
def State.cluster (s : State) (n : Nat) : Cluster := (s.clusters.look n).getD {}
/-- A core. -/
def State.core (s : State) (n : Nat) : Core := (s.cores.look n).getD {}
/-- A context. -/
def State.ctx (s : State) (n : Nat) : Context := (s.ctxs.look n).getD {}
/-- What the part keeps for a line. -/
def State.line (s : State) (n : Nat) : LineMeta := (s.lines.look n).getD {}
/-- The graphics unit of a tower. -/
def State.gfxTower (s : State) (n : Nat) : GfxTower := (s.gfx.look n).getD {}
/-- The barge in a slot. -/
def State.barge (s : State) (core slot : Nat) : Option Barge := s.barges.look (512 * core + slot)

/-- Replace a column. -/
def State.setColumn (s : State) (n : Nat) (c : Column) : State := { s with columns := s.columns.put n c }
/-- Replace a tower. -/
def State.setTower (s : State) (n : Nat) (c : Tower) : State := { s with towers := s.towers.put n c }
/-- Replace a cluster. -/
def State.setCluster (s : State) (n : Nat) (c : Cluster) : State := { s with clusters := s.clusters.put n c }
/-- Replace a core. -/
def State.setCore (s : State) (n : Nat) (c : Core) : State := { s with cores := s.cores.put n c }
/-- Replace a context. -/
def State.setCtx (s : State) (n : Nat) (c : Context) : State := { s with ctxs := s.ctxs.put n c }
/-- Replace what is kept for a line. -/
def State.setLine (s : State) (n : Nat) (c : LineMeta) : State := { s with lines := s.lines.put n c }
/-- Replace a tower's graphics unit. -/
def State.setGfx (s : State) (n : Nat) (c : GfxTower) : State := { s with gfx := s.gfx.put n c }
/-- Replace the barge in a slot. -/
def State.setBarge (s : State) (core slot : Nat) (b : Barge) : State :=
  { s with barges := s.barges.put (512 * core + slot) b }
/-- Replace the hub's registers. -/
def State.setHub (s : State) (h : Hub) : State := { s with hub := h }

end Sys2Proof.Machine
end

