-- ==== Sys2Proof/Machine/Phys.lean ====
section
/-!
DEFINITION. Where things are: core, cluster, tower and column numbers (R12), the physical map (R97, R98), channels
and homes (R99, R100), the columns and sets of the stacked cache (R109, R115 to R117), the pooled scratchpad
(R120, R121), clock domains and refresh (R2, R128).
-/
namespace Sys2Proof.Machine
open Sys2Proof

/-! ## Numbering and clocks (R2, R12, R15) -/

/-- Tower of a core or column. -/
def towerOf (n : Nat) : Nat := n / 48
/-- Package cluster of a core or column. -/
def clusterOf (n : Nat) : Nat := n / 4
/-- Quarter of a barge slot. -/
def quarterOf (slot : Nat) : Nat := slot / 128
/-- Tower of a package cluster. -/
def clusterTower (g : Nat) : Nat := g / 12
/-- Key of a barge. -/
def bargeKey (core slot : Nat) : Nat := 512 * core + slot

/-- Hub cycle of a core cycle: 1.6 GHz against 2.6 GHz. DESIGN CHOICE (log 50): one clock of 2.6 GHz counts the core
cycles of every cluster, whatever frequency a cluster runs at. -/
def hubCycle (t : Nat) : Nat := t * 8 / 13
/-- First core cycle of a hub cycle. -/
def ofHubCycle (h : Nat) : Nat := (h * 13 + 7) / 8
/-- Memory-layer cycle of a core cycle: 800 MHz against 2.6 GHz. -/
def layerCycle (t : Nat) : Nat := t * 4 / 13
/-- First core cycle of a memory-layer cycle. -/
def ofLayerCycle (m : Nat) : Nat := (m * 13 + 3) / 4
/-- Quotient rounded up. -/
def ceilDiv (a b : Nat) : Nat := (a + b - 1) / b
/-- Extra cycles of the n-th 256-B transfer on one bus, n from 1 (R113). -/
def busGap (n : Nat) : Nat := ceilDiv (13 * (n - 1)) 4

/-- Bits [lo + w − 1 : lo] of a number. -/
def field (x lo w : Nat) : Nat := x / 2 ^ lo % 2 ^ w

/-! ## The physical map (Table 5.1) -/

/-- Where a physical address lies. -/
inductive Place where
  | gddr
  | aperture (column offset : Nat)
  | host (offset : Nat)
  | pool (offset : Nat)
  | nowhere
  deriving DecidableEq, Repr

/-- First address of the stacked-memory aperture. -/
def apertureBase : Nat := 0x1000000000
/-- First address of the host window. -/
def hostBase : Nat := 0x1000000000000
/-- First address of the fabric-pool window. -/
def poolBase : Nat := 0x8000000000000

/-- The range of Table 5.1 an address lies in. -/
def placeOf (pa : Nat) : Place :=
  if pa < 0xB40000000 then .gddr
  else if apertureBase ≤ pa ∧ pa < apertureBase + 192 * 2 ^ 26 then
    .aperture ((pa - apertureBase) / 2 ^ 26) ((pa - apertureBase) % 2 ^ 26)
  else if hostBase ≤ pa ∧ pa < poolBase then .host (pa - hostBase)
  else if poolBase ≤ pa ∧ pa < 2 * poolBase then .pool (pa - poolBase)
  else .nowhere

/-- Aperture address of a column's byte. -/
def aperturePa (column offset : Nat) : Nat := apertureBase + column * 2 ^ 26 + offset

/-- The lowest enabled fabric-pool window that maps an offset (R98). -/
def poolWindow (h : Hub) (o : Nat) : Option (Nat × PoolWin) :=
  h.pools.find? fun (_, w) =>
    w.en && decide (w.base.toNat * 2 ^ 30 ≤ o)
      && decide (o < min (w.base.toNat + w.size.toNat) (2 ^ 21) * 2 ^ 30)

/-- Fabric address of an offset in the pool window (R98). -/
def fabricAddress (h : Hub) (o : Nat) : Option Nat :=
  (poolWindow h o).map fun (_, w) => w.fabric.toNat * 2 ^ 30 + (o - w.base.toNat * 2 ^ 30)

/-! ## Columns (R109, R115, R116) -/

/-- Positions of a cluster's retired columns. -/
def retiredIn (s : State) (g : Nat) : List Nat :=
  (List.range 4).filter fun k => (s.column (4 * g + k)).retired

/-- Is the cluster out of service: a second retirement (R116)? -/
def clusterDead (s : State) (g : Nat) : Bool := decide (2 ≤ (retiredIn s g).length)

/-- The substitute of the column at position k: the first column from k + 1 upward whose bus is not retired. -/
def substitute (s : State) (g k : Nat) : Nat :=
  (([1, 2, 3].map fun j => (k + j) % 4).find? fun p => !(s.column (4 * g + p)).retired).getD k

/-- Scratchpad bytes S of a column. -/
def scratchSize (s : State) (n : Nat) : Nat := (s.column n).cur.toNat * 16 * 2 ^ 20

/-- Hosted bytes H of a retired column in its substitute (R115). -/
def hostedSize (s : State) (n : Nat) : Nat :=
  let sub := 4 * clusterOf n + substitute s (clusterOf n) (n % 4)
  let m := 48 * 2 ^ 20
  min (scratchSize s n) (min (m - scratchSize s n) (m - scratchSize s sub))

/-- The retired column a column hosts, where it hosts one. -/
def hosts (s : State) (n : Nat) : Option Nat :=
  if (s.column n).retired || clusterDead s (clusterOf n) then none
  else
    match retiredIn s (clusterOf n) with
    | [k] => if substitute s (clusterOf n) k = n % 4 then some (4 * clusterOf n + k) else none
    | _ => none

/-- Bytes of a column's hosted part. -/
def hostedPart (s : State) (n : Nat) : Nat :=
  match hosts s n with
  | some k => hostedSize s k
  | none => 0

/-- Sets of a column's cache part (R117). -/
def cacheSets (s : State) (n : Nat) : Nat := (2 ^ 26 - scratchSize s n - hostedPart s n) / 2048

/-- Is an aperture offset populated (R121)? -/
def aperturePopulated (s : State) (n o : Nat) : Bool :=
  !clusterDead s (clusterOf n) && !(s.column n).retired
    && decide (o < scratchSize s n + hostedPart s n)

/-- Is a physical address populated (R75, R97, R98, R121)? -/
def populated (s : State) (pa : Nat) : Bool :=
  match placeOf pa with
  | .gddr => true
  | .aperture n o => aperturePopulated s n o
  | .host o => decide (o < min s.hub.hostWin.toNat 1835008 * 2 ^ 30)
  | .pool o => (poolWindow s.hub o).isSome
  | .nowhere => false

/-! ## Channels, homes and columns of lines (R99, R100, R117) -/

/-- Channel of a GDDR address (R99). -/
def channelOf (pa : Nat) : Nat :=
  let z := field pa 10 26 % 3
  let y := Nat.xor (Nat.xor (field pa 8 2) (field pa 16 2)) (Nat.xor (field pa 24 2) (field pa 32 2))
  4 * z + y

/-- Channel offset of a GDDR address (R99). -/
def channelOffset (pa : Nat) : Nat := field pa 10 26 / 3 * 256 + pa % 256

/-- Channel offset of the metadata word of a GDDR line (R101). -/
def metaOffset (pa : Nat) : Nat := 0xF0000000 + channelOffset (pa / 128 * 128) / 128 * 8

/-- Home tower of an address (R100). -/
def homeTower (pa : Nat) : Nat :=
  Nat.xor (Nat.xor (Nat.xor (field pa 12 2) (field pa 18 2)) (Nat.xor (field pa 26 2) (field pa 36 2)))
    (field pa 46 2)

/-- Line address PA[51:7]. -/
def lineOf (pa : Nat) : Nat := pa / 128

/-- In-tower column a line selects (R117). -/
def lineSelect (x : Nat) : Nat :=
  let y := x / 3
  16 * (x % 3) + Nat.xor (Nat.xor (field y 0 4) (field y 4 4)) (Nat.xor (field y 8 4) (field y 12 4))

/-- The column of a tower that caches a line: the selected one, or its substitute; none in a dead cluster. -/
def columnOf (s : State) (tower x : Nat) : Option Nat :=
  let n := 48 * tower + lineSelect x
  if clusterDead s (clusterOf n) then none
  else if (s.column n).retired then some (4 * clusterOf n + substitute s (clusterOf n) (n % 4))
  else some n

/-- Set of a line in a column (R117). -/
def setOf (s : State) (column x : Nat) : Nat := x / 3 / 16 % max 1 (cacheSets s column)

/-- The home column of a line, or the selected one where its cluster is dead; an aperture line is at its own
column (R121). -/
def homeColumn (s : State) (x : Nat) : Nat :=
  match placeOf (x * 128) with
  | .aperture n _ => n
  | _ =>
    let t := homeTower (x * 128)
    (columnOf s t x).getD (48 * t + lineSelect x)

/-- Does a line lie in the aperture, which no cache holds (R121)? -/
def inAperture (x : Nat) : Bool :=
  match placeOf (x * 128) with
  | .aperture _ _ => true
  | _ => false

/-- What a path from a core to a column adds over its own column (R17, R115). -/
def pathExtra (s : State) (core column : Nat) : Nat :=
  if core = column && !(s.column core).retired then 0
  else if clusterOf core = clusterOf column then 14
  else if towerOf core = towerOf column then 42
  else 170

/-- Cycles a bank access waits for refresh, arriving at core cycle t (R128). -/
def refreshWait (s : State) (column bank t : Nat) : Nat :=
  let p := if (s.tower (towerOf column)).hot then 1600 else 3200
  let cnt := layerCycle t + (s.tower (towerOf column)).refreshLead
  let o := (cnt + p * 48 - 2 * (column % 48) - p / 16 * bank) % p
  if o < 96 then ceilDiv (13 * (96 - o)) 4 else 0

/-! ## The pooled scratchpad (R120) -/

/-- The column and column offset of a pooled address of w bytes, or its cause. -/
def pooledPlace (s : State) (core a w : Nat) : Except (BitVec 8) (Nat × Nat) :=
  let g := clusterOf core
  let k := field a 26 2
  let o := a % 2 ^ 26
  let n := 4 * g + k
  if a / 2 ^ 28 ≠ 0 || clusterDead s g then .error 0x4B
  else if (s.column n).retired then
    if hostedSize s n ≤ o then .error 0x4B
    else if a % w ≠ 0 then .error 0x4C
    else
      let sub := 4 * g + substitute s g k
      .ok (sub, scratchSize s sub + o)
  else if scratchSize s n ≤ o then .error 0x4B
  else if a % w ≠ 0 then .error 0x4C
  else .ok (n, o)

/-- The pooled address under which a column offset is reached: of its own column, or of the retired one that it hosts (R115,
R120). -/
def pooledName (s : State) (n o : Nat) : Nat :=
  let size := scratchSize s n
  match decide (o < size), hosts s n with
  | false, some k => k % 4 * 2 ^ 26 + (o - size)
  | _, _ => n % 4 * 2 ^ 26 + o

/-- Extra cycles of a pooled access over the own column (R123): 14 to another column of the cluster, and for the
aperture the increments of R17. -/
def pooledExtra (s : State) (core column : Nat) : Nat := pathExtra s core column

/-- Cycles from issue to arrival in a column's write buffer (R123). -/
def pooledArrival (s : State) (core column : Nat) : Nat :=
  match pathExtra s core column with
  | 0 => 16
  | 14 => 23
  | 42 => 37
  | _ => 101

/-- Acknowledgement of an arrival at the barge (R125): 10 cycles from the own column, else the arrival path's
time again. -/
def pooledAck (s : State) (core column : Nat) : Nat :=
  match pathExtra s core column with
  | 0 => 10
  | _ => pooledArrival s core column

end Sys2Proof.Machine
end

