-- ==== Sys2Proof/Machine/Ops.lean ====
section
/-!
DEFINITION. The operations every step shares: the agenda, fresh numbers, the registers of a barge, prefix chains
(R30 to R37), the issue checks in the order of R47, moving past a word (R227, R228), and taking a trap (R384).
-/
namespace Sys2Proof.Machine
open Sys2Proof

/-- The order of two keys, as lists of numbers: is the first no later? -/
def keyLess : List Nat → List Nat → Bool
  | [], _ => true
  | _, [] => false
  | x :: xs, y :: ys => if x = y then keyLess xs ys else decide (x < y)

/-! ## Steps -/

/-- The end of a meaning: no word or event is under way. The bytes it wrote stand in the log of writes, which every read
of memory looks through first (`State.byteAt`), until the step ends. -/
def State.rest (s : State) : State := { s with issue := none, args := [] }

/-- A finished meaning. -/
def done (s : State) : Host.Outcome State Fault Refusal := .next s.rest

/-- The end of a step that began with a memory: the bytes in the log of writes are in memory. Memory changes here and
nowhere else, but that a loss of power leaves it empty (R413). -/
def State.land (m : Memory) (s : State) : State :=
  { s with mem := Memory.writeAll (if s.mem.isEmpty then [] else m) s.pending, pending := [] }

/-- Enter an event in an agenda, after those of the same cycle. -/
def agendaInsert (t : Nat) (e : Event) : List (Nat × Event) → List (Nat × Event)
  | [] => [(t, e)]
  | (u, f) :: r => if t < u then (t, e) :: (u, f) :: r else (u, f) :: agendaInsert t e r

/-- Let an event fall due after a delay. -/
def State.post (s : State) (delay : Nat) (what : Instr) (args : List Nat := []) : State :=
  { s with agenda := agendaInsert (s.now + delay) { what, args } s.agenda }

/-- Let an event fall due at a cycle, or now where that is past. -/
def State.postAt (s : State) (t : Nat) (what : Instr) (args : List Nat := []) : State :=
  { s with agenda := agendaInsert (max t s.now) { what, args } s.agenda }

/-- What the event being taken acts on, by position. -/
def State.arg (s : State) (k : Nat) : Nat := s.args.getD k 0

/-- A number not used before (log 5). -/
def State.fresh (s : State) : Nat × State := (s.nextId, { s with nextId := s.nextId + 1 })

/-- The next free value (log 4). -/
def State.free (s : State) : BitVec 64 × State :=
  (Config.freeValue s.freeIdx, { s with freeIdx := s.freeIdx + 1 })

/-- Change every entry of a table. -/
def Tab.mapVals {α : Type} (t : Tab α) (f : α → α) : Tab α := t.map fun p => (p.1, f p.2)

/-- Replace a barge where it is resident. -/
def State.onBarge (s : State) (core slot : Nat) (f : Barge → Barge) : State :=
  match s.barge core slot with
  | some b => s.setBarge core slot (f b)
  | none => s

/-- Lane i of a mask. -/
def laneOn (m : Mask) (i : Nat) : Bool := m.getLsbD i

/-- The lanes in which a predicate holds, as a mask. -/
def maskOf (p : Nat → Bool) : Mask :=
  BitVec.ofNat 32 ((List.range 32).foldl (fun acc i => if p i then acc + 2 ^ i else acc) 0)

/-- The lanes of a mask, rising. -/
def lanesIn (m : Mask) : List Nat := (List.range 32).filter (laneOn m)

/-- The lowest lane of a mask. -/
def lowestLane (m : Mask) : Option Nat := (List.range 32).find? (laneOn m)

/-- Slot number under which the words of a barge that has ended are kept; no barge slot is that high. -/
def ghost (wg : Nat) : Nat := 100000 + wg

/-- The workgroup such a slot number stands for. -/
def ghostWg (slot : Nat) : Option Nat := if 100000 ≤ slot then some (slot - 100000) else none

/-! ## Registers (R20, R21, R24, R25) -/

/-- v register r of a lane. -/
def Barge.vreg (b : Barge) (r lane : Nat) : Word := b.v.get (32 * r + lane)
/-- s register n. -/
def Barge.sreg (b : Barge) (n : Nat) : Dword := b.s.get n
/-- Write a lane of a v register. -/
def Barge.setV (b : Barge) (r lane : Nat) (w : Word) : Barge := { b with v := b.v.set (32 * r + lane) w }
/-- Write an s register. -/
def Barge.setS (b : Barge) (n : Nat) (x : Dword) : Barge := { b with s := b.s.set n x }
/-- Predicate p as a mask. -/
def Barge.pred (b : Barge) (p : BitVec 3) : Mask := b.preds.getD p.toNat 0
/-- Write a predicate in the lanes of a mask. -/
def Barge.setP (b : Barge) (p : BitVec 3) (lanes value : Mask) : Barge :=
  let m := (b.pred p &&& ~~~lanes) ||| (value &&& lanes)
  { b with preds := (List.range 8).map fun k => if k = p.toNat then m else b.preds.getD k 0 }

/-- The lanes in which a v register is empty. -/
def Barge.emptyLanes (b : Barge) (r : Nat) : Mask := (b.vEmpty.look r).getD 0
/-- Mark a v register empty in some lanes. -/
def Barge.markV (b : Barge) (r : Nat) (lanes : Mask) : Barge :=
  { b with vEmpty := b.vEmpty.put r (b.emptyLanes r ||| lanes) }
/-- Mark a v register full in some lanes. -/
def Barge.fillV (b : Barge) (r : Nat) (lanes : Mask) : Barge :=
  let m := b.emptyLanes r &&& ~~~lanes
  { b with vEmpty := if m = 0 then b.vEmpty.cut r else b.vEmpty.put r m }
/-- Mark an s register empty. -/
def Barge.markS (b : Barge) (n : Nat) : Barge := { b with sEmpty := b.sEmpty ||| (1#32 <<< n) }
/-- Mark an s register full. -/
def Barge.fillS (b : Barge) (n : Nat) : Barge := { b with sEmpty := b.sEmpty &&& ~~~(1#32 <<< n) }

/-- An operand that a word reads: its specifier, how many words a lane has of it, its empty policy, and the lanes
in which it is read where these are not the active ones (R229, R224). -/
structure Src where
  spec : BitVec 7
  words : Nat := 1
  policy : Bool := false
  lanes : Option Mask := none

/-- A destination: its specifier and the words a lane has of it. -/
structure Dst where
  spec : BitVec 7
  words : Nat := 1

/-- What was read from an operand: a scalar register, or the words of each lane. -/
inductive Val where
  | scalar (x : Dword)
  | vector (lanes : List (List Word))
  deriving DecidableEq, Repr

/-- Word k of an operand in a lane; a scalar supplies every lane (R20, R21). -/
def Val.word (v : Val) (lane k : Nat) : Word :=
  match v with
  | .scalar x => if k = 0 then x.extractLsb' 0 32 else if k = 1 then x.extractLsb' 32 32 else 0
  | .vector ls => (ls.getD lane []).getD k 0

/-- A 32-bit operand (R21). -/
def Val.w32 (v : Val) (lane : Nat) : Word := v.word lane 0

/-- A 64-bit operand, low word first (R21). -/
def Val.w64 (v : Val) (lane : Nat) : Dword := v.word lane 1 ++ v.word lane 0

/-- The scalar an operand holds. -/
def Val.dword (v : Val) : Dword :=
  match v with
  | .scalar x => x
  | .vector _ => v.w64 0

/-- The lanes in which an operand is read. -/
def Src.readLanes (src : Src) (active : Mask) : Mask :=
  if active = 0 then 0 else src.lanes.getD active

/-- Read an operand, in the lanes that the word reads. -/
def Barge.read (b : Barge) (active : Mask) (src : Src) : Val :=
  if isScalar src.spec then .scalar (b.sreg (src.spec.toNat - 96))
  else .vector ((List.range 32).map fun i =>
    if laneOn (src.readLanes active) i then (List.range src.words).map fun k => b.vreg (src.spec.toNat + k) i
    else [])

/-- Is an operand empty in a lane in which it is read (R26)? -/
def Barge.srcEmpty (b : Barge) (active : Mask) (src : Src) : Bool :=
  if active = 0 then false
  else if isScalar src.spec then b.sEmpty.getLsbD (src.spec.toNat - 96)
  else (List.range src.words).any fun k => decide (b.emptyLanes (src.spec.toNat + k) &&& src.readLanes active ≠ 0)

/-- Is a destination empty in an active lane (R27)? -/
def Barge.dstEmpty (b : Barge) (active : Mask) (d : Dst) : Bool :=
  b.srcEmpty active { spec := d.spec, words := d.words }

/-- Does an operand name a vector register at or above the allocation (R23)? -/
def Barge.unallocated (b : Barge) (spec : BitVec 7) (words : Nat) : Bool :=
  isVector spec && decide (b.regs < spec.toNat + words)

/-- A destination that the handler writes is no longer one that a captured word has left empty (R384, R389). -/
def Barge.unheld (b : Barge) (active : Mask) (d : Dst) : Barge :=
  { b with
    heldV := if isScalar d.spec then b.heldV
      else (List.range d.words).foldl (fun t k =>
        if (t.look (d.spec.toNat + k)).isSome then t.put (d.spec.toNat + k) ((t.look (d.spec.toNat + k)).getD 0 &&& ~~~active) else t) b.heldV
    heldS := if isScalar d.spec && decide (active ≠ 0) then b.heldS &&& ~~~(1#32 <<< (d.spec.toNat - 96)) else b.heldS }

/-- Write a result: each active lane of a vector destination, or a scalar destination from the lowest active lane
(R21, R22). -/
def Barge.write (b : Barge) (active : Mask) (d : Dst) (f : Nat → List Word) : Barge :=
  let b := b.unheld active d
  if isScalar d.spec then
    match lowestLane active with
    | none => b
    | some i =>
      b.setS (d.spec.toNat - 96)
        (if d.words = 1 then ((f i).getD 0 0).setWidth 64 else (f i).getD 1 0 ++ (f i).getD 0 0)
  else
    (lanesIn active).foldl
      (fun b i => (List.range d.words).foldl (fun b k => b.setV (d.spec.toNat + k) i ((f i).getD k 0)) b) b

/-- Would a scalar destination take different values from two active lanes (R22)? -/
def nonUniform (active : Mask) (d : Dst) (f : Nat → List Word) : Bool :=
  isScalar d.spec &&
    match lowestLane active with
    | none => false
    | some i => (lanesIn active).any fun j => decide (f j ≠ f i)

/-- Mark a destination empty in the active lanes (R25). -/
def Barge.markEmpty (b : Barge) (active : Mask) (d : Dst) : Barge :=
  if active = 0 then b
  else if isScalar d.spec then b.markS (d.spec.toNat - 96)
  else (List.range d.words).foldl (fun b k => b.markV (d.spec.toNat + k) active) b

/-- Mark a destination full in the active lanes (R25). -/
def Barge.markFull (b : Barge) (active : Mask) (d : Dst) : Barge :=
  if active = 0 then b
  else if isScalar d.spec then b.fillS (d.spec.toNat - 96)
  else (List.range d.words).foldl (fun b k => b.fillV (d.spec.toNat + k) active) b

/-- FCTL with the flags that have reached write-back by a cycle (R71). -/
def Barge.fctlAt (b : Barge) (now : Nat) : Fctl :=
  (b.raised.filter fun r => decide (r.1 ≤ now)).foldl (fun f r => { f with sticky := f.sticky.or r.2 }) b.fctl

/-- Take the flags that have reached write-back into FCTL. -/
def Barge.settleFlags (b : Barge) (now : Nat) : Barge :=
  { b with fctl := b.fctlAt now, raised := b.raised.filter fun r => decide (now < r.1) }

/-! ## Prefix chains (R28, R30 to R37) -/

/-- The payloads of a chain's prefixes, and whether a kind stands twice or is reserved. -/
structure Pre where
  ximm : Option (BitVec 24) := none
  ximmh : Option (BitVec 24) := none
  xmod : Option (BitVec 24) := none
  xpred : Option (BitVec 24) := none
  xopd : Option (BitVec 24) := none
  xsch : Option (BitVec 24) := none
  repeated : Bool := false
  reserved : Bool := false
  deriving DecidableEq, Repr

/-- Add a prefix word. -/
def Pre.add (p : Pre) (w : Word) : Pre :=
  let x := w.extractLsb' 0 24
  match (w.extractLsb' 24 3).toNat with
  | 0 => { p with ximm := some x, repeated := p.repeated || p.ximm.isSome }
  | 1 => { p with ximmh := some x, repeated := p.repeated || p.ximmh.isSome }
  | 2 => { p with xmod := some x, repeated := p.repeated || p.xmod.isSome }
  | 3 => { p with xpred := some x, repeated := p.repeated || p.xpred.isSome }
  | 4 => { p with xopd := some x, repeated := p.repeated || p.xopd.isSome }
  | 5 => { p with xsch := some x, repeated := p.repeated || p.xsch.isSome }
  | _ => { p with reserved := true }

/-- The prefixes of a chain. -/
def Pre.ofWords (ws : List Word) : Pre := ws.foldl Pre.add {}

/-- A field of XMOD, 0 without it (Table 2.4). -/
def Pre.modField (p : Pre) (lo w : Nat) : Nat := (((p.xmod.getD 0).extractLsb' lo w)).toNat
/-- T1 (Table 2.4). -/
def Pre.t1 (p : Pre) : Nat := p.modField 19 5
/-- T2 (Table 2.4). -/
def Pre.t2 (p : Pre) : Nat := p.modField 14 5
/-- Rounding (Table 2.4). -/
def Pre.rnd (p : Pre) : Nat := p.modField 11 3
/-- Saturation (Table 2.4). -/
def Pre.sat (p : Pre) : Bool := p.modField 10 1 == 1
/-- Cache hint (Table 2.4). -/
def Pre.hint (p : Pre) : Nat := p.modField 7 3
/-- Reach override (Table 2.4). -/
def Pre.reach (p : Pre) : Option (BitVec 3) :=
  if p.modField 6 1 = 1 then some ((p.xmod.getD 0).extractLsb' 3 3) else none
/-- Aux (Table 2.4). -/
def Pre.aux (p : Pre) : Nat := p.modField 0 3
/-- The third source of XOPD and its policy (R35). -/
def Pre.third (p : Pre) : BitVec 7 := (p.xopd.getD 0).extractLsb' 16 7
/-- Its empty policy. -/
def Pre.thirdPolicy (p : Pre) : Bool := (p.xopd.getD 0).getLsbD 23
/-- The fourth source (R35). -/
def Pre.fourth (p : Pre) : BitVec 7 := (p.xopd.getD 0).extractLsb' 8 7
/-- Its empty policy. -/
def Pre.fourthPolicy (p : Pre) : Bool := (p.xopd.getD 0).getLsbD 15
/-- The stall count of XSCH (R36). -/
def Pre.stall (p : Pre) : Nat := ((p.xsch.getD 0).extractLsb' 18 5).toNat
/-- The yield request of XSCH (R36). -/
def Pre.yield (p : Pre) : Bool := (p.xsch.getD 0).getLsbD 23

/-- The immediate of R28 from the low 8 bits a word supplies: 32 bits with XIMM. -/
def Pre.imm32 (p : Pre) (low : BitVec 8) : Word := (p.ximm.getD 0) ++ low

/-- The immediate of R28 at 64 bits: the 56 bits of XIMMH and XIMM sign-extended, or the 32-bit value
sign-extended. -/
def Pre.imm64 (p : Pre) (low : BitVec 8) : Dword :=
  match p.ximmh with
  | some h => (h ++ p.imm32 low).signExtend 64
  | none => (p.imm32 low).signExtend 64

/-- The prefixes of the immediate, where the word gives a longer immediate no meaning, hold 0 (R37; log 46). -/
def Pre.immZero (p : Pre) : Bool := decide (p.ximm.getD 0 = 0) && decide (p.ximmh.getD 0 = 0)

/-- XPRED, XSCH, XOPD and the reserved kinds: payload bits that must be zero (R30, R34 to R36). DESIGN CHOICE: R47 gives
the reserved kinds 6 and 7 no place of their own; they are tested here, with the payloads of step 6, after the structure of
the chain and the acceptance of its other prefixes (log 13). -/
def Pre.fixedOk (p : Pre) : Bool :=
  !p.reserved
    && decide ((p.xpred.getD 0).extractLsb' 0 20 = 0)
    && decide ((p.xsch.getD 0).extractLsb' 0 18 = 0)
    && decide ((p.xopd.getD 0).extractLsb' 1 7 = 0)

/-- Which third and fourth sources a word takes (R35). -/
inductive Extra where
  | none
  /-- A third source only. -/
  | third
  /-- A third and a fourth source (LOGIC3, and the sampler words that say so). -/
  | both
  /-- The selecting predicate of SEL. -/
  | selector
  /-- The compare value and the optional index of ATOM.cas. -/
  | cas
  deriving DecidableEq, Repr

/-- Are the unused fields of XOPD zero (R35)? -/
def Pre.opdOk (p : Pre) (e : Extra) : Bool :=
  let x := p.xopd.getD 0
  match e with
  | .none => true
  | .third => decide (x.extractLsb' 0 16 = 0)
  | .both => decide (x.extractLsb' 0 8 = 0)
  | .selector => decide (x.extractLsb' 0 16 = 0) && decide (x.extractLsb' 19 5 = 0)
  | .cas => x.getLsbD 0 || decide (x.extractLsb' 0 16 = 0)

/-- The fields of XMOD that a word accepts, each as the list of its values; a field it does not name must be 0
(R32). -/
structure ModOk where
  t1 : List Nat := [0]
  t2 : List Nat := [0]
  rnd : List Nat := [0]
  sat : Bool := false
  hint : List Nat := [0]
  reach : Bool := false
  aux : List Nat := [0]

/-- Every rounding code (Table 2.4). -/
def anyRnd : List Nat := [0, 1, 2, 3, 4, 5]

/-- Does XMOD hold only values that the word accepts (R32)? DESIGN CHOICE: a nonzero reach field [5:3] whose enable bit [6]
is 0 has no meaning, and traps (log 45). -/
def Pre.modOk (p : Pre) (m : ModOk) : Bool :=
  m.t1.contains p.t1 && m.t2.contains p.t2 && m.rnd.contains p.rnd && (m.sat || !p.sat)
    && m.hint.contains p.hint && m.aux.contains p.aux
    && (m.reach || decide (p.modField 3 4 = 0)) && (p.modField 6 1 == 1 || decide (p.modField 3 3 = 0))

/-! ## The issue checks (R47) -/

/-- A word that has passed the checks up to step 8 of R47 and issues. -/
structure Go where
  core : Nat
  slot : Nat
  b : Barge
  group : Mask
  active : Mask
  pre : Pre
  /-- Address of the non-prefix word, of the chain's first word, and the chain's words. -/
  addr : Dword
  first : Dword
  words : List Word
  vals : List Val
  srcs : List Src
  unit : Option Nat
  occupancy : Nat
  progress : Nat
  replay : Bool

/-- What a word is, for the checks of R47: the prefixes it accepts and needs, its fields that depend on the chain,
its operands in the order of R388, and its unit. -/
structure Shape where
  /-- XIMM, XIMMH, XMOD, XPRED, XOPD accepted. XSCH is accepted by every word. -/
  imm : Bool := false
  immh : Pre → Bool := fun _ => false
  mod : Bool := false
  guard : Bool := true
  extra : Extra := .none
  needMod : Bool := false
  needOpd : Bool := false
  /-- Fields whose legality depends on the prefixes: step 3 of R47. -/
  fieldsOk : Pre → Bool := fun _ => true
  /-- Step 6, XMOD. -/
  modOk : ModOk := {}
  /-- Step 6, a further rule over the payloads. -/
  payloadOk : Pre → Bool := fun _ => true
  srcs : Pre → List Src := fun _ => []
  dsts : Pre → List Dst := fun _ => []
  psrcs : Pre → List (BitVec 3) := fun _ => []
  pdsts : List (BitVec 3) := []
  /-- Lanes in which an operand is read, where they depend on values (R229): from the barge and active lanes. -/
  reads : Pre → Barge → Mask → List Src → List Src := fun _ _ _ l => l
  /-- Unit of Table 10.1 and its kin (none for words that use no unit), and its occupancy. -/
  unit : Pre → Option Nat := fun _ => none
  occupancy : Pre → Nat := fun _ => 1
  /-- Of the captured kinds of R384, which R385 limits to 23. -/
  captured : Bool := false
  capturedIf : Pre → Bool := fun _ => false
  /-- Forbidden in handler mode (R389), in a reformed barge (R248). -/
  noHandler : Bool := false
  noReformed : Bool := false
  /-- Waits until every flag has been raised (R72). -/
  flagFence : Pre → Bool := fun _ => false
  /-- A further wait at issue: room in a queue, outstanding writes. -/
  holds : State → Nat → Nat → Wait := fun _ _ _ => .none
  /-- A memory access, and whether it is write-like: the reach override of R132. -/
  access : Option Bool := none
  /-- Would a scalar destination take different values: the lanes of a load with different addresses, several lanes of an
  atomic (R22, R190, R310)? Step 9 of R47. Every other word is checked with its results. -/
  nonUniform : Go → Bool := fun _ => false
  /-- A store, atomic or reduction, which has no effect in a helper (R291). -/
  stores : Bool := false

/-- Operand k of a word in the order of R388. -/
def Go.val (g : Go) (k : Nat) : Val := g.vals.getD k (.scalar 0)

/-- Is it the last word of a chain whose first three words are prefixes? Then it may not be a fourth. -/
def Chain.full (c : Chain) : Bool := decide (3 ≤ c.words.length)

/-- The prefixes pending in front of the issuing word. -/
def chainWords (s : State) (iss : Issue) : List Word :=
  match iss.replay with
  | some e => e.words.dropLast
  | none =>
    match s.barge iss.core iss.slot with
    | some b => (b.chain.map (·.words)).getD []
    | none => []

/-- The active lanes of a word: the issuing group with its guard (R34, R227). -/
def activeOf (b : Barge) (group : Mask) (p : Pre) : Mask :=
  match p.xpred with
  | none => group
  | some x =>
    let m := b.pred (x.extractLsb' 20 3)
    group &&& (if x.getLsbD 23 then ~~~m else m)

/-- The helper lanes of a pixel barge (R291). -/
def Barge.helpers (b : Barge) : Mask :=
  if b.pixelProgram then maskOf fun i => !(b.pixels.getD i {}).covered else 0

/-- The captured operands of a word, as R388 lays them out. -/
def captureScalars (vals : List Val) : List Dword :=
  vals.filterMap fun v => match v with | .scalar x => some x | .vector _ => none

/-- The vector words of each lane, in operand order. -/
def captureVectors (vals : List Val) (words : List Nat) : List (List Word) :=
  (List.range 32).map fun i =>
    ((vals.zip words).map fun vw =>
      match vw.1 with
      | .scalar _ => []
      | .vector _ => (List.range vw.2).map fun k => vw.1.word i k).flatten

/-- Split a lane's captured words among the vector operands. -/
def splitCaptured : List (Bool × Nat) → List Dword → List (List Word) → List Val
  | [], _, _ => []
  | (true, _) :: r, x :: xs, ls => .scalar x :: splitCaptured r xs ls
  | (true, _) :: r, [], ls => .scalar 0 :: splitCaptured r [] ls
  | (false, n) :: r, xs, ls =>
    .vector (ls.map (·.take n)) :: splitCaptured r xs (ls.map (·.drop n))

/-- The operands of a re-injected entry (R393). -/
def replayVals (e : Entry) (srcs : List Src) : List Val :=
  splitCaptured (srcs.map fun x => (isScalar x.spec, x.words)) e.scalars e.vectors

/-- The captured chain of a word. -/
def Go.entry (g : Go) (faulted : Bool) : Entry :=
  { words := g.words, faulted, lanes := g.active, addr := g.first, progress := g.progress,
    scalars := captureScalars g.vals, vectors := captureVectors g.vals (g.srcs.map (·.words)) }

/-- Move past a word (R18, R227, R228, R36): the group's threads stand at the next word, and the barge may issue
from the next cycle, or after the stall count. -/
def Barge.pass (b : Barge) (now : Nat) (group : Mask) (addr : Dword) (p : Pre) (replay : Bool) : Barge :=
  { b with
    pcs := if replay then b.pcs else (List.range 32).map fun i => if laneOn group i then addr + 4 else b.pcs.getD i 0
    chain := if replay then b.chain else none
    lastIssue := now
    readyAt := now + 1 + p.stall
    eligibleSince := now + 1 + p.stall
    follow := if replay then b.follow else some (addr + 4)
    wait := if replay then b.wait else .none
    moved := if b.memWait.isEmpty && decide (b.memHold ≤ now) then 0 else b.moved
    yieldPending := p.yield
    history := now :: b.history.filter fun t => decide (now < t + 256) }

/-- The address and the group that a barge selects for its next chain, and its yield marks then (R227). -/
def Barge.select (b : Barge) : Dword × Mask × Mask :=
  let u := b.running &&& ~~~b.yieldMarks
  let marks := if u = 0 then b.yieldMarks &&& ~~~b.running else b.yieldMarks
  let u := if u = 0 then b.running else u
  let pc (i : Nat) : Dword := b.pcs.getD i 0
  let p := (lanesIn u).foldl (fun m i => if pc i < m then pc i else m) (BitVec.allOnes 64)
  (p, maskOf fun i => laneOn u i && pc i == p, marks)

/-- The address of the next word of a barge, its group and yield marks, and the address of its chain: a chain that has
begun goes on (R31). -/
def Barge.next (b : Barge) : Dword × Mask × Mask × Dword :=
  match b.chain with
  | some c => (c.start + BitVec.ofNat 64 (4 * c.words.length), c.group, b.yieldMarks, c.start)
  | none => (b.select.1, b.select.2.1, b.select.2.2, b.select.1)

/-- Hold a barge for this cycle (R26, R27, R197, R198). One whose unit is busy stays eligible (R375). -/
def State.hold (s : State) (core slot : Nat) (w : Wait) : State :=
  s.onBarge core slot fun b =>
    if w = .unit then { b with readyAt := s.now + 1, wait := .none }
    else
      { b with
        readyAt := s.now + 1
        eligibleSince := s.now + 1
        waitSince := if b.wait = w then b.waitSince else s.now
        wait := w }

/-- A quarter has issued, a unit is busy, and the context has retired an instruction (R198, R356, R375). -/
def State.noteIssue (s : State) (core slot ctx : Nat) (unit : Option Nat) (occupancy : Nat) : State :=
  let c := s.core core
  let s := s.setCore core { c with
    lastIssue := c.lastIssue.put (quarterOf slot) s.now
    units := match unit with
      | none => c.units
      | some u => c.units.put (16 * quarterOf slot + u) (s.now + occupancy) }
  s.setCtx ctx { s.ctx ctx with retired := hubCycle s.now, watchdog := 0 }

/-- The unfinished words of a barge that a trap captures: those of the captured kinds, and an MMA that is not accepted yet (R384). -/
def capturedFlights (s : State) (core slot : Nat) : List (Nat × Flight) :=
  s.flights.filter fun f => decide (f.2.core = core) && decide (f.2.slot = slot) && f.2.captured

/-- How many of them are of the captured kinds, which R385 limits to 23. -/
def capturedCount (s : State) (core slot : Nat) : Nat := ((capturedFlights s core slot).filter fun f => !f.2.mma).length

/-- HOT_SEEN at the end of the cycle before memory-layer cycle m: a clear while HOT is 1 lasts one cycle (Table 6.5). -/
def Tower.hotSeenAt (t : Tower) (m : Nat) : Bool := t.hotSeen || (t.hot && decide (t.hotClear.getD m + 1 < m))

/-- HOT_SEEN as it is read now. -/
def Tower.hasBeenHot (t : Tower) (now : Nat) : Bool := t.hotSeenAt (layerCycle now + 1)

/-- A layer whose partner is failed is not throttled: a die keeps at least one layer (R262, R263). -/
def MtxLayers.release (m : MtxLayers) : MtxLayers :=
  let f := m.failed
  let partners : BitVec 4 := (f <<< 1 &&& 0xA) ||| (f >>> 1 &&& 0x5)
  { m with throttled := m.throttled &&& ~~~partners }

/-- Is it an MMA that the engine still checks or holds (R259)? -/
def Flight.isMma (f : Flight) : Bool := f.kind == .unit && f.mma

/-- The MMAs of a core that have not started look again whether they may start, since one before them is gone. -/
def State.wakeMmas (s : State) (core : Nat) : State :=
  ((s.core core).mmas.filter fun m => !m.started).foldl (fun s m => s.post 1 .mmaStart [core, m.id]) s

/-! ## Taking a trap (R384, R389, R397) -/

/-- A cause with its particulars. -/
structure Cause where
  cause : BitVec 8
  code : BitVec 8 := 0
  lanes : Mask := 0
  va : Dword := 0
  semFault : BitVec 64 := 0
  deriving DecidableEq, Repr

/-- Add an entry to those a trap lists, in issue order. -/
def TrapRec.add (r : TrapRec) (id : Nat) (e : Entry) : TrapRec := { r with entries := r.entries.put id e }

/-- Causes of kind U (Table 18.1). -/
def unrecoverableCause (c : BitVec 8) : Bool := [0x56, 0x59, 0x70, 0x93, 0x95, 0xB3, 0xB4].contains c.toNat

/-- What a trap leads to: a frame slot, and the handler once the words that finish have finished; a cause in handler mode, in a
context without a handler, or a page fault of a chunked task is an UNRECOVERABLE_FAULT instead (R386, R389, R397). -/
def State.trapStep (s : State) (core slot : Nat) (b : Barge) (r : TrapRec) : State :=
  if b.handler then s.post 0 .unrecoverableFault [core, slot, 0xB3, 0]
  else if unrecoverableCause r.cause || (s.ctx b.ctx).trapEntry = 0 || (b.chunkSlot.isSome && (r.cause = 0x40 || r.cause = 0x43)) then
    s.post 0 .unrecoverableFault [core, slot, r.cause.toNat, r.va.toNat]
  else s.post 0 .handlerEntry [core, slot]

/-- A barge takes a trap: it stops; its in-flight loads and the word that raised the cause are captured. One that waits at a
barrier goes on to its handler when it is released, but for the watchdog (R354, R357). A cause delivered meanwhile stays
(R384). `id` orders the word among those issued. -/
def State.takeTrap (s : State) (core slot : Nat) (x : Cause) (first : Dword) (entry : Option (Nat × Entry)) : State :=
  match s.barge core slot with
  | none => s
  | some b =>
    match b.trap with
    | some r =>
      match entry with
      | some (id, e) => s.setBarge core slot { b with trap := some (r.add id { e with faulted := false }) }
      | none => s
    | none =>
      let caps := capturedFlights s core slot
      let entries : Tab Entry := (b.stop.getD []).foldl (fun t p => Tab.put t p.1 p.2) (caps.map fun f => (f.1, f.2.entry))
      let entries := match entry with
        | some (id, e) => Tab.put entries id e
        | none => entries
      let entries := (b.reinject.zipIdx).foldl (fun t p => Tab.put t (s.nextId + p.2) p.1) entries
      let s := { s with
        nextId := s.nextId + b.reinject.length
        flights := s.flights.filter fun f => !(decide (f.2.core = core) && decide (f.2.slot = slot) && f.2.captured) }
      let r : TrapRec := { cause := x.cause, code := x.code, lanes := x.lanes, va := x.va, first, entries,
                           semFault := x.semFault, cycle := s.now, notBefore := max s.now b.busyUntil }
      let ids := caps.map (·.1) ++ (entry.map (·.1)).toList
      let b := { b with
        memWait := b.memWait.filter fun k => !ids.contains k
        trap := some r, stop := none, reinject := [], chain := none, blocked := true }
      if b.waitBar.isSome && x.cause ≠ 0x70 then s.setBarge core slot b
      else (s.setBarge core slot { b with wait := .other }).trapStep core slot b r

/-- A word traps at issue: the group moves past it, and the replay entry re-executes it (R384, R388; log 12). -/
def Go.trap (g : Go) (x : Cause) (s : State) : State :=
  let (id, s) := s.fresh
  let s := s.setBarge g.core g.slot (g.b.pass s.now g.group g.addr g.pre g.replay)
  let s := s.noteIssue g.core g.slot g.b.ctx none 0
  s.takeTrap g.core g.slot x g.first (some (id, g.entry true))

/-- A trap that is not captured and leaves the PCs where they are: a fetch fault, or a delivered cause. -/
def State.trapAt (s : State) (core slot : Nat) (x : Cause) (first : Dword) : State :=
  s.takeTrap core slot x first none

/-! ## Starting a word -/

/-- How the checks of R47 end. -/
inductive Start where
  | noIssue
  /-- The word was held, or trapped. -/
  | stop (s : State)
  | go (g : Go)

/-- May the override of XMOD stand (R132, step 10 of R47)? -/
def overrideCause (s : State) (b : Barge) (p : Pre) (writeLike : Bool) : Option (BitVec 8) :=
  match p.reach with
  | none => none
  | some l =>
    if writeLike && decide (b.tag ≠ 0) && decide (l ≠ b.tag) then some 0x94
    else if l = 0 then none
    else if (((s.ctx b.ctx).labels.look l.toNat).getD {}).state = .live then none
    else some 0x92

/-- The label of an access: the override, or the barge's tag (R132). -/
def Go.label (g : Go) : BitVec 3 := g.pre.reach.getD g.b.tag

/-- Is a register, predicate or guard still on the scoreboard (R197)? -/
def Barge.scoreboardBusy (b : Barge) (now : Nat) (srcs : List Src) (dsts : List Dst) (ps : List (BitVec 3)) : Bool :=
  (srcs.any fun x => (List.range (if isScalar x.spec then 1 else x.words)).any fun k =>
      decide (now < (b.score.look (x.spec.toNat + k)).getD 0))
    || (dsts.any fun x => (List.range (if isScalar x.spec then 1 else x.words)).any fun k =>
      decide (now < (b.score.look (x.spec.toNat + k)).getD 0))
    || ps.any fun p => decide (now < (b.score.look (128 + p.toNat)).getD 0)

/-- The first cause among steps 3, 5, 6 and 7 of R47 (and the bars of R389 and R248) that a chain meets. -/
def encodingCause (sh : Shape) (b : Barge) (p : Pre) (prefixes : Nat) : Option (BitVec 8) :=
  if !sh.fieldsOk p then some 0x02
  else if decide (3 < prefixes) || p.repeated || (p.ximm.isSome && !sh.imm)
      || (p.ximmh.isSome && (!sh.immh p || p.ximm.isNone)) || (p.xmod.isSome && !sh.mod)
      || (p.xpred.isSome && !sh.guard) || (p.xopd.isSome && sh.extra = .none)
      || (sh.needMod && p.xmod.isNone) || (sh.needOpd && p.xopd.isNone) then some 0x03
  else if !p.fixedOk || !p.modOk sh.modOk || !p.opdOk sh.extra || !sh.payloadOk p then some 0x02
  else if (sh.srcs p).any (fun x => b.unallocated x.spec x.words)
      || (sh.dsts p).any (fun x => b.unallocated x.spec x.words) then some 0x02
  else none

/-- Is the unit of a word busy (R198)? -/
def unitBusy (sh : Shape) (s : State) (core slot : Nat) (p : Pre) : Bool :=
  match sh.unit p with
  | none => false
  | some u => decide (s.now < ((s.core core).units.look (16 * quarterOf slot + u)).getD 0)

/-- Is a register, a predicate or the guard of a word still on the scoreboard (R197), or does it read a moved register
before the acquire of its reformed barge (R249)? -/
def unsettled (sh : Shape) (s : State) (b : Barge) (p : Pre) (srcs : List Src) : Bool :=
  let guard := match p.xpred with
    | some x => [x.extractLsb' 20 3]
    | none => []
  b.scoreboardBusy s.now srcs (sh.dsts p) (guard ++ sh.psrcs p ++ sh.pdsts)
    || ((!b.memWait.isEmpty || decide (s.now < b.memHold))
      && srcs.any fun x => isVector x.spec && decide (x.spec.toNat < b.moved))

/-- What holds a word at issue: the scoreboard (R197), unraised flags (R72), the room of R385, an empty register (R26,
R27), a wait of its own, or last its unit (R198). -/
def holdReason (sh : Shape) (s : State) (core slot : Nat) (b : Barge) (p : Pre) (active : Mask) (srcs : List Src)
    (replay : Bool) : Wait :=
  if unsettled sh s b p srcs then .other
  else if sh.flagFence p && decide (s.now < b.flagUntil) then .other
  else if (sh.captured || sh.capturedIf p) && decide (23 ≤ capturedCount s core slot) then .other
  else if !replay
      && (srcs.any (b.srcEmpty active) || (sh.dsts p).any (b.dstEmpty active)) then
    if unitBusy sh s core slot p && srcs.any (fun x => x.policy && b.srcEmpty active x) then .unit else .counted
  else
    match sh.holds s core slot with
    | .none => if unitBusy sh s core slot p then .unit else .none
    | w => w

/-- What a word of this shape would run with, if nothing stops it: its prefixes, its active lanes, and the values of its
sources (those that its entry captured, where it is re-injected). -/
def goOf (sh : Shape) (s : State) (iss : Issue) (b : Barge) : Go :=
  let pres := chainWords s iss
  let p := Pre.ofWords pres
  let active := if iss.replay.isSome then iss.group else activeOf b iss.group p
  let active := if sh.stores then active &&& ~~~b.helpers else active
  let srcs := sh.reads p b active (sh.srcs p)
  let vals := match iss.replay with
    | some e => replayVals e srcs
    | none => srcs.map (b.read active)
  { core := iss.core, slot := iss.slot, b, group := iss.group, active, pre := p, addr := iss.addr,
    first := iss.chainStart, words := pres ++ [iss.word], vals, srcs, unit := sh.unit p,
    occupancy := sh.occupancy p, progress := (iss.replay.map (·.progress)).getD 0,
    replay := iss.replay.isSome }

/-- The first cause among steps 3 to 8 of R47 that a word meets. An empty source is tested once the scoreboard and the unit
let the word issue (R197, R198). -/
def Go.checkCause (g : Go) (sh : Shape) (s : State) : Option (BitVec 8) :=
  match encodingCause sh g.b g.pre (g.words.length - 1) with
  | some c => some c
  | none =>
    if g.b.handler && sh.noHandler then some 0xB3
    else if !g.replay && g.srcs.any (fun x => x.policy && g.b.srcEmpty g.active x)
        && !unsettled sh s g.b g.pre g.srcs && !unitBusy sh s g.core g.slot g.pre then some 0x05
    else none

/-- What holds this word at issue. -/
def Go.holdReason (g : Go) (sh : Shape) (s : State) : Wait :=
  Machine.holdReason sh s g.core g.slot g.b g.pre g.active g.srcs g.replay

/-- The first cause among steps 9 and 10 of R47, and after them the bar of R248. -/
def Go.reachCause (g : Go) (sh : Shape) (s : State) : Option (BitVec 8) :=
  let label := match sh.access with
    | none => none
    | some w => if g.active = 0 then none else overrideCause s g.b g.pre w
  if sh.nonUniform g then some 0x06
  else
    match label with
    | some c => some c
    | none => if g.b.reformed && sh.noReformed && decide (g.active ≠ 0) then some 0x0B else none

/-- The checks of R47 from step 3 to step 10, in order, and the waits before a word may issue. SCALAR_NONUNIFORM
(step 9) of a result that is computed is checked by the meaning; no such word has an override. -/
def start (sh : Shape) (s : State) : Start :=
  match s.issue with
  | none => .noIssue
  | some iss =>
    match s.barge iss.core iss.slot with
    | none => .noIssue
    | some b =>
      let g := goOf sh s iss b
      match g.checkCause sh s with
      | some c => .stop (g.trap { cause := c } s)
      | none =>
        if g.holdReason sh s ≠ .none then .stop (s.hold g.core g.slot (g.holdReason sh s))
        else
          match g.reachCause sh s with
          | some c => .stop (g.trap { cause := c } s)
          | none => .go g

/-- Run a word: the checks, then its own effect. -/
def issueWord (sh : Shape) (s : State) (effect : Go → State → State) : Host.Outcome State Fault Refusal :=
  match start sh s with
  | .noIssue => .fault .noIssue
  | .stop t => done t
  | .go g => done (effect g s)

/-- The word has issued with this new state of its barge: the group moves past it. -/
def Go.finish (g : Go) (b : Barge) (s : State) : State :=
  (s.setBarge g.core g.slot (b.pass s.now g.group g.addr g.pre g.replay)).noteIssue
    g.core g.slot g.b.ctx g.unit g.occupancy

/-- A prefix word issues: it joins the pending chain and has no other effect (R30). A fourth is ILL_PREFIX (R31), whatever
its kind (step 5 of R47), when it is re-injected too (R393). -/
def prefixWord (s : State) : Host.Outcome State Fault Refusal :=
  match s.issue with
  | none => .fault .noIssue
  | some iss =>
    match s.barge iss.core iss.slot with
    | none => .fault .noIssue
    | some b =>
      let c : Chain := match iss.replay with
        | some e => { start := e.addr, words := e.words.dropLast, group := iss.group }
        | none => b.chain.getD { start := iss.addr, words := [], group := iss.group }
      if c.full then
        let p := Pre.ofWords (c.words ++ [iss.word])
        let g : Go :=
          { core := iss.core, slot := iss.slot, b, group := iss.group, active := activeOf b iss.group p, pre := {},
            addr := iss.addr, first := c.start, words := c.words ++ [iss.word], vals := [], srcs := [], unit := none,
            occupancy := 0, progress := 0, replay := iss.replay.isSome }
        done (g.trap { cause := 0x03 } s)
      else
        let b := { b with
          chain := some { c with words := c.words ++ [iss.word] }
          lastIssue := s.now
          readyAt := s.now + 1
          eligibleSince := s.now + 1
          follow := some (iss.addr + 4)
          wait := .none
          yieldPending := false
          history := s.now :: b.history.filter fun t => decide (s.now < t + 256) }
        done ((s.setBarge iss.core iss.slot b).setCore iss.core
          { s.core iss.core with lastIssue := (s.core iss.core).lastIssue.put (quarterOf iss.slot) s.now })

end Sys2Proof.Machine
end

