-- ==== Sys2Proof/Machine/Flags.lean ====
section
/-!
DEFINITION. FCTL as software reads and writes it (Table 3.3), the rounding mode of a word (R70), and the flags a
word raises with the cause they select (R71).
-/
namespace Sys2Proof.Machine
open Sys2Proof

/-- A bit as a number. -/
def bit (b : Bool) (n : Nat) : Nat := if b then 2 ^ n else 0

/-- FCTL as a register (Table 3.3). -/
def Fctl.toDword (f : Fctl) : Dword :=
  BitVec.ofNat 64
    (f.rnd.code + bit f.ftz32 3 + bit f.ftz16 4 + bit f.e4m3Nan 5 + bit f.e5m2Sat 6
      + bit f.enable.nv 8 + bit f.enable.dz 9 + bit f.enable.ovf 10 + bit f.enable.uf 11 + bit f.enable.nx 12
      + bit f.enable.sat 13
      + bit f.sticky.nv 16 + bit f.sticky.dz 17 + bit f.sticky.ovf 18 + bit f.sticky.uf 19 + bit f.sticky.nx 20
      + bit f.sticky.sat 21)

/-- The six flags from bit lo of a word, in the order NV, DZ, OF, UF, NX, SAT. -/
def Flags.ofBits (x : Dword) (lo : Nat) : Flags :=
  { nv := x.getLsbD lo, dz := x.getLsbD (lo + 1), ovf := x.getLsbD (lo + 2), uf := x.getLsbD (lo + 3),
    nx := x.getLsbD (lo + 4), sat := x.getLsbD (lo + 5) }

/-- Flags of the first that are not among the second. -/
def Flags.minus (a b : Flags) : Flags :=
  { nv := a.nv && !b.nv, dz := a.dz && !b.dz, ovf := a.ovf && !b.ovf, uf := a.uf && !b.uf,
    nx := a.nx && !b.nx, sat := a.sat && !b.sat }

/-- The control fields of a word, the sticky flags as given; a reserved RND leaves the mode as it was. -/
def Fctl.controls (f : Fctl) (x : Dword) (sticky : Flags) : Fctl :=
  { rnd := (RMode.ofCode (x.extractLsb' 0 3).toNat).getD f.rnd
    ftz32 := x.getLsbD 3
    ftz16 := x.getLsbD 4
    e4m3Nan := x.getLsbD 5
    e5m2Sat := x.getLsbD 6
    enable := Flags.ofBits x 8
    sticky }

/-- A write of FCTL: sticky flags are W1C, a reserved RND leaves the field unchanged (Table 3.3). -/
def Fctl.write (f : Fctl) (x : Dword) : Fctl := f.controls x (f.sticky.minus (Flags.ofBits x 16))

/-- FCTL restored from a saved word: every field as it stands (R393, R403). -/
def Fctl.restore (f : Fctl) (x : Dword) : Fctl := f.controls x (Flags.ofBits x 16)

/-- The initial FCTL word of a kernel descriptor (R69, R364). -/
def Fctl.ofWord (w : Word) : Fctl := Fctl.restore {} (w.setWidth 64)

/-- FCTL on entry to a handler: bits [13:8] become 0 (R389). -/
def Fctl.forHandler (f : Fctl) : Fctl := { f with enable := {} }

/-- The rounding mode of a word: XMOD, or else FCTL.RND as it stands at issue (R70). -/
def Go.mode (g : Go) : RMode := (RMode.ofCode g.pre.rnd).getD g.b.fctl.rnd

/-- The rounding mode of a word that has a default of its own. -/
def Go.modeOr (g : Go) (m : RMode) : RMode := (RMode.ofCode g.pre.rnd).getD m

/-- The overflow and flush settings that govern a float result (R61, R63). -/
def Go.fctx (g : Go) (ftz : Bool) : FCtx :=
  { e5m2Sat := g.b.fctl.e5m2Sat, e4m3Nan := g.b.fctl.e4m3Nan, sat := g.pre.sat, ftz }

/-- The first enabled flag and its cause, in the order of R71. -/
def enabledCause (enable raised : Flags) : Option (BitVec 8) :=
  if enable.nv && raised.nv then some 0x20
  else if enable.dz && raised.dz then some 0x21
  else if enable.ovf && raised.ovf then some 0x22
  else if enable.uf && raised.uf then some 0x23
  else if enable.sat && raised.sat then some 0x25
  else if enable.nx && raised.nx then some 0x24
  else none

/-- Did a lane raise the flag of a cause? -/
def Flags.raisedFor (f : Flags) (cause : BitVec 8) : Bool :=
  match cause.toNat with
  | 0x20 => f.nv
  | 0x21 => f.dz
  | 0x22 => f.ovf
  | 0x23 => f.uf
  | 0x25 => f.sat
  | 0x24 => f.nx
  | _ => false

/-- A result in one lane: its words and the flags it raises. -/
structure LaneResult where
  words : List Word
  flags : Flags := {}
  deriving DecidableEq, Repr

/-- The flags raised in any active lane. -/
def raisedFlags (active : Mask) (r : Nat → LaneResult) : Flags :=
  (lanesIn active).foldl (fun f i => f.or (r i).flags) {}

end Sys2Proof.Machine
end

