-- ==== Sys2Proof/Machine/Operands.lean ====
section
/-!
DEFINITION. The operand forms of R21, R28 and R29 and the ways a word writes its result: at a fixed latency
(R197), through the fill of an empty register (R25), or to a predicate.
-/
namespace Sys2Proof.Machine
open Sys2Proof

/-! ## Operand forms -/

/-- A register operand of one 32-bit word. -/
def reg (x : BitVec 7) (policy : BitVec 1) : Src := { spec := x, policy := policy == 1#1 }

/-- A register operand of several words. -/
def regs (x : BitVec 7) (words : Nat) (policy : BitVec 1) : Src := { spec := x, words, policy := policy == 1#1 }

/-- The b operand of the register format: no register where XIMM supplies it (R28). -/
def regB (p : Pre) (x : BitVec 7) (words : Nat) (policy : BitVec 1) : List Src :=
  if p.ximm.isSome then [] else [regs x words policy]

/-- The third source (R35). -/
def thirdSrc (p : Pre) (words : Nat) : Src := { spec := p.third, words, policy := p.thirdPolicy }

/-- The fourth source (R35). -/
def fourthSrc (p : Pre) (words : Nat) : Src := { spec := p.fourth, words, policy := p.fourthPolicy }

/-- The 8 bits of b and bit [0] that extend an XIMM in the register format (Table 2.2). -/
def lowBits (b : BitVec 7) (q : BitVec 1) : BitVec 8 := b ++ q

/-- Operand b of the register format, in position k, or the immediate of R28. -/
def Go.opB (g : Go) (k : Nat) (b : BitVec 7) (q : BitVec 1) : Val :=
  if g.pre.ximm.isSome then .scalar (g.pre.imm64 (lowBits b q)) else g.val k

/-- The operand that follows b, b being in position k. -/
def Go.afterB (g : Go) (k : Nat) : Val := if g.pre.ximm.isSome then g.val k else g.val (k + 1)

/-- The immediate of the immediate format: imm8 extended as the word says, or XIMM (R28). -/
def Go.imm (g : Go) (i : BitVec 8) (signed : Bool) : Word :=
  if g.pre.ximm.isSome then g.pre.imm32 i else if signed then i.signExtend 32 else i.setWidth 32

/-- A 64-bit result as two words. -/
def pairWords (x : Dword) : List Word := [x.extractLsb' 0 32, x.extractLsb' 32 32]

/-- May a 64-bit operation name this register in a field that holds one (R21)? -/
def wideOk (x : BitVec 7) : Bool := pairOk x

/-- The shape of a word that names no register and admits no prefix but a guard and XSCH. -/
def bareShape : Shape := {}

/-- The shape of a word whose one operand is an immediate. -/
def immShape : Shape := { imm := true }

/-! ## Units (Table 10.1, Table 11.1), numbered for the scoreboard of a quarter -/

/-- Integer unit. -/
def unitInt : Nat := 0
/-- 64-bit multiplier. -/
def unitMul64 : Nat := 1
/-- Float unit. -/
def unitFloat : Nat := 2
/-- f64 unit. -/
def unitF64 : Nat := 3
/-- Special-function unit. -/
def unitSfu : Nat := 4
/-- Block unit. -/
def unitBlock : Nat := 5
/-- Lane crossbar. -/
def unitXbar : Nat := 6

/-- Traversal unit. -/
def unitTraverse : Nat := 7

/-! ## Writing results -/

/-- The scoreboard entry of a destination (R197). -/
def Barge.readyFrom (b : Barge) (d : Dst) (t : Nat) : Barge :=
  let ks := List.range (if isScalar d.spec then 1 else d.words)
  { b with score := ks.foldl (fun sc k => sc.put (d.spec.toNat + k) t) b.score }

/-- The results of the active lanes, computed once. -/
def laneTable (active : Mask) (f : Nat → LaneResult) : List LaneResult :=
  (List.range 32).map fun i => if laneOn active i then f i else { words := [] }

/-- Lane i of such a table. -/
def tableLane (t : List LaneResult) (i : Nat) : LaneResult := t.getD i { words := [] }

/-- A word whose result is written at a fixed latency (R197): the scoreboard keeps later words from the
destination, so the write is made at issue. An enabled flag traps at write-back instead of writing (R71). -/
def Go.writeFixed (g : Go) (d : Dst) (latency : Nat) (f : Nat → LaneResult) (s : State) : State :=
  let t := laneTable g.active f
  let raised := raisedFlags g.active (tableLane t)
  let b := g.b
  let flagged := decide (raised ≠ {})
  let b := if flagged then { b with raised := b.raised ++ [(s.now + latency, raised)] } else b
  let b := { b with busyUntil := max b.busyUntil (s.now + latency) }
  match enabledCause g.b.fctl.enable raised with
  | some c =>
    let (id, s) := s.fresh
    let fail := maskOf fun i => laneOn g.active i && (tableLane t i).flags.raisedFor c
    let fl : Flight :=
      { core := g.core, slot := g.slot, ctx := g.b.ctx, entry := g.entry true, kind := .unit, label := 0,
        issued := s.now, translating := false, words := 0, cause := some c, failLanes := fail }
    let s := { s with flights := s.flights.put id fl }
    g.finish (b.readyFrom d (s.now + latency)) (s.post latency .registerFill [id])
  | none =>
    let b := b.write g.active d (fun i => (tableLane t i).words)
    g.finish (b.readyFrom d (s.now + latency)) s

/-- As writeFixed, after the check of R22. -/
def Go.writeChecked (g : Go) (d : Dst) (latency : Nat) (f : Nat → LaneResult) (s : State) : State :=
  if nonUniform g.active d (fun i => (tableLane (laneTable g.active f) i).words) then g.trap { cause := 0x06 } s
  else g.writeFixed d latency f s

/-- As writeChecked, for a word that can raise flags (R72). -/
def Go.writeFloat (g : Go) (d : Dst) (latency : Nat) (f : Nat → LaneResult) (s : State) : State :=
  Go.writeChecked { g with b := { g.b with flagUntil := max g.b.flagUntil (s.now + latency) } } d latency f s

/-- A word whose destination is empty until its fill (R25): the result computed at issue is written at
write-back. -/
def Go.writeFill (g : Go) (d : Dst) (latency : Nat) (f : Nat → LaneResult) (s : State) : State :=
  let t := laneTable g.active f
  let raised := raisedFlags g.active (tableLane t)
  if nonUniform g.active d (fun i => (tableLane t i).words) then g.trap { cause := 0x06 } s
  else if g.active = 0 then g.finish g.b s
  else
    let cause := enabledCause g.b.fctl.enable raised
    let fail := match cause with
      | some c => maskOf fun i => laneOn g.active i && (tableLane t i).flags.raisedFor c
      | none => 0
    let (id, s) := s.fresh
    let fl : Flight :=
      { core := g.core, slot := g.slot, ctx := g.b.ctx, entry := g.entry false, kind := .unit, label := 0,
        dst := d.spec, words := d.words, issued := s.now, translating := false,
        result := t.map (·.words), flags := raised, cause, failLanes := fail }
    let s := { s with flights := s.flights.put id fl }
    let b := { g.b with flagUntil := max g.b.flagUntil (s.now + latency) }
    g.finish (b.markEmpty g.active d) (s.post latency .registerFill [id])

/-- A word that writes a predicate at a fixed latency. -/
def Go.writePred (g : Go) (p : BitVec 3) (latency : Nat) (f : Nat → Bool) (s : State) : State :=
  let b := g.b.setP p g.active (maskOf f)
  let t := s.now + latency
  g.finish { b with score := b.score.put (128 + p.toNat) t, busyUntil := max b.busyUntil t } s

/-- A lane result without flags. -/
def plain (words : List Word) : LaneResult := { words }

end Sys2Proof.Machine
end

