-- ==== Sys2Proof/Machine/Integer.lean ====
section
/-!
DEFINITION. Classes 0 and 1, integer arithmetic, and class 2, bit fields, addresses and 64-bit integers
(R200 to R206).
-/
namespace Sys2Proof.Machine
open Sys2Proof

/-! ## Shapes -/

/-- `.i32` and `.n32` (R200). -/
def types32 : List Nat := [0, 3, 7]
/-- `.i32` (R200). -/
def typesI32 : List Nat := [0, 3]
/-- The default type alone: code 0 (R33, R200). -/
def typesDefault : List Nat := [0]
/-- `.i64` and `.n64` (R204). -/
def types64 : List Nat := [0, 4, 8]

/-- Does T1 read operands as signed? -/
def Pre.signed (p : Pre) : Bool := !(p.t1 == 7 || p.t1 == 8)

/-- A two-source word of class 0 (R199, R200), with a third source where the op takes one. -/
def intShape (d a b : BitVec 7) (p q : BitVec 1) (types : List Nat) (sat third : Bool) : Shape where
  imm := true
  mod := true
  extra := if third then .third else .none
  needOpd := third
  modOk := { t1 := types, sat }
  srcs x := reg a p :: regB x b 1 q ++ (if third then [thirdSrc x 1] else [])
  dsts _ := [{ spec := d }]
  unit _ := some unitInt

/-- A one-source word of class 0. -/
def intShape1 (d a : BitVec 7) (p : BitVec 1) (types : List Nat) (sat : Bool) : Shape where
  mod := true
  modOk := { t1 := types, sat }
  srcs _ := [reg a p]
  dsts _ := [{ spec := d }]
  unit _ := some unitInt

/-- A word of class 1 (R202). -/
def intShapeI (d a : BitVec 7) (p : BitVec 1) (types : List Nat) (sat : Bool) : Shape where
  imm := true
  mod := true
  modOk := { t1 := types, sat }
  srcs _ := [reg a p]
  dsts _ := [{ spec := d }]
  unit _ := some unitInt

/-! ## Results -/

/-- An exact result written mod 2^w, or clamped to the type's range (R56, R200). -/
def wrapOrClamp (w : Nat) (signed sat : Bool) (x : Int) : BitVec w :=
  BitVec.ofInt w (if sat then (clampInt (intLo signed w) (intHi signed w) x).1 else x)

/-- The value of a word under a sign. -/
def intValue {w : Nat} (signed : Bool) (x : BitVec w) : Int := if signed then x.toInt else x.toNat

/-- Exact integer arithmetic on three operands in each active lane, latency 4 (R197, R200). -/
def intArith (sh : Shape) (d : BitVec 7) (opB opC : Go → Val) (f : Bool → Int → Int → Int → Int) (s : State) :
    Host.Outcome State Fault Refusal :=
  issueWord sh s fun g s =>
    let sg := g.pre.signed
    g.writeChecked { spec := d } 4
      (fun i => plain [wrapOrClamp 32 sg g.pre.sat
        (f sg (intValue sg ((g.val 0).w32 i)) (intValue sg ((opB g).w32 i)) (intValue sg ((opC g).w32 i)))]) s

/-- A bitwise function of one or two words in each active lane, latency 4. -/
def wordFn (sh : Shape) (d : BitVec 7) (opB : Go → Val) (f : Word → Word → Word) (s : State) :
    Host.Outcome State Fault Refusal :=
  issueWord sh s fun g s =>
    g.writeChecked { spec := d } 4 (fun i => plain [f ((g.val 0).w32 i) ((opB g).w32 i)]) s

/-- No operand. -/
def noVal (_ : Go) : Val := .scalar 0

/-! ## Shifts and counts (R200, R201) -/

/-- a × 2^n mod 2^w, 0 from n = w. -/
def shiftLeft {w : Nat} (a : BitVec w) (n : Nat) : BitVec w := if n < w then a <<< n else 0
/-- floor(a / 2^n), 0 from n = w. -/
def shiftRight {w : Nat} (a : BitVec w) (n : Nat) : BitVec w := if n < w then a >>> n else 0
/-- floor of the signed quotient, filled with the top bit from n = w. -/
def shiftArith {w : Nat} (a : BitVec w) (n : Nat) : BitVec w := a.sshiftRight (min n (w - 1))

/-- Number of 1 bits. -/
def popCount (a : Word) : Nat := (lanesIn a).length
/-- Zeros above the highest 1 bit; 32 for 0. -/
def leadingZeros (a : Word) : Nat := if a = 0 then 32 else 31 - a.toNat.log2
/-- Bit k of the result is bit 31 − k of a. -/
def bitReverse (a : Word) : Word := maskOf fun k => laneOn a (31 - k)

/-! ## Class 0 -/

/-- d := a + b (R200). -/
def execIadd (d a b : BitVec 7) (p q : BitVec 1) (s : State) : Host.Outcome State Fault Refusal :=
  intArith (intShape d a b p q types32 true false) d (·.opB 1 b q) noVal (fun _ x y _ => x + y) s

/-- d := a − b (R200). -/
def execIsub (d a b : BitVec 7) (p q : BitVec 1) (s : State) : Host.Outcome State Fault Refusal :=
  intArith (intShape d a b p q types32 true false) d (·.opB 1 b q) noVal (fun _ x y _ => x - y) s

/-- d := a × b (R200). -/
def execImul (d a b : BitVec 7) (p q : BitVec 1) (s : State) : Host.Outcome State Fault Refusal :=
  intArith (intShape d a b p q types32 true false) d (·.opB 1 b q) noVal (fun _ x y _ => x * y) s

/-- d := floor(a × b / 2^32) (R200). -/
def execImulh (d a b : BitVec 7) (p q : BitVec 1) (s : State) : Host.Outcome State Fault Refusal :=
  intArith (intShape d a b p q types32 false false) d (·.opB 1 b q) noVal
    (fun _ x y _ => (x * y).fdiv (2 ^ 32)) s

/-- d := a × b + c (R200). -/
def execImad (d a b : BitVec 7) (p q : BitVec 1) (s : State) : Host.Outcome State Fault Refusal :=
  intArith (intShape d a b p q types32 true true) d (·.opB 1 b q) (·.afterB 1) (fun _ x y z => x * y + z) s

/-- d := the smaller of a and b (R200). -/
def execImin (d a b : BitVec 7) (p q : BitVec 1) (s : State) : Host.Outcome State Fault Refusal :=
  intArith (intShape d a b p q types32 false false) d (·.opB 1 b q) noVal (fun _ x y _ => min x y) s

/-- d := the larger of a and b (R200). -/
def execImax (d a b : BitVec 7) (p q : BitVec 1) (s : State) : Host.Outcome State Fault Refusal :=
  intArith (intShape d a b p q types32 false false) d (·.opB 1 b q) noVal (fun _ x y _ => max x y) s

/-- d := |a| (R200). -/
def execIabs (d a : BitVec 7) (p : BitVec 1) (s : State) : Host.Outcome State Fault Refusal :=
  intArith (intShape1 d a p typesI32 true) d noVal noVal (fun _ x _ _ => (x.natAbs : Int)) s

/-- d := a × 2^n, n = b (R201). -/
def execIshl (d a b : BitVec 7) (p q : BitVec 1) (s : State) : Host.Outcome State Fault Refusal :=
  wordFn (intShape d a b p q typesDefault false false) d (·.opB 1 b q) (fun x y => shiftLeft x y.toNat) s

/-- d := floor(a / 2^n), a signed (R201). -/
def execIshr (d a b : BitVec 7) (p q : BitVec 1) (s : State) : Host.Outcome State Fault Refusal :=
  wordFn (intShape d a b p q typesDefault false false) d (·.opB 1 b q) (fun x y => shiftArith x y.toNat) s

/-- d := floor(a / 2^n), a unsigned (R201). -/
def execLshr (d a b : BitVec 7) (p q : BitVec 1) (s : State) : Host.Outcome State Fault Refusal :=
  wordFn (intShape d a b p q typesDefault false false) d (·.opB 1 b q) (fun x y => shiftRight x y.toNat) s

/-- d := the number of 1 bits in a (R200). -/
def execPopc (d a : BitVec 7) (p : BitVec 1) (s : State) : Host.Outcome State Fault Refusal :=
  wordFn (intShape1 d a p typesDefault false) d noVal (fun x _ => BitVec.ofNat 32 (popCount x)) s

/-- d := zeros above the highest 1 bit of a (R200). -/
def execClz (d a : BitVec 7) (p : BitVec 1) (s : State) : Host.Outcome State Fault Refusal :=
  wordFn (intShape1 d a p typesDefault false) d noVal (fun x _ => BitVec.ofNat 32 (leadingZeros x)) s

/-- d := a with its bits in reverse order (R200). -/
def execBrev (d a : BitVec 7) (p : BitVec 1) (s : State) : Host.Outcome State Fault Refusal :=
  wordFn (intShape1 d a p typesDefault false) d noVal (fun x _ => bitReverse x) s

/-! ## Class 1 (R202, R203) -/

/-- The immediate of class 1, sign-extended under `.i32` and zero-extended under `.n32`. -/
def immTyped (i : BitVec 8) (g : Go) : Val := .scalar ((g.imm i g.pre.signed).setWidth 64)
/-- The immediate of the shifts, zero-extended. -/
def immShift (i : BitVec 8) (g : Go) : Val := .scalar ((g.imm i false).setWidth 64)

/-- d := a + imm (R202). -/
def execIaddImm (d a : BitVec 7) (p : BitVec 1) (i : BitVec 8) (s : State) : Host.Outcome State Fault Refusal :=
  intArith (intShapeI d a p types32 true) d (immTyped i) noVal (fun _ x y _ => x + y) s

/-- d := a × imm (R202). -/
def execImulImm (d a : BitVec 7) (p : BitVec 1) (i : BitVec 8) (s : State) : Host.Outcome State Fault Refusal :=
  intArith (intShapeI d a p types32 true) d (immTyped i) noVal (fun _ x y _ => x * y) s

/-- d := the smaller of a and imm (R202). -/
def execIminImm (d a : BitVec 7) (p : BitVec 1) (i : BitVec 8) (s : State) : Host.Outcome State Fault Refusal :=
  intArith (intShapeI d a p types32 false) d (immTyped i) noVal (fun _ x y _ => min x y) s

/-- d := the larger of a and imm (R202). -/
def execImaxImm (d a : BitVec 7) (p : BitVec 1) (i : BitVec 8) (s : State) : Host.Outcome State Fault Refusal :=
  intArith (intShapeI d a p types32 false) d (immTyped i) noVal (fun _ x y _ => max x y) s

/-- d := a × 2^imm (R201, R202). -/
def execIshlImm (d a : BitVec 7) (p : BitVec 1) (i : BitVec 8) (s : State) : Host.Outcome State Fault Refusal :=
  wordFn (intShapeI d a p typesDefault false) d (immShift i) (fun x y => shiftLeft x y.toNat) s

/-- d := floor(a / 2^imm), a signed (R201, R202). -/
def execIshrImm (d a : BitVec 7) (p : BitVec 1) (i : BitVec 8) (s : State) : Host.Outcome State Fault Refusal :=
  wordFn (intShapeI d a p typesDefault false) d (immShift i) (fun x y => shiftArith x y.toNat) s

/-- d := floor(a / 2^imm), a unsigned (R201, R202). -/
def execLshrImm (d a : BitVec 7) (p : BitVec 1) (i : BitVec 8) (s : State) : Host.Outcome State Fault Refusal :=
  wordFn (intShapeI d a p typesDefault false) d (immShift i) (fun x y => shiftRight x y.toNat) s

/-- The bitwise function of a truth table (R203). -/
def truthTable (t : BitVec 8) (a b c : Word) : Word :=
  maskOf fun k => t.getLsbD (bit (laneOn a k) 0 + bit (laneOn b k) 1 + bit (laneOn c k) 2)

/-- What the checks and the scoreboard see of LOGIC3 (R203). -/
def shapeLogic3 (d a : BitVec 7) (p : BitVec 1) : Shape :=
  { extra := .both, needOpd := true, srcs := fun x => [reg a p, thirdSrc x 1, fourthSrc x 1],
      dsts := fun _ => [{ spec := d }], unit := fun _ => some unitInt }

/-- d := tt applied to a, b and c bit by bit (R203). -/
def execLogic3 (d a : BitVec 7) (p : BitVec 1) (t : BitVec 8) (s : State) : Host.Outcome State Fault Refusal :=
  issueWord (shapeLogic3 d a p) s
    fun g s => g.writeChecked { spec := d } 4
      (fun i => plain [truthTable t ((g.val 0).w32 i) ((g.val 1).w32 i) ((g.val 2).w32 i)]) s

/-! ## Class 2 (R204 to R206) -/

/-- Words of an operand of class 2 under its type. -/
def Pre.words2 (p : Pre) : Nat := if p.t1 = 3 || p.t1 = 7 then 1 else 2

/-- A word of class 2 (R199, R204). -/
def bitfShape (d a b : BitVec 7) (p q : BitVec 1) (m : ModOk) (readsD third : Bool) (unit occ : Nat) : Shape where
  imm := true
  immh x := x.words2 == 2
  mod := true
  extra := if third then .third else .none
  needOpd := third
  modOk := m
  fieldsOk x := x.words2 == 1 || (pairOk d && pairOk a && (x.ximm.isSome || pairOk b))
  payloadOk x := !third || pairOk x.third
  srcs x := (if readsD then [regs d x.words2 p] else []) ++ regs a x.words2 p :: regB x b x.words2 q
    ++ (if third then [thirdSrc x 2] else [])
  dsts x := [{ spec := d, words := x.words2 }]
  unit _ := some unit
  occupancy _ := occ

/-- BFE of R205 at width w. -/
def bitExtract {w : Nat} (signed : Bool) (a : BitVec w) (pos len : Nat) : BitVec w :=
  let p := min pos w
  let l := min len (w - p)
  if l = 0 then 0
  else
    let f := a.toNat / 2 ^ p % 2 ^ l
    if signed then BitVec.ofInt w (intOf true l f) else BitVec.ofNat w f

/-- BFI of R205 at width w. -/
def bitInsert {w : Nat} (d a : BitVec w) (pos len : Nat) : BitVec w :=
  let p := min pos w
  let l := min len (w - p)
  let m : BitVec w := BitVec.ofNat w ((2 ^ l - 1) * 2 ^ p)
  (d &&& ~~~m) ||| ((a <<< p) &&& m)

/-- d := the field of a that b names (R205). -/
def execBfe (d a b : BitVec 7) (p q : BitVec 1) (s : State) : Host.Outcome State Fault Refusal :=
  issueWord (bitfShape d a b p q { t1 := [0, 3, 4, 7, 8] } false false unitInt 1) s fun g s =>
    g.writeChecked { spec := d, words := g.pre.words2 } 4 (fun i =>
      let c := (g.opB 1 b q).w32 i
      let pos := (c.extractLsb' 0 8).toNat
      let len := (c.extractLsb' 8 8).toNat
      plain (if g.pre.words2 = 1 then [bitExtract g.pre.signed ((g.val 0).w32 i) pos len]
        else pairWords (bitExtract g.pre.signed ((g.val 0).w64 i) pos len))) s

/-- d := d with the low bits of a in the field that b names (R205). -/
def execBfi (d a b : BitVec 7) (p q : BitVec 1) (s : State) : Host.Outcome State Fault Refusal :=
  issueWord (bitfShape d a b p q { t1 := [0, 3, 4, 7, 8] } true false unitInt 1) s fun g s =>
    g.writeChecked { spec := d, words := g.pre.words2 } 4 (fun i =>
      let c := (g.opB 2 b q).w32 i
      let pos := (c.extractLsb' 0 8).toNat
      let len := (c.extractLsb' 8 8).toNat
      plain (if g.pre.words2 = 1 then [bitInsert ((g.val 0).w32 i) ((g.val 1).w32 i) pos len]
        else pairWords (bitInsert ((g.val 0).w64 i) ((g.val 1).w64 i) pos len))) s

/-- A 64-bit function of a, b and c in each active lane. -/
def wideFn (sh : Shape) (d b : BitVec 7) (q : BitVec 1) (latency : Nat)
    (f : Pre → Dword → Dword → Dword → Dword) (s : State) : Host.Outcome State Fault Refusal :=
  issueWord sh s fun g s =>
    g.writeChecked { spec := d, words := 2 } latency
      (fun i => plain (pairWords (f g.pre ((g.val 0).w64 i) ((g.opB 1 b q).w64 i) ((g.afterB 1).w64 i)))) s

/-- Exact 64-bit arithmetic (R204). -/
def wideArith (f : Int → Int → Int → Int) (p : Pre) (a b c : Dword) : Dword :=
  wrapOrClamp 64 p.signed p.sat (f (intValue p.signed a) (intValue p.signed b) (intValue p.signed c))

/-- d := a + b × 2^sh mod 2^64 (R204). -/
def execLea (d a b : BitVec 7) (p q : BitVec 1) (s : State) : Host.Outcome State Fault Refusal :=
  wideFn (bitfShape d a b p q { t1 := types64, aux := [0, 1, 2, 3, 4, 5, 6, 7] } false false unitInt 1) d b q 4
    (fun x a b _ => a + b <<< x.aux) s

/-- d := a shifted as aux says (R206). -/
def execShf (d a b : BitVec 7) (p q : BitVec 1) (s : State) : Host.Outcome State Fault Refusal :=
  wideFn (bitfShape d a b p q { t1 := types64, aux := [0, 1, 2] } false false unitInt 1) d b q 4
    (fun x a b _ =>
      let n := (b.extractLsb' 0 32).toNat
      match x.aux with
      | 0 => shiftLeft a n
      | 1 => shiftRight a n
      | _ => shiftArith a n) s

/-- d := a + b at width 64 (R204). -/
def execIadd64 (d a b : BitVec 7) (p q : BitVec 1) (s : State) : Host.Outcome State Fault Refusal :=
  wideFn (bitfShape d a b p q { t1 := types64, sat := true } false false unitInt 1) d b q 4
    (wideArith fun x y _ => x + y) s

/-- d := a − b at width 64 (R204). -/
def execIsub64 (d a b : BitVec 7) (p q : BitVec 1) (s : State) : Host.Outcome State Fault Refusal :=
  wideFn (bitfShape d a b p q { t1 := types64, sat := true } false false unitInt 1) d b q 4
    (wideArith fun x y _ => x - y) s

/-- d := a × b at width 64 (R204). -/
def execImul64 (d a b : BitVec 7) (p q : BitVec 1) (s : State) : Host.Outcome State Fault Refusal :=
  wideFn (bitfShape d a b p q { t1 := types64, sat := true } false false unitMul64 2) d b q 8
    (wideArith fun x y _ => x * y) s

/-- d := a × b + c at width 64 (R204). -/
def execImad64 (d a b : BitVec 7) (p q : BitVec 1) (s : State) : Host.Outcome State Fault Refusal :=
  wideFn (bitfShape d a b p q { t1 := types64, sat := true } false true unitMul64 2) d b q 8
    (wideArith fun x y z => x * y + z) s

end Sys2Proof.Machine
end

