-- ==== Sys2Proof/Machine/Compare.lean ====
section
/-!
DEFINITION. Class 3: compares, selection and predicates (R39, R207 to R210).
-/
namespace Sys2Proof.Machine
open Sys2Proof

/-- Words of an operand under a type: 64-bit types take two. -/
def Pre.wordsOf (p : Pre) (wide : List Nat) : Nat := if wide.contains p.t1 then 2 else 1

/-- The fields of a two-source word whose width depends on T1 (R21). -/
def pairFields (wide : List Nat) (a b : BitVec 7) (x : Pre) : Bool :=
  x.wordsOf wide == 1 || (pairOk a && (x.ximm.isSome || pairOk b))

/-- A compare of a and b into a predicate. -/
def cmpShape (e : BitVec 3) (a b : BitVec 7) (p q : BitVec 1) (types wide : List Nat) : Shape where
  imm := true
  mod := true
  modOk := { t1 := types }
  fieldsOk := pairFields wide a b
  srcs x := regs a (x.wordsOf wide) p :: regB x b (x.wordsOf wide) q
  pdsts := [e]
  unit _ := some unitInt

/-- The integer conditions of R39 on the sign of a − b. -/
def condHolds (k : Nat) (x : Int) : Bool :=
  match k with
  | 0 => decide (x = 0)
  | 1 => decide (x ≠ 0)
  | 2 => decide (x < 0)
  | 3 => decide (x ≤ 0)
  | 4 => decide (0 < x)
  | _ => decide (0 ≤ x)

/-- The float conditions of R39 and R207. -/
def floatCond (k : Nat) (a b : Exact) : Bool :=
  let un := a.isNan || b.isNan
  match k with
  | 6 => un
  | 7 => !un
  | 1 => un || condHolds 1 (Exact.cmp a b)
  | _ => !un && condHolds k (Exact.cmp a b)

/-- p := a cond b on integers (R207). -/
def execIcmp (k : BitVec 4) (e : BitVec 3) (a b : BitVec 7) (p q : BitVec 1) (s : State) :
    Host.Outcome State Fault Refusal :=
  issueWord (cmpShape e a b p q [0, 3, 4, 7, 8] [4, 8]) s fun g s =>
    let sg := g.pre.signed
    g.writePred e 4 (fun i =>
      if g.pre.wordsOf [4, 8] = 2 then
        condHolds k.toNat (intValue sg ((g.val 0).w64 i) - intValue sg ((g.opB 1 b q).w64 i))
      else condHolds k.toNat (intValue sg ((g.val 0).w32 i) - intValue sg ((g.opB 1 b q).w32 i))) s

/-- An operand as f32, or as f64. -/
def Val.float (v : Val) (wide : Bool) (lane : Nat) : Exact :=
  if wide then Fmt.f64.value (v.w64 lane).toNat else Fmt.f32.value (v.w32 lane).toNat

/-- p := a cond b on floats (R207). -/
def execFcmp (k : BitVec 4) (e : BitVec 3) (a b : BitVec 7) (p q : BitVec 1) (s : State) :
    Host.Outcome State Fault Refusal :=
  issueWord (cmpShape e a b p q [0, 14, 15] [15]) s fun g s =>
    let wide := g.pre.t1 == 15
    g.writePred e 4 (fun i => floatCond k.toNat ((g.val 0).float wide i) ((g.opB 1 b q).float wide i)) s

/-- The class bit of a code (R208). -/
def classBit (f : Fmt) (c : Nat) : Nat :=
  match f.value c with
  | .nan _ => 0
  | .inf _ => 1
  | .zero _ => 4
  | .mag n _ _ _ => if f.isSubnormal c then (if n then 3 else 5) else (if n then 2 else 6)

/-- What the checks and the scoreboard see of FCLASS (R208). -/
def shapeFclass (e : BitVec 3) (a : BitVec 7) (p : BitVec 1) : Shape :=
  { mod := true, modOk := { t1 := [0, 14, 15] }, fieldsOk := fun x => x.t1 != 15 || pairOk a,
      srcs := fun x => [regs a (x.wordsOf [15]) p], pdsts := [e], unit := fun _ => some unitInt }

/-- p := the class of a is in the mask (R208). -/
def execFclass (e : BitVec 3) (a m : BitVec 7) (p : BitVec 1) (s : State) : Host.Outcome State Fault Refusal :=
  issueWord (shapeFclass e a p) s
    fun g s => g.writePred e 4 (fun i =>
      m.getLsbD (if g.pre.t1 = 15 then classBit .f64 ((g.val 0).w64 i).toNat
        else classBit .f32 ((g.val 0).w32 i).toNat)) s

/-- What the checks and the scoreboard see of SEL (R209). -/
def shapeSel (d a b : BitVec 7) (p q : BitVec 1) : Shape :=
  { imm := true, mod := true, extra := .selector, needOpd := true, modOk := { t1 := [0, 9, 10], aux := [0, 1] },
      fieldsOk := fun x => x.t1 != 10 || (pairOk d && pairOk a && (x.ximm.isSome || pairOk b)),
      srcs := fun x => regs a (x.wordsOf [10]) p :: regB x b (x.wordsOf [10]) q,
      dsts := fun x => [{ spec := d, words := x.wordsOf [10] }],
      psrcs := fun x => [x.third.extractLsb' 0 3], unit := fun _ => some unitInt }

/-- d := a where the predicate is true, b elsewhere (R209). -/
def execSel (d a b : BitVec 7) (p q : BitVec 1) (s : State) : Host.Outcome State Fault Refusal :=
  issueWord (shapeSel d a b p q) s
    fun g s =>
      let m := g.b.pred (g.pre.third.extractLsb' 0 3)
      let pick (i : Nat) : Val := if laneOn m i != (g.pre.aux == 1) then g.val 0 else g.opB 1 b q
      let w := g.pre.wordsOf [10]
      g.writeChecked { spec := d, words := w } 4
        (fun i => plain (if w = 2 then pairWords ((pick i).w64 i) else [(pick i).w32 i])) s

/-- A predicate word (R210). -/
def predShape (e : BitVec 3) (srcs : List (BitVec 3)) (aux : List Nat) : Shape where
  mod := true
  modOk := { aux }
  psrcs _ := srcs
  pdsts := [e]
  unit _ := some unitInt

/-- pa and pb with the inversions of aux (R210). -/
def Go.predArg (g : Go) (f : BitVec 3) (n : Nat) (i : Nat) : Bool := laneOn (g.b.pred f) i != g.pre.aux.testBit n

/-- pd := pa and pb (R210). -/
def execPand (e f h : BitVec 3) (s : State) : Host.Outcome State Fault Refusal :=
  issueWord (predShape e [f, h] [0, 1, 2, 3]) s fun g s =>
    g.writePred e 4 (fun i => g.predArg f 0 i && g.predArg h 1 i) s

/-- pd := pa or pb (R210). -/
def execPor (e f h : BitVec 3) (s : State) : Host.Outcome State Fault Refusal :=
  issueWord (predShape e [f, h] [0, 1, 2, 3]) s fun g s =>
    g.writePred e 4 (fun i => g.predArg f 0 i || g.predArg h 1 i) s

/-- pd := pa xor pb (R210). -/
def execPxor (e f h : BitVec 3) (s : State) : Host.Outcome State Fault Refusal :=
  issueWord (predShape e [f, h] [0, 1, 2, 3]) s fun g s =>
    g.writePred e 4 (fun i => g.predArg f 0 i != g.predArg h 1 i) s

/-- pd := not pa (R210). -/
def execPnot (e f : BitVec 3) (s : State) : Host.Outcome State Fault Refusal :=
  issueWord (predShape e [f] [0, 1]) s fun g s => g.writePred e 4 (fun i => !g.predArg f 0 i) s

end Sys2Proof.Machine
end

