-- ==== Sys2Proof/Machine/Float.lean ====
section
/-!
DEFINITION. Classes 4, 5 and 6: float arithmetic in f32, f64 and packed 16-bit pairs (R211 to R214).
-/
namespace Sys2Proof.Machine
open Sys2Proof

/-! ## One element -/

/-- The element format of a word: f32 or f64 in class 4, f16 or bf16 in class 5. -/
def Pre.fmt4 (p : Pre) : Fmt := if p.t1 = 15 then .f64 else .f32
/-- The element format of class 5. -/
def Pre.fmt5 (p : Pre) : Fmt := if p.t1 = 17 then .bf16 else .f16

/-- Is a format flushed for this word (R63)? -/
def Go.ftz (g : Go) (f : Fmt) : Bool :=
  match f with
  | .f32 => g.b.fctl.ftz32
  | .f16 => g.b.fctl.ftz16
  | .bf16 => g.b.fctl.ftz16
  | .f64 | .e5m2 | .e4m3 | .e3m2 | .e2m3 | .e2m1 => false

/-- A code after the flush of an operand (R63). -/
def flushCode (f : Fmt) (ftz : Bool) (c : Nat) : Nat :=
  if ftz && f.isSubnormal c then f.withSign (f.signOf c) 0 else c

/-- FMIN and FMAX of two codes (R212). -/
def minMaxCode (f : Fmt) (ftz wantMax : Bool) (ca cb : Nat) : Rounded :=
  let ca := flushCode f ftz ca
  let cb := flushCode f ftz cb
  let a := f.value ca
  let b := f.value cb
  let nv := a = .nan true || b = .nan true
  match a.isNan, b.isNan with
  | true, true => ⟨(nanResult f false).code, { nv }⟩
  | true, false => ⟨cb, { nv }⟩
  | false, true => ⟨ca, { nv }⟩
  | false, false =>
    let c := Exact.cmp a b
    -- −0 counts as less than +0
    let less := decide (c < 0) || (decide (c = 0) && a.signBit && !b.signBit)
    ⟨if less != wantMax then ca else cb, {}⟩

/-- Float operations on one element (Table 10.3). -/
inductive FOp where
  | add | sub | mul | fma | min | max | rnd | abs | neg | scale
  deriving DecidableEq, Repr

/-- Does the op accept rounding and `.sat` (Table 10.3)? -/
def FOp.rounds : FOp → Bool
  | .min | .max | .abs | .neg => false
  | .add | .sub | .mul | .fma | .rnd | .scale => true

/-- Number of source operands. -/
def FOp.arity : FOp → Nat
  | .fma => 3
  | .rnd | .abs | .neg => 1
  | .add | .sub | .mul | .min | .max | .scale => 2

/-- One element of a class 4, 5 or 6 word from its operand codes (R211, R212). -/
def FOp.apply (op : FOp) (f : Fmt) (mode : RMode) (cx : FCtx) (ca cb cc : Nat) : Rounded :=
  let a := f.operand cx.ftz ca
  let b := f.operand cx.ftz cb
  match op with
  | .add => round f mode cx (Exact.add mode a b)
  | .sub => round f mode cx (Exact.add mode a b.neg)
  | .mul => round f mode cx (Exact.mul a b)
  | .fma => round f mode cx (Exact.add mode (Exact.mul a b) (f.operand cx.ftz cc))
  | .min => minMaxCode f cx.ftz false ca cb
  | .max => minMaxCode f cx.ftz true ca cb
  | .rnd => roundIntegral f mode cx a
  | .abs => ⟨f.withSign false (f.absOf ca), {}⟩
  | .neg => ⟨f.withSign (!f.signOf ca) (f.absOf ca), {}⟩
  | .scale => round f mode cx (a.scale (intOf true f.width cb))

/-! ## Class 4 -/

/-- Unit of a class 4 word: f64 has its own (Table 10.1). -/
def Pre.unit4 (p : Pre) : Nat := if p.t1 = 15 then unitF64 else unitFloat
/-- Its latency. -/
def Pre.latency4 (p : Pre) : Nat := if p.t1 = 15 then 20 else 4

/-- A word of class 4 (R199, R211). -/
def falu32Shape (op : FOp) (d a b : BitVec 7) (p q : BitVec 1) : Shape where
  imm := op.arity != 1
  mod := true
  extra := if op.arity = 3 then .third else .none
  needOpd := op.arity == 3
  modOk := { t1 := [0, 14, 15], rnd := if op.rounds then anyRnd else [0], sat := op.rounds }
  fieldsOk x := x.t1 != 15 || (pairOk d && pairOk a && (op.arity == 1 || x.ximm.isSome || pairOk b))
  payloadOk x := !(x.t1 == 15 && op.arity == 3) || pairOk x.third
  srcs x := regs a (x.wordsOf [15]) p :: (if op.arity = 1 then [] else regB x b (x.wordsOf [15]) q)
    ++ (if op.arity = 3 then [thirdSrc x (x.wordsOf [15])] else [])
  dsts x := [{ spec := d, words := x.wordsOf [15] }]
  unit x := some x.unit4
  occupancy x := if x.t1 = 15 then 16 else 1

/-- The code of a 32-bit or 64-bit operand in a lane. -/
def Val.code (v : Val) (words lane : Nat) : Nat := if words = 2 then (v.w64 lane).toNat else (v.w32 lane).toNat

/-- A code as one or two result words. -/
def codeWords (words c : Nat) : List Word :=
  if words = 2 then pairWords (BitVec.ofNat 64 c) else [BitVec.ofNat 32 c]

/-- A class 4 word (R211). -/
def falu32 (op : FOp) (d a b : BitVec 7) (p q : BitVec 1) (s : State) : Host.Outcome State Fault Refusal :=
  issueWord (falu32Shape op d a b p q) s fun g s =>
    let f := g.pre.fmt4
    let w := g.pre.wordsOf [15]
    g.writeFloat { spec := d, words := w } g.pre.latency4 (fun i =>
      let r := op.apply f g.mode (g.fctx (g.ftz f)) ((g.val 0).code w i) ((g.opB 1 b q).code w i)
        ((g.afterB 1).code w i)
      { words := codeWords w r.code, flags := r.flags }) s

/-- d := a + b (R211). -/
def execFadd (d a b : BitVec 7) (p q : BitVec 1) (s : State) : Host.Outcome State Fault Refusal := falu32 .add d a b p q s
/-- d := a − b (R211). -/
def execFsub (d a b : BitVec 7) (p q : BitVec 1) (s : State) : Host.Outcome State Fault Refusal := falu32 .sub d a b p q s
/-- d := a × b (R211). -/
def execFmul (d a b : BitVec 7) (p q : BitVec 1) (s : State) : Host.Outcome State Fault Refusal := falu32 .mul d a b p q s
/-- d := a × b + c, rounded once (R211). -/
def execFfma (d a b : BitVec 7) (p q : BitVec 1) (s : State) : Host.Outcome State Fault Refusal := falu32 .fma d a b p q s
/-- d := the smaller of a and b (R212). -/
def execFmin (d a b : BitVec 7) (p q : BitVec 1) (s : State) : Host.Outcome State Fault Refusal := falu32 .min d a b p q s
/-- d := the larger of a and b (R212). -/
def execFmax (d a b : BitVec 7) (p q : BitVec 1) (s : State) : Host.Outcome State Fault Refusal := falu32 .max d a b p q s
/-- d := a rounded to an integral value (R211). -/
def execFrnd (d a : BitVec 7) (p : BitVec 1) (s : State) : Host.Outcome State Fault Refusal := falu32 .rnd d a 0 p 0 s
/-- d := a with sign 0 (R211). -/
def execFabs (d a : BitVec 7) (p : BitVec 1) (s : State) : Host.Outcome State Fault Refusal := falu32 .abs d a 0 p 0 s
/-- d := a with its sign inverted (R211). -/
def execFneg (d a : BitVec 7) (p : BitVec 1) (s : State) : Host.Outcome State Fault Refusal := falu32 .neg d a 0 p 0 s
/-- d := a × 2^n, n = b (R211). -/
def execFscale (d a b : BitVec 7) (p q : BitVec 1) (s : State) : Host.Outcome State Fault Refusal :=
  falu32 .scale d a b p q s

/-! ## Class 5 (R213) -/

/-- A word of class 5. -/
def falu16Shape (op : FOp) (d a b : BitVec 7) (p q : BitVec 1) : Shape where
  imm := op.arity != 1
  mod := true
  extra := if op.arity = 3 then .third else .none
  needOpd := op.arity == 3
  modOk := { t1 := [0, 16, 17], rnd := if op.rounds then anyRnd else [0], sat := op.rounds }
  srcs x := regs a 1 p :: (if op.arity = 1 then [] else regB x b 1 q) ++ (if op.arity = 3 then [thirdSrc x 1] else [])
  dsts _ := [{ spec := d }]
  unit _ := some unitFloat

/-- Element k of a packed word. -/
def half (w : Word) (k : Nat) : Nat := w.toNat / 2 ^ (16 * k) % 2 ^ 16

/-- A class 5 word: the op on each element, the flags OR-ed (R213). -/
def falu16 (op : FOp) (d a b : BitVec 7) (p q : BitVec 1) (s : State) : Host.Outcome State Fault Refusal :=
  issueWord (falu16Shape op d a b p q) s fun g s =>
    let f := g.pre.fmt5
    g.writeFloat { spec := d } 4 (fun i =>
      let r (k : Nat) := op.apply f g.mode (g.fctx (g.ftz f)) (half ((g.val 0).w32 i) k)
        (half ((g.opB 1 b q).w32 i) k) (half ((g.afterB 1).w32 i) k)
      { words := [BitVec.ofNat 32 ((r 1).code * 2 ^ 16 + (r 0).code)], flags := (r 0).flags.or (r 1).flags }) s

/-- Packed FADD (R213). -/
def execFaddPacked (d a b : BitVec 7) (p q : BitVec 1) (s : State) : Host.Outcome State Fault Refusal := falu16 .add d a b p q s
/-- Packed FSUB (R213). -/
def execFsubPacked (d a b : BitVec 7) (p q : BitVec 1) (s : State) : Host.Outcome State Fault Refusal := falu16 .sub d a b p q s
/-- Packed FMUL (R213). -/
def execFmulPacked (d a b : BitVec 7) (p q : BitVec 1) (s : State) : Host.Outcome State Fault Refusal := falu16 .mul d a b p q s
/-- Packed FFMA (R213). -/
def execFfmaPacked (d a b : BitVec 7) (p q : BitVec 1) (s : State) : Host.Outcome State Fault Refusal := falu16 .fma d a b p q s
/-- Packed FMIN (R213). -/
def execFminPacked (d a b : BitVec 7) (p q : BitVec 1) (s : State) : Host.Outcome State Fault Refusal := falu16 .min d a b p q s
/-- Packed FMAX (R213). -/
def execFmaxPacked (d a b : BitVec 7) (p q : BitVec 1) (s : State) : Host.Outcome State Fault Refusal := falu16 .max d a b p q s
/-- Packed FRND (R213). -/
def execFrndPacked (d a : BitVec 7) (p : BitVec 1) (s : State) : Host.Outcome State Fault Refusal := falu16 .rnd d a 0 p 0 s
/-- Packed FABS (R213). -/
def execFabsPacked (d a : BitVec 7) (p : BitVec 1) (s : State) : Host.Outcome State Fault Refusal := falu16 .abs d a 0 p 0 s
/-- Packed FNEG (R213). -/
def execFnegPacked (d a : BitVec 7) (p : BitVec 1) (s : State) : Host.Outcome State Fault Refusal := falu16 .neg d a 0 p 0 s
/-- Packed FSCALE (R213). -/
def execFscalePacked (d a b : BitVec 7) (p q : BitVec 1) (s : State) : Host.Outcome State Fault Refusal :=
  falu16 .scale d a b p q s

/-! ## Class 6 (R214) -/

/-- The f32 pattern of an e4m3 immediate, exact, or that of XIMM (R28, R214). -/
def Go.immF32 (g : Go) (i : BitVec 8) : Nat :=
  if g.pre.ximm.isSome then (g.pre.imm32 i).toNat else (round .f32 .rn {} (Fmt.e4m3.value i.toNat)).code

/-- What the checks and the scoreboard see of a class 6 word (R214). -/
def shapeFaluImm (op : FOp) (d a : BitVec 7) (p : BitVec 1) : Shape :=
  { imm := true, mod := true, modOk := { rnd := if op.rounds then anyRnd else [0], sat := op.rounds },
    srcs := fun _ => if op.arity = 3 then [reg d p, reg a p] else [reg a p],
    dsts := fun _ => [{ spec := d }], unit := fun _ => some unitFloat }

/-- A class 6 word: class 4 with b the immediate; FFMA adds d. -/
def faluImm (op : FOp) (d a : BitVec 7) (p : BitVec 1) (i : BitVec 8) (s : State) :
    Host.Outcome State Fault Refusal :=
  let fma := op.arity == 3
  issueWord (shapeFaluImm op d a p) s
    fun g s => g.writeFloat { spec := d } 4 (fun l =>
      let x := if fma then g.val 1 else g.val 0
      let r := op.apply .f32 g.mode (g.fctx (g.ftz .f32)) (x.w32 l).toNat (g.immF32 i) ((g.val 0).w32 l).toNat
      { words := [BitVec.ofNat 32 r.code], flags := r.flags }) s

/-- d := a + imm (R214). -/
def execFaddImm (d a : BitVec 7) (p : BitVec 1) (i : BitVec 8) (s : State) : Host.Outcome State Fault Refusal :=
  faluImm .add d a p i s
/-- d := a × imm (R214). -/
def execFmulImm (d a : BitVec 7) (p : BitVec 1) (i : BitVec 8) (s : State) : Host.Outcome State Fault Refusal :=
  faluImm .mul d a p i s
/-- d := a × imm + d (R214). -/
def execFfmaImm (d a : BitVec 7) (p : BitVec 1) (i : BitVec 8) (s : State) : Host.Outcome State Fault Refusal :=
  faluImm .fma d a p i s
/-- d := the smaller of a and imm (R212, R214). -/
def execFminImm (d a : BitVec 7) (p : BitVec 1) (i : BitVec 8) (s : State) : Host.Outcome State Fault Refusal :=
  faluImm .min d a p i s

end Sys2Proof.Machine
end

