-- ==== Sys2Proof/Machine/Bus.lean ====
section
/-!
DEFINITION. The vertical buses: requests at a column's arbiter, the order of its grants, and a bus under test (R113, R425).
-/
namespace Sys2Proof.Machine
open Sys2Proof

/-- Replace a transaction. -/
def State.setTxn (s : State) (id : Nat) (t : Txn) : State := { s with txns := s.txns.put id t }

/-- The lines that a transaction acts on: that which stands for it, and the others that it writes. -/
def Txn.lines (t : Txn) : List Nat := t.line :: t.also

/-- The step at which a transaction acts. -/
def Txn.event (t : Txn) : Instr :=
  match t.kind with
  | .sector _ _ _ => .homeRead
  | .pooled store => if store then .writeBufferArrival else .homeRead
  | .cardRead => .homeRead
  | .write => .homeWrite
  | .writeBack => .homeWrite
  | .card => .homeWrite
  | .host => .homeWrite
  | .base _ => .homeWrite
  | .spill => .homeWrite
  | .walk _ => .homeRead
  | .hostRead => .homeRead
  | .transfer => .homeRead
  | .atomic => .homeAtomic
  | .red _ => .redDrainEntry
  | .mxacc => .mxaccAtHome
  | .pull _ _ => .pull

/-- Cycles from a request's arrival at its column to its step there: the tag check (Table 1.4), what R306 gives a write
beyond its way to the column, or nothing at a bank of the scratchpad (R123). -/
def Txn.lead (t : Txn) : Nat :=
  match t.kind with
  | .sector _ _ _ => if inAperture t.line then 0 else 12
  | .cardRead => if inAperture t.line then 0 else 12
  | .walk _ => if inAperture t.line then 0 else 12
  | .hostRead => 12
  | .transfer => 0
  | .pooled _ => 0
  | _ => if inAperture t.line then 0 else 22

/-- The places of the tower network and of the hub (R113). -/
def towerRank : Nat := 5
def hubRank : Nat := 6

/-- The place of a request among those that arrive in one memory-layer cycle (R113). -/
def Txn.place (t : Txn) : Nat :=
  t.rank.getD (
    if t.gather then 4
    else if t.core = t.column then 0
    else if clusterOf t.core = clusterOf t.column then 1
    else if towerOf t.core = towerOf t.column then towerRank
    else hubRank)

/-- What orders the requests at an arbiter: the memory-layer cycle of arrival, the place, among the cores of the cluster the
core number, then the order of arrival (R113). -/
def busKey (p : Nat × Txn) : List Nat :=
  [layerCycle (p.2.waits.getD 0), p.2.place, if p.2.place = 1 then p.2.core else 0, p.2.waits.getD 0, p.1]

/-- The request that an arbiter grants first. -/
def busHead (ts : List (Nat × Txn)) : Option (Nat × Txn) :=
  ts.foldl (fun b t => match b with
    | none => some t
    | some u => if busKey t < busKey u then some t else b) none

/-- Let a column's arbiter have its turn at the end of a memory-layer cycle, unless a turn is due. -/
def State.busTurn (s : State) (n m : Nat) : State :=
  let c := s.column n
  if c.busTurn ≠ 0 then s
  else (s.setColumn n { c with busTurn := ofLayerCycle (m + 1) }).postAt (ofLayerCycle (m + 1)) .homeRead [n, 0]

/-- Is the bus of a column under test in a memory-layer cycle (R425)? -/
def Column.tested (c : Column) (m : Nat) : Bool :=
  decide (layerCycle c.testFrom ≤ m ∧ ofLayerCycle m < c.testUntil)

/-- A request has no transfer of its own where it asks for part of what its instruction has asked for already: of a 256-B
line, or of one request of a card. -/
def Txn.sameLine (t u : Txn) : Bool :=
  decide (t.column = u.column)
    && (t.flight.isSome && decide (t.flight = u.flight ∧ t.va / 256 = u.va / 256)
      || t.card.isSome && decide (t.card = u.card ∧ t.kind = u.kind))

/-- A request reaches its column's arbiter. A card's requests are spaced as they are issued (R165). One instruction's n-th
transfer on the bus completes ceil(13·(n − 1) / 4) cycles after its first (R113). -/
def State.board (s : State) (id : Nat) (t : Txn) : State :=
  let mine := s.txns.filter fun u => decide (u.1 ≠ id ∧ u.2.flight = t.flight ∧ u.2.column = t.column) && t.flight.isSome
    && (u.2.waits.isSome || u.2.granted)
  match s.txns.find? fun u => decide (u.1 ≠ id) && (u.2.waits.isSome || u.2.granted) && t.sameLine u.2 with
  | some (_, u) =>
    let t := { t with bankAt := u.bankAt }
    if u.granted then (s.setTxn id { t with granted := true, reached := s.now }).post t.lead t.event [id]
    else s.setTxn id { t with waits := some s.now, ahead := u.ahead, first := u.first }
  | none =>
    let m := layerCycle s.now
    let t := { t with
      waits := some s.now
      bankAt := mine.foldl (fun a u => min a u.2.bankAt) s.now
      ahead := (mine.map fun u => u.2.va / 256).eraseDups.length
      first := if t.card.isSome then max m t.first else mine.foldl (fun a u => min a u.2.first) m }
    (s.setTxn id t).busTurn t.column m

/-- The arbiter grants a request the memory-layer cycle m: it goes on once its wait is over. DESIGN CHOICE (log 99): the
transfer delivers its data as they are, whatever wire of the bus is stuck; the spec maps no byte to a wire. -/
def State.grantBus (s : State) (m : Nat) (p : Nat × Txn) : State :=
  let t := p.2
  let a := t.waits.getD s.now
  let behind := m - max (layerCycle a) (t.first + t.ahead)
  let d := ceilDiv (13 * (t.ahead + behind)) 4
  (s.setTxn p.1 { t with waits := none, granted := true, reached := a + d, bankAt := t.bankAt + ceilDiv (13 * behind) 4 }).postAt (a + d + t.lead) t.event [p.1]

/-- A column's arbiter grants the transfer of the memory-layer cycle that has ended: one in each, in the order of R113, and
none while its bus is tested (R425). -/
def State.arbitrate (s : State) (n : Nat) : State :=
  let c := s.column n
  let s := s.setColumn n { c with busTurn := 0 }
  let m := layerCycle s.now - 1
  let waiting := s.txns.filter fun t => decide (t.2.column = n) && t.2.waits.isSome
  match busHead (waiting.filter fun t => decide (layerCycle (t.2.waits.getD 0) ≤ m)) with
  | none => if waiting.isEmpty then s else s.busTurn n (m + 1)
  | some (id, t) =>
    if decide (m < c.busFree) || c.tested m then s.busTurn n (m + 1)
    else
      let group := waiting.filter fun u => decide (u.1 = id) || t.sameLine u.2
      let s := group.foldl (State.grantBus · m) s
      let s := s.setColumn n { s.column n with busFree := m + t.transfers }
      if group.length < waiting.length then s.busTurn n (m + 1) else s

/-- Enter a transaction and let it reach its place at a cycle. -/
def State.sendTxn (s : State) (t : Txn) (at_ : Nat) : Nat × State :=
  let (id, s) := s.fresh
  (id, (s.setTxn id t).postAt at_ t.event [id])

/-- No context: that of a transfer that no context's end or kill waits for. -/
def noCtx : Nat := 256

/-- An access that is performed elsewhere has a transfer of 256 B on a column's bus: it waits its turn there and holds up what
comes after it (R113). DESIGN CHOICE (log 116): the count that its rule gives the access stands. -/
def State.transfer (s : State) (core column : Nat) (rank : Option Nat) : State :=
  let (id, s) := s.fresh
  s.board id { kind := .transfer, core, column, rank, ctx := noCtx }

/-! ## GDDR channels (R368) -/

/-- A channel has taken a command: at most the last 99 are kept, which with the next make a run of 100. -/
def Channel.take (c : Channel) (now : Nat) (part : Bool) : Channel :=
  { c with free := now + Config.commandTime, grants := (part :: c.grants).take 99 }

/-- Does a core lie in the system partition (R368)? -/
def State.partitioned (s : State) (core : Nat) : Bool := s.hub.partClusters.getLsbD (clusterOf core)

/-- The tower of a waiting transaction. -/
def State.waiterTower (s : State) (p : Nat × Nat × Nat) : Nat := towerOf (((s.txns.look p.1).map (·.core)).getD 0)

/-- The command a channel takes next of those that wait: one of the partition's where the last 99 would leave a run of 100
below its floor, else the earliest, ties in ascending tower (R368; Table 19.2). DEDUCED: the floor is kept by granting the
partition first in such a run. -/
def State.nextCommand (s : State) (c : Channel) : Option (Nat × Nat × Nat) :=
  let mine (p : Nat × Nat × Nat) : Bool := (s.txns.look p.1).any fun t => s.partitioned t.core
  let short := (c.grants.filter fun g => g).length < min 50 s.hub.partFloor.toNat
  let part := c.waiting.filter mine
  (if short && !part.isEmpty then part else c.waiting).foldl (fun (b : Option (Nat × Nat × Nat)) p =>
    match b with
    | none => some p
    | some q => if ([p.2.2, s.waiterTower p] : List Nat) < [q.2.2, s.waiterTower q] then some p else b) none

/-- Replace a channel. -/
def State.setChannel (s : State) (n : Nat) (c : Channel) : State :=
  s.setHub { s.hub with channels := s.hub.channels.put n c }

/-- Has a transaction, or one beside it of the same instruction or card, a command for a granule already? -/
def State.hasCommand (s : State) (id : Nat) (t : Txn) (g : Nat) : Bool :=
  t.commanded.contains g || s.txns.any fun u => decide (u.1 ≠ id) && u.2.commanded.contains g
    && (t.flight.isSome && decide (t.flight = u.2.flight) || t.card.isSome && decide (t.card = u.2.card ∧ t.kind = u.2.kind))

/-- A transaction waits for a channel's command for a granule; the channel takes one once it is free. -/
def State.askChannel (s : State) (id g : Nat) : State :=
  let n := channelOf (g * 256)
  let c := (s.hub.channels.look n).getD {}
  if c.waiting.any fun p => decide (p.1 = id ∧ p.2.1 = g) then s
  else
    let s := if c.waiting.isEmpty then s.postAt (max s.now c.free) .hostDataArrival [n, 0] else s
    s.setChannel n { c with waiting := c.waiting ++ [(id, g, s.now)] }

/-- A transaction asks the channels of some lines for commands, one for each 256-B granule: true once it has them all. -/
def State.command (s : State) (id : Nat) (t : Txn) (xs : List Nat) : Bool × State :=
  match ((xs.map (· / 2)).eraseDups).filter fun g => !s.hasCommand id t g with
  | [] => (true, s)
  | gs => (false, gs.foldl (fun s g => s.askChannel id g) s)

/-- Is a request still to reach its home in this cycle, which a channel's choice waits for? -/
def reachesHome (now : Nat) (e : Nat × Event) : Bool :=
  decide (e.1 ≤ now ∧ e.2.args.length = 1) && ([Instr.homeRead, .homeWrite, .homeAtomic, .redDrainEntry, .mxaccAtHome].contains e.2.what)

/-- A channel that is free takes its next command: that transaction goes on, with what its own others wait for there. -/
def State.commandTurn (s : State) (n : Nat) : State :=
  let c := (s.hub.channels.look n).getD {}
  if s.agenda.any (reachesHome s.now) then s.post 0 .hostDataArrival [n, 0]
  else
    match s.nextCommand c with
    | none => s
    | some p =>
      let rest := c.waiting.filter fun q => decide (q ≠ p)
      match s.txns.look p.1 with
      | none => (s.setChannel n { c with waiting := rest }).post 0 .hostDataArrival [n, 0]
      | some t =>
        let s := (s.setTxn p.1 { t with commanded := t.commanded ++ [p.2.1] }).post 0 t.event [p.1]
        let served := rest.filter fun q => decide (q.2.1 = p.2.1) && (s.txns.look q.1).any fun u => s.hasCommand q.1 u q.2.1
        let s := served.foldl (fun s q => match s.txns.look q.1 with
          | some u => s.post 0 u.event [q.1]
          | none => s) s
        let c := { (c.take s.now (s.partitioned t.core)) with waiting := rest.filter fun q => !served.contains q }
        let s := s.setChannel n c
        if c.waiting.isEmpty then s else s.postAt (max s.now c.free) .hostDataArrival [n, 0]

/-- A line is written back to GDDR: its channel takes a command for it (R368). -/
def State.backToGddr (s : State) (tower x : Nat) : State :=
  let (id, s) := s.fresh
  let t : Txn := { kind := .transfer, core := 48 * tower, column := 48 * tower, ctx := noCtx, line := x, granted := true }
  (s.setTxn id t).askChannel id (x / 2)

end Sys2Proof.Machine
end

