-- ==== Sys2Proof/Machine/Home.lean ====
section
/-!
DEFINITION. What happens at a line's home: its bytes, its versions (R134 to R142), the stacked cache (R117 to
R119, R439), the snoop filter (R106 to R108), poison (R102) and release records (R332). The bytes of an ordinary
label-0 line are memory itself, wherever a clean or dirty copy of it is cached: R103 keeps the copies equal.
-/
namespace Sys2Proof.Machine
open Sys2Proof

/-! ## Bytes -/

/-- A byte as it stands within the step: what the step has written, else memory. -/
def State.byteAt (s : State) (a : Nat) : Byte :=
  match s.pending.reverse.find? fun c => decide (c.1 = a) with
  | some c => c.2
  | none => s.mem.read a

/-- Write a byte. -/
def State.poke (s : State) (a : Nat) (v : Byte) : State := { s with pending := s.pending ++ [(a, v)] }

/-- Write bytes from an address. -/
def State.pokes (s : State) (a : Nat) (bs : List Byte) : State :=
  { s with pending := s.pending ++ bs.zipIdx.map fun p => (a + p.2, p.1) }

/-- Where a physical access goes once a migration has switched (R94). -/
def State.redirect (s : State) (pa : Nat) : Nat :=
  match s.hub.migs.find? fun m => m.2.state == 3#2 && decide (m.2.src.toNat * 4096 ≤ pa)
      && decide (pa < (m.2.src.toNat + m.2.units.toNat + 1) * 4096) with
  | some m => m.2.dst.toNat * 4096 + (pa - m.2.src.toNat * 4096)
  | none => pa

/-- The line a physical line is served from. -/
def State.redirectLine (s : State) (x : Nat) : Nat := lineOf (s.redirect (x * 128))

/-- The cell of memory that a byte of a home line lives in: one of a pool window lies at the fabric address that the window
names, which another window may name too (R98). -/
def State.cellOf (s : State) (a : Nat) : Nat :=
  match placeOf a with
  | .pool o => match fabricAddress s.hub o with
    | some f => 2 * poolBase + f
    | none => a
  | _ => a

/-! ## Who reads or writes -/

/-- For whom an access is made at the home: its context, its label (0 on a page without versions), its chunk slot,
and whether the page carries versions (R133, R135). -/
structure Who where
  ctx : Nat
  label : BitVec 3 := 0
  chunk : Option Nat := none
  ver : Bool := false
  deriving DecidableEq, Repr

/-- The labels of the chain, in order (R135); a dead label's lines are never found. -/
def State.chainLabels (s : State) (w : Who) : List (BitVec 3) :=
  let c := (s.ctx w.ctx).clabel
  let rest : List (BitVec 3) := if c = 0 then [0] else [c, 0]
  let dead : Bool := (((s.ctx w.ctx).labels.look w.label.toNat).getD {}).state == .dead
  if !w.ver then [0]
  else if w.label = 0 || dead then rest
  else w.label :: rest.filter fun l => decide (l ≠ w.label)

/-- The state of a chunk slot. -/
def Context.chunk (c : Context) (sl : Nat) : ChunkState := (c.chunks.look sl).getD .free

/-- The rank of a version within its label, the first found highest: the reader's own pending line, then committed
slots from the latest, then the ordinary line; none for lines that are never found (R135). -/
def State.versionRank (s : State) (w : Who) (v : Version) : Option Nat :=
  match v.slot with
  | none => some 0
  | some sl =>
    match (s.ctx v.ctx).chunk sl with
    | .running => if w.chunk = some sl then some (2 ^ 64) else none
    | .committed q => some (q + 1)
    | _ => none

/-- The version of one label that a reader finds in a line. -/
def State.labelFind (s : State) (w : Who) (x : Nat) (l : BitVec 3) : Option Version :=
  (s.versions.filter fun v => decide (v.ctx = w.ctx ∧ v.line = x ∧ v.label = l)).foldl
    (fun best v =>
      match s.versionRank w v, best.bind (s.versionRank w) with
      | none, _ => best
      | some _, none => some v
      | some r, some q => if q < r then some v else best) none

/-- The first version in the reader's chain; none where the chain comes to the ordinary base line. -/
def State.chainFind (s : State) (w : Who) (x : Nat) : Option Version :=
  (s.chainLabels w).findSome? (s.labelFind w x)

/-- Has the line a version other than its ordinary base line (R134)? -/
def State.hasVersion (s : State) (x : Nat) : Bool := s.versions.any fun v => decide (v.line = x)

/-! ## Stacked cache (R117 to R119) -/

/-- touch(w) of R439 on the node bits of a set. -/
def plruTouch (bits : BitVec 16) (w : Nat) : BitVec 16 :=
  [1, 2, 3, 4].foldl (fun b k =>
    let n := (16 + w) / 2 ^ k
    let c := (16 + w) / 2 ^ (k - 1)
    if c = 2 * n then b ||| (1#16 <<< n) else b &&& ~~~(1#16 <<< n)) bits

/-- Ways under node n of the tree. -/
def plruUnder (n : Nat) : List Nat :=
  (List.range 16).filter fun w => (16 + w) / 8 = n || (16 + w) / 4 = n || (16 + w) / 2 = n || 16 + w = n || n = 1

/-- victim(E) of R439. -/
def plruVictim (bits : BitVec 16) (e : Nat → Bool) : Nat :=
  [(), (), (), ()].foldl (fun n _ =>
    let b := if bits.getLsbD n then 1 else 0
    if (plruUnder (2 * n + b)).any e then 2 * n + b else 2 * n + 1 - b) 1 - 16

/-- The ways of a set, lowest first. -/
def Column.setWays (c : Column) (set : Nat) : List (Nat × CacheWay) :=
  (List.range 16).filterMap fun w => (c.ways.look (16 * set + w)).map fun y => (w, y)

/-- The way of a column that holds a line: the ordinary one, or that of a version. -/
def Column.findWay (c : Column) (set x ctx : Nat) (label : BitVec 3) (slot : Option Nat) : Option Nat :=
  ((c.setWays set).find? fun p => decide (p.2.line = x ∧ p.2.label = label ∧ p.2.slot = slot)
    && (decide (label = 0) && slot.isNone || decide (p.2.ctx = ctx))).map (·.1)

/-- Is the ordinary line present in a tower's stacked cache? -/
def State.cachedIn (s : State) (tower x : Nat) : Bool :=
  match columnOf s tower x with
  | some n => ((s.column n).findWay (setOf s n x) x 0 0 none).isSome
  | none => false

/-- Touch a way of a set. -/
def State.touchWay (s : State) (n set w : Nat) : State :=
  let c := s.column n
  s.setColumn n { c with bits := c.bits.put set (plruTouch ((c.bits.look set).getD 0) w) }

/-- Is a version of a context, label and slot dead (R119, R138, R153)? -/
def State.deadVersion (s : State) (ctx : Nat) (label : BitVec 3) (slot : Option Nat) : Bool :=
  (decide (label ≠ 0) && ((((s.ctx ctx).labels.look label.toNat).getD {}).state == .dead))
    || match slot with
       | some sl => (s.ctx ctx).chunk sl == .dead
       | none => false

/-- Is the version in a way dead? -/
def State.wayDead (s : State) (y : CacheWay) : Bool := s.deadVersion y.ctx y.label y.slot

/-- Change the way of a line's home column that holds its ordinary line, or a version. -/
def State.onWay (s : State) (x ctx : Nat) (label : BitVec 3) (slot : Option Nat) (f : CacheWay → Option CacheWay) : State :=
  match columnOf s (homeTower (x * 128)) x with
  | none => s
  | some n =>
    let c := s.column n
    let set := setOf s n x
    match c.findWay set x ctx label slot with
    | none => s
    | some w =>
      match (c.ways.look (16 * set + w)).bind f with
      | some y => s.setColumn n { c with ways := c.ways.put (16 * set + w) y }
      | none => s.setColumn n { c with ways := c.ways.cut (16 * set + w) }

/-- A hit on a version touches the way that holds it (R119). -/
def State.touchVersion (s : State) (v : Version) : State :=
  match columnOf s (homeTower (v.line * 128)) v.line with
  | none => s
  | some n =>
    let set := setOf s n v.line
    match (s.column n).findWay set v.line v.ctx v.label v.slot with
    | some w => s.touchWay n set w
    | none => s

/-- Is a tower's copy of the ordinary line poisoned (R118)? -/
def State.copyPoisoned (s : State) (tower x : Nat) : Bool :=
  match columnOf s tower x with
  | some n => match (s.column n).findWay (setOf s n x) x 0 0 none with
    | some w => ((s.column n).ways.look (16 * setOf s n x + w)).any fun y => decide (y.st = .poisoned)
    | none => false
  | none => false

/-- Mark a tower's copy of the ordinary line poisoned. -/
def State.poisonCopy (s : State) (tower x : Nat) : State :=
  match columnOf s tower x with
  | some n =>
    let c := s.column n
    match c.findWay (setOf s n x) x 0 0 none with
    | some w =>
      let k := 16 * setOf s n x + w
      match c.ways.look k with
      | some y => s.setColumn n { c with ways := c.ways.put k { y with st := .poisoned } }
      | none => s
    | none => s
  | none => s

/-- A line becomes poisoned (R102, Table 5.3). -/
def State.poisonLine (s : State) (x : Nat) : State :=
  let s := s.setLine x { s.line x with poison := true }
  let mark (w : CacheWay) : CacheWay := if w.line = x ∧ w.label = 0 ∧ w.slot = none then { w with st := .poisoned } else w
  let s := { s with columns := s.columns.mapVals fun (c : Column) => { c with ways := c.ways.mapVals mark } }
  match placeOf (x * 128) with
  | .gddr =>
    let ch := channelOf (x * 128)
    let e := (s.hub.ecc.look ch).getD {}
    let e := { e with poisoned := true, uePa := BitVec.ofNat 52 (x * 128 / 4096 * 4096) }
    s.setHub { s.hub with ecc := s.hub.ecc.put ch e }
  | _ => s

/-- The metadata word of a GDDR line: CHK, which the poison mask changes on a poisoned line, H and SHR (Table 5.2, R102). -/
def State.lineWord (s : State) (x : Nat) : Dword :=
  let m := s.line x
  let code := Config.lineCode ((List.range 128).map fun o => s.byteAt (x * 128 + o))
  let chk : BitVec 48 := if m.poison then code ^^^ 0x800000000001#48 else code
  BitVec.ofNat 64 (chk.toNat * 2 ^ 16 + (if m.host then 16 else 0) + m.shr.toNat)

/-- A write of all bytes ends a line's poison (R102). -/
def State.healLine (s : State) (x : Nat) : State := s.setLine x { s.line x with poison := false }

/-- A version is written home as the ordinary line of its address, with its poison and record (R102, R139, R153). -/
def State.baseLine (s : State) (v : Version) : State :=
  let s := s.pokes (s.cellOf (v.line * 128)) v.bytes
  let s := s.setLine v.line { s.line v.line with poison := false, rcore := v.rcore, rseq := v.rseq }
  if v.poison then s.poisonLine v.line else s

/-- The same, once the host has answered for a line that it may hold (R105). -/
def State.writeHome (s : State) (v : Version) : State :=
  if (s.line v.line).host then
    let home := 48 * homeTower (v.line * 128)
    (s.sendTxn { kind := .base v, core := home, column := home, line := v.line, granted := true, stage := 1 } s.now).2
  else s.baseLine v

/-- The set of the version directory (R140). -/
def dirSet (x ctx : Nat) (l : BitVec 3) : Nat :=
  Nat.xor (Nat.xor (Nat.xor (field x 0 13) (field x 13 13)) (Nat.xor (field x 26 13) (field x 39 6)))
    (8 * ctx + l.toNat) % 8192

/-- Write bytes of a pool slot's line, by physical address: all of it, or part (R102, R139). -/
def State.slotBytes (s : State) (cells : List (Nat × Byte)) (full poison : Bool) : State :=
  let x := lineOf ((cells.map (·.1)).headD 0)
  let s := cells.foldl (fun s c => s.poke c.1 c.2) s
  if poison then s.poisonLine x else if full then s.healLine x else s

/-- The same, once the host has answered for a line that it may hold (R105). -/
def State.writeSlot (s : State) (cells : List (Nat × Byte)) (full poison : Bool) : State :=
  let x := lineOf ((cells.map (·.1)).headD 0)
  if (s.line x).host then
    let home := 48 * homeTower (x * 128)
    (s.sendTxn { kind := .spill, core := home, column := home, line := x, bytes := cells, fullLine := full, poison, granted := true,
                 stage := 1, ctx := noCtx } s.now).2
  else s.slotBytes cells full poison

/-- The directory entry and pool slot for a version, or its label starves (R139 to R142): then the hub squashes it,
or for a pending line of label 0 stops the task. -/
def State.toPool (s : State) (v : Version) : State :=
  let c := s.ctx v.ctx
  let l := (c.labels.look v.label.toNat).getD {}
  let full := decide (16 ≤ (s.versions.filter fun u => u.poolSlot.isSome
    && decide (dirSet u.line u.ctx u.label = dirSet v.line v.ctx v.label)).length)
  let pa := l.poolBase.toNat * 4096 + 128 * l.poolUsed.toNat
  if full || decide (min l.poolSlots.toNat 1048576 ≤ l.poolUsed.toNat) || decide (0xB40000000 < pa + 128) then
    s.post 0 .reachStarved [v.ctx, if v.label = 0 then 8 + v.slot.getD 0 else v.label.toNat]
  else
    let s := s.setCtx v.ctx { c with labels := c.labels.put v.label.toNat { l with poolUsed := l.poolUsed + 1 } }
    let cells := v.bytes.zipIdx.map fun p => (pa + p.2, p.1)
    ({ s with versions := s.versions ++ [{ v with poolSlot := some l.poolUsed.toNat, pool := v.label }] }).writeSlot cells true v.poison

/-- Is this the record of the version a way holds? -/
def Version.isAt (v : Version) (ctx x : Nat) (label : BitVec 3) (slot : Option Nat) : Bool :=
  decide (v.ctx = ctx ∧ v.line = x ∧ v.label = label ∧ v.slot = slot)

/-- What becomes of a victim (R139): a base line is dropped, its bytes being at home, but for the command that a dirty one
takes and the poison that it takes home (R102, R368); a version of a live label or of a running slot goes to its pool, and
so does a pending line of a committed slot, for which the rule names no place (DESIGN CHOICE, log 100); a line of label C is
written home as base; a dead one is dropped. -/
def State.evict (s : State) (y : CacheWay) : State :=
  if y.label = 0 && y.slot.isNone then
    let s := if y.st = .poisoned && !(s.line y.line).poison then s.poisonLine y.line else s
    if y.st = .clean || placeOf (y.line * 128) ≠ .gddr then s else s.backToGddr (homeTower (y.line * 128)) y.line
  else
    match s.versions.find? fun v => v.isAt y.ctx y.line y.label y.slot && v.poolSlot.isNone with
    | none => s
    | some v =>
      let s := { s with versions := s.versions.filter fun u => decide (u ≠ v) }
      if s.wayDead y then s
      else if y.label ≠ 0 && y.slot.isNone && decide ((s.ctx y.ctx).clabel = y.label) then
        (s.onWay y.line 0 0 none fun _ => none).writeHome v
      else s.toPool v

/-- Allocate a way for a line or a version in a column, or touch the one that holds it (R119). -/
def State.fillWay (s : State) (n : Nat) (y : CacheWay) (touch : Bool) : State :=
  let set := setOf s n y.line
  let c := s.column n
  match c.findWay set y.line y.ctx y.label y.slot with
  | some w => s.touchWay n set w
  | none =>
    let ways := c.setWays set
    let bits := (c.bits.look set).getD 0
    let held (w : Nat) : Option CacheWay := c.ways.look (16 * set + w)
    let base (w : Nat) : Bool := match held w with
      | some z => z.label == 0 && z.slot.isNone
      | none => false
    let w := match (List.range 16).find? fun w => (held w).isNone with
      | some w => w
      | none =>
        match ways.find? fun p => s.wayDead p.2 with
        | some p => p.1
        | none => if (List.range 16).any base then plruVictim bits base else plruVictim bits fun _ => true
    let s := match held w with
      | some z => s.evict z
      | none => s
    let c := s.column n
    let s := s.setColumn n { c with ways := c.ways.put (16 * set + w) y }
    if touch then s.touchWay n set w else s

/-- Remove a line from a tower's stacked cache. -/
def State.dropFrom (s : State) (tower x : Nat) : State :=
  match columnOf s tower x with
  | none => s
  | some n =>
    let set := setOf s n x
    let c := s.column n
    match c.findWay set x 0 0 none with
    | some w => s.setColumn n { c with ways := c.ways.cut (16 * set + w) }
    | none => s

/-- Invalidate a line in every sharer but some towers. -/
def State.dropSharers (s : State) (x : Nat) (keep : List Nat) : State :=
  ([0, 1, 2, 3].filter fun t => !keep.contains t).foldl (fun s t => s.dropFrom t x) s

/-- A bridged line leaves every stacked cache: its ordinary line in each, poisoned where a copy is, and its versions as
victims do (R102, R107, R108, R139). -/
def State.unbridge (s : State) (x : Nat) : State :=
  let s := if (List.range 4).any (s.copyPoisoned · x) then s.poisonLine x else s
  let s := s.dropSharers x []
  let s := s.setLine x { s.line x with shr := 0 }
  match columnOf s (homeTower (x * 128)) x with
  | none => s
  | some n =>
    let set := setOf s n x
    (((s.column n).setWays set).filter fun p => decide (p.2.line = x)).foldl (fun s p =>
      (s.setColumn n { s.column n with ways := (s.column n).ways.cut (16 * set + p.1) }).evict p.2) s

/-! ## Snoop filter (R106 to R108) -/

/-- Does a line lie behind the bridge? -/
def bridged (x : Nat) : Bool :=
  match placeOf (x * 128) with
  | .host _ => true
  | .pool _ => true
  | _ => false

/-- Entries of a set of the snoop filter. -/
def State.snoopSet (s : State) (x : Nat) : List SnoopEntry :=
  s.snoop.filter fun e => decide (e.half / 2 % 262144 = x % 262144)

/-- Make room in a set and enter one half (R108): the half-held entry of the lowest way leaves, or the whole line
allocated earliest. DESIGN CHOICE (log 101): a line whose halves were entered at different times counts from the earlier. -/
def State.snoopEnter (s : State) (x half : Nat) : State :=
  if s.snoop.any fun e => decide (e.half = half) then s
  else
    let es := s.snoopSet x
    let held (e : SnoopEntry) : Bool := (es.filter fun f => decide (f.half / 2 = e.half / 2)).length == 1
    let s :=
      if es.length < 16 then s
      else
        let byWay := (List.range 16).filterMap fun w => es.find? fun e => decide (e.way = w)
        match byWay.find? fun e => held e && decide (e.half / 2 ≠ x) with
        | some e => { s with snoop := s.snoop.filter fun f => decide (f.half ≠ e.half) }
        | none =>
          match (es.filter fun e => decide (e.half / 2 ≠ x)).foldl (fun (b : Option SnoopEntry) e =>
              match b with
              | none => some e
              | some o => if e.since < o.since then some e else b) none with
          | some e =>
            ({ s with snoop := s.snoop.filter fun f => decide (f.half / 2 ≠ e.half / 2) }).unbridge (e.half / 2)
          | none => s
    let used := (s.snoopSet x).map (·.way)
    let w := ((List.range 16).find? fun w => !used.contains w).getD 0
    { s with snoop := s.snoop ++ [{ half, way := w, exclusive := false, since := hubCycle s.now }] }

/-- Both halves of a bridged line are in the filter before a stacked cache holds it (R107). -/
def State.snoopLine (s : State) (x : Nat) : State :=
  if bridged x then (s.snoopEnter x (2 * x)).snoopEnter x (2 * x + 1) else s

/-- Has the set of a bridged line that is not in the filter taken another line in this hub cycle: it takes one (R108)? -/
def State.setTaken (s : State) (x : Nat) : Bool :=
  bridged x && !((s.snoopSet x).any fun e => decide (e.half / 2 = x))
    && (s.snoopSet x).any fun e => decide (e.since = hubCycle s.now)

/-- Fill a tower's stacked cache with the ordinary line and set its sharer bit (R103); a page with CP = 2 never
allocates, though a hit touches its way, and CP = 1 does not touch on a fill (R119). -/
def State.fillTower (s : State) (tower x : Nat) (cp : BitVec 2) : State :=
  match columnOf s tower x with
  | none => s
  | some n =>
    let hit := ((s.column n).findWay (setOf s n x) x 0 0 none).isSome
    if inAperture x || (cp = 2 && !hit) then s
    else
      let s := s.snoopLine x
      let poison := (s.line x).poison
      let s := s.fillWay n { line := x, st := if poison then .poisoned else .clean } (hit || cp ≠ 1)
      let m := s.line x
      s.setLine x { m with shr := m.shr ||| (1#4 <<< tower) }

/-! ## Reading and writing lines -/

/-- Byte o of a line as its reader finds it (R135). -/
def State.lineByte (s : State) (w : Who) (x o : Nat) : Byte :=
  let x := s.redirectLine x
  match s.chainFind w x with
  | some v => v.bytes.getD o 0
  | none => s.byteAt (s.cellOf (x * 128 + o))

/-- A byte as its reader finds it. -/
def State.readByte (s : State) (w : Who) (pa : Nat) : Byte := s.lineByte w (lineOf pa) (pa % 128)

/-- Bytes as their reader finds them. -/
def State.readBytes (s : State) (w : Who) (pa n : Nat) : List Byte := (List.range n).map fun k => s.readByte w (pa + k)

/-- Does one of these bytes lie in a poisoned granule of a scratchpad (R122)? -/
def State.scratchPoison (s : State) (pas : List Nat) : Bool :=
  pas.any fun pa => match placeOf pa with
    | .aperture n o => (s.column n).pooledPoison.contains (o / 32)
    | _ => false

/-- Is the line a reader finds poisoned (R102)? -/
def State.poisoned (s : State) (w : Who) (x : Nat) : Bool :=
  let x := s.redirectLine x
  match s.chainFind w x with
  | some v => v.poison
  | none => (s.line x).poison || s.copyPoisoned (homeTower (x * 128)) x

/-- The release record of the line a reader finds (R332): core and number, number 0 for none. -/
def State.recordOf (s : State) (w : Who) (x : Nat) : Nat × Nat :=
  let x := s.redirectLine x
  match s.chainFind w x with
  | some v => (v.rcore.toNat, v.rseq.toNat)
  | none => ((s.line x).rcore.toNat, (s.line x).rseq.toNat)

/-- Change the record of a version. -/
def State.onVersion (s : State) (v : Version) (f : Version → Version) : State :=
  { s with versions := s.versions.map fun u => if u.isAt v.ctx v.line v.label v.slot then f u else u }

/-- Bytes of a line with some replaced. -/
def patch (old : List Byte) (bs : List (Nat × Byte)) : List Byte := bs.foldl (fun l p => l.set p.1 p.2) old

/-- The version a write of this label goes to without a copy being made: one of its own label, or for label 0 any
that its chain finds; a chunked task writes only its own pending lines (R136, R154). -/
def Who.owns (w : Who) (v : Version) : Bool :=
  decide (w.label = 0 ∨ v.label = w.label) && (w.chunk.isNone || decide (v.slot = w.chunk))

/-- How many lines of a label a home tower's stacked cache holds (R138). -/
def State.labelLines (s : State) (ctx : Nat) (l : BitVec 3) (tower : Nat) : Nat :=
  (s.versions.filter fun v => v.poolSlot.isNone && decide (v.ctx = ctx ∧ v.label = l)
    && decide (homeTower (v.line * 128) = tower) && !s.deadVersion v.ctx v.label v.slot).length

/-- Create a version of a line: in the home column, or in its pool beyond its quota or where its page allocates nothing in a
stacked cache (R119, R134, R136, R138). No other tower keeps a copy. -/
def State.createVersion (s : State) (v : Version) (cp : BitVec 2) : State :=
  let t := homeTower (v.line * 128)
  let s := s.dropSharers v.line [t]
  let s := s.setLine v.line { s.line v.line with shr := (s.line v.line).shr &&& (1#4 <<< t) }
  let quota := (((s.ctx v.ctx).labels.look v.label.toNat).getD {}).quota.toNat
  match columnOf s t v.line with
  | none => s.toPool v
  | some n =>
    if cp = 2 || (v.label ≠ 0 && decide (quota ≤ s.labelLines v.ctx v.label t)) then s.toPool v
    else
      let s := s.snoopLine v.line
      let s := s.fillWay n { line := v.line, st := .dirty, ctx := v.ctx, label := v.label, slot := v.slot } (cp ≠ 1)
      { s with versions := s.versions ++ [v] }

/-- Write bytes of a line, given by offset: where R133 and R136 put them. A write of all 128 bytes clears poison,
any other leaves it (R102, R307); a poisoned write-back poisons the line. -/
def State.writeLine (s : State) (w : Who) (x : Nat) (bs : List (Nat × Byte)) (full poison : Bool) (cp : BitVec 2) :
    State :=
  let x := s.redirectLine x
  let found := s.chainFind w x
  let after (old : Bool) : Bool := poison || (old && !full)
  let direct : Option Version := found.filter w.owns
  match direct with
  | some v =>
    let s := s.onVersion v fun u => { u with bytes := patch u.bytes bs, poison := after u.poison }
    match v.poolSlot with
    | some k =>
      let pa := (((s.ctx v.ctx).labels.look v.pool.toNat).getD {}).poolBase.toNat * 4096 + 128 * k
      s.writeSlot (bs.map fun p => (pa + p.1, p.2)) full poison
    | none => s
  | none =>
    if w.label = 0 && w.chunk.isNone then
      let s := bs.foldl (fun s p => s.poke (s.cellOf (x * 128 + p.1)) p.2) s
      let s := s.onWay x 0 0 none fun y => some (if y.st = .poisoned && !full then y else { y with st := .dirty })
      -- another tower's poisoned copy is not kept beside what is written
      let s := (List.range 4).foldl (fun s k => if k ≠ homeTower (x * 128) && s.copyPoisoned k x then s.dropFrom k x else s) s
      let own (e : SnoopEntry) : SnoopEntry := if e.half / 2 = x then { e with exclusive := true } else e
      let s := { s with snoop := s.snoop.map own }
      if poison then s.poisonLine x
      else if full then s.healLine x
      else s
    else
      let old := (List.range 128).map fun o => s.lineByte w x o
      let m := s.line x
      let v : Version := match found with
        | some u => { u with ctx := w.ctx, line := x, label := w.label, slot := w.chunk, poolSlot := none,
                             bytes := patch old bs, poison := after u.poison }
        | none => { ctx := w.ctx, line := x, label := w.label, slot := w.chunk, bytes := patch old bs,
                    poison := after m.poison, rcore := m.rcore, rseq := m.rseq }
      s.createVersion v cp

/-- Set the release record of the line that a writer finds (R332). -/
def State.setRecord (s : State) (w : Who) (x core seq : Nat) : State :=
  let x := s.redirectLine x
  match s.chainFind w x with
  | some v =>
    s.onVersion v fun u => { u with rcore := BitVec.ofNat 8 core, rseq := BitVec.ofNat 16 seq }
  | none => s.setLine x { s.line x with rcore := BitVec.ofNat 8 core, rseq := BitVec.ofNat 16 seq }

/-- Write bytes at physical addresses, grouped by line. -/
def State.writeBytes (s : State) (w : Who) (bs : List (Nat × Byte)) (cp : BitVec 2) : State :=
  (bs.map fun p => lineOf p.1).eraseDups.foldl (fun s x =>
    let inLine := (bs.filter fun p => decide (lineOf p.1 = x)).map fun p => (p.1 % 128, p.2)
    let full := decide ((inLine.map (·.1)).eraseDups.length = 128)
    s.writeLine w x inLine full false cp) s

/-- Cycles that resolving the chain adds (R140): a probe of the directory, and a pool slot in GDDR. -/
def State.chainCost (s : State) (w : Who) (x : Nat) : Nat :=
  let x := s.redirectLine x
  let used (l : BitVec 3) : Bool := (((s.ctx w.ctx).labels.look l.toNat).getD {}).poolUsed ≠ 0
  let ls := s.chainLabels w
  match s.chainFind w x with
  | some v =>
    if v.poolSlot.isSome then 474
    else if (ls.takeWhile fun l => decide (l ≠ v.label)).any used then 64 else 0
  | none => if (w.ver || w.chunk.isSome || s.hasVersion x) && ls.any used then 64 else 0

/-! ## Settling (R153) -/

/-- Remove versions, with the ways that hold them. -/
def State.dropVersions (s : State) (p : Version → Bool) : State :=
  let gone := s.versions.filter p
  let s := { s with versions := s.versions.filter fun v => !p v }
  gone.foldl (fun s v => s.onWay v.line v.ctx v.label v.slot fun _ => none) s

/-- A version of one label and slot becomes that of another, in its way or its place in the pool. -/
def State.relabel (s : State) (v : Version) (label : BitVec 3) (slot : Option Nat) : State :=
  let s := s.dropVersions fun u => u.isAt v.ctx v.line label slot
  let s := s.onWay v.line v.ctx v.label v.slot fun y => some { y with label, slot }
  s.onVersion v fun u => { u with label, slot }

/-- A committed slot's line that becomes the ordinary one of its label leaves no older line of that address and label: the
pending lines of slots that committed before it go (R135, R153). -/
def State.dropOlder (s : State) (v : Version) : State :=
  let seq (u : Version) : Option Nat := u.slot.bind fun sl => match (s.ctx u.ctx).chunk sl with
    | .committed q => some q
    | _ => none
  match seq v with
  | none => s
  | some q => s.dropVersions fun u => decide (u.ctx = v.ctx ∧ u.line = v.line ∧ u.label = v.label) && (seq u).any fun r => decide (r < q)

/-- A version becomes the ordinary line of its address: in its way, dirty, or from the pool at home; any older ordinary line
is invalid (R153). A line of the pool never returns to the stacked cache (R140). -/
def State.toBase (s : State) (v : Version) : State :=
  let s := s.dropOlder v
  let home := homeTower (v.line * 128)
  let s := s.onWay v.line 0 0 none fun _ => none
  let s := s.onWay v.line v.ctx v.label v.slot fun y =>
    some { y with label := 0, slot := none, ctx := 0, st := if v.poison then .poisoned else .dirty }
  let s := if v.poolSlot.isSome then s else s.setLine v.line { s.line v.line with shr := (s.line v.line).shr ||| (1#4 <<< home) }
  ({ s with versions := s.versions.filter fun u => decide (u ≠ v) }).writeHome v

/-- The sweep of a committed label, over the versions that a rule selects: its lines become base lines, its pending lines
pending lines of the base. -/
def State.settleLabel (s : State) (ctx : Nat) (l : BitVec 3) (p : Version → Bool) : State :=
  (s.versions.filter fun v => decide (v.ctx = ctx ∧ v.label = l) && p v).foldl (fun s v =>
    if v.slot.isNone then s.toBase v else s.relabel v 0 v.slot) s

/-- The sweep of a committed slot, over the versions that a rule selects: its pending lines become ordinary. -/
def State.settleSlot (s : State) (ctx sl : Nat) (p : Version → Bool) : State :=
  (s.versions.filter fun v => decide (v.ctx = ctx ∧ v.slot = some sl) && p v).foldl (fun s v =>
    if v.label = 0 then s.toBase v else (s.dropOlder v).relabel v v.label none) s

/-- Does a label or a chunk slot of some context settle? -/
def State.settling (s : State) : Bool :=
  s.ctxs.any fun c => (c.2.labels.any fun l => l.2.state == .committed || l.2.state == .dead)
    || c.2.chunks.any fun k => match k.2 with
      | .committed _ => true
      | .dead => true
      | _ => false

/-- An access is at a column's tag port (R153). -/
def State.usePort (s : State) (n : Nat) : State :=
  if s.settling then
    let c := s.column n
    let m := layerCycle s.now
    if c.tagUses.contains m then s else s.setColumn n { c with tagUses := m :: c.tagUses }
  else s

/-- Cycles since the start of a sweep in which accesses were at a column's tag port (R153). -/
def State.portUses (s : State) (n start : Nat) : Nat :=
  ((s.column n).tagUses.filter fun m => decide (start ≤ m ∧ m < layerCycle s.now)).length

/-! ## Places and times -/

/-- Is the line served at its home column (R134, R191)? A write-like or home access always is. -/
def homePath (s : State) (core x : Nat) : Nat := pathExtra s core (homeColumn s x)

/-- Does the home column hold the line: base or, through the chain, a version? -/
def State.homeHit (s : State) (w : Who) (x : Nat) : Bool :=
  let x := s.redirectLine x
  inAperture x || (s.chainFind w x).isSome || s.cachedIn (homeTower (x * 128)) x

/-- Wait of a cache access for the refresh of its bank, arriving at cycle t (R128). -/
def State.bankWait (s : State) (n x t : Nat) : Nat := refreshWait s n (setOf s n x % 16) t

end Sys2Proof.Machine
end

