-- ==== Sys2Proof/Machine/Paging.lean ====
section
/-!
DEFINITION. Translation and formats: table entries and the walk (R75 to R81, R90), the TLBs (R89), the physical
place of a virtual address, and format pages, read by element and written by unit (R82 to R84).
-/
namespace Sys2Proof.Machine
open Sys2Proof

/-! ## Table entries (Table 4.1, R78, R79) -/

/-- What a valid table entry is. -/
inductive Pte where
  | pointer (frame : Nat)
  | leaf (l : Leaf)
  deriving DecidableEq, Repr

/-- The fields of a leaf. -/
def Leaf.ofEntry (e : Dword) (large : Bool) : Leaf :=
  { large, cp := e.extractLsb' 57 2, view := e.extractLsb' 55 2, scl := e.getLsbD 54, geom := e.extractLsb' 52 2,
    frame := e.extractLsb' 12 40, fmt := e.extractLsb' 8 4, rn := e.getLsbD 7, ver := e.getLsbD 6,
    kind := e.extractLsb' 4 2, x := e.getLsbD 3, w := e.getLsbD 2 }

/-- Is a leaf well formed (R79)? -/
def Leaf.ok (l : Leaf) : Bool :=
  decide (l.cp ≠ 3 ∧ l.view ≠ 3 ∧ l.kind ≠ 3 ∧ l.fmt.toNat < 8)
    && (decide (l.fmt ≠ 0) || (decide (l.geom = 0 ∧ l.view = 0) && !l.scl
          && decide (l.frame.toNat % (if l.large then 2 ^ 14 else 2 ^ 4) = 0)))
    && (decide (l.fmt = 0 ∨ l.fmt = 7) || decide (l.geom ≠ 0))
    && (decide (l.fmt ≠ 7) || (decide (l.geom = 0) && !l.scl))
    && !(l.x && decide (l.fmt ≠ 0)) && !(l.ver && l.rn)

/-- An entry of a level: absent, malformed, a pointer or a leaf. -/
def parseEntry (e : Dword) (level : Nat) : Except (BitVec 8) Pte :=
  if !e.getLsbD 0 then .error 0x40
  else if e.getLsbD 1 then
    let l := Leaf.ofEntry e (decide (level = 1))
    if 2 ≤ level || decide (e.extractLsb' 59 5 ≠ 0) || !l.ok then .error 0x42 else .ok (.leaf l)
  else if level = 0 || decide (e.extractLsb' 52 12 ≠ 0) || decide (e.extractLsb' 1 12 ≠ 0) then .error 0x42
  else .ok (.pointer (e.extractLsb' 12 40).toNat)

/-- Bytes, least significant first, as a number. -/
def leNat (bs : List Byte) : Nat := bs.foldr (fun b acc => acc * 256 + b.toNat) 0

/-- A number as bytes, least significant first. -/
def leBytes (n x : Nat) : List Byte := (List.range n).map fun k => BitVec.ofNat 8 (x / 256 ^ k)

/-- A dword of memory at its home. -/
def State.readDword (s : State) (w : Who) (pa : Nat) : Dword := BitVec.ofNat 64 (leNat (s.readBytes w pa 8))

/-! ## The walk (R77, R90) -/

/-- The entry of a level on the path to a page. -/
def entryAt (table vpn lv : Nat) : Nat := table + 8 * (vpn / 2 ^ (10 * lv) % 1024)

/-- Look a page up from a level on, without the time that a walk takes. The first argument is the level plus 1. -/
def State.walkFrom (s : State) (ctx vpn : Nat) : Nat → Nat → Except (BitVec 8) Leaf
  | 0, _ => .error 0x42
  | lv + 1, table =>
    let pa := entryAt table vpn lv
    if !populated s pa then .error 0x48
    else if s.poisoned { ctx } (lineOf pa) || s.scratchPoison [pa] then .error 0x49
    else
      match parseEntry (s.readDword { ctx } pa) lv with
      | .error c => .error c
      | .ok (.leaf l) => .ok l
      | .ok (.pointer f) => s.walkFrom ctx vpn lv (4096 * f)

/-- What a walk of a page would find. -/
def State.walkPage (s : State) (ctx vpn : Nat) : Except (BitVec 8) Leaf :=
  s.walkFrom ctx vpn 4 ((s.ctx ctx).root.toNat * 8192)

/-- Put an entry first in a list kept from most to least recently used. -/
def mruPut {α : Type} [DecidableEq α] (n : Nat) (x : α) (l : List α) : List α := (x :: l.filter fun y => decide (y ≠ x)).take n

/-- The walk cache takes a pointer as its most recently used (R89). -/
def State.cachePointer (s : State) (tower : Nat) (p : WalkEntry) : State :=
  let t := s.tower tower
  s.setTower tower { t with walkCache := mruPut 32 p t.walkCache }

/-! ## TLBs (R89) -/

/-- Does a TLB entry translate a page? -/
def TlbEntry.covers (e : TlbEntry) (ctx vpn : Nat) : Bool :=
  decide (e.ctx = ctx) && (if e.leaf.large then decide (e.vpn / 1024 = vpn / 1024) else decide (e.vpn = vpn))

/-- Set of an entry in a second-level TLB. -/
def TlbEntry.set (e : TlbEntry) : Nat := if e.leaf.large then e.vpn / 1024 % 128 else e.vpn % 128

/-- Install a leaf in a core TLB. -/
def State.coreTlbPut (s : State) (core : Nat) (e : TlbEntry) : State :=
  let c := s.core core
  s.setCore core { c with tlb := (e :: c.tlb.filter fun f => !f.covers e.ctx e.vpn).take 64 }

/-- Install a leaf in a second-level TLB: in the lowest invalid way of its set, or in the victim of R439. -/
def State.l2TlbPut (s : State) (cluster : Nat) (e : TlbEntry) : State :=
  let c := s.cluster cluster
  let k := 16 * e.set
  let bits := (c.tlbBits.look e.set).getD 0
  let w := ((List.range 16).find? fun w => (c.tlb.look (k + w)).isNone).getD (plruVictim bits fun _ => true)
  s.setCluster cluster { c with tlb := c.tlb.put (k + w) e, tlbBits := c.tlbBits.put e.set (plruTouch bits w) }

/-- Look a page up in a cluster's second-level TLB; a hit touches its way (R439). -/
def State.l2Lookup (s : State) (g ctx vpn : Nat) : Option (TlbEntry × State) :=
  let c := s.cluster g
  let hit := [vpn % 128, vpn / 1024 % 128].findSome? fun set =>
    (List.range 16).findSome? fun w =>
      match c.tlb.look (16 * set + w) with
      | some e => if e.covers ctx vpn && decide (e.set = set) then some (e, w) else none
      | none => none
  hit.map fun p => (p.1, s.setCluster g { c with tlbBits := c.tlbBits.put p.1.set (plruTouch ((c.tlbBits.look p.1.set).getD 0) p.2) })

/-- Look a page up in the core TLB, then in the second-level TLB: the leaf and the cycles added. -/
def State.lookupPage (s : State) (core ctx vpn : Nat) : Option (Leaf × Nat × State) :=
  match (s.core core).tlb.find? fun e => e.covers ctx vpn with
  | some e => some (e.leaf, 0, s.coreTlbPut core e)
  | none => (s.l2Lookup (clusterOf core) ctx vpn).map fun p => (p.1.leaf, 12, p.2.coreTlbPut core p.1)

/-- Request a walk for a core's coalescer, a barge's fetch, or a card of an engine of the core's cluster, from a cycle (R90,
R91). -/
def State.requestWalk (s : State) (core ctx vpn : Nat) (fetcher card : Option Nat) (delay : Nat) : State :=
  let (id, s) := s.fresh
  let w : Walk := { ctx, vpn, core, tower := towerOf core, cores := if fetcher.isNone && card.isNone then [core] else [],
                    fetchers := fetcher.toList, cards := card.toList }
  ({ s with walks := s.walks.put id w }).post (delay + 8) .walkRequest [id]

/-- A walker reads a table entry at its home: 80 cycles from a stacked cache of its own tower, 210 from that of another, 410 from
GDDR (R81, R90). It reaches the column after 8 of them, or 138. DESIGN CHOICE: R90 only bounds a read of host memory, at 1,650
cycles, and names no cost for an entry in the aperture; the model takes the bound, and the cost of a stacked cache (log 9). -/
def State.readEntry (s : State) (id tower ctx pa : Nat) : State :=
  let far := decide (homeTower pa ≠ tower)
  let path := if far then 130 else 0
  (s.sendTxn { kind := .walk id, core := 48 * tower, column := homeColumn s (lineOf pa), ctx, path, line := lineOf pa,
               rank := some (if far then hubRank else towerRank), leaf := { frame := BitVec.ofNat 40 (pa / 65536 * 16) },
               va := pa % 65536, size := 8 } (s.now + 8 + path)).2

/-- The next level of a walk: its pointer from the walk cache in 2 cycles, or its table entry from where that lies (R90). -/
def State.walkLevel (s : State) (id : Nat) (w : Walk) : State :=
  let lv := w.level - 1
  let index := w.vpn / 2 ^ (10 * lv)
  match (s.tower w.tower).walkCache.find? fun e => decide (e.ctx = w.ctx ∧ e.level = lv ∧ e.index = index) with
  | some e => ({ s with walks := s.walks.put id { w with pointer := some e.frame } }).post 2 .walkComplete [id]
  | none =>
    let pa := entryAt w.table w.vpn lv
    let s := { s with walks := s.walks.put id { w with pointer := none, entry := none } }
    if populated s pa then s.readEntry id w.tower w.ctx pa else s.post 0 .walkComplete [id]

/-- Start a walk at its walker. -/
def State.startWalk (s : State) (id : Nat) (w : Walk) : State :=
  s.walkLevel id { w with started := true, restart := false, level := 4, table := (s.ctx w.ctx).root.toNat * 8192, leaf := none, cause := none }

/-- A walk has met its leaf or a cause: the reply takes 8 cycles, a leaf 4 more to be installed (R90). -/
def State.walkEnds (s : State) (id : Nat) (w : Walk) (r : Except (BitVec 8) Leaf) : State :=
  match r with
  | .ok l => ({ s with walks := s.walks.put id { w with leaf := some l } }).post 12 .walkComplete [id]
  | .error c => ({ s with walks := s.walks.put id { w with cause := some c } }).post 8 .walkComplete [id]

/-- A level of a walk is known: a pointer, which the walk cache takes as its most recently used, leads on (R77, R89, R90). What
a walk finds that an invalidation has met is discarded (R92). -/
def State.walkStep (s : State) (id : Nat) (w : Walk) : State :=
  let lv := w.level - 1
  let down (frame : Nat) : State :=
    let s := if w.restart then s else s.cachePointer w.tower { ctx := w.ctx, level := lv, index := w.vpn / 2 ^ (10 * lv), frame }
    if lv = 0 then s.walkEnds id w (.error 0x42) else s.walkLevel id { w with level := lv, table := frame }
  match w.pointer, w.entry with
  | some f, _ => down f
  | none, none => s.walkEnds id w (.error 0x48)
  | none, some (e, bad) =>
    if bad then s.walkEnds id w (.error 0x49)
    else
      match parseEntry e lv with
      | .error c => s.walkEnds id w (.error c)
      | .ok (.leaf l) => s.walkEnds id w (.ok l)
      | .ok (.pointer f) => down (4096 * f)

/-! ## Virtual addresses -/

/-- Is an address canonical (R75)? -/
def canonical (va : Nat) : Bool := decide (va < 2 ^ 55 ∨ 2 ^ 64 - 2 ^ 55 ≤ va ∧ va < 2 ^ 64)

/-- Virtual page number VA[55:16]. -/
def vpnOf (va : Nat) : Nat := va / 65536 % 2 ^ 40

/-- Bytes of a page of this leaf. -/
def Leaf.size (l : Leaf) : Nat := if l.large then 2 ^ 26 else 65536
/-- First byte of the frame. -/
def Leaf.base (l : Leaf) : Nat := l.frame.toNat * 4096
/-- Offset of an address in its page. -/
def Leaf.offset (l : Leaf) (va : Nat) : Nat := va % l.size

/-! ## Formats (R82, R83) -/

/-- Element format of a format page; i4 has none. -/
def Leaf.elem (l : Leaf) : Option Elem :=
  match l.fmt.toNat with
  | 1 => some (.fl .e5m2)
  | 2 => some (.fl .e4m3)
  | 3 => some (.fl .e3m2)
  | 4 => some (.fl .e2m3)
  | 5 => some (.fl .e2m1)
  | 6 => some .ds8
  | _ => none
/-- Element width. -/
def Leaf.elemBits (l : Leaf) : Nat := match l.elem with
  | some e => e.width
  | none => 4
/-- Bytes of a view element. -/
def Leaf.viewBytes (l : Leaf) : Nat :=
  if l.fmt = 0 then 1 else if l.fmt = 7 then 2 ^ l.view.toNat else if l.view = 2 then 4 else 2
/-- View type of a float format. -/
def Leaf.viewFmt (l : Leaf) : Fmt := match l.view.toNat with
  | 0 => .f16
  | 1 => .bf16
  | _ => .f32
/-- Elements of a block; a pair for i4. -/
def Leaf.unitElems (l : Leaf) : Nat := if l.fmt = 7 then 2 else 8 * 2 ^ l.geom.toNat
/-- View bytes of a unit (R84). -/
def Leaf.unitBytes (l : Leaf) : Nat := l.unitElems * l.viewBytes
/-- Scale kind. -/
def Leaf.scale (l : Leaf) : ScaleKind := if l.scl then .e8m1 else .e8m0
/-- First byte of the scale plane. -/
def Leaf.scaleBase (l : Leaf) : Nat := l.base + l.size / l.viewBytes * l.elemBits / 8

/-- The physical bytes that hold some view bytes of a page: of a plain page, those bytes; of a format page, element
and scale bytes. -/
def Leaf.physical (l : Leaf) (va n : Nat) : List Nat :=
  let o := l.offset va
  if l.fmt = 0 then (List.range n).map fun k => l.base + o + k
  else
    let i := o / l.viewBytes
    let j := (o + n - 1) / l.viewBytes
    let span (base lo hi : Nat) : List Nat := (List.range (hi / 8 + 1 - lo / 8)).map fun k => base + lo / 8 + k
    span l.base (i * l.elemBits) (j * l.elemBits + l.elemBits - 1)
      ++ (if l.geom = 0 then []
          else span l.scaleBase (i / l.unitElems * l.scale.width) (j / l.unitElems * l.scale.width + l.scale.width - 1))

/-- The lines that hold some view bytes. -/
def Leaf.lines (l : Leaf) (va n : Nat) : List Nat := ((l.physical va n).map lineOf).eraseDups

/-- The line that stands for some view bytes: the first data line. -/
def Leaf.line (l : Leaf) (va : Nat) : Nat := lineOf ((l.physical va 1).headD 0)

/-- Bits of a stream of packed codes (R59). -/
def State.streamBits (s : State) (w : Who) (base pos n : Nat) : Nat :=
  field (leNat (s.readBytes w (base + pos / 8) ((pos + n - 1) / 8 + 1 - pos / 8))) (pos % 8) n

/-- View element i of a page as its bytes, decoded (R83). -/
def State.viewElement (s : State) (w : Who) (l : Leaf) (i : Nat) : List Byte :=
  let code := s.streamBits w l.base (i * l.elemBits) l.elemBits
  match l.elem with
  | none => leBytes l.viewBytes (codeOf (8 * l.viewBytes) (intOf true 4 code))
  | some el =>
    let sc := s.streamBits w l.scaleBase (i / l.unitElems * l.scale.width) l.scale.width
    leBytes l.viewBytes (decodeElement l.scale el l.viewFmt sc code)

/-- Bytes of a page as a reader sees them. -/
def State.readView (s : State) (w : Who) (l : Leaf) (va n : Nat) : List Byte :=
  let o := l.offset va
  if l.fmt = 0 then s.readBytes w (l.base + o) n
  else
    let i := o / l.viewBytes
    let j := (o + n - 1) / l.viewBytes
    (((List.range (j + 1 - i)).map fun k => s.viewElement w l (i + k)).flatten.drop (o - i * l.viewBytes)).take n

/-- The packed codes of one unit, encoded from its view bytes (R84). -/
def Leaf.encodeUnit (l : Leaf) (bs : List Byte) : Nat × List Nat :=
  let elem (k : Nat) : Nat := leNat ((bs.drop (k * l.viewBytes)).take l.viewBytes)
  let codes := (List.range l.unitElems).map elem
  match l.elem with
  | none => (0, codes.map fun c => codeOf 4 (clampInt (-8) 7 (intOf true (8 * l.viewBytes) c)).1)
  | some el => encodeBlock l.scale el (codes.map l.viewFmt.value)

/-- The physical bytes that a unit's codes and scale go to. -/
def State.unitCells (s : State) (w : Who) (l : Leaf) (u scale : Nat) (codes : List Nat) : List (Nat × Byte) :=
  let n := l.unitElems * l.elemBits / 8
  let data := leBytes n (codes.foldr (fun c acc => acc * 2 ^ l.elemBits + c % 2 ^ l.elemBits) 0)
  let cells := data.zipIdx.map fun p => (l.base + u * n + p.2, p.1)
  if l.fmt = 7 then cells
  else
    let pos := u * l.scale.width
    let lo := pos / 8
    let m := (pos + l.scale.width - 1) / 8 + 1 - lo
    let old := leNat (s.readBytes w (l.scaleBase + lo) m)
    let new := old - field old (pos % 8) l.scale.width * 2 ^ (pos % 8) + scale * 2 ^ (pos % 8)
    cells ++ (leBytes m new).zipIdx.map fun p => (l.scaleBase + lo + p.2, p.1)

/-- Write view bytes of a page, each at its virtual address: plain bytes as they are, a format page by whole units,
data and scale together (R84). -/
def State.writeView (s : State) (w : Who) (l : Leaf) (bs : List (Nat × Byte)) : State :=
  if l.fmt = 0 then s.writeBytes w (bs.map fun p => (l.base + l.offset p.1, p.2)) l.cp
  else
    (bs.map fun p => l.offset p.1 / l.unitBytes).eraseDups.foldl (fun s u =>
      let view := (List.range l.unitBytes).map fun k =>
        ((bs.reverse.find? fun p => decide (l.offset p.1 = u * l.unitBytes + k)).map (·.2)).getD 0
      let e := l.encodeUnit view
      s.writeBytes w (s.unitCells w l u e.1 e.2) l.cp) s

/-- For whom an access through a page is made (R133): a label counts only where the page carries versions. -/
def Leaf.who (l : Leaf) (ctx : Nat) (label : BitVec 3) (chunk : Option Nat) : Who :=
  { ctx, label := if l.ver then label else 0, chunk, ver := l.ver }

end Sys2Proof.Machine
end

