-- ==== Sys2Proof/Machine/L1.lean ====
section
/-!
DEFINITION. The L1 of a core: lookup, replacement, sectors, write-back and invalidation (R179 to R187, R305).
-/
namespace Sys2Proof.Machine
open Sys2Proof

/-! ## Sets and ways -/

/-- Set index: bits [13:8] of the virtual address (R179). -/
def l1Index (va : Nat) : Nat := va / 256 % 64
/-- Sector of a line. -/
def sectorOf (va : Nat) : Nat := va / 64 % 4

/-- The data-plane byte of the first element of a view line (R179). -/
def Leaf.viewLine (l : Leaf) (va : Nat) : Nat := l.base + l.offset va / 256 * 256 / l.viewBytes * l.elemBits / 8

/-- View offset of the view line whose first element has this data-plane byte. -/
def Leaf.viewOffset (l : Leaf) (byte : Nat) : Nat := (byte - l.base) * 8 / l.elemBits * l.viewBytes

/-- The tag an access matches (R179, R85): PA[51:8] of the line, or on a format page PA[51:0] of the data-plane byte of its
first view element. DESIGN CHOICE: R179 gives the tag PA[51:14] of that byte, which does not tell apart two view lines of one
set whose packed bytes lie within 16 KiB; the lower bits do (log 49). -/
def Leaf.tag (l : Leaf) (va ctx : Nat) (label : BitVec 3) : L1Tag :=
  { line := if l.fmt = 0 then (l.base + l.offset va) / 256 else l.viewLine va,
    kind := l.kind, label := if l.ver then label else 0, ctx, fmt := l.fmt, geom := l.geom, scl := l.scl, view := l.view }

/-- A set of a core's L1. -/
def Core.set (c : Core) (i : Nat) : L1Set := (c.l1.look i).getD {}

/-- Do two tags match: tag, kind, label and view, whatever the contexts (R179)? -/
def L1Tag.matches (a b : L1Tag) : Bool := decide ({ a with ctx := 0 } = { b with ctx := 0 })

/-- The way that matches a tag. -/
def L1Set.find (t : L1Set) (tag : L1Tag) : Option (Nat × L1Way) := t.ways.find? fun p => p.2.tag.matches tag

/-- Touch a way (R183). -/
def L1Set.touch (t : L1Set) (w : Nat) : L1Set :=
  let g := w / 4
  let p := w % 4
  let m : BitVec 3 := 1#3 <<< g
  let t := { t with order := g :: t.order.filter fun x => decide (x ≠ g) }
  if p < 2 then { t with h := t.h ||| m, l := if p = 0 then t.l ||| m else t.l &&& ~~~m }
  else { t with h := t.h &&& ~~~m, r := if p = 2 then t.r ||| m else t.r &&& ~~~m }

/-- Change a way of a set. -/
def L1Set.onWay (t : L1Set) (w : Nat) (f : L1Way → L1Way) : L1Set :=
  match t.ways.look w with
  | some y => { t with ways := t.ways.put w (f y) }
  | none => t

/-- The walk of R183 over a full set, spending bonuses; it ends within 13 passes. -/
def L1Set.walk : Nat → L1Set → Nat × L1Set
  | 0, t => (0, t)
  | n + 1, t =>
    let g := t.order.getLastD 0
    let p := if t.h.getLsbD g then 2 + (if t.r.getLsbD g then 1 else 0) else (if t.l.getLsbD g then 1 else 0)
    let w := 4 * g + p
    match t.ways.look w with
    | some y => if y.bonus then ((t.onWay w fun y => { y with bonus := false }).touch w).walk n else (w, t)
    | none => (w, t)

/-- The victim of a fill (R183). -/
def L1Set.victim (t : L1Set) : Nat × L1Set :=
  match (List.range 12).find? fun w => (t.ways.look w).isNone with
  | some w => (w, t)
  | none => t.walk 14

/-- Replace a set of a core's L1. -/
def State.setL1 (s : State) (core i : Nat) (t : L1Set) : State :=
  let c := s.core core
  s.setCore core { c with l1 := c.l1.put i t }

/-! ## Write-backs (R186, R307) -/

/-- The dirty bytes of a sector at their physical addresses, for a plain page. -/
def Sector.dirtyCells (x : Sector) (base : Nat) : List (Nat × Byte) :=
  (List.range 64).filterMap fun k => if x.bm.getLsbD k then some (base + k, x.bytes.getD k 0) else none

/-- The next cycle, from one on, in which a write-back may leave a core; it is taken (R307). -/
def State.wayOut (s : State) (core from_ : Nat) : Nat × State :=
  let c := s.core core
  let t := max from_ c.wayOut
  (t, s.setCore core { c with wayOut := t + 1 })

/-- Send a victim's bytes home in one write, which holds write-back entries until it is acknowledged (R186, R306). -/
def State.sendVictim (s : State) (core ctx : Nat) (cells : List (Nat × Byte)) (full poison : Bool) (entries : Nat)
    (source : List (L1Tag × BitVec 16)) : State :=
  let x := lineOf ((cells.map (·.1)).headD 0)
  let (at_, s) := s.wayOut core s.now
  let (id, s) := s.fresh
  let t : Txn := { kind := .writeBack, core, ctx, line := x, column := homeColumn s x, bytes := cells, fullLine := full,
                   poison, entries, source }
  (s.setTxn id t).postAt (at_ + 18 + homePath s core x) .homeWrite [id]

/-- A sector once its dirty bytes have left: one that stays valid stays poisoned (R187, R307). -/
def Sector.cleaned (x : Sector) : Sector := { x with dirty := false, bm := 0, poison := x.poison && x.valid }

/-- The epoch of a dirty sector (R330). -/
def Core.epoch (c : Core) (x : Sector) : BitVec 16 := c.seq - (c.seq - x.stamp.setWidth 16) % 16

/-- Write back one sector of a way, from `delay` cycles on: its transaction's number. The sector stays as it is until it
leaves the core (R334), and a write-back of it that has not left serves every rule that asks for one. -/
def State.writeBackSector (s : State) (core i w k delay : Nat) : Option Nat × State :=
  match ((s.core core).set i).ways.look w with
  | none => (none, s)
  | some y =>
    if !(y.sectors.getD k {}).dirty then (none, s)
    else
      match s.txns.find? fun t => decide (t.2.core = core ∧ t.2.leaves = some [i, w, k, y.fill]) with
      | some t => (some t.1, s)
      | none =>
        let (at_, s) := s.wayOut core (s.now + delay)
        let (id, s) := s.fresh
        let x := lineOf (y.tag.line * 256 + 64 * k)
        let t : Txn := { kind := .writeBack, core, ctx := y.tag.ctx, line := x, column := homeColumn s x, granted := true,
                         leaves := some [i, w, k, y.fill] }
        (some id, (s.setTxn id t).postAt at_ .homeWrite [id])

/-- A write-back leaves its core with the sector's bytes as they stand (R334); where the sector has left with its way, it
follows the write that took it. True where it has nothing more to wait for. -/
def State.leaveL1 (s : State) (id : Nat) (t : Txn) (at_ : List Nat) : Bool × State :=
  let i := at_.getD 0 0
  let w := at_.getD 1 0
  let k := at_.getD 2 0
  let y := (((s.core t.core).set i).ways.look w).filter fun y => decide (y.fill = at_.getD 3 0)
  let x := (y.map fun (y : L1Way) => y.sectors.getD k {}).getD {}
  match y, x.dirty with
  | some y, true =>
    let t := { t with leaves := none, granted := false, poison := x.poison, bytes := x.dirtyCells (y.tag.line * 256 + 64 * k),
                      source := [(y.tag, (s.core t.core).epoch x)] }
    let xs := y.sectors.set k x.cleaned
    let filling := s.txns.any fun u => decide (u.2.core = t.core) && match u.2.kind with
      | .sector _ j (some p) => decide (j = i ∧ p = (w, y.fill))
      | _ => false
    let c := (s.core t.core).set i
    let c := if filling || xs.any (fun (x : Sector) => x.valid || x.dirty) then c.onWay w fun y => { y with sectors := xs }
      else { c with ways := c.ways.cut w }
    (false, ((s.setTxn id t).setL1 t.core i c).post (18 + homePath s t.core t.line) .homeWrite [id])
  | _, _ =>
    match s.txns.find? fun u => decide (u.1 ≠ id ∧ u.2.core = t.core ∧ u.2.line = t.line) && u.2.leaves.isNone
        && u.2.kind == .writeBack && u.2.bytes.any fun p => decide (p.1 / 64 % 4 = k) with
    | some (v, u) => (false, s.setTxn v { u with ackWaiters := u.ackWaiters ++ [id] })
    | none => (true, s)

/-- The sectors of a core's L1 in ascending set and way, with their tags. -/
def Core.sectors (c : Core) : List (Nat × Nat × Nat × L1Tag × Sector) :=
  (c.l1.map fun p => (p.2.ways.map fun q =>
    q.2.sectors.zipIdx.map fun x => (p.1, q.1, x.2, q.2.tag, x.1)).flatten).flatten

/-- Write back the dirty sectors that a rule selects by tag and epoch, one per cycle (R307), in ascending set and way (R334): the
numbers of the transactions, with those of the sectors that have left and are not acknowledged yet (R186, R337). -/
def State.writeBackWhere (s : State) (core delay : Nat) (p : L1Tag → BitVec 16 → Bool) : List Nat × State :=
  let c := s.core core
  let left := (s.txns.filter fun t => decide (t.2.core = core) && t.2.source.any fun q => p q.1 q.2).map (·.1)
  (c.sectors.filter fun q => q.2.2.2.2.dirty && p q.2.2.2.1 (c.epoch q.2.2.2.2)).foldl
    (fun (acc : List Nat × State) q =>
      let r := acc.2.writeBackSector core q.1 q.2.1 q.2.2.1 delay
      (acc.1 ++ r.1.toList, r.2)) (left, s)

/-- A victim way's dirty sectors leave: both of a line's sectors in one write where both are dirty, a full-line
write where both are complete (R186, R307). -/
def State.writeBackVictim (s : State) (core : Nat) (y : L1Way) : State :=
  [0, 1].foldl (fun s half =>
    let base := y.tag.line * 256 + 128 * half
    let a := y.sectors.getD (2 * half) {}
    let b := y.sectors.getD (2 * half + 1) {}
    let c := s.core core
    let of_ (x : Sector) : L1Tag × BitVec 16 := (y.tag, c.epoch x)
    if a.dirty && b.dirty && a.bm == BitVec.allOnes 64 && b.bm == BitVec.allOnes 64 then
      s.sendVictim core y.tag.ctx (a.dirtyCells base ++ b.dirtyCells (base + 64)) true (a.poison || b.poison) 2 [of_ a, of_ b]
    else if a.dirty && b.dirty then
      -- both leave in one cycle
      let s := s.sendVictim core y.tag.ctx (a.dirtyCells base) false a.poison 1 [of_ a]
      let c := s.core core
      (s.setCore core { c with wayOut := c.wayOut - 1 }).sendVictim core y.tag.ctx (b.dirtyCells (base + 64)) false b.poison 1 [of_ b]
    else
      let s := if a.dirty then s.sendVictim core y.tag.ctx (a.dirtyCells base) false a.poison 1 [of_ a] else s
      if b.dirty then s.sendVictim core y.tag.ctx (b.dirtyCells (base + 64)) false b.poison 1 [of_ b] else s) s

/-! ## Lookup and allocation (R184, R185) -/

/-- A parity error in a sector of a way, or with no such sector in its tag: a dirty sector is poisoned, else the way is dropped
(R187). DESIGN CHOICE (log 95): the dirty sectors of a way that an error drops leave it by write-back (R180). -/
def State.parityError (s : State) (core set way sector : Nat) : State :=
  match ((s.core core).set set).ways.look way with
  | none => s
  | some y =>
    if (y.sectors[sector]?).any (·.dirty) then
      s.setL1 core set (((s.core core).set set).onWay way fun y =>
        { y with sectors := y.sectors.set sector { (y.sectors.getD sector {}) with poison := true } })
    else
      let s := s.writeBackVictim core y
      let t := (s.core core).set set
      s.setL1 core set { t with ways := t.ways.cut way }

/-- A hit touches its way and may set its bonus. -/
def State.l1Hit (s : State) (core i w : Nat) (bonus : Bool) : State :=
  let t := ((s.core core).set i).touch w
  s.setL1 core i (if bonus then t.onWay w fun y => { y with bonus := true } else t)

/-- Take a way for a tag: the old line leaves, the new one holds no valid sector. The way and its fill number. -/
def State.l1Take (s : State) (core i : Nat) (tag : L1Tag) (ver stream bonus : Bool) : Nat × Nat × State :=
  let (w, t) := ((s.core core).set i).victim
  let s := match t.ways.look w with
    | some y => s.writeBackVictim core y
    | none => s
  let c := s.core core
  let t := { t with ways := t.ways.put w { tag, ver, bonus := bonus && !stream, fill := c.fills } }
  let t := if stream then t else t.touch w
  (w, c.fills, s.setCore core { c with l1 := c.l1.put i t, fills := c.fills + 1 })

/-- A byte of a way, where it may be served from there: valid, or dirty (R305). -/
def Sector.serves (x : Sector) (k : Nat) : Bool := x.valid || x.bm.getLsbD k

/-- Write bytes into a sector: they are dirty, and the first of them stamps the sector (R305, R330). -/
def Sector.store (x : Sector) (seq : BitVec 16) (bs : List (Nat × Byte)) : Sector :=
  let bytes := if x.bytes.length = 64 then x.bytes else List.replicate 64 0
  { x with
    dirty := true
    stamp := if x.dirty then x.stamp else seq.setWidth 4
    bm := bs.foldl (fun m p => m ||| (1#64 <<< p.1)) x.bm
    bytes := patch bytes bs }

/-- Fill a sector: bytes that are dirty stay (R305). -/
def Sector.fill (x : Sector) (bs : List Byte) : Sector :=
  { x with
    valid := true
    bytes := (List.range 64).map fun k => if x.bm.getLsbD k then x.bytes.getD k 0 else bs.getD k 0 }

/-- A store performed in the L1 (R305). -/
def State.l1Store (s : State) (core : Nat) (tag : L1Tag) (ver : Bool) (va : Nat) (bs : List (Nat × Byte))
    (stream bonus : Bool) : State :=
  let i := l1Index va
  let c := s.core core
  match (c.set i).find tag with
  | some (w, _) =>
    let s := s.l1Hit core i w bonus
    s.setL1 core i (((s.core core).set i).onWay w fun y =>
      { y with sectors := y.sectors.set (sectorOf va) ((y.sectors.getD (sectorOf va) {}).store c.seq bs) })
  | none =>
    let (w, _, s) := s.l1Take core i tag ver stream bonus
    s.setL1 core i (((s.core core).set i).onWay w fun y =>
      { y with sectors := y.sectors.set (sectorOf va) ((y.sectors.getD (sectorOf va) {}).store c.seq bs) })

/-- A written-through store updates the clean copy of its bytes that the L1 holds under its tag (R305), and a fill on its way
there for the loads that pass after it (R192). -/
def State.l1Update (s : State) (core : Nat) (tag : L1Tag) (va : Nat) (bs : List (Nat × Byte)) : State :=
  let i := l1Index va
  let waits (t : Txn) : Bool := t.joinable && decide (t.core = core ∧ t.va / 64 = va / 64) && (match t.kind with
    | .sector tg _ _ => tg.matches tag
    | _ => false)
  let s := { s with txns := s.txns.mapVals fun (t : Txn) => if waits t then { t with patches := t.patches ++ bs } else t }
  match ((s.core core).set i).find tag with
  | none => s
  | some (w, _) =>
    s.setL1 core i (((s.core core).set i).onWay w fun y =>
      let x := y.sectors.getD (sectorOf va) {}
      if x.bytes.length = 64 then { y with sectors := y.sectors.set (sectorOf va) { x with bytes := patch x.bytes bs } }
      else y)

/-- A store that the L1 accepts nothing of leaves there neither a clean copy of its sector nor a fill on its way to one: its
thread's later loads find it at the home (R94, R192). -/
def State.l1Reject (s : State) (core : Nat) (tag : L1Tag) (va : Nat) : State :=
  let i := l1Index va
  let stale (t : Txn) : Bool := t.joinable && decide (t.core = core ∧ t.va / 64 = va / 64)
  let s := { s with txns := s.txns.mapVals fun (t : Txn) =>
    match t.kind with
    | .sector tg j _ => if stale t && tg.matches tag then { t with kind := .sector tg j none, joinable := false } else t
    | _ => t }
  match ((s.core core).set i).find tag with
  | none => s
  | some (w, _) =>
    s.setL1 core i (((s.core core).set i).onWay w fun y =>
      let x := y.sectors.getD (sectorOf va) {}
      { y with sectors := y.sectors.set (sectorOf va) { x with valid := false } })

/-! ## Invalidation (R181, R196) -/

/-- Invalidate the clean sectors of the ways that a rule selects by tag and by whether a versioned page filled them. A
way left without a valid or dirty sector is invalid, and fills under way to the selected ways install nothing. -/
def State.l1Clean (s : State) (core : Nat) (p : L1Tag → Bool → Bool) : State :=
  let c := s.core core
  let drop (y : L1Way) : Option L1Way :=
    if !p y.tag y.ver then some y
    else
      let xs := y.sectors.map fun (x : Sector) => if x.dirty then x else { x with valid := false }
      if xs.any (·.dirty) then some { y with sectors := xs } else none
  let l1 := c.l1.map fun q => (q.1, { q.2 with ways := q.2.ways.filterMap fun r => (drop r.2).map fun y => (r.1, y) })
  let txns := s.txns.map fun q =>
    match q.2.kind with
    | .sector tag i _ =>
      if q.2.core = core && q.2.joinable && p tag q.2.leaf.ver then
        (q.1, { q.2 with kind := .sector tag i none, joinable := false })
      else q
    | _ => q
  { s.setCore core { c with l1 } with txns }

/-- Invalidate the clean sectors that a rule selects by tag. -/
def State.l1Invalidate (s : State) (core : Nat) (p : L1Tag → Bool) : State := s.l1Clean core fun t _ => p t

/-- What a core has written back for good leaves its L1 with the clean sectors of the context, once the last of it has left
(R182). -/
def State.l1Leave (s : State) (core ctx : Nat) (ids : List Nat) : State :=
  if ids.isEmpty then s.l1Invalidate core fun t => decide (t.ctx = ctx)
  else s.postAt (max s.now ((s.core core).wayOut - 1)) .l1Fill [core, ctx, 0, 0]

/-- Drop one sector of the L1, dirty bytes having left (R312), or view lines whose units were written (R305). -/
def State.l1DropSector (s : State) (core i w k : Nat) : State :=
  s.setL1 core i (((s.core core).set i).onWay w fun y =>
    { y with sectors := y.sectors.set k { y.sectors.getD k {} with valid := false, dirty := false, bm := 0 } })

/-- The dirty bytes that the core's L1 holds of a physical sector of a plain page, for a load made at the home
(R192). -/
def Core.dirtyByte (c : Core) (pa : Nat) : Option Byte :=
  c.sectors.findSome? fun q =>
    let x := q.2.2.2.2
    let tag := q.2.2.2.1
    if x.dirty && tag.fmt == 0#4 && decide (tag.line * 256 + 64 * q.2.2.1 = pa / 64 * 64)
      && x.bm.getLsbD (pa % 64) then some (x.bytes.getD (pa % 64) 0) else none

end Sys2Proof.Machine
end

