-- ==== Sys2Proof/Machine/Access.lean ====
section
/-!
DEFINITION. Global accesses in flight: translation by the coalescer (R88), the checks of R96, and what a word sends to
the L1 and to the homes once they pass (R185, R191, R305, R306, R312, R315, R320).
-/
namespace Sys2Proof.Machine
open Sys2Proof

/-- Replace a flight. -/
def State.setFlight (s : State) (id : Nat) (f : Flight) : State := { s with flights := s.flights.put id f }

/-! ## Pieces of an access -/

/-- The leaf for a byte of an access: that of its first page, or of the next. -/
def LaneAcc.leafAt (a : LaneAcc) (va : Nat) : Leaf :=
  match a.leaf with
  | some l => if va / l.size = a.va / l.size then l else a.leaf2.getD l
  | none => {}

/-- An access cut at 64-B sectors: address, bytes, leaf. -/
def LaneAcc.pieces (a : LaneAcc) : List (Nat × Nat × Leaf) :=
  (List.range ((a.va + a.size - 1) / 64 + 1 - a.va / 64)).map fun k =>
    let q := a.va / 64 + k
    let lo := max a.va (64 * q)
    (lo, min (a.va + a.size) (64 * q + 64) - lo, a.leafAt lo)

/-- Does an access cross into a second page? -/
def LaneAcc.crosses (a : LaneAcc) : Bool :=
  match a.leaf with
  | some l => decide ((a.va + a.size - 1) / l.size ≠ a.va / l.size)
  | none => false

/-- The 256-B lines of a word, in the order of the lowest lane that touches each (R185). -/
def Flight.lineKeys (f : Flight) : List Nat :=
  ((f.accs.map fun a => a.pieces.map fun p => p.1 / 256).flatten).eraseDups

/-- The chunk slot under which a flight acts on a page: on a versioned one LDV leaves the pending step out (R152). -/
def Flight.chunkFor (f : Flight) (l : Leaf) : Option Nat := if f.kind = .homeLoad true && l.ver then none else f.chunk

/-- For whom a flight reads or writes through a leaf. -/
def Flight.who (f : Flight) (l : Leaf) : Who :=
  l.who f.ctx f.label (f.chunkFor l)

/-! ## Translation (R88) -/

/-- The page an access still needs: its number. -/
def LaneAcc.needs (a : LaneAcc) : Option Nat :=
  if !canonical a.va || a.fault.isSome then none
  else if a.leaf.isNone then some (vpnOf a.va)
  else if a.crosses && a.leaf2.isNone && a.fault2.isNone then some (vpnOf (a.va + a.size - 1))
  else none

/-- Is a page the one that was looked up, or within it where it is large? -/
def pageMeets (vpn : Nat) (r : Except (BitVec 8) Leaf) (p : Nat) : Bool :=
  decide (p = vpn) || match r with
    | .ok l => l.large && decide (p / 1024 = vpn / 1024)
    | .error _ => false

/-- Give an access what was found for a page, where it touches that page. -/
def LaneAcc.give (vpn : Nat) (r : Except (BitVec 8) Leaf) (a : LaneAcc) : LaneAcc :=
  let a :=
    if canonical a.va && a.leaf.isNone && a.fault.isNone && pageMeets vpn r (vpnOf a.va) then
      match r with
      | .ok l => { a with leaf := some l }
      | .error c => { a with fault := some c }
    else a
  if canonical a.va && a.crosses && a.leaf2.isNone && a.fault2.isNone && pageMeets vpn r (vpnOf (a.va + a.size - 1)) then
    match r with
    | .ok l => { a with leaf2 := some l }
    | .error c => { a with fault2 := some c }
  else a

/-- Has the coalescer looked up a page of this word before? -/
def Flight.lookedUp (f : Flight) (vpn : Nat) : Bool := f.pages.contains vpn || f.pages.contains (2 ^ 40 + vpn / 1024)

/-- Translate the pages of a flight in order, as far as the TLBs hold them; false where it must wait for a walk. Each page
after the first adds a cycle (R88). -/
def State.translate (s : State) (f : Flight) : Nat → Bool × Flight × State
  | 0 => (true, f, s)
  | n + 1 =>
    match f.accs.findSome? LaneAcc.needs with
    | none => (true, f, s)
    | some vpn =>
      let f := if f.pages.isEmpty || f.lookedUp vpn then f else { f with extra := f.extra + 1 }
      match s.lookupPage f.core f.ctx vpn with
      | some (l, c, s) =>
        s.translate { f with
          extra := f.extra + c
          pages := f.pages ++ [if l.large then 2 ^ 40 + vpn / 1024 else vpn]
          accs := f.accs.map (LaneAcc.give vpn (.ok l)) } n
      | none =>
        let waits := s.walks.any fun w => w.2.cores.contains f.core && decide (w.2.ctx = f.ctx ∧ w.2.vpn = vpn)
        (false, { f with pages := f.pages ++ [vpn] }, if waits then s
          else s.requestWalk f.core f.ctx vpn none none (f.issued + 4 + f.extra + 12 - s.now))

/-! ## The checks of R96 -/

/-- Are the view bytes of a unit all written by the word (R84)? -/
def Flight.covers (f : Flight) (lo n : Nat) : Bool :=
  (List.range n).all fun k => f.accs.any fun a => decide (a.va ≤ lo + k ∧ lo + k < a.va + a.size)

/-- Step 6: the format rules (R84, R319). -/
def Flight.formatCause (f : Flight) (a : LaneAcc) (l : Leaf) : Option (BitVec 8) :=
  if l.fmt = 0 then none
  else
    match f.kind with
    | .atom _ _ _ => some 0x46
    | .red _ _ => some 0x46
    | .box => some 0x47
    | .tri => some 0x47
    | .mxacc blk =>
      let want : BitVec 4 := if blk % 3 = 0 then 2 else if blk % 3 = 1 then 1 else 5
      if l.fmt = want && l.geom == 2#2 && l.scl == decide (3 ≤ blk) then none else some 0x47
    | .mma =>
      -- `order` holds ATYPE, or 15 where the operand has scales (R255)
      if decide (l.fmt = 7) then (if decide (l.view = 0) && decide (f.order = 8) then none else some 0x47)
      else if decide (l.view.toNat < 2 ∧ f.order = l.view.toNat) then none else some 0x47
    | _ =>
      if !f.write then none
      else
        let page := a.va - l.offset a.va
        let lo := l.offset a.va / l.unitBytes
        let hi := (l.offset a.va + a.size - 1) / l.unitBytes
        if (List.range (hi + 1 - lo)).all fun k => f.covers (page + (lo + k) * l.unitBytes) l.unitBytes then none
        else some 0x46

/-- The alignment a lane's address must have. -/
def Flight.alignment (f : Flight) (a : LaneAcc) (l : Leaf) : Nat :=
  match f.kind with
  | .sample => if a.compare.isEmpty then f.alignTo else 1
  | .mxacc _ => if l.fmt = 0 then 64 else 32 * l.viewBytes
  | _ => f.alignTo

/-- The first check of R96 that one access fails. -/
def State.pageCause (s : State) (f : Flight) (a : LaneAcc) : Option (BitVec 8) :=
  if !canonical a.va then some 0x41
  else
    match a.fault, a.fault2, a.leaf with
    | some c, _, _ => some c
    | none, some c, _ => some c
    | none, none, none => some 0x40
    | none, none, some l =>
      let m := if a.crosses then a.leaf2.getD l else l
      let cells := (a.pieces.map fun p => p.2.2.physical p.1 p.2.1).flatten
      if cells.any fun pa => !populated s pa then some 0x48
      else if (cells.any fun pa => inAperture (lineOf pa)) && (decide (l.fmt ≠ 0 ∨ m.fmt ≠ 0) || l.ver || m.ver) then
        some 0x4D
      else if f.write && !(l.w && m.w) then some 0x43
      else if decide (l.kind ≠ m.kind ∨ l.ver ≠ m.ver ∨ l.fmt ≠ m.fmt ∨ l.geom ≠ m.geom ∨ l.scl ≠ m.scl ∨ l.view ≠ m.view)
        then some 0x45
      else
        match f.formatCause a l with
        | some c => some c
        | none =>
          if f.write && decide (f.label ≠ 0) && ((!l.ver && !l.rn) || (!m.ver && !m.rn)) then some 0x90
          else if f.write && f.chunk.isSome && decide (l.kind = 0) then some 0x58
          else if a.va % f.alignment a l ≠ 0 then some 0x52
          else none

/-- An access cut where it crosses into a second page. -/
def LaneAcc.cut (a : LaneAcc) : List LaneAcc :=
  match a.leaf with
  | none => [a]
  | some l =>
    if a.crosses then
      let n := l.size - a.va % l.size
      [{ a with size := n, leaf2 := none, fault2 := none },
       { a with va := a.va + n, size := a.size - n, leaf := a.leaf2, leaf2 := none, fault := a.fault2, fault2 := none }]
    else [a]

/-- The first check of R96 that a lane's access fails. A row of a matrix is read page by page (R270). -/
def State.laneCause (s : State) (f : Flight) (a : LaneAcc) : Option (BitVec 8) :=
  if f.kind = .mma then a.cut.findSome? (s.pageCause f) else s.pageCause f a

/-- The accesses of a fetch, in the order of R270, before the first that fails, and of that one the pages before its fault. -/
def State.beforeFault (s : State) (f : Flight) : List LaneAcc :=
  let ok (a : LaneAcc) : Bool := (s.laneCause f a).isNone
  f.accs.takeWhile ok ++ (((f.accs.dropWhile ok).take 1).flatMap LaneAcc.cut).takeWhile ok

/-- The fetch of a global A has ended with a cause: the MMA is gone, its registers stay empty, and the cause is delivered
to its barge, with the MMA at the head of the replay queue (R270). -/
def State.mmaFault (s : State) (id : Nat) (f : Flight) (x : Cause) : State :=
  let c := s.core f.core
  let wg := (c.mmas.find? fun m => decide (m.id = id)).map (·.wg)
  let left := c.mmas.filter fun m => decide (m.id ≠ id)
  let s := { s.setCore f.core { c with mmas := left } with flights := s.flights.cut id }
  let s := s.onBarge f.core f.slot fun b =>
    if wg = some b.wg then
      { b with delivered := some x.cause, deliveredVa := x.va, deliveredEntry := some { f.entry with faulted := true } }
    else b
  s.wakeMmas f.core

/-- A word's trap once its checks have failed: its destination stands full as before (R194), and the word is the
faulted entry. A release that waits for it waits for it no longer: it is performed only after RETT (log 41). -/
def State.flightTrap (s : State) (id : Nat) (f : Flight) (x : Cause) (progress : Nat) : State :=
  let s := { s with flights := s.flights.cut id }
  let s := if s.rels.any fun r => r.2.waitFor.contains id then s.post 0 .writeAcknowledge [id] else s
  let s := s.onBarge f.core f.slot fun b =>
    let b := match f.kind with
      | .atom _ _ true => { b with blocked := false }
      | _ => b
    if f.words ≠ 0 then b.markFull f.entry.lanes { spec := f.dst, words := f.words } else b
  s.takeTrap f.core f.slot x f.entry.addr (some (id, { f.entry with faulted := true, progress }))

/-- The cause of the lowest failing lane, with the mask of all failing lanes and that lane's address (R96). -/
def State.accessCause (s : State) (f : Flight) (accs : List LaneAcc) : Option Cause :=
  let bad := accs.filterMap fun a => (s.laneCause f a).map fun c => (a, c)
  match bad with
  | [] => none
  | (a, c) :: _ =>
    some { cause := c, lanes := maskOf fun i => bad.any fun p => decide (p.1.lane = i), va := BitVec.ofNat 64 a.va }

/-! ## Signatures of chunked tasks (R341) -/

/-- rot(x, n) on a line address of 45 bits. -/
def rot45 (x n : Nat) : Nat := x / 2 ^ n + x % 2 ^ n * 2 ^ (45 - n)
/-- h_k(x) for the rotation n_k. -/
def sigHash (x n : Nat) : Nat := [0, 1, 2, 3, 4].foldl (fun h j => Nat.xor h (field (rot45 x n) (9 * j) 9)) 0

/-- Enter lines in a signature of a core's slot. -/
def State.sign (s : State) (core : Nat) (chunk : Option Nat) (ctx : Nat) (write : Bool) (lines : List Nat) : State :=
  match chunk with
  | none => s
  | some sl =>
    let c := s.core core
    let add (t : Tab (Sparse 1)) : Tab (Sparse 1) :=
      t.put sl (lines.foldl (fun g x =>
        ([(0, 0), (1, 2), (2, 5), (3, 7)] : List (Nat × Nat)).foldl (fun g p => g.set (512 * p.1 + sigHash x p.2) 1) g)
        ((t.look sl).getD []))
    let c := { c with sigCtx := c.sigCtx.put sl ctx }
    s.setCore core (if write then { c with sigWrite := add c.sigWrite } else { c with sigRead := add c.sigRead })

/-! ## Sending -/

/-- Is the access through this leaf served by the L1 (R180, R305, R341)? -/
def Flight.cacheable (f : Flight) (l : Leaf) : Bool :=
  let kind := match f.kind with
    | .homeLoad _ => false
    | _ => true
  kind && decide (l.kind ≠ 0) && f.chunk.isNone && !inAperture (l.line 0)

/-- Must a read through this leaf be made at the home column (R134)? -/
def State.readsAtHome (s : State) (f : Flight) (l : Leaf) (x : Nat) : Bool :=
  !f.cacheable l || (l.ver && decide (f.label ≠ 0)) || s.hasVersion x

/-- The column a read of a line reaches first. -/
def State.readColumn (s : State) (f : Flight) (l : Leaf) (x : Nat) : Nat :=
  if s.readsAtHome f l x || inAperture x then homeColumn s x
  else (columnOf s (towerOf f.core) x).getD (48 * towerOf f.core + lineSelect x)

/-- Cycle at which a flight's line n would be issued, had the word only this line: its tag stage is 4 cycles later (R16,
R185). -/
def Flight.start (f : Flight) (n : Nat) : Nat := f.issued + f.extra + n

/-- Bytes of some pieces of a flight within a sector: lane index, address, byte count. -/
def Flight.piecesIn (f : Flight) (sector : Nat) : List (Nat × Nat × Nat) :=
  (f.accs.zipIdx.map fun p => (p.1.pieces.filter fun q => decide (q.1 / 64 = sector)).map fun q =>
    (p.2, q.1, q.2.1)).flatten

/-- Give a flight the bytes of a sector. -/
def Flight.deliver (f : Flight) (sector : Nat) (bytes : List Byte) (poison : Bool) : Flight :=
  { f with accs := f.accs.map fun a =>
      let ps := a.pieces.filter fun q => decide (q.1 / 64 = sector)
      if ps.isEmpty then a
      else
        { a with
          poison := a.poison || poison
          got := a.got ++ (ps.map fun q => (List.range q.2.1).map fun k =>
            (q.1 + k - a.va, bytes.getD (q.1 % 64 + k) 0)).flatten } }

/-! ## The tag stage (R181, R185, R186) -/

/-- Let the head of a core's tag stage have its turn, unless a turn is due. -/
def State.tagTurn (s : State) (core : Nat) : State :=
  let c := s.core core
  match c.tagTurn, c.tagQueue with
  | none, h :: _ =>
    let t := max s.now (max h.due c.tagFree)
    (s.setCore core { c with tagTurn := some t }).postAt t .l1Fill [core, 0, 0]
  | _, _ => s

/-- Line requests of a word go to the tag stage, one in each cycle, from a cycle on. -/
def State.toTagStage (s : State) (id : Nat) (f : Flight) (lines start : Nat) : State :=
  let c := s.core f.core
  let qs : List TagReq := (List.range lines).map fun k => { flight := id, line := k, due := start + 4 + k }
  let s := s.setFlight id { f with sent := true, toPass := lines }
  (s.setCore f.core { c with tagQueue := c.tagQueue ++ qs }).tagTurn f.core

/-- Physical sectors of the packed bytes that a view sector of a format page needs: each takes an entry (R86). -/
def Leaf.packed (l : Leaf) (va : Nat) : List Nat := ((l.physical va 64).map (· / 64)).eraseDups

/-- Entries that missing sectors take: one for each on a plain page, and one for each physical sector that those of format
pages need (R86, R185). -/
def entriesOf (xs : List (Leaf × Nat)) : Nat :=
  (xs.filter fun x => decide (x.1.fmt = 0)).length
    + ((xs.filter fun x => decide (x.1.fmt ≠ 0)).flatMap fun x => x.1.packed x.2).eraseDups.length

/-- The sectors of a core that are on their way. -/
def State.missing (s : State) (core : Nat) : List (Leaf × Nat) :=
  (s.txns.filter fun t => decide (t.2.core = core) && (match t.2.kind with
    | .sector _ _ _ => true
    | _ => false)).map fun t => (t.2.leaf, t.2.va)

/-- Write-back entries of a core that are taken (R186). -/
def State.writeBackEntries (s : State) (core : Nat) : Nat :=
  (s.txns.filter fun t => decide (t.2.core = core)).foldl (fun n t => n + t.2.entries) 0

/-- The entry that a miss on a sector joins (R185). -/
def State.missEntry (s : State) (core : Nat) (tag : L1Tag) (sector : Nat) : Option (Nat × Txn) :=
  s.txns.find? fun t => t.2.joinable && decide (t.2.core = core ∧ t.2.va / 64 = sector) && (match t.2.kind with
    | .sector tg _ _ => tg.matches tag
    | _ => false)

/-- The bytes of a sector that a load's lanes want and the core's L1 holds newer than the home: dirty ones. -/
def State.newerBytes (s : State) (core : Nat) (tag : L1Tag) (va : Nat) : List (Nat × Byte) :=
  match ((s.core core).set (l1Index va)).find tag with
  | none => []
  | some (_, y) =>
    let x := y.sectors.getD (sectorOf va) {}
    (List.range 64).filterMap fun k => if x.bm.getLsbD k then some (k, x.bytes.getD k 0) else none

/-- Does the L1 serve every byte of a sector that a word wants (R185, R305)? -/
def Flight.servedBy (f : Flight) (x : Sector) (sector : Nat) : Bool :=
  (f.piecesIn sector).all fun p => (List.range p.2.2).all fun k => x.serves (p.2.1 % 64 + k)

/-- The sector of a core's L1 under a tag. -/
def State.l1Sector (s : State) (core : Nat) (tag : L1Tag) (va : Nat) : Sector :=
  match ((s.core core).set (l1Index va)).find tag with
  | some (_, y) => y.sectors.getD (sectorOf va) {}
  | none => {}

/-- The sectors of a word with their leaves. -/
def Flight.sectors (f : Flight) : List (Nat × Leaf) :=
  ((f.accs.map fun a => a.pieces.map fun p => (p.1 / 64, p.2.2)).flatten).eraseDups

/-- Does an access through this leaf pass by the L1? -/
def Flight.passesL1 (f : Flight) (l : Leaf) (va : Nat) : Bool := !f.cacheable l || inAperture (l.line va)

/-- The sectors for which a load takes entries (R185). -/
def State.entriesNeeded (s : State) (f : Flight) : List (Leaf × Nat) :=
  (f.sectors.filter fun p =>
    let va := 64 * p.1
    let tag := p.2.tag va f.ctx f.label
    f.passesL1 p.2 va || !(f.servedBy (s.l1Sector f.core tag va) p.1 || (s.missEntry f.core tag p.1).isSome)).map
    fun p => (p.2, 64 * p.1)

/-- One sector of a line request that misses, or that is read at the home: joined to the entry that is under way, or
requested. -/
def State.requestSector (s : State) (id : Nat) (f : Flight) (l : Leaf) (sector : Nat) (way : Option (Nat × Nat))
    (reader : Bool) : Nat × State :=
  let va := 64 * sector
  let tag := l.tag va f.ctx f.label
  let home := f.passesL1 l va
  match if home then none else s.missEntry f.core tag sector with
  | some (tid, t) =>
    (tid, if reader then s.setTxn tid { t with readers := t.readers ++ [(id, s.newerBytes f.core tag va ++ t.patches)] } else s)
  | none =>
    let x := l.line va
    let column := s.readColumn f l x
    let e := pathExtra s f.core column
    let newer := if home then [] else s.newerBytes f.core tag va
    let t : Txn := { kind := .sector tag (l1Index va) way, core := f.core, barge := some f.slot, ctx := f.ctx, label := f.label,
                     chunk := f.chunkFor l, flight := some id, atHome := home,
                     joinable := !home, readers := if reader then [(id, newer)] else [], leaf := l, va,
                     line := x, path := e, column, acquire := f.acquire, collect := f.collect }
    -- a request for a scratchpad reaches it as that of an LDP does (R121, R123)
    s.sendTxn t (if inAperture x then s.now - 4 + pooledArrival s f.core column else s.now + 14 + e)

/-- Dirty sectors of the way that a line request would replace, each needing a write-back entry (R186). -/
def State.victimDirty (s : State) (core : Nat) (tag : L1Tag) (va : Nat) : Nat :=
  let t := (s.core core).set (l1Index va)
  if (t.find tag).isSome then 0
  else ((t.ways.look t.victim.1).map fun y => (y.sectors.filter (·.dirty)).length).getD 0

/-- Has the core write-back entries for what a line request would replace (R186)? -/
def State.victimFits (s : State) (core : Nat) (tag : L1Tag) (va : Nat) : Bool :=
  decide (s.writeBackEntries core + s.victimDirty core tag va ≤ 16)

/-- A line request of a load at the tag stage (R185): hits deliver, misses are requested, and a prefetch drops a sector that
finds no free entry (R195). A hit touches its way, and so does a miss unless its hint is .stream or .noalloc (R183, R184).
DESIGN CHOICE (log 102): a miss in a way that matches touches it here, at the tag stage. -/
def State.loadLine (s : State) (id : Nat) (key : Nat) : State :=
  match s.flights.look id with
  | none => s
  | some f =>
    let pieces := (f.accs.map fun a => a.pieces.filter fun p => decide (p.1 / 256 = key)).flatten
    match pieces with
    | [] => s
    | p0 :: _ =>
      let l := p0.2.2
      let sectors := (pieces.map fun p => p.1 / 64).eraseDups
      let reader := decide (f.kind ≠ .prefetch)
      let s := s.sign f.core f.chunk f.ctx false ((pieces.map fun p => l.lines p.1 p.2.1).flatten.eraseDups)
      let ask (s : State) (f : Flight) (sec : Nat) (way : Option (Nat × Nat)) : State :=
        if !reader && decide (256 < entriesOf (s.missing f.core ++ [(l, 64 * sec)]))
            && (s.missEntry f.core (l.tag (64 * sec) f.ctx f.label) sec).isNone then s
        else
          let (tid, s) := s.requestSector id f l sec way reader
          s.setFlight id { f with pending := f.pending ++ [tid], ready := max f.ready (s.now + 24) }
      if f.passesL1 l p0.1 then
        sectors.foldl (fun s sec => match s.flights.look id with
          | none => s
          | some f => ask s f sec none) s
      else
        let va := p0.1
        let i := l1Index va
        let tag := l.tag va f.ctx f.label
        let bonus := f.bonus || f.hint == 1
        let hits := sectors.any fun sec => f.servedBy (s.l1Sector f.core tag (64 * sec)) sec
        let (way, s) := match ((s.core f.core).set i).find tag with
          | some (w, y) => (some (w, y.fill), if hits || f.hint < 2 then s.l1Hit f.core i w bonus else s)
          | none =>
            if f.hint = 3 || (!reader && !s.victimFits f.core tag va) then (none, s)
            else
              let (w, k, s) := s.l1Take f.core i tag l.ver (f.hint == 2) bonus
              (some (w, k), s)
        sectors.foldl (fun s sec =>
          match s.flights.look id with
          | none => s
          | some f =>
            let x := s.l1Sector f.core tag (64 * sec)
            if f.servedBy x sec then
              s.setFlight id { f.deliver sec x.bytes x.poison with ready := max f.ready (s.now + 24) }
            else if !reader && way.isNone then s
            else ask s f sec (if f.hint = 3 then none else way)) s

/-- A load whose last bytes have come is filled (R193); a prefetch is over. -/
def State.loadReady (s : State) (id : Nat) : State :=
  match s.flights.look id with
  | none => s
  | some f =>
    if !f.pending.isEmpty || f.toPass ≠ 0 then s
    else if f.kind = .prefetch then { s with flights := s.flights.cut id }
    else s.postAt f.ready .registerFill [id]

/-- Send a load: its lines in order, one per cycle. -/
def State.sendLoad (s : State) (id : Nat) (f : Flight) : State :=
  let n := f.lineKeys.length
  if n = 0 then (s.setFlight id { f with sent := true }).loadReady id else s.toTagStage id f n (f.start 0)

/-- Is a physical line in a frame that a migration has locked (R94)? -/
def State.lockedFrame (s : State) (x : Nat) : Option Nat :=
  (s.hub.migs.find? fun m => (m.2.state == 1#2 || m.2.state == 2#2)
    && decide (m.2.src.toNat * 32 ≤ x ∧ x < (m.2.src.toNat + m.2.units.toNat + 1) * 32)).map (·.1)

/-- Is a store through this leaf written through (R305, R94, R341)? -/
def State.writesThrough (s : State) (f : Flight) (l : Leaf) (va : Nat) : Bool :=
  let forced := match f.kind with
    | .store t => t
    | _ => false
  forced || decide (l.kind = 0) || (l.ver && decide (f.label ≠ 0)) || decide (l.fmt ≠ 0) || f.hint == 3
    || f.chunk.isSome || inAperture (l.line va) || (s.lockedFrame (l.line va)).isSome

/-- The run of a store's bytes that goes to a home as one: a 128-B line, or a larger unit of a format page, which is
written as one indivisible step (R84). -/
def Leaf.storeRun (l : Leaf) : Nat := if l.fmt = 0 then 128 else max 128 l.unitBytes

/-- The bytes a flight stores from an address on, in lane order. -/
def storeCells (accs : List LaneAcc) (lo n : Nat) : List (Nat × Byte) :=
  (accs.map fun a => (List.range a.size).filterMap fun k =>
    if lo ≤ a.va + k ∧ a.va + k < lo + n then some (a.va + k, a.data.getD k 0) else none).flatten

/-- A store to an aperture page arrives in its bank's write buffer (R121, R123). -/
def State.arrivalOf (s : State) (f : Flight) (x : Nat) : Nat :=
  if inAperture x then pooledArrival s f.core (homeColumn s x) else 40 + homePath s f.core x

/-- One run of a store, from an address on: in the L1, or on its way to the home (R305, R306). -/
def State.storeLine (s : State) (id lo run : Nat) : State :=
  match s.flights.look id with
  | none => s
  | some f =>
    let accs := f.accs
    match accs.findSome? fun a => (a.pieces.find? fun p => decide (lo ≤ p.1 ∧ p.1 < lo + run)) with
    | none => s
    | some p =>
      let l := p.2.2
      let cells := storeCells accs lo run
      let s := s.sign f.core f.chunk f.ctx true ((cells.map fun c => l.lines c.1 1).flatten.eraseDups)
      let tag := l.tag p.1 f.ctx f.label
      let bySector : List (Nat × List (Nat × Byte)) := ((List.range (run / 64)).map (lo / 64 + ·)).map fun sec =>
        (64 * sec, (cells.filter fun c => decide (c.1 / 64 = sec)).map fun c => (c.1 % 64, c.2))
      let touched := bySector.filter fun q => !q.2.isEmpty
      if s.writesThrough f l p.1 then
        let s := touched.foldl (fun s q =>
          if f.chunk.isSome then s
          else if (s.lockedFrame (l.line p.1)).isSome then s.l1Reject f.core tag q.1
          else if l.fmt = 0 then s.l1Update f.core tag q.1 q.2
          else s.l1Invalidate f.core fun t =>
            let o := l.viewOffset t.line
            decide (t.fmt = tag.fmt ∧ l.base ≤ t.line ∧ o < l.size)
              && decide (o / l.unitBytes ≤ (l.offset q.1 + 63) / l.unitBytes)
              && decide (l.offset q.1 / l.unitBytes ≤ (o + 255) / l.unitBytes)) s
        let x := l.line p.1
        let also := if l.fmt = 0 then [] else ((cells.map fun c => l.lines c.1 1).flatten.eraseDups).filter fun y => decide (y ≠ x)
        let t : Txn := { kind := .write, also, core := f.core, barge := some f.slot, ctx := f.ctx, label := f.label,
                         chunk := f.chunk, flight := some id, leaf := l, va := lo, line := x, column := homeColumn s x,
                         bytes := cells, recording := f.recording, record := f.record }
        let (tid, s) := s.sendTxn t (s.now - 4 + s.arrivalOf f x - t.lead + (if l.fmt = 0 then 0 else 4))
        s.setFlight id { f with pending := f.pending ++ [tid] }
      else
        let bonus := f.bonus || f.hint == 1
        touched.foldl (fun s q => s.l1Store f.core tag l.ver q.1 q.2 (f.hint == 2) bonus) s

/-- The runs in which a store's bytes go out. -/
def Flight.runs (f : Flight) : List (Nat × Nat) :=
  ((f.accs.map fun a => a.pieces.map fun p =>
    (p.1 / p.2.2.storeRun * p.2.2.storeRun, p.2.2.storeRun)).flatten).eraseDups

/-- The 256-B lines of a store, in the order of the lowest lane that touches each. -/
def Flight.storeLines (f : Flight) : List Nat := (f.runs.map (·.1 / 256)).eraseDups

/-- Send a store's lines to the tag stage. -/
def State.sendStores (s : State) (id : Nat) (f : Flight) (late : Nat) : State :=
  s.toTagStage id f (max 1 f.storeLines.length) (f.start 0 + late)

/-- A store that has reached the L1 after the last workgroup of its task has left the core: what it left dirty is written back
as the rest was, and the task waits for that too (R182). -/
def State.lateFlush (s : State) (f : Flight) : State :=
  match (ghostWg f.slot).bind s.wgs.look with
  | none => s
  | some w =>
    if s.wgs.any fun v => decide (v.2.node = w.node ∧ v.2.core = f.core) && !v.2.ended then s
    else
      let (ids, s) := s.writeBackWhere f.core 0 fun t _ => decide (t.ctx = f.ctx)
      let s := s.l1Leave f.core f.ctx ids
      match s.nodes.look w.node with
      | some n => { s with nodes := s.nodes.put w.node { n with flushing := n.flushing ++ ids } }
      | none => s

/-- A store none of whose bytes goes to a home is over: it stands in the L1, and those that wait for it go on. It counts
as performed ten cycles after it reached the L1, which a trap of its barge waits for (R306, R390). -/
def State.storeDone (s : State) (id : Nat) : State :=
  match s.flights.look id with
  | none => s
  | some f =>
    if f.pending.isEmpty then
      let t := s.now + 6
      let s := s.onBarge f.core f.slot fun b =>
        { b with busyUntil := max b.busyUntil t, trap := b.trap.map fun r => { r with notBefore := max r.notBefore t } }
      s.post 0 .writeAcknowledge [id]
    else s

/-- The physical address of an access on a plain page. -/
def LaneAcc.pa (a : LaneAcc) : Nat := ((a.leafAt a.va).physical a.va 1).headD 0

/-- The L1 sectors of the core that hold any of a word's locations: set, way, sector, and whether dirty. -/
def State.touchedSectors (s : State) (f : Flight) : List (Nat × Nat × Nat × Bool) :=
  ((s.core f.core).sectors.filter fun q =>
    (q.2.2.2.2.valid || q.2.2.2.2.dirty)
      && f.accs.any fun a =>
          let l := a.leafAt a.va
          let t := q.2.2.2.1
          decide (t.fmt = l.fmt ∧ (l.tag a.va f.ctx f.label).line = t.line ∧ sectorOf a.va = q.2.2.1)).map
    fun q => (q.1, q.2.1, q.2.2.1, q.2.2.2.2.dirty)

/-- Send an atomic, an unbuffered reduction or an MXACC (R312, R319): the core's dirty bytes of the sectors touched go
home first, then those sectors are dropped and each line's request leaves. -/
def State.sendAtomics (s : State) (id : Nat) (f : Flight) : State :=
  let touched := s.touchedSectors f
  let dirty := touched.filter fun q => q.2.2.2
  let start := s.now - 4
  let drops := match f.kind with
    | .mxacc _ => false
    | _ => true
  if drops && !dirty.isEmpty then
    let (ids, s) := dirty.foldl (fun (acc : List Nat × State) q =>
      match acc.2.writeBackSector f.core q.1 q.2.1 q.2.2.1 0 with
      | (some t, s) => (acc.1 ++ [t], s)
      | (none, s) => (acc.1, s)) ([], s)
    s.setFlight id { f with pending := ids, sent := false, toPass := 0 }
  else
    let s := if drops then touched.foldl (fun s q => s.l1DropSector f.core q.1 q.2.1 q.2.2.1) s else s
    let accs := match f.kind with
      | .mxacc _ => f.accs.take 1
      | _ => f.accs
    let keys := (accs.map fun a => a.va / 128).eraseDups
    let wide := (keys.map (· / 2)).eraseDups
    let late := match f.kind with
      | .mxacc _ => 24
      | _ => 0
    let c := s.core f.core
    let s := s.setCore f.core { c with tagFree := max c.tagFree (s.now + wide.length) }
    let s := s.setFlight id { f with sent := true, pending := [], toPass := 0 }
    keys.foldl (fun s k =>
      match s.flights.look id, accs.find? fun a => decide (a.va / 128 = k) with
      | some f, some a =>
        let l := a.leafAt a.va
        let x := l.line a.va
        let mx := match f.kind with
          | .mxacc _ => true
          | _ => false
        let also := if mx && decide (l.fmt ≠ 0) then (l.lines a.va l.unitBytes).filter fun y => decide (y ≠ x) else []
        let t : Txn := { kind := if mx then .mxacc else .atomic, also, core := f.core, barge := some f.slot, ctx := f.ctx,
                         label := f.label, chunk := f.chunk, flight := some id, leaf := l, va := 128 * k, line := x,
                         column := homeColumn s x, recording := f.recording, record := f.record }
        let s := s.sign f.core f.chunk f.ctx true (l.lines a.va (if mx then max a.size (l.unitBytes) else a.size))
        let s := s.sign f.core f.chunk f.ctx false (l.lines a.va a.size)
        let (tid, s) := s.sendTxn t (start + wide.findIdx (· = k / 2) + late + 18 + homePath s f.core x
          + (if mx && decide (l.fmt ≠ 0) then 4 else 0))
        s.setFlight id { f with pending := f.pending ++ [tid] }
      | _, _ => s) s

/-! ## Atomic operations on a location (R311) -/

/-- Width of a type in bytes. -/
def AtomTy.bytes : AtomTy → Nat
  | .n64 => 8
  | .i64 => 8
  | .f64 => 8
  | _ => 4

/-- A float operation of R311 on codes of a format. -/
def atomFloat (op : AtomOp) (fm : Fmt) (o v : Nat) : Nat :=
  match op with
  | .add => (round fm .rn {} (Exact.add .rn (fm.value o) (fm.value v))).code
  | .min => (minMaxCode fm false false o v).code
  | .max => (minMaxCode fm false true o v).code
  | .exch => v
  | _ => o

/-- The new value of a location (R311). -/
def atomNew (op : AtomOp) (ty : AtomTy) (o v c : Nat) : Nat :=
  let w := 8 * ty.bytes
  let cmp (signed : Bool) : Bool := decide (intOf signed w v < intOf signed w o)
  let int (signed : Bool) : Nat := match op with
    | .add => (o + v) % 2 ^ w
    | .min => if cmp signed then v else o
    | .max => if cmp signed || o = v then o else v
    | .and => Nat.land o v
    | .or => Nat.lor o v
    | .xor => Nat.xor o v
    | .exch => v
    | .cas => if o = c then v else o
  let halves (fm : Fmt) : Nat :=
    if op = .exch then v
    else atomFloat op fm (o / 65536) (v / 65536) * 65536 + atomFloat op fm (o % 65536) (v % 65536)
  match ty with
  | .n32 => int false
  | .n64 => int false
  | .i32 => int true
  | .i64 => int true
  | .f32 => if op = .cas then int false else atomFloat op .f32 o v
  | .f64 => if op = .cas then int false else atomFloat op .f64 o v
  | .f16x2 => if op = .cas then int false else halves .f16
  | .bf16x2 => if op = .cas then int false else halves .bf16

/-! ## The reduction buffers (R315 to R317) -/

/-- The buffer of a quarter. -/
def Core.reds' (c : Core) (q : Nat) : List RedEntry := (c.reds.look q).getD []

/-- The key of an entry, as data. -/
def RedEntry.sameKey (a b : RedEntry) : Bool :=
  decide (a.barge = b.barge ∧ a.label = b.label ∧ a.chunk = b.chunk ∧ a.pa = b.pa ∧ a.op = b.op ∧ a.ty = b.ty)

/-- Send entries of a core towards their homes, one per cycle in the order given and after those already sent: the
transactions (R317). A release number makes each a recording write of that number (R332). -/
def State.drainEntries (s : State) (core delay : Nat) (record : Option (Nat × Nat)) (barrier : Option (Nat × Nat × Nat))
    (es : List RedEntry) : List Nat × State :=
  es.foldl (fun (acc : List Nat × State) e =>
    let x := lineOf e.pa
    let c := acc.2.core core
    let out := max (acc.2.now + delay) c.redOut
    let t : Txn := { kind := .red e, core, barge := some e.barge, ctx := e.ctx, label := e.label, chunk := e.chunk, line := x,
                     va := e.va, column := homeColumn acc.2 x, leaf := { ver := !e.neutral }, recording := record.isSome, record, barrier }
    let (id, s) := (acc.2.setCore core { c with redOut := out + 1 }).sendTxn t (out + 18 + homePath acc.2 core x)
    (acc.1 ++ [id], s)) ([], s)

/-- Remove from a core's buffers the entries that a rule selects: in ascending quarter, barge slot and insertion
(R317). -/
def State.takeEntries (s : State) (core : Nat) (p : RedEntry → Bool) : List RedEntry × State :=
  let c := s.core core
  let out := ([0, 1, 2, 3].map fun q =>
    let mine := (c.reds' q).filter p
    ((mine.map (·.barge)).eraseDups.mergeSort).map fun b => mine.filter fun e => decide (e.barge = b)).flatten.flatten
  (out, s.setCore core { c with reds := c.reds.map fun q => (q.1, q.2.filter fun e => !p e) })

/-- Drain the entries that a rule selects. -/
def State.drainWhere (s : State) (core : Nat) (record : Option (Nat × Nat)) (p : RedEntry → Bool) : List Nat × State :=
  let (es, s) := s.takeEntries core p
  s.drainEntries core 0 record none es

/-- Put a word's lanes into the buffer of its quarter, draining the quarter first where its new keys do not fit
(R315). Those of a label that is held leave it at once (R147). -/
def State.bufferLanes (s : State) (f : Flight) (op : AtomOp) (ty : AtomTy) : State :=
  let q := quarterOf f.slot
  let entry (a : LaneAcc) : RedEntry :=
    let l := a.leafAt a.va
    { ctx := f.ctx, va := a.va, pa := a.pa, label := f.label, neutral := !l.ver, op, ty,
      value := BitVec.ofNat 64 (leNat a.data), barge := f.slot, order := 0, uo := decide (l.kind = 2), chunk := f.chunk }
  let buf := (s.core f.core).reds' q
  let fresh := (f.accs.map entry).foldl (fun (ks : List RedEntry) e =>
    if buf.any e.sameKey || ks.any e.sameKey then ks else ks ++ [e]) []
  let s := if 64 < buf.length + fresh.length then
      (s.drainWhere f.core none fun e => decide (quarterOf e.barge = q)).2
    else s
  let c := s.core f.core
  let buf := (c.reds' q)
  let r := f.accs.foldl (fun (acc : List RedEntry × Nat) a =>
    let e := entry a
    if acc.1.any e.sameKey then
      (acc.1.map fun u => if e.sameKey u then
        { u with value := BitVec.ofNat 64 (atomNew op ty u.value.toNat e.value.toNat 0) } else u, acc.2)
    else (acc.1 ++ [{ e with order := acc.2 }], acc.2 + 1)) (buf, (c.redNext.look q).getD 0)
  let s := s.setCore f.core { c with reds := c.reds.put q r.1, redNext := c.redNext.put q r.2 }
  let s := s.sign f.core f.chunk f.ctx true ((f.accs.map fun a => lineOf a.pa).eraseDups)
  if (((s.ctx f.ctx).labels.look f.label.toNat).getD {}).held then
    (s.drainWhere f.core none fun e => decide (e.ctx = f.ctx ∧ e.label = f.label)).2
  else s

/-- A RED of order 0: its lanes on RC and UO pages go into the buffer, those on SO pages to their homes as an ATOM's that
returns nothing (R315, R325). -/
def State.sendReduction (s : State) (id : Nat) (f : Flight) (op : AtomOp) (ty : AtomTy) : State :=
  let (direct, rest) := f.accs.partition fun a => decide ((a.leafAt a.va).kind = 0)
  let s := if rest.isEmpty then s else s.bufferLanes { f with accs := rest } op ty
  if direct.isEmpty then (s.setFlight id { f with sent := true }).post 0 .writeAcknowledge [id]
  else s.toTagStage id { f with kind := .atom op ty false, accs := direct } 1 (f.start 0)

/-! ## One flight's turn -/

/-- Does an earlier SO access of the barge stand unfinished (R326)? -/
def State.soWaits (s : State) (id : Nat) (f : Flight) : Bool :=
  f.so && s.flights.any fun g => decide (g.1 < id ∧ g.2.core = f.core ∧ g.2.slot = f.slot) && g.2.so

/-- CSTORE: the pages in ascending order, each checked and then written; a failing page ends it (R309). -/
def State.sendCompact (s : State) (id : Nat) (f : Flight) : State :=
  let base := (f.accs.map (·.va)).headD 0
  let page (a : LaneAcc) : Nat := a.va / ((a.leaf.map Leaf.size).getD 65536)
  let pages := (f.accs.map page).eraseDups
  let r := pages.foldl (fun (acc : Option (Cause × Nat) × List LaneAcc) p =>
    match acc.1 with
    | some _ => acc
    | none =>
      let here := f.accs.filter fun a => decide (page a = p)
      match s.accessCause f here with
      | some c => (some (c, f.entry.progress + ((here.map (·.va)).headD 0 - base) / f.width), acc.2)
      | none => (none, acc.2 ++ here)) (none, [])
  match r.1 with
  | none => s.sendStores id f 2
  | some (c, k) =>
    if r.2.isEmpty then (s.setFlight id f).flightTrap id f c k
    else
      -- what has passed is written by a word of its own
      let (id', s) := s.fresh
      let s := s.sendStores id' { f with kind := .store false, captured := false, accs := r.2 } 2
      (s.setFlight id f).flightTrap id f c k

/-- A flight whose checks have passed goes out. -/
def State.sendFlight (s : State) (id : Nat) (f : Flight) : State :=
  match f.kind with
  | .store _ => s.sendStores id f 0
  | .cstore => s.sendCompact id f
  | .atom _ _ _ => s.toTagStage id f 1 (f.start 0)
  | .mxacc _ => s.toTagStage id f 1 (f.start 0)
  | .red op ty => s.sendReduction id f op ty
  | .unit => s
  | .csr =>
    let half : Instr := if f.hint = 0 then .csrr 0 0 else if f.hint = 1 then .csrw 0 0 0 else .csrs 0 0 0 0
    (s.setFlight id { f with sent := true }).post 48 half [id, f.tag]
  | .loc _ => s
  | .pool _ => s
  | .tile => s
  | .load => s.sendLoad id f
  | .homeLoad _ => s.sendLoad id f
  | .prefetch => s.sendLoad id f
  | .box => s.sendLoad id f
  | .tri => s.sendLoad id f
  | .attr => s.sendLoad id f
  | .sample => s.sendLoad id f
  | .mma => s.sendLoad id f
  | .zquery => s
  | .vexport => s

/-- Must a line request wait at the tag stage for miss-status or write-back entries (R185, R186)? -/
def State.tagWaits (s : State) (f : Flight) (line : Nat) : Bool :=
  let reads := match f.kind with
    | .store _ => false
    | .cstore => false
    | .atom _ _ _ => false
    | .mxacc _ => false
    | .prefetch => false
    | _ => true
  let key := if f.write then f.storeLines.getD line 0 else f.lineKeys.getD line 0
  let room := match (f.accs.map fun a => a.pieces.filter fun p => decide (p.1 / 256 = key)).flatten with
    | [] => true
    | p :: _ =>
      let atHome := match f.kind with
        | .atom _ _ _ => true
        | .mxacc _ => true
        | .prefetch => true
        | _ => false
      let held := atHome || if f.write then s.writesThrough f p.2.2 p.1 else f.passesL1 p.2.2 p.1 || f.hint == 3
      held || s.victimFits f.core (p.2.2.tag p.1 f.ctx f.label) p.1
  -- an instruction never waits for more entries than there are
  let taken := s.missing f.core
  let needed := s.entriesNeeded f
  !room || (reads && line = 0 && !taken.isEmpty && decide (256 < entriesOf (taken ++ needed)))

/-- A line request of a word passes the tag stage. -/
def State.passTag (s : State) (id : Nat) (f : Flight) (line : Nat) : State :=
  let s := s.setFlight id { f with toPass := f.toPass - 1 }
  let last := decide (f.toPass ≤ 1)
  let f := { f with toPass := f.toPass - 1 }
  let stores (s : State) : State :=
    let k := f.storeLines.getD line 0
    let s := (f.runs.filter fun r => decide (r.1 / 256 = k)).foldl (fun s r => s.storeLine id r.1 r.2) s
    if last then (s.lateFlush f).storeDone id else s
  match f.kind with
  | .store _ => stores s
  | .cstore => stores s
  | .atom _ _ _ => s.sendAtomics id f
  | .mxacc _ => s.sendAtomics id f
  | _ =>
    let s := s.loadLine id (f.lineKeys.getD line 0)
    if last then s.loadReady id else s

/-- The tag stage's turn: the oldest line request passes, unless it waits for entries; then whatever frees one lets it try
again. -/
def State.tagStage (s : State) (core : Nat) : State :=
  let c := s.core core
  let s := s.setCore core { c with tagTurn := none }
  match c.tagQueue with
  | [] => s
  | h :: rest =>
    let gone (s : State) : State := s.setCore core { s.core core with tagQueue := rest }
    match s.flights.look h.flight with
    | none => (gone s).tagTurn core
    | some f =>
      if s.tagWaits f h.line then s
      else
        let s := gone s
        let s := s.setCore core { s.core core with tagFree := s.now + 1 }
        (s.passTag h.flight f h.line).tagTurn core

/-- Translate, check and send one flight: true where the coalescer is held by a walk. -/
def State.pumpOne (s : State) (id : Nat) : Bool × State :=
  match s.flights.look id with
  | none => (false, s)
  | some f =>
    if f.sent || f.cancelled then (false, s)
    else
      let f := { f with extra := max f.extra (s.now - f.issued - 4) }
      let (ok, f, s) := if f.translating then s.translate f 1024 else (true, f, s)
      if !ok then (true, s.setFlight id f)
      else
        let f := { f with translating := false }
        let f := if f.kind = .prefetch then
            { f with accs := f.accs.filter fun a => (s.laneCause f a).isNone && decide ((a.leafAt a.va).kind ≠ 0) }
          else f
        let f := { f with so := f.kind = .csr || f.accs.any fun a => decide ((a.leafAt a.va).kind = 0) && a.leaf.isSome }
        let cause := if f.checked || f.kind = .cstore then none else s.accessCause f f.accs
        match cause with
        | some c =>
          -- a failing check is found as it completes, four cycles after issue and what the TLBs add (R16, R384)
          let found := f.issued + 4 + f.extra
          if s.now < found then
            let s := s.setFlight id { f with translating := false }
            (false, if s.agenda.any fun e => decide (e.1 = found) && e.2.what == .walkComplete && e.2.args == [id, f.core] then s
              else s.postAt found .walkComplete [id, f.core])
          else
          let accs := s.beforeFault f
          (false, if f.kind ≠ .mma then (s.setFlight id f).flightTrap id f c f.entry.progress
            else if accs.isEmpty then s.mmaFault id f c
            -- poison of a row before it comes first (R270)
            else s.sendFlight id { f with checked := true, accs, fetchFault := some (c.cause, c.va) })
        | none =>
          let f := { f with checked := true }
          if f.release.isSome || !f.pending.isEmpty || s.soWaits id f then
            (false, s.setFlight id f)
          else (false, s.sendFlight id f)

/-- The memory words of a core go on, in issue order (R181); a walk holds those behind it. -/
def State.pump (s : State) (core : Nat) : State :=
  let ids := (s.flights.filter fun f => decide (f.2.core = core) && decide (f.2.space = .glob) && !f.2.sent
    && decide (f.2.kind ≠ .unit)).map (·.1)
  (ids.foldl (fun (acc : Bool × State) id => if acc.1 then acc else acc.2.pumpOne id) (false, s)).2

end Sys2Proof.Machine
end

