-- ==== Sys2Proof/Machine/Release.lean ====
section
/-!
DEFINITION. Releases, acquires, pulls and barriers: the steps of R331 and R333, the pull of R334 with its times
(R335), acknowledgements, and what opens a barrier (R346 to R351).
-/
namespace Sys2Proof.Machine
open Sys2Proof

/-! ## Local and pooled requests (R122 to R124, R188) -/

/-- Column and bank of an aperture address. -/
def bankOf (pa : Nat) : Nat × Nat :=
  match placeOf pa with
  | .aperture n o => (n, field o 8 4)
  | _ => (0, 0)

/-- How many lanes touch a location that a lower lane has touched. -/
def repeatedLanes (accs : List LaneAcc) : Nat := accs.length - (accs.map (·.va)).eraseDups.length

/-- The most distinct 4-B words that a word's lanes touch in one bank; at least 1 (R188). -/
def bankCost (accs : List (Nat × Nat)) : Nat :=
  let words := ((accs.map fun a => (List.range ((a.1 + a.2 - 1) / 4 + 1 - a.1 / 4)).map (a.1 / 4 + ·)).flatten).eraseDups
  max 1 ((List.range 32).foldl (fun m k => max m (words.filter fun x => decide (x % 32 = k)).length) 0)

/-- A word of a barge that holds the banks for n cycles from some cycle on holds up the stream of a local A by those that
fall into it, and with it the groups still to come (R266). -/
def MmaOp.heldUp (m : MmaOp) (start n : Nat) : MmaOp :=
  if m.started && decide (start < m.streamEnd) then
    { m with streamEnd := m.streamEnd + n, late := m.late + n, endAt := m.endAt + n }
  else m

/-- Send a local or pooled request of a word that has passed its checks, as if it issued now. A local one
reaches the banks 12 cycles later (R188); pooled requests go to the column of each lane (R123). -/
def State.sendNear (s : State) (id : Nat) (f : Flight) : State :=
  match f.space with
  | .glob => s
  | .loc =>
    (s.setFlight id { f with sent := true }).post 12 .localMemoryAccess [id]
  | .pooled =>
    let columns := (f.accs.map fun a => (bankOf a.va).1).eraseDups
    let store := f.kind == .pool true
    let r := columns.foldl (fun (acc : List Nat × State) n =>
      let here := f.accs.filter fun a => decide ((bankOf a.va).1 = n)
      let t : Txn := { kind := .pooled store, core := f.core, barge := some f.slot, ctx := f.ctx, flight := some id, column := n,
                       transfers := max 1 (ceilDiv (here.foldl (fun k a => k + a.size) 0) 256) }
      let (tid, s) := acc.2.sendTxn t (acc.2.now + pooledArrival acc.2 f.core n)
      (acc.1 ++ [tid], s)) ([], s)
    r.2.setFlight id { f with sent := true, pending := r.1 }

/-! ## Pulls (R334, R335) -/

/-- H between a column or core and a core (R335). -/
def pullTime (at_ core : Nat) : Nat :=
  if at_ = core then 20 else if clusterOf at_ = clusterOf core then 27
  else if towerOf at_ = towerOf core then 41 else 105

/-- H between a tower's sync unit or engine scheduler and a core. -/
def pullTimeTower (tower core : Nat) : Nat := if tower = towerOf core then 41 else 105

/-- Send pull(C, r) for a context from a place that lies H away (R334): a column's, or the core's own. -/
def State.sendPull (s : State) (ctx column core target seq h : Nat) (parent : Option Nat) : Nat × State :=
  s.sendTxn { kind := .pull target seq, ctx, core, column, path := h, parent } (s.now + h)

/-- Is an epoch below a release number, as 16-bit sequence numbers (R334)? -/
def epochBelow (epoch : BitVec 16) (r : Nat) : Bool :=
  let d := (BitVec.ofNat 16 r - epoch).toNat
  decide (0 < d ∧ d < 32768)

/-- Does a core hold a dirty sector of epoch below r (R349)? -/
def Core.holdsBelow (c : Core) (r : Nat) : Bool :=
  c.sectors.any fun q => q.2.2.2.2.dirty && epochBelow (c.epoch q.2.2.2.2) r

/-- The number a release of a core takes next (R330). -/
def Core.nextSeq (c : Core) : BitVec 16 := if c.seq + 1 = 0 then c.seq + 2 else c.seq + 1

/-! ## Barriers (R346 to R351) -/

/-- A barrier by its level, its holder (workgroup, gang or node) and its number. -/
def State.barrier (s : State) (level holder number : Nat) : Barrier :=
  (match level with
   | 0 => (s.wgs.look holder).bind fun w => w.barriers.look number
   | 1 => (s.gangs.look holder).bind fun g => g.barriers.look number
   | _ => (s.nodes.look holder).bind fun n => n.barriers.look number).getD {}

/-- Replace a barrier. -/
def State.setBarrier (s : State) (level holder number : Nat) (x : Barrier) : State :=
  match level with
  | 0 => match s.wgs.look holder with
    | some w => { s with wgs := s.wgs.put holder { w with barriers := w.barriers.put number x } }
    | none => s
  | 1 => match s.gangs.look holder with
    | some g => { s with gangs := s.gangs.put holder { g with barriers := g.barriers.put number x } }
    | none => s
  | _ => match s.nodes.look holder with
    | some n => { s with nodes := s.nodes.put holder { n with barriers := n.barriers.put number x } }
    | none => s

/-- The holder of the barriers a barge belongs to at a level: none where it belongs to none (R353). -/
def State.holderOf (s : State) (b : Barge) (level : Nat) : Option Nat :=
  match level with
  | 0 => some b.wg
  | 1 => (s.wgs.look b.wg).bind (·.gang)
  | 2 => (s.nodes.look b.node).bind fun n => if n.taskSet.isSome then some b.node else none
  | _ => none

/-- The barges of a workgroup, gang or task: their keys, rising. -/
def State.membersOf (s : State) (level holder : Nat) : List Nat :=
  (s.barges.filter fun p => !p.2.reformed && decide (s.holderOf p.2 level = some holder)).map (·.1)

/-- Each home performs the reductions that a barrier has collected there, once every member's have arrived (R317): in ascending core,
within a core in the order sent; each is due at its home now. -/
def State.flushBarrier (s : State) (level holder number : Nat) : State :=
  let x := s.barrier level holder number
  let mine := s.txns.filter fun t => decide (t.2.barrier = some (level, holder, number))
    && match t.2.kind with
       | .red _ => true
       | _ => false
  if x.expected ≤ x.sent.length then
    ((mine.map (·.2.column)).eraseDups).foldl (fun s n =>
      let here := mine.filter fun t => decide (t.2.column = n)
      if here.all fun t => decide (t.2.stage = 9) then
        ((here.map (·.2.core)).eraseDups.mergeSort).foldl (fun s c =>
          (here.filter fun t => decide (t.2.core = c)).foldl (fun s t =>
            (s.setTxn t.1 { t.2 with stage := 0, barrier := none }).post 0 .redDrainEntry [t.1]) s) s
      else s) s
  else s

/-- Barges leave a barrier's wait for the release queues of their clusters: in the order of the cycles in which barriers
open, in a cycle by level, number and the core of the lowest member, then in ascending core and slot; a wave leaves two cycles
later (R351). DEDUCED (log 104): where a wave of barges already queued would leave later than that, it leaves then, so that the
bound of R355 holds for every barrier. -/
def State.toSluice (s : State) (level holder number : Nat) (keys : List Nat) : State :=
  let lowest := (s.membersOf level holder).foldl (fun m k => min m (k / 512)) 1152
  keys.foldl (fun s k =>
    let g := clusterOf (k / 512)
    let c := s.cluster g
    let queue := (c.sluice ++ [([s.now, level, number, lowest, k], k)]).mergeSort fun x y => keyLess x.1 y.1
    if (c.nextWave.getD (s.now + 3)) ≤ s.now + 2 then s.setCluster g { c with sluice := queue }
    else (s.setCluster g { c with sluice := queue, nextWave := some (s.now + 2) }).post 2 .sluiceWave [g]) s

/-- The context of a barrier's holder. -/
def State.holderCtx (s : State) (level holder : Nat) : Nat :=
  match level with
  | 0 => ((s.wgs.look holder).map (Workgroup.ctx ·)).getD noCtx
  | 1 => (((s.gangs.look holder).bind fun g => s.nodes.look g.node).map (Node.ctx ·)).getD noCtx
  | _ => ((s.nodes.look holder).map (Node.ctx ·)).getD noCtx

/-- Is the release of an arrival under way whose barge has ended since: the phase waits for it (R347, R348)? -/
def State.ghostArrival (s : State) (level holder number : Nat) : Bool :=
  s.rels.any fun r => decide (r.2.barrier = some (level, holder, number)) && (ghostWg r.2.slot).isSome

/-- Open a barrier whose phase is complete, or start its pulls first (R348, R349). -/
def State.tryOpen (s : State) (level holder number : Nat) : State :=
  let x := s.barrier level holder number
  let counted := (x.arrivals.filter fun a => decide (a.1 ≤ s.now)).length
  if x.expected = 0 || counted < x.expected || !x.pulling.isEmpty || s.ghostArrival level holder number then s
  else if level ≠ 0 && !x.reports.isEmpty then
    let h := if level = 1 then 27 else 105
    let (ids, s) := x.reports.foldl (fun (acc : List Nat × State) p =>
      let (id, s) := acc.2.sendTxn { kind := .pull p.1 p.2, core := p.1, path := h, ctx := acc.2.holderCtx level holder,
                                     barrier := some (level, holder, number) } (acc.2.now + h)
      (acc.1 ++ [id], s)) ([], s)
    s.setBarrier level holder number { x with reports := [], pulling := ids }
  else
    let s := s.setBarrier level holder number
      { x with phase := x.phase + 1, arrivals := [], sent := [], reports := [], waiters := [] }
    s.toSluice level holder number (x.waiters.filter fun k => (s.barges.look k).isSome)

/-- A barge leaves the barriers it belongs to (R347). -/
def State.leaveBarriers (s : State) (key : Nat) (b : Barge) : State :=
  if b.reformed then s
  else
    [0, 1, 2].foldl (fun s level =>
      match s.holderOf b level with
      | none => s
      | some h =>
        (List.range (if level = 0 then 16 else if level = 1 then 8 else 4)).foldl (fun s n =>
          let x := s.barrier level h n
          if x.expected = 0 then s
          else
            let s := s.setBarrier level h n
              { x with expected := x.expected - 1, arrivals := x.arrivals.filter fun a => decide (a.2 ≠ key),
                       sent := x.sent.filter fun k => decide (k ≠ key), waiters := x.waiters.filter fun k => decide (k ≠ key) }
            (s.flushBarrier level h n).tryOpen level h n) s) s

/-! ## The steps of a release and of an acquire -/

/-- An STP, which a release waits for in a step of its own (R331 step 3). -/
def Flight.isStp (f : Flight) : Bool := f.kind == .pool true

/-- Words of a barge whose writes a release waits for first (R331 step 1). -/
def Flight.isWrite (f : Flight) : Bool :=
  !f.isStp && (f.write || match f.kind with
    | .loc store => store
    | .atom _ _ _ => true
    | .red _ _ => true
    | .mxacc _ => true
    | _ => false)

/-- What follows a release (RelThen). The arrival of a barge that has ended since is none: it left its barriers then (R347),
and only the phase's opening has waited for its release. -/
def State.relAfter (s : State) (id : Nat) (r : Rel) : State :=
  match r.after with
  | .sendFlight f =>
    match s.flights.look f with
    | some x =>
      let x := { x with release := none, record := (r.seq.map fun q => (r.core, q)).or x.record }
      if x.space = .glob then s.setFlight f x else s.sendNear f x
    | none => s
  | .resume _ => s.onBarge r.core r.slot fun b => { b with memWait := b.memWait.filter fun k => decide (k ≠ id) }
  | .arrive level holder number =>
    let x := s.barrier level holder number
    let d := 2 + (if level = 0 then 0 else if level = 1 then 6 else 58)
    let x := if (ghostWg r.slot).isSome then x else { x with arrivals := x.arrivals ++ [(s.now + d, bargeKey r.core r.slot)] }
    let x := match r.seq with
      | some q =>
        -- the latest number that the core has reported in the phase stays (R349)
        let later := match x.reports.look r.core with
          | some o => epochBelow (BitVec.ofNat 16 o) q
          | none => true
        if later && (s.core r.core).holdsBelow q then { x with reports := x.reports.put r.core q } else x
      | none => x
    (s.setBarrier level holder number x).post d .barrierOpen [holder, level, number]
  | .post steps =>
    let record := match r.seq with
      | some q => [r.core, q]
      | none => []
    steps.foldl (fun s p => s.post p.1 p.2.what (p.2.args ++ record)) s

/-- Does a core hold a dirty sector older than a release number, or one that has left it and is not acknowledged (R330)? -/
def State.oldSectors (s : State) (core : Nat) (r : BitVec 16) : Bool :=
  (s.core core).holdsBelow r.toNat
    || s.txns.any fun t => decide (t.2.core = core) && t.2.source.any fun q => epochBelow q.2 r.toNat

/-- A release has taken a later number than its drained entries left in their lines' records: those records take it (R332). -/
def State.renumber (s : State) (r : Rel) (seq : Nat) : State :=
  if r.guess = seq then s
  else r.drained.foldl (fun s e =>
    let w : Who := { ctx := e.ctx, label := if e.neutral then 0 else e.label, chunk := e.chunk, ver := !e.neutral }
    let x := lineOf e.pa
    if s.recordOf w x = (r.core, r.guess) then s.setRecord w x r.core seq else s) s

/-- Run a release or acquire as far as it can go: steps 1 to 7 are those of R331 with the wait of R330 as the fourth, 8 is the wait
of a fence of cluster scope for the barge's own LDPs (R124), 9 the pulls of R333, 10 the two cycles of a fence (R335). -/
def State.relRun (s : State) (id : Nat) : Nat → State
  | 0 => s
  | n + 1 =>
    match s.rels.look id with
    | none => s
    | some r =>
      if !r.waitFor.isEmpty then s
      else
        let next (s : State) (r : Rel) (wait : List Nat) : State :=
          ({ s with rels := s.rels.put id { r with step := r.step + 1, waitFor := wait } }).relRun id n
        let package := decide (3 ≤ r.scope)
        let earlier (p : Flight → Bool) : List Nat :=
          (s.flights.filter fun f => decide (f.2.core = r.core ∧ f.2.slot = r.slot ∧ f.1 < id) && p f.2).map (·.1)
        match r.step with
        | 1 => if r.release then next s r (earlier Flight.isWrite) else next s { r with step := 7 } []
        | 2 =>
          let guess := (s.core r.core).nextSeq.toNat
          let record := if package then some (r.core, guess) else none
          match r.barrier with
          | none =>
            let (es, s) := s.takeEntries r.core fun e => decide (e.barge = r.slot)
            let (ids, s) := s.drainEntries r.core 0 record none es
            next s { r with drained := es, guess } ids
          | some (level, holder, number) =>
            -- every member barge on the core (R316)
            let member (slot : Nat) : Bool := match s.barge r.core slot with
              | some b => decide (s.holderOf b level = some holder)
              | none => false
            let (es, s) := s.takeEntries r.core fun e => member e.barge
            let tag := if level = 0 then none else some (level, holder, number)
            let (ids, s) := s.drainEntries r.core 0 (if level = 0 then none else record) tag es
            let x := s.barrier level holder number
            let sent := if (ghostWg r.slot).isSome then x.sent else x.sent ++ [bargeKey r.core r.slot]
            let s := s.setBarrier level holder number { x with sent }
            next (s.flushBarrier level holder number) { r with drained := if level = 0 then [] else es, guess } ids
        | 3 => next s r (earlier Flight.isStp)
        | 4 =>
          if !package then next s r []
          else
            let old := (s.core r.core).nextSeq - 15
            let (ids, s) := s.writeBackWhere r.core 0 fun _ e => epochBelow e old.toNat
            next s r ids
        | 5 =>
          if !package then next s r []
          else
            let c := s.core r.core
            if s.oldSectors r.core (c.nextSeq - 15) then
              -- another release has advanced SEQ meanwhile
              ({ s with rels := s.rels.put id { r with step := 4 } }).relRun id n
            else
              let s := s.setCore r.core { c with seq := c.nextSeq }
              next (s.renumber r c.nextSeq.toNat) { r with seq := some c.nextSeq.toNat } []
        | 6 =>
          if package && r.uo then
            let (ids, s) := s.writeBackWhere r.core 0 fun t _ => decide (t.kind = 2 ∧ t.ctx = r.ctx)
            next s r ids
          else next s r []
        | 7 =>
          if r.scope = 6 then
            let (ids, s) := s.writeBackWhere r.core 0 fun t e => decide (t.kind = 1) && epochBelow e (r.seq.getD 0)
            next s r ids
          else next s r []
        | 8 =>
          next s r (if package then (s.txns.filter fun t => decide (t.1 < id ∧ t.2.core = r.core ∧ t.2.barge = some r.slot)
            && t.2.kind == .pooled false).map (·.1) else [])
        | 9 =>
          if r.acquire && package then
            let (ids, s) := r.pulls.foldl (fun (acc : List Nat × State) p =>
              let (t, s) := acc.2.sendPull r.ctx r.core r.core p.1 p.2.1 p.2.2 (some id)
              (acc.1 ++ [t], s)) ([], s)
            next s r ids
          else next s r []
        | 10 =>
          match r.after with
          | .resume (d + 1) =>
            let (k, s) := s.fresh
            next (s.post (d + 1) .writeAcknowledge [k]) r [k]
          | _ => next s r []
        | _ =>
          let s := if r.acquire && package then
              s.l1Invalidate r.core fun t => decide (t.kind = 1) || (r.uo && decide (t.kind = 2 ∧ t.ctx = r.ctx))
            else s
          ({ s with rels := s.rels.cut id }).relAfter id r

/-- Turns enough for every step of a release and for its fourth again. -/
def relFuel : Nat := 32

/-- Start a release or acquire: its number, with what it could do at once done. -/
def State.startRel (s : State) (r : Rel) : Nat × State :=
  let (id, s) := s.fresh
  (id, { s with rels := s.rels.put id r })

/-- Releases of a core go on, then its memory words. -/
def State.wake (s : State) (core : Nat) : State :=
  ((s.rels.filter fun r => decide (r.2.core = core)).foldl (fun s r => s.relRun r.1 relFuel) s).pump core

/-- The pulls that a fence makes: those of the barge's list, which is emptied (R333). -/
def fencePulls (core : Nat) (b : Barge) : List (Nat × Nat × Nat) := b.pulls.map fun p => (p.1, p.2, pullTime core p.1)

/-- A barge acquires as a FENCE does, at a narrowed scope: no later memory access of it issues before the acquire is
complete (R333). -/
def State.acquireFence (s : State) (core slot scope : Nat) (uo : Bool) (delay : Nat) : State :=
  match s.barge core slot with
  | none => s
  | some b =>
    let (id, s) := s.startRel { core, slot, ctx := b.ctx, scope, release := false, acquire := true, uo,
                                pulls := fencePulls core b, after := .resume delay }
    (s.setBarge core slot { b with memWait := b.memWait ++ [id], pulls := if 3 ≤ scope then [] else b.pulls }).relRun id relFuel

/-! ## Acknowledgements -/

/-- A word whose writes are all acknowledged, or whose answers have all come, is over; an unsent one goes on. -/
def State.flightAnswered (s : State) (id : Nat) (f : Flight) : State :=
  if !f.pending.isEmpty || !f.sent || f.toPass ≠ 0 then s
  else
    match f.kind with
    | .atom _ _ true => s.post (if f.tag = 0 then 2 else f.tag) .registerFill [id]
    | _ => { s with flights := s.flights.cut id }

/-- Something that others wait for, a transaction or a word, is complete. -/
def State.settle (s : State) (id : Nat) : State :=
  let s := { s with rels := s.rels.mapVals fun r => { r with waitFor := r.waitFor.filter fun x => decide (x ≠ id) } }
  let s := (s.txns.filter fun t => t.2.awaits.contains id).foldl (fun s t =>
    let rest := t.2.awaits.filter fun x => decide (x ≠ id)
    let s := s.setTxn t.1 { t.2 with awaits := rest }
    if rest.isEmpty then s.post t.2.path .pullReply [t.1] else s) s
  let s := (s.nodes.filter fun n => n.2.flushing.contains id).foldl (fun s n =>
    let rest := n.2.flushing.filter fun x => decide (x ≠ id)
    let s := { s with nodes := s.nodes.put n.1 { n.2 with flushing := rest } }
    if rest.isEmpty then s.post 0 .taskComplete [n.1] else s) s
  let s := (s.hub.migs.filter fun m => m.2.awaits.contains id).foldl (fun s m =>
    let rest := m.2.awaits.filter fun x => decide (x ≠ id)
    let s := s.setHub { s.hub with migs := s.hub.migs.put m.1 { m.2 with awaits := rest } }
    if rest.isEmpty then s.post 0 .migLocked [m.1] else s) s
  let s := (s.cards.filter fun c => decide (c.2.pull = some id)).foldl (fun s c =>
    ({ s with cards := s.cards.put c.1 { c.2 with pull := none } }).post 0 .cardStart [c.1]) s
  (s.ctxs.filter fun c => c.2.killAwaits.contains id).foldl (fun s c =>
    let rest := c.2.killAwaits.filter fun x => decide (x ≠ id)
    let s := s.setCtx c.1 { c.2 with killAwaits := rest }
    if rest.isEmpty then s.post 0 .ctxKillDone [c.1] else s) s

/-- An answer reaches the words that wait for it. -/
def State.answer (s : State) (id : Nat) : State :=
  (s.flights.filter fun f => f.2.pending.contains id).foldl (fun s f =>
    match s.flights.look f.1 with
    | none => s
    | some g =>
      let g := { g with pending := g.pending.filter fun x => decide (x ≠ id) }
      let s := (s.setFlight f.1 g).flightAnswered f.1 g
      if (s.flights.look f.1).isNone then s.settle f.1 else s) s

/-- A transaction is over: those that waited for its acknowledgement go on. -/
def State.acknowledge (s : State) (id : Nat) (t : Txn) : State :=
  let s := { s with txns := s.txns.cut id }
  let s := if t.entries = 0 then s else s.tagTurn t.core
  let s := t.ackWaiters.foldl (fun s w =>
    match s.txns.look w with
    | some u => s.post 0 u.event [w]
    | none => s) s
  ((s.answer id).settle id).wake t.core

/-- Those that waited until a transaction was performed at its home go on. -/
def State.release (s : State) (t : Txn) : State :=
  t.waiters.foldl (fun s w =>
    match s.txns.look w with
    | some u => s.post 0 u.event [w]
    | none => s) s

end Sys2Proof.Machine
end

