-- ==== Sys2Proof/Machine/MemEvents.lean ====
section
/-!
DEFINITION. What happens to memory accesses on their way: at the home (R103, R105, R306, R312, R317, R320), at the L1
(R185, R192), in pulls (R334), walks (R91, R92), at the bridge (R104 to R107) and in the banks (R123 to R128).
-/
namespace Sys2Proof.Machine
open Sys2Proof

/-! ## At the home -/

/-- Run a request's step once its column's arbiter has granted it; until then it waits there (R113). -/
def State.afterBus (s : State) (id : Nat) (t : Txn) (go : State → Host.Outcome State Fault Refusal) :
    Host.Outcome State Fault Refusal :=
  if t.granted then go s else if t.waits.isSome then done s else done (s.board id t)

/-- For whom a transaction acts, as labels and slots stand now: a committed label's access is a base access (R146);
none where the label or slot is dead, so that the write is discarded (R147, R154). -/
def State.txnWho (s : State) (t : Txn) : Option Who :=
  let w := t.leaf.who t.ctx t.label t.chunk
  let w := match t.kind with
    | .writeBack => { w with ver := true }
    | _ => w
  let dead : Bool := match w.chunk with
    | some sl => (s.ctx t.ctx).chunk sl == .dead
    | none => false
  if dead then none
  else if w.label = 0 then some w
  else
    match (((s.ctx t.ctx).labels.look w.label.toNat).getD {}).state with
    | .live => some w
    | .committed => some { w with label := 0 }
    | _ => none

/-- The lines that a read takes its bytes from, as they are served (R94). -/
def State.readLines (s : State) (t : Txn) : List Nat :=
  ((match t.kind with
    | .hostRead => [t.line]
    | _ => t.leaf.lines t.va t.size).map s.redirectLine).eraseDups

/-- The lines that a write acts on, as they are served (R94). -/
def State.writeLines (s : State) (t : Txn) : List Nat := (t.lines.map s.redirectLine).eraseDups

/-- Is another write to one of these lines on its way at its home, between arrival and being performed (R103)? -/
def State.lineBusy (s : State) (id : Nat) (xs : List Nat) : Option Nat :=
  (s.txns.find? fun t => decide (t.1 ≠ id ∧ 1 ≤ t.2.stage ∧ t.2.stage ≤ 4) && !(t.2.event == .homeRead)
    && (s.writeLines t.2).any xs.contains).map (·.1)

/-- Is a read made at its line's home (R90, R103, R134, R165, R191)? -/
def State.readsHome (s : State) (t : Txn) (x : Nat) : Bool :=
  decide (t.leaf.kind = 0) || t.chunk.isSome || t.acquire || t.collect || (t.leaf.ver && decide (t.label ≠ 0)) || s.hasVersion x
    || match t.kind with
       | .sector _ _ none => true
       | .cardRead => !t.gather
       | .walk _ => true
       | .hostRead => true
       | _ => false

/-- The last step of a request from a lower tower for one of the same lines that is still due at its home in this hub cycle:
those of one hub cycle are served in ascending tower number (R103). -/
def State.lowerTower (s : State) (id : Nat) (t : Txn) (xs : List Nat) : Option Nat :=
  let rivals := s.txns.filter fun u => decide (u.1 ≠ id ∧ u.2.stage = 0 ∧ towerOf u.2.core < towerOf t.core)
    && u.2.granted && u.2.lines.any xs.contains && (u.2.event != .homeRead || s.readsHome u.2 u.2.line)
  if rivals.isEmpty then none
  else
    let late := ofHubCycle (hubCycle s.now + 1)
    (s.agenda.filter fun (e : Nat × Event) => decide (e.1 < late)
      && rivals.any fun u => u.2.event == e.2.what && e.2.args == [u.1]).foldl (fun (m : Option Nat) e => some (max (m.getD 0) e.1)) none

/-- What a miss at a home adds: GDDR, or the host within its bound, which for an atomic holds whatever its path (R17, R306,
R313). -/
def State.missCost (s : State) (t : Txn) (x : Nat) : Nat :=
  if bridged x then 1610 - (if t.kind = .atomic then homePath s t.core x else 0) else 370

/-- What an access at a line's home does in its stacked cache: a hit on a version touches its way; the ordinary line is
fetched where it is missing, and a hit on it touches its way (R119). -/
def State.atHome (s : State) (w : Who) (x : Nat) (cp : BitVec 2) : State :=
  let x := s.redirectLine x
  let s := s.usePort (homeColumn s x)
  match s.chainFind w x with
  | some v => s.touchVersion v
  | none => s.fillTower (homeTower (x * 128)) x cp

/-- The first cycle of the next hub cycle. -/
def State.nextHub (s : State) : Nat := ofHubCycle (hubCycle s.now + 1)

/-- A transaction waits until another has been performed. -/
def State.waitOn (s : State) (id u : Nat) : State :=
  match s.txns.look u with
  | some v => s.setTxn u { v with waiters := v.waiters ++ [id] }
  | none => s

/-- A write-like request arrives at its home: held by a migration (R94), behind another write of its lines or a request of a
lower tower (R103), then on its way with its lines fetched, each in its own column (R306, R368). None where it waits. -/
def State.homeEnter (s : State) (id : Nat) (t : Txn) (w : Who) : Option Txn × State :=
  let held := match t.kind with
    | .writeBack => none
    | .base _ => none
    | .spill => none
    | _ => t.lines.findSome? s.lockedFrame
  let xs := s.writeLines t
  match held, s.lineBusy id xs, s.lowerTower id t xs with
  | some m, _, _ =>
    let mg := (s.hub.migs.look m).getD {}
    (none, s.setHub { s.hub with migs := s.hub.migs.put m { mg with held := mg.held ++ [id] } })
  | none, some u, _ => (none, s.waitOn id u)
  | none, none, some c => (none, s.postAt c t.event [id])
  | none, none, none =>
    match s.command id t (xs.filter fun x => !(s.homeHit w x || bridged x || inAperture x)) with
    | (false, s) => (none, s)
    | (true, s) =>
      let cost (x : Nat) : Nat := (if s.homeHit w x then 0 else s.missCost t x) + s.chainCost w x
        -- its request reached the memory die 22 cycles before it would be performed (Table 1.4, R306)
        + (if inAperture x then 0 else s.bankWait (homeColumn s x) x (s.now - 22))
      let d := xs.foldl (fun m x => max m (cost x)) 0
      let t := { t with stage := 1 }
      let s := s.setTxn id t
      if d = 0 then (some t, s) else (none, s.post d t.event [id])

/-- The lines of a write-like request have come to its home's stacked cache, one line of a filter set in each hub cycle (R108). -/
def State.homeFilled (s : State) (id : Nat) (t : Txn) (w : Who) : Option Txn × State :=
  let xs := s.writeLines t
  if xs.any s.setTaken then (none, s.postAt s.nextHub t.event [id])
  else
    let t := { t with stage := 2 }
    (some t, (xs.foldl (fun s x => s.atHome w x t.leaf.cp) s).setTxn id t)

/-- Reads under way of some towers fill their copies of a line no more: they are invalidated with those that stand (R103). -/
def State.dropFills (s : State) (x : Nat) (keep : List Nat) : State :=
  { s with txns := s.txns.mapVals fun (t : Txn) =>
      if keep.contains (towerOf t.core) then t else { t with fills := t.fills.filter fun y => decide (y ≠ x) } }

/-- Take a write-like transaction as far as being performed: arrived, its lines there, other sharers invalidated (R103), the
host's copies recalled (R105), older records pulled (R332). True when it may be performed now. DEDUCED (log 55): the home
column, into which the write is merged (R306), and the writer's own tower keep their copies. -/
def State.homeStage (s : State) (id : Nat) (t : Txn) (w : Who) : Bool × State :=
  let (came, s) := if t.stage = 0 then s.homeEnter id t w else (some t, s)
  let (came, s) := match came with
    | some t => if t.stage = 1 then s.homeFilled id t w else (some t, s)
    | none => (none, s)
  match came with
  | none => (false, s)
  | some t =>
    let xs := s.writeLines t
    let keep (x : Nat) : List Nat := [homeTower (x * 128), towerOf t.core]
    let shared := xs.filter fun x => [0, 1, 2, 3].any fun k => !(keep x).contains k && (s.line x).shr.getLsbD k
    let s := xs.foldl (fun s x => s.dropFills x (keep x)) s
    if t.stage ≤ 2 && !shared.isEmpty then
      let s := shared.foldl (fun s x =>
        let s := s.dropSharers x (keep x)
        s.setLine x { s.line x with shr := (keep x).foldl (fun m k => m ||| (1#4 <<< k)) 0 &&& (s.line x).shr }) s
      (false, (s.setTxn id { t with stage := 3 }).post 170 t.event [id])
    else
      match (if t.kind = .host then none else xs.find? fun x => (s.line x).host) with
      | some x => (false, (s.setTxn id { t with stage := 4 }).post 240 .backInvalidateResponse [x, id])
      | none =>
        let recs := ((xs.map fun x => (homeColumn s x, s.recordOf w x)).filter fun r => decide (r.2.2 ≠ 0 ∧ r.2.1 ≠ t.core)).eraseDups
        if t.recording && !t.pulled && !recs.isEmpty then
          let s := s.setTxn id { t with stage := 4, pulls := recs.length }
          (false, recs.foldl (fun s r => (s.sendPull t.ctx r.1 t.core r.2.1 r.2.2 (pullTime r.1 r.2.1) (some id)).2) s)
        else (true, s)

/-- A transaction has been performed: its record stands, those behind it go on, and it is acknowledged (R306). -/
def State.performed (s : State) (id : Nat) (t : Txn) (w : Option Who) (ack : Nat) : State :=
  let s := match w, t.recording, t.record with
    | some w, true, some (c, q) => (s.writeLines t).foldl (fun (s : State) x => s.setRecord w x c q) s
    | _, _, _ => s
  let s := s.setTxn id { t with stage := 5, waiters := [] }
  let s := match t.kind, t.card with
    | .card, some (c, r) => s.post 0 .cardStart [c, r, 3, id]
    | _, _ => s
  (s.release t).post ack .writeAcknowledge [id]

/-- Cycles from a write's being performed to its acknowledgement at the core (R306, R125). -/
def State.ackTime (s : State) (t : Txn) : Nat :=
  if inAperture t.line then pooledAck s t.core (homeColumn s t.line) else 20

/-- The mark of a SIGNAL among writes: no cache hint has this value. -/
def signalHint : Nat := 7

/-- Banks of the pooled scratchpad that bytes go to, an entry of 128 B each (R125). -/
def bankEntries (pas : List Nat) : List (Nat × Nat) := ((pas.map (· / 128)).eraseDups).map fun e => bankOf (e * 128)

/-- Have the write buffers of the banks that some bytes go to no room for all their entries (R125)? -/
def State.banksFull (s : State) (pas : List Nat) : Bool :=
  let es := bankEntries pas
  es.any fun b => decide (16 < ((s.column b.1).buffers.look b.2).getD 0 + (es.filter fun c => decide (c = b)).length)

/-- Is a write buffer full that these bytes of a page go to? -/
def State.bufferFull (s : State) (bytes : List (Nat × Byte)) (l : Leaf) : Bool :=
  s.banksFull ((bytes.map fun p => l.physical p.1 1).flatten)

/-- Bytes enter their banks' write buffers; a bank that held none commits its first entry in the next memory-layer cycle
(R125). An entry stands for the room it takes: its bytes count as performed (R124). -/
def State.bufferEntries (s : State) (pas : List Nat) : State :=
  (bankEntries pas).foldl (fun s b =>
    let c := s.column b.1
    let k := (c.buffers.look b.2).getD 0
    let s := s.setColumn b.1 { c with buffers := c.buffers.put b.2 (k + 1) }
    if k = 0 then s.postAt (ofLayerCycle (layerCycle s.now + 1)) .writeBufferCommit [b.1, b.2] else s) s

/-- The bytes of a granule stored whole end its poison (R122). -/
def State.healPooled (s : State) (pas : List Nat) : State :=
  ((pas.map (· / 32)).eraseDups).foldl (fun s g =>
    let whole := (List.range 32).all fun k => pas.contains (32 * g + k)
    match whole, placeOf (32 * g) with
    | true, .aperture n o =>
      let c := s.column n
      s.setColumn n { c with pooledPoison := c.pooledPoison.filter fun y => decide (y ≠ o / 32) }
    | _, _ => s) s

/-- The physical bytes that a write changes. -/
def Txn.cells (t : Txn) : List Nat :=
  match t.kind with
  | .host => []
  | .spill => []
  | _ => (t.bytes.map fun p => t.leaf.physical p.1 1).flatten

/-- What a write does to memory at its home. -/
def State.writeTxn (s : State) (t : Txn) (w : Who) : State :=
  match t.kind with
  | .writeBack =>
    (t.bytes.map fun p => lineOf p.1).eraseDups.foldl (fun s x =>
      s.writeLine w x ((t.bytes.filter fun p => decide (lineOf p.1 = x)).map fun p => (p.1 % 128, p.2))
        t.fullLine t.poison 0) s
  | .host => s.writeBytes w t.bytes 0
  | .base v => s.baseLine v
  | .spill => s.slotBytes t.bytes t.fullLine t.poison
  | _ => s.writeView w t.leaf t.bytes

/-- A write-back leaves its core (R334), or a write reaches its home (R103, R306); the wharf sees that of a SIGNAL 48 cycles later (R378). -/
def execHomeWrite (s : State) : Host.Outcome State Fault Refusal :=
  let id := s.arg 0
  match s.txns.look id with
  | none => done s
  | some t =>
    match t.leaves with
    | some sector =>
      let r := s.leaveL1 id t sector
      done (if r.1 then r.2.acknowledge id t else r.2)
    | none =>
    s.afterBus id t fun s =>
    let t := (s.txns.look id).getD t
    match s.txnWho t with
    | none => done (s.performed id t none (s.ackTime t))
    | some w =>
      if inAperture t.line && s.bufferFull t.bytes t.leaf then done (s.post 1 .homeWrite [id])
      else
      match s.homeStage id t w with
      | (false, s) => done s
      | (true, s) =>
        let t := (s.txns.look id).getD t
        let s := if inAperture t.line then (s.bufferEntries t.cells).healPooled t.cells else s
        let s := s.writeTxn t w
        let s := if (t.flight.bind s.flights.look).any fun f => decide (f.hint = signalHint) then
            s.post 48 (.signal 0 0 0 0)
              [(t.leaf.physical ((t.bytes.headD (0, 0)).1) 1).headD 0, leNat (t.bytes.map (·.2))]
          else s
        done (s.performed id t (some w) (s.ackTime t))

/-- The poison marker of R321. -/
def poisonMarker : List Byte := [0xAD, 0x0B, 0xC0, 0xFF]

/-- Perform one lane's atomic at the home: the lane with the old value, or with the marker where the line is poisoned
(R312, R321). -/
def State.atomLane (s : State) (w : Who) (op : AtomOp) (ty : AtomTy) (a : LaneAcc) : LaneAcc × State :=
  let l := a.leafAt a.va
  let n := ty.bytes
  let pa := l.base + l.offset a.va
  if s.poisoned w (lineOf pa) then
    ({ a with poison := true, got := (List.range n).map fun k => (k, poisonMarker.getD (k % 4) 0) }, s)
  else
    let old := s.readBytes w pa n
    let new := atomNew op ty (leNat old) (leNat a.data) (leNat a.compare)
    ({ a with got := old.zipIdx.map fun p => (p.2, p.1) },
     s.writeBytes w ((leBytes n new).zipIdx.map fun p => (pa + p.2, p.1)) l.cp)

/-- The lanes of an atomic for one line, in ascending order: the lanes after it, and memory (R312). -/
def State.atomLanes (s : State) (f : Flight) (t : Txn) (w : Who) (op : AtomOp) (ty : AtomTy) : List LaneAcc × State :=
  f.accs.foldl (fun (acc : List LaneAcc × State) a =>
    if a.va / 128 = t.va / 128 then
      let p := acc.2.atomLane w op ty a
      (acc.1 ++ [p.1], p.2)
    else (acc.1 ++ [a], acc.2)) ([], s)

/-- Deliver a cause to a barge at its next issue (R321), or to its workgroup where it has ended. -/
def State.deliverCause (s : State) (core slot : Nat) (c : BitVec 8) (va : Nat) : State :=
  match s.barge core slot with
  | some b => s.setBarge core slot { b with delivered := some c, deliveredVa := BitVec.ofNat 64 va }
  | none => s.post 0 .unrecoverableFault [core, slot, c.toNat, va]

/-- An atomic's request for one line is performed at its home, in ascending lane order (R312). -/
def execHomeAtomic (s : State) : Host.Outcome State Fault Refusal :=
  let id := s.arg 0
  match s.txns.look id with
  | none => done s
  | some t =>
    s.afterBus id t fun s =>
    let t := (s.txns.look id).getD t
    match t.flight.bind s.flights.look, s.txnWho t with
    | some f, some w =>
      match s.homeStage id t w with
      | (false, s) => done s
      | (true, s) =>
        let t := (s.txns.look id).getD t
        match f.kind with
        | .atom op ty returns =>
          let here (a : LaneAcc) : Bool := decide (a.va / 128 = t.va / 128)
          let r := s.atomLanes f t w op ty
          let extra := 2 * repeatedLanes (f.accs.filter here)
          let s := r.2.setFlight (t.flight.getD 0) { f with accs := r.1 }
          let bad := r.1.find? fun a => here a && a.poison
          let s := match returns, bad with
            | false, some a => s.deliverCause t.core (t.barge.getD 0) 0x56 a.va
            | _, _ => s
          done (s.performed id t (some w) ((if returns then 60 else 20) + extra))
        | _ => done (s.performed id t none 20)
    | _, _ => done (s.performed id t none (s.ackTime t))

/-- An entry that the same core sent before to the same column and that is not performed yet: a home applies the drains of one
core in the order in which they were sent (R317). -/
def State.redBefore (s : State) (id : Nat) (t : Txn) : Option Nat :=
  (s.txns.find? fun u => decide (u.1 < id ∧ u.2.core = t.core ∧ u.2.column = t.column ∧ u.2.stage < 5) && u.2.barrier.isNone
    && u.2.event == .redDrainEntry).map (·.1)

/-- What a drained reduction entry does to memory (R317). -/
def State.redStore (s : State) (e : RedEntry) (w : Who) : State :=
  let n := e.ty.bytes
  let old := leNat (s.readBytes w e.pa n)
  let new := atomNew e.op e.ty old e.value.toNat 0
  s.writeBytes w ((leBytes n new).zipIdx.map fun p => (e.pa + p.2, p.1)) 0

/-- A drained reduction entry is performed at its home (R317), or waits there for the others of its barrier. -/
def execRedDrainEntry (s : State) : Host.Outcome State Fault Refusal :=
  let id := s.arg 0
  match s.txns.look id with
  | none => done s
  | some t =>
    s.afterBus id t fun s =>
    let t := (s.txns.look id).getD t
    match t.kind, t.barrier with
    | .red _, some (level, holder, number) =>
      done ((s.setTxn id { t with stage := 9 }).flushBarrier level holder number)
    | .red e, none =>
      match s.redBefore id t, s.txnWho t with
      | some u, _ => done (s.waitOn id u)
      | none, none => done (s.performed id t none 20)
      | none, some w =>
        match s.homeStage id t w with
        | (false, s) => done s
        | (true, s) =>
          let t := (s.txns.look id).getD t
          if s.poisoned w (lineOf e.pa) then
            done ((s.deliverCause t.core e.barge 0x56 e.va).performed id t none 20)
          else
            done ((s.redStore e w).performed id t (some w) 20)
    | _, _ => done s

/-- Element format of an MXACC block (R45). -/
def mxElem (blk : Nat) : Elem := .fl (if blk % 3 = 0 then .e4m3 else if blk % 3 = 1 then .e5m2 else .e2m1)
/-- Scale kind of an MXACC block (R45). -/
def mxScale (blk : Nat) : ScaleKind := if blk < 3 then .e8m0 else .e8m1

/-- value(q) × value(S): a NaN where either is. -/
def blockValue (k : ScaleKind) (el : Elem) (scale q : Nat) : Exact :=
  match k.value scale with
  | none => .nan false
  | some sc => (el.value q).timesScale sc

/-- What an MXACC block update does to memory; none where a byte of the block is poisoned (R320, R321). -/
def State.mxStore (s : State) (f : Flight) (blk : Nat) (a0 : LaneAcc) (w : Who) : Option State :=
  let el := mxElem blk
  let k := mxScale blk
  let l := a0.leafAt a0.va
  let n := 32 * el.width / 8
  let base := l.base + l.offset a0.va
  let u := l.offset a0.va / l.unitBytes
  let plain := decide (l.fmt = 0)
  let cells : List Nat := if plain then (List.range (n + 2)).map (base + ·) else l.physical a0.va l.unitBytes
  if cells.any fun pa => s.poisoned w (lineOf pa) then none
  else
    let dataBase := if plain then base else l.base + u * n
    let scale := if plain then field (leNat (s.readBytes w (base + n) 2)) 0 k.width
      else s.streamBits w l.scaleBase (u * k.width) k.width
    let code (e : Nat) : Nat := s.streamBits w dataBase (e * el.width) el.width
    let y (e : Nat) : Exact :=
      let x := blockValue k el scale (code e)
      match f.accs.find? fun a => decide (a.lane = e) with
      | some a => Exact.add .rn x (Fmt.f32.value (leNat a.data))
      | none => x
    let r := encodeBlock k el ((List.range 32).map y)
    let bytes := leBytes n (r.2.foldr (fun c acc => acc * 2 ^ el.width + c % 2 ^ el.width) 0)
    if plain then some (s.writeBytes w ((bytes ++ leBytes 2 r.1).zipIdx.map fun p => (base + p.2, p.1)) l.cp)
    else some (s.writeBytes w (s.unitCells w l u r.1 r.2) l.cp)

/-- An MXACC block update at its home, one indivisible step (R320). -/
def execMxaccAtHome (s : State) : Host.Outcome State Fault Refusal :=
  let id := s.arg 0
  match s.txns.look id with
  | none => done s
  | some t =>
    s.afterBus id t fun s =>
    let t := (s.txns.look id).getD t
    match t.flight.bind s.flights.look, s.txnWho t with
    | some f, some w =>
      match s.homeStage id t w with
      | (false, s) => done s
      | (true, s) =>
        let t := (s.txns.look id).getD t
        match f.kind, f.accs.head? with
        | .mxacc blk, some a0 =>
          match s.mxStore f blk a0 w with
          | none => done ((s.deliverCause t.core (t.barge.getD 0) 0x56 a0.va).performed id t none 20)
          | some s => done (s.performed id t (some w) 20)
        | _, _ => done (s.performed id t none 20)
    | _, _ => done (s.performed id t none 20)

/-- Memory once a transaction that is on its way to being performed has been. -/
def State.afterTxn (s : State) (t : Txn) : State :=
  match s.txnWho t, t.kind with
  | none, _ => s
  | some w, .red e => if s.poisoned w (lineOf e.pa) then s else s.redStore e w
  | some w, .atomic =>
    match t.flight.bind s.flights.look with
    | some f => (match f.kind with
      | .atom op ty _ => (s.atomLanes f t w op ty).2
      | _ => s)
    | none => s
  | some w, .mxacc =>
    match t.flight.bind s.flights.look with
    | some f => (match f.kind, f.accs.head? with
      | .mxacc blk, some a => (s.mxStore f blk a w).getD s
      | _, _ => s)
    | none => s
  | some w, _ => if t.event == .homeWrite then s.writeTxn t w else s

/-- Memory as a read of the hub or of fixed-function hardware sees it: it waits for a write of one of its lines that is under way at
the home, and comes after the writes of such hardware (R103). -/
def State.settledAt (s : State) (xs : List Nat) : State :=
  (s.txns.filter fun t => (decide (1 ≤ t.2.stage ∧ t.2.stage ≤ 4) && !(t.2.event == .homeRead)
      || decide (t.2.stage = 0 ∧ t.2.kind = .write) && t.2.flight.isNone)
    && (s.writeLines t.2).any xs.contains).foldl (fun s t => s.afterTxn t.2) s

/-- A write is acknowledged at the issuing core (R306); or a word that was performed in the core, or trapped, is over for
those that wait for it. -/
def execWriteAcknowledge (s : State) : Host.Outcome State Fault Refusal :=
  let id := s.arg 0
  match s.txns.look id with
  | some t => done (s.acknowledge id t)
  | none =>
    match s.flights.look id with
    | some f => done ((({ s with flights := s.flights.cut id }).settle id).wake f.core)
    | none =>
      let cores := ((s.rels.filter fun r => r.2.waitFor.contains id).map fun r => r.2.core).eraseDups
      done (cores.foldl State.wake (s.settle id))

/-! ## Reads -/

/-- The 64-B halves of home lines whose bytes a write changes. -/
def Txn.halves (u : Txn) : List Nat :=
  match u.kind with
  | .writeBack => (u.bytes.map fun p => p.1 / 64).eraseDups
  | _ => if u.leaf.fmt = 0 && !u.bytes.isEmpty then (u.bytes.flatMap fun p => (u.leaf.physical p.1 1).map (· / 64)).eraseDups
    else u.lines.flatMap fun x => [2 * x, 2 * x + 1]

/-- An earlier write of the same core to bytes of the sector that a read takes: it waits for it (R186, R192). -/
def State.ownWrite (s : State) (id : Nat) (t : Txn) : Option Nat :=
  match t.kind with
  | .sector _ _ _ =>
    let mine := ((t.leaf.physical t.va t.size).map (· / 64)).eraseDups
    (s.txns.find? fun u => decide (u.1 < id ∧ u.2.core = t.core) && (match u.2.kind with
       | .writeBack => u.2.leaves.isNone
       | .write => decide (u.2.barge = t.barge)
       | .mxacc => decide (u.2.barge = t.barge)
       | _ => false) && u.2.halves.any mine.contains).map (·.1)
  | _ => none

/-- Enter a record in a barge's pull list: for a listed core the later number; a fifth core's oldest entry is given
back, to be pulled (R332). -/
def Barge.notePull (b : Barge) (core seq : Nat) : Barge × Option (Nat × Nat) :=
  match b.pulls.find? fun p => decide (p.1 = core) with
  | some p =>
    let later := decide ((BitVec.ofNat 16 seq - BitVec.ofNat 16 p.2).toNat < 32768)
    ({ b with pulls := if later then b.pulls.map fun q => if q.1 = core then (core, seq) else q else b.pulls }, none)
  | none =>
    if b.pulls.length < 4 then ({ b with pulls := b.pulls ++ [(core, seq)] }, none)
    else ({ b with pulls := b.pulls.drop 1 ++ [(core, seq)] }, b.pulls.head?)

/-- The column at which a read meets a line: in its home tower, or in the reader's own. -/
def State.readAt (s : State) (t : Txn) (x : Nat) : Nat :=
  if s.readsHome t x then homeColumn s x else (columnOf s (towerOf t.core) x).getD (homeColumn s x)

/-- Does that column hold it? -/
def State.readHit (s : State) (t : Txn) (w : Who) (x : Nat) : Bool :=
  inAperture x || if s.readsHome t x then s.homeHit w x else s.cachedIn (towerOf t.core) x

/-- The column of another tower that supplies a line which the reader's tower does not hold (R17). -/
def State.supplier (s : State) (t : Txn) (w : Who) (x : Nat) : Option Nat :=
  if s.readsHome t x || s.readHit t w x then none
  else ([0, 1, 2, 3].find? fun k => s.cachedIn k x).bind fun k => columnOf s k x

/-- Cycles from a read's tag check, or its arrival at a scratchpad, to its data in the L1 (R16, R17, R90, R121); an engine's data
comes back 16 cycles sooner, the gather engine's 18 (R127, R165). DESIGN CHOICE (log 9): a host sector takes its bound. -/
def State.readRest (s : State) (t : Txn) (w : Who) (x : Nat) : Nat :=
  let spent := 30 + t.path
  match t.kind with
  | .walk _ => if s.readHit t w x then 60 else (if bridged x then 1630 else 390) - t.path
  | k =>
    let d := if inAperture x then (if k = .cardRead then 72 else 66) + t.path - pooledArrival s t.core (homeColumn s x)
      else if s.readHit t w x then 58 + pathExtra s t.core (s.readAt t x) - t.path
      else if (s.supplier t w x).isSome then 258 - spent
      else if bridged x then 1698 - spent
      else 458 - spent
    if k = .cardRead then d - (if t.gather then 18 else 16) else d

/-- A line's bytes as a read finds them are poisoned: at its home, or in the copy that supplies them (R102, R118). -/
def State.readPoison (s : State) (t : Txn) (w : Who) (x : Nat) : Bool :=
  if s.readsHome t x then s.poisoned w x
  else (s.line x).poison || ([0, 1, 2, 3].find? fun k => s.cachedIn k x && (!s.cachedIn (towerOf t.core) x || k = towerOf t.core)).any
    (s.copyPoisoned · x)

/-- What a read does in the stacked caches on its path: a hit touches, a miss fills and takes a poisoned copy's poison with it;
beside a version another tower's read is served with no allocation (R119, R134). -/
def State.readTouch (s : State) (t : Txn) (w : Who) (x : Nat) : State :=
  let tower := towerOf t.core
  if inAperture x || t.kind = .hostRead then s
  else if !s.readsHome t x then
    let bad := [0, 1, 2, 3].any (s.copyPoisoned · x)
    let s := (s.usePort (s.readAt t x)).fillTower tower x t.leaf.cp
    if bad then s.poisonCopy tower x else s
  else if s.hasVersion x && decide (tower ≠ homeTower (x * 128)) && !s.cachedIn (homeTower (x * 128)) x then
    let s := s.usePort (homeColumn s x)
    match s.chainFind w x with
    | some v => s.touchVersion v
    | none => s
  else s.atHome w x t.leaf.cp

/-- Data of a read goes down its column's bus; an `LDB` or a lane on an SO page takes its core's own dirty bytes as it reaches the
lane die, 10 cycles before the L1 (R16, R192). -/
def State.dataDown (s : State) (id : Nat) (t : Txn) : State :=
  let own := t.atHome && !inAperture t.line && t.leaf.fmt == 0#4 && !(t.leaf.ver && decide (t.label ≠ 0)) && t.chunk.isNone
  let s := s.setTxn id { t with stage := 6, fills := [] }
  if own then s.postAt (max s.now (t.due - 10)) .hostDataArrival [id] else s.postAt (max s.now t.due) .l1Fill [id]

/-- Data of a read that its first column does not hold is due there 18 cycles before it reaches the L1 (R16). -/
def State.dataDue (s : State) (id : Nat) (t : Txn) : State :=
  if t.fills.isEmpty then s.dataDown id t else (s.setTxn id t).postAt (max s.now (t.due - 18)) .hostDataArrival [id]

/-- A read passes the tag check of its column, or reaches a scratchpad: it takes its bytes, and its data comes as R16, R17, R90 and
R121 say, from another tower's column over that one's bus (R113); a GDDR channel grants it a command for each granule that no
stacked cache holds (R368). -/
def State.sampleSector (s : State) (id : Nat) (t : Txn) (w : Who) : State :=
  let xs := s.readLines t
  let lost := xs.filter fun x => !s.readHit t w x
  match s.command id t (lost.filter fun x => !bridged x && (s.supplier t w x).isNone) with
  | (false, s) => s
  | (true, s) =>
    let refresh (x : Nat) : Nat := if inAperture x then refreshWait s (homeColumn s x) (field (x * 128) 8 4) t.bankAt
      else s.bankWait (s.readAt t x) x t.bankAt
    let d := xs.foldl (fun m x => max m (s.readRest t w x + s.chainCost w x)) 0
    -- the transfers of one instruction on a bus follow its first (R113): what holds up one holds up those behind it
    let f := t.flight.bind s.flights.look
    let wait := max (xs.foldl (fun m x => max m (refresh x)) 0) (((f.map fun (f : Flight) => f.refreshed).getD []).look t.column |>.getD 0)
    let s := match t.flight, f with
      | some k, some f => if wait = 0 then s else s.setFlight k { f with refreshed := f.refreshed.put t.column wait }
      | _, _ => s
    let t := { t with stage := 1, due := (if inAperture t.line then t.reached else s.now) + d + wait, fills := lost
                      data := s.readView w t.leaf t.va t.size
                      poison := xs.any (s.readPoison t w) || s.scratchPoison (t.leaf.physical t.va t.size) }
    let s := (xs.filter fun x => !lost.contains x).foldl (fun s x => s.readTouch t w x) s
    match lost.findSome? (s.supplier t w) with
    | some n =>
      -- its request reaches that column as the core's own would (R17)
      let asked := max s.now (s.now + 158 - t.path)
      (s.setTxn id { t with asked, column := n, waits := none, granted := false }).postAt asked .homeRead [id]
    | none => s.dataDue id t

/-- A read has the bus of the column that supplies it: what it waited there for, and for the refresh of its bank, makes its data
late (R113, R128). -/
def State.supplied (s : State) (id : Nat) (t : Txn) : State :=
  let late := s.now - (t.asked + t.lead) + t.fills.foldl (fun m x => max m (s.bankWait t.column x t.bankAt)) 0
  s.dataDue id { t with due := t.due + late, asked := 0 }

/-- The lanes of a load that lie in one column of the pooled scratchpad are read as they arrive, at one state of each bank (R122,
R124); their data comes back as R123 says, once no bank of theirs refreshes (R128). -/
def State.readPooled (s : State) (id : Nat) (t : Txn) : State :=
  match t.flight.bind s.flights.look with
  | none => { s with txns := s.txns.cut id }
  | some f =>
    let here (a : LaneAcc) : Bool := decide ((bankOf a.va).1 = t.column)
    let wait := (f.accs.filter here).foldl (fun m a => max m (refreshWait s t.column (bankOf a.va).2 t.reached)) 0
    let poisoned (a : LaneAcc) : Bool := s.scratchPoison ((List.range a.size).map (a.va + ·))
    let accs := f.accs.map fun a =>
      if here a then { a with got := (List.range a.size).map fun k => (k, s.byteAt (a.va + k)), poison := poisoned a } else a
    let rest := 68 + pathExtra s f.core t.column - pooledArrival s f.core t.column + busGap t.transfers
    let f := { f with accs, pending := f.pending.filter fun x => decide (x ≠ id), ready := max f.ready (t.reached + wait + rest) }
    let fid := t.flight.getD 0
    let s := ({ s with txns := s.txns.cut id }).setFlight fid f
    let s := if f.pending.isEmpty then s.postAt f.ready .registerFill [fid] else s
    (s.settle id).wake f.core

/-- The host has read a line of GDDR at its home, which sets H: the line's bytes, or the poison indication (R102, R105). -/
def State.hostReads (s : State) (id : Nat) (t : Txn) : State :=
  let x := t.line
  let w : Who := { ctx := 0 }
  match s.command id t (if s.homeHit w x then [] else [x]) with
  | (false, s) => s
  | (true, s) =>
    let s := s.setHub { s.hub with hostReply := some (x, s.readBytes w (x * 128) 128, s.poisoned w x) }
    ({ s with txns := s.txns.cut id }).setLine x { s.line x with host := true }

/-- A read request reaches its home or column (R191, R329, R333), or a bank of the pooled scratchpad (R122); with a second
number, a column's arbiter has its turn (R113). -/
def execHomeRead (s : State) : Host.Outcome State Fault Refusal :=
  let id := s.arg 0
  if s.args.length = 2 then done (s.arbitrate id)
  else
  match s.txns.look id with
  | none => done s
  | some t =>
    s.afterBus id t fun s =>
    let t := (s.txns.look id).getD t
    match t.kind, t.stage with
    | .pooled _, _ => done (s.readPooled id t)
    | .transfer, _ =>
      let s := { s with txns := s.txns.cut id }
      -- packed bytes of a gather are at their place 4 cycles later (R127)
      done (match t.card with
        | some (c, r) => s.post 4 .cardStart [c, r, 2, 0]
        | none => s)
    | _, 1 => done (s.supplied id t)
    | _, _ =>
      let xs := s.readLines t
      let after := if s.readsHome t t.line then s.lowerTower id t xs else none
      match s.ownWrite id t, s.lineBusy id xs, after with
      | some u, _, _ =>
        match s.txns.look u with
        | some v => done (s.setTxn u { v with ackWaiters := v.ackWaiters ++ [id] })
        | none => done s
      | none, some u, _ => done (s.waitOn id u)
      | none, none, some c => done (s.postAt c .homeRead [id])
      | none, none, none =>
        if t.kind = .hostRead then done (s.hostReads id t)
        else
        let w := (s.txnWho t).getD (t.leaf.who t.ctx 0 none)
        let recs := ((xs.map fun x => (homeColumn s x, s.recordOf w x)).filter fun r => decide (r.2.2 ≠ 0 ∧ r.2.1 ≠ t.core)).eraseDups
        let new := recs.filter fun r => !t.drawn.contains r.2
        if t.acquire && !new.isEmpty then
          -- every record is pulled before the value is taken, all together (R333, R335)
          let s := s.setTxn id { t with drawn := t.drawn ++ new.map (·.2), pulls := new.length }
          done (new.foldl (fun s r => (s.sendPull t.ctx r.1 t.core r.2.1 r.2.2 (pullTime r.1 r.2.1) (some id)).2) s)
        else done (s.sampleSector id (if t.collect then { t with drawn := recs.map (·.2) } else t) w)

/-- Data of a read arrives at the column that it fills (R16, R17), at the bridge for a bridged line (R107), one line of a filter
set in each hub cycle (R108); or at the lane die, where the core's own dirty bytes go over it (R192). With a second number, a
GDDR channel has come free (R368). -/
def execHostDataArrival (s : State) : Host.Outcome State Fault Refusal :=
  let id := s.arg 0
  if s.args.length = 2 then done (s.commandTurn id)
  else
  match s.txns.look id with
  | none => done s
  | some t =>
    if t.stage = 1 then
      if t.fills.any s.setTaken then
        done ((s.setTxn id { t with due := t.due + (s.nextHub - s.now) }).postAt s.nextHub .hostDataArrival [id])
      else
        let w := (s.txnWho t).getD (t.leaf.who t.ctx 0 none)
        done ((t.fills.foldl (fun s x => s.readTouch t w x) s).dataDown id t)
    else
      let data := t.data.zipIdx.map fun p =>
        ((s.core t.core).dirtyByte (t.leaf.base + t.leaf.offset t.va + p.2)).getD p.1
      done ((s.setTxn id { t with data, stage := 7 }).postAt (max s.now t.due) .l1Fill [id])

/-- A load that hands its records to its barge's pull list does so as its data comes; the entries that a fifth core displaces are
pulled by the core first, and the load waits for that (R332). True where it waits. -/
def State.collectRecords (s : State) (id : Nat) (t : Txn) : Bool × State :=
  match t.collect && !t.pulled, t.barge.bind (s.barge t.core) with
  | true, some b =>
    let r := t.drawn.foldl (fun (acc : Barge × List (Nat × Nat)) r =>
      let p := acc.1.notePull r.1 r.2
      (p.1, acc.2 ++ p.2.toList)) (b, [])
    let s := s.setBarge t.core (t.barge.getD 0) r.1
    if r.2.isEmpty then (false, s)
    else
      let s := s.setTxn id { t with pulls := r.2.length }
      (true, r.2.foldl (fun s q => (s.sendPull t.ctx t.core t.core q.1 q.2 (pullTime t.core q.1) (some id)).2) s)
  | _, _ => (false, s)

/-- Fill data reaches the L1: it is installed unless the way is gone, its entry is free, and it is delivered, with what was newer
when each load passed the tag stage (R181, R185, R192). -/
def State.l1Fill (s : State) (id : Nat) (t : Txn) : State :=
  let sector := t.va / 64
  let s := { s with txns := s.txns.cut id }
  let c := s.core t.core
  let s := match t.kind with
    | .sector tag i (some (w, k)) =>
      match (c.set i).ways.look w with
      | some y =>
        if y.tag.matches tag && decide (y.fill = k) then
          s.setL1 t.core i ((c.set i).onWay w fun y =>
            let x := y.sectors.getD (sector % 4) {}
            let x := { x.fill (patch t.data t.patches) with poison := t.poison || x.poison }
            { y with sectors := y.sectors.set (sector % 4) x })
        else s
      | none => s
    | _ => s
  let fmt := if t.leaf.fmt = 0 then 0 else 4
  let s := t.readers.foldl (fun s r =>
    match s.flights.look r.1 with
    | none => s
    | some f =>
      let f := f.deliver sector (patch t.data r.2) t.poison
      let f := { f with pending := f.pending.filter fun x => decide (x ≠ id), ready := max f.ready (s.now + 2 + fmt) }
      (s.setFlight r.1 f).loadReady r.1) s
  -- a prefetch is over with its last sector
  let s := (s.flights.filter fun f => decide (f.2.kind = .prefetch) && f.2.pending.contains id).foldl (fun s f =>
    (s.setFlight f.1 { f.2 with pending := f.2.pending.filter fun x => decide (x ≠ id) }).loadReady f.1) s
  s.tagTurn t.core

/-- A walker has read a table entry (R90). -/
def State.entryRead (s : State) (id : Nat) (t : Txn) (walk : Nat) : State :=
  let s := { s with txns := s.txns.cut id }
  match s.walks.look walk with
  | none => s
  | some w =>
    ({ s with walks := s.walks.put walk { w with entry := some (BitVec.ofNat 64 (leNat t.data), t.poison) } }).post 0 .walkComplete [walk]

/-- Data reaches the L1 (R185), the engine that asked for it (R165), or a walker (R90); or, with further numbers, a core's tag
stage has its turn, or an INVL1 of a core and context reaches it (R196). -/
def execL1Fill (s : State) : Host.Outcome State Fault Refusal :=
  let id := s.arg 0
  if s.args.length = 3 then done (s.tagStage id)
  else if s.args.length = 4 then done (s.l1Invalidate id fun t => decide (t.ctx = s.arg 1))
  else
    match s.txns.look id with
    | none => done s
    | some t =>
      match t.kind, t.card with
      | .cardRead, some (c, r) => done (s.post (if t.leaf.fmt = 0 then 0 else 4) .cardStart [c, r, 4, id])
      | .walk k, _ => done (s.entryRead id t k)
      | _, _ =>
        match s.collectRecords id t with
        | (true, s) => done s
        | (false, s) => done (s.l1Fill id t)

/-! ## Pulls (R334) -/

/-- A pull reaches its core: older dirty RC sectors are written back, and the reply follows their acknowledgement. -/
def execPull (s : State) : Host.Outcome State Fault Refusal :=
  let id := s.arg 0
  match s.txns.look id with
  | none => done s
  | some t =>
    match t.kind with
    | .pull target seq =>
      let c := s.core target
      -- those that arrive together are served in ascending requesting column, then core
      let first := s.agenda.any fun e => decide (e.1 ≤ s.now) && e.2.what == .pull && match s.txns.look (e.2.args.headD 0) with
        | some u => (match u.kind with
          | .pull k _ => decide (k = target)
          | _ => false) && !keyLess [t.column, t.core] [u.column, u.core]
        | none => false
      if first then done (s.post 0 .pull [id])
      else if (s.ctx t.ctx).killBusy || 15 ≤ (c.seq - BitVec.ofNat 16 seq).toNat then done (s.post (2 + t.path) .pullReply [id])
      else
        let (ids, s) := s.writeBackWhere target 2 fun tag e => decide (tag.kind = 1) && epochBelow e seq
        if ids.isEmpty then done (s.post (2 + t.path) .pullReply [id]) else done (s.setTxn id { t with awaits := ids })
    | _ => done s

/-- The reply to a pull reaches the place that pulls. -/
def execPullReply (s : State) : Host.Outcome State Fault Refusal :=
  let id := s.arg 0
  match s.txns.look id with
  | none => done s
  | some t =>
    let s := { s with txns := s.txns.cut id }
    match t.barrier, t.parent.bind s.txns.look with
    | some (level, holder, number), _ =>
      let x := s.barrier level holder number
      let s := s.setBarrier level holder number { x with pulling := x.pulling.filter fun k => decide (k ≠ id) }
      done (s.tryOpen level holder number)
    | none, some p =>
      let pid := t.parent.getD 0
      -- the pulls of one request run together: with the last reply it goes on (R335)
      let p := { p with pulls := p.pulls - 1, pulled := decide (p.pulls ≤ 1) }
      let s := s.setTxn pid p
      done (if p.pulls ≠ 0 then s else s.post 0 (if 6 ≤ p.stage then .l1Fill else p.event) [pid])
    | none, none => done ((s.settle id).wake t.core)

/-! ## Walks (R91, R92) -/

/-- The walk of a page that a walker has under way. -/
def State.sameWalk (s : State) (id : Nat) (w : Walk) : Option (Nat × Walk) :=
  s.walks.find? fun u => decide (u.1 ≠ id ∧ u.2.tower = w.tower ∧ u.2.ctx = w.ctx ∧ u.2.vpn = w.vpn) && u.2.started

/-- A request joins a walk of its page. -/
def State.joinWalk (s : State) (id : Nat) (w : Walk) (k : Nat) (u : Walk) : State :=
  let u := { u with cores := (u.cores ++ w.cores).eraseDups, fetchers := u.fetchers ++ w.fetchers, cards := u.cards ++ w.cards }
  { s with walks := (s.walks.cut id).put k u }

/-- A request for a page whose walk is under way joins it at once; the walker takes the others while it serves fewer than 16: in
order of arrival, then of core number (R91). -/
def State.nextWalks (s : State) (tower : Nat) : Nat → State
  | 0 => s
  | n + 1 =>
    let waiting := s.walks.filter fun u => !u.2.started && u.2.arrived.isSome && decide (u.2.tower = tower)
    match waiting.findSome? fun u => (s.sameWalk u.1 u.2).map fun k => (u, k) with
    | some (u, k) => (s.joinWalk u.1 u.2 k.1 k.2).nextWalks tower n
    | none =>
      match waiting.foldl (fun (b : Option (Nat × Walk)) u => match b with
          | none => some u
          | some o => if ([u.2.arrived.getD 0, u.2.core] : List Nat) < [o.2.arrived.getD 0, o.2.core] then some u else b) none with
      | none => s
      | some (id, w) =>
        if (s.walks.filter fun u => u.2.started && decide (u.2.tower = tower)).length < 16 then
          (s.startWalk id w).nextWalks tower n
        else s

/-- A request reaches its walker; once all of its cycle have, those that find room start or join (R91). -/
def execWalkRequest (s : State) : Host.Outcome State Fault Refusal :=
  let id := s.arg 0
  if s.args.length = 2 then done (s.nextWalks id 64)
  else
    match s.walks.look id with
    | none => done s
    | some w =>
      done (({ s with walks := s.walks.put id { w with arrived := some s.now } }).post 0 .walkRequest [w.tower, 0])

/-- Give the result of a walk to the first word of a core that waits for the page. -/
def State.giveWalk (s : State) (core ctx vpn : Nat) (r : Except (BitVec 8) Leaf) : State :=
  match s.flights.find? fun f => decide (f.2.core = core ∧ f.2.ctx = ctx) && f.2.translating
      && f.2.accs.any fun a => decide (a.needs = some vpn) with
  | some (id, f) => s.setFlight id { f with accs := f.accs.map (LaneAcc.give vpn r) }
  | none => s

/-- A leaf goes into the second-level TLBs and the core TLBs of the cores that asked for it (R89). -/
def State.installLeaf (s : State) (cores : List Nat) (e : TlbEntry) : State :=
  let s := (cores.map clusterOf).eraseDups.foldl (fun s g => s.l2TlbPut g e) s
  cores.foldl (fun s c => s.coreTlbPut c e) s

/-- A walk ends: the leaf is installed in both TLBs and the waiting words, fetches and engines go on, or the access faults
(R89). DESIGN CHOICE (log 103): it has held its place among the walker's 16 until now, its reply and installation included; R91
does not say when a walk is no longer in flight. -/
def State.walkOver (s : State) (id : Nat) (w : Walk) (r : Except (BitVec 8) Leaf) : State :=
  let s := { s with walks := s.walks.cut id }
  let s := match r with
    | .ok l =>
      let e : TlbEntry := { ctx := w.ctx, vpn := w.vpn, leaf := l }
      let s := s.installLeaf (w.cores ++ w.fetchers.map (· / 512)).eraseDups e
      let engines := ((w.cards.filterMap s.cards.look).map fun (c : Card) => clusterOf c.core).eraseDups
      (engines.filter fun g => !((w.cores ++ w.fetchers.map (· / 512)).map clusterOf).contains g).foldl (fun (s : State) g => s.l2TlbPut g e) s
    | .error _ => s
  let s := s.nextWalks w.tower 64
  let s := w.fetchers.foldl (fun s k =>
    match r with
    | .ok _ => s.onBarge (k / 512) (k % 512) fun b => { b with blocked := false, readyAt := s.now, eligibleSince := s.now }
    | .error c =>
      let s := s.onBarge (k / 512) (k % 512) fun b => { b with blocked := false }
      match s.barge (k / 512) (k % 512) with
      | some b =>
        -- the page is that of the fetch the barge waits at
        s.trapAt (k / 512) (k % 512) { cause := c, va := b.next.1 } b.next.2.2.2
      | none => s) s
  let s := w.cards.foldl (fun s c => s.post 0 .cardStart [c, 0, 0, w.vpn, match r with
    | .ok _ => 0
    | .error c => c.toNat]) s
  w.cores.foldl (fun s c => (s.giveWalk c w.ctx w.vpn r).pump c) s

/-- A step of a walk is over; at its end the walk is, or starts again where an invalidation met it (R90, R92). With a second
number, the checks of a word of a core are complete (R384). -/
def execWalkComplete (s : State) : Host.Outcome State Fault Refusal :=
  let id := s.arg 0
  if s.args.length = 2 then done (s.pump (s.arg 1))
  else
  match s.walks.look id with
  | none => done s
  | some w =>
    match w.leaf, w.cause with
    | none, none => done (s.walkStep id w)
    | l, c =>
      -- each walk that an invalidation met adds its cycles from GO on (R92)
      if w.restart then
        done ((s.setHub { s.hub with tlbiExtra := s.hub.tlbiExtra + (s.now - s.hub.tlbiFrom) }).startWalk id w)
      else
        done (s.walkOver id w (match l, c with
          | some l, none => .ok l
          | _, c => .error (c.getD 0x42)))

/-! ## The bridge and the host (R104 to R107) -/

/-- A host snoop, or a back-invalidate of the pool, of one half: the line leaves every sharer and the half leaves the
filter; a snoop that meets a request of the device waits for it (R107). -/
def execHostSnoop (s : State) : Host.Outcome State Fault Refusal :=
  let half := s.arg 0
  let x := half / 2
  let meets (t : Txn) : Bool := decide (1 ≤ t.stage ∧ t.stage ≤ 4)
    && (if t.event = .homeRead then t.fills.contains x else t.lines.contains x)
  if bridged x && s.txns.any fun t => meets t.2 then
    done (s.post 1 .hostSnoop s.args)
  else
    let s := s.unbridge x
    let other := if half % 2 = 0 then half + 1 else half - 1
    let snoop := (s.snoop.filter fun e => decide (e.half ≠ half)).map fun e =>
      if e.half = other then { e with exclusive := false } else e
    done { s with snoop }

/-- The host reads a GDDR line over CXL.mem: the request goes to the line's home (R103, R105). -/
def execHostMemRead (s : State) : Host.Outcome State Fault Refusal :=
  let x := lineOf (s.arg 0)
  if x * 128 < 0xB40000000 then
    done (s.sendTxn { kind := .hostRead, core := 48 * homeTower (x * 128), column := homeColumn s x, line := x, rank := some hubRank,
                      ctx := noCtx } s.now).2
  else done s

/-- The host writes GDDR over CXL.mem: performed at the home after the sharers are invalidated (R103, R104). -/
def execHostMemWrite (s : State) : Host.Outcome State Fault Refusal :=
  let pa := s.arg 0
  let bytes := (s.args.drop 1).map (BitVec.ofNat 8)
  if pa + bytes.length ≤ 0xB40000000 then
    let cells := bytes.zipIdx.map fun p => (pa + p.2, p.1)
    done ((cells.map fun c => lineOf c.1).eraseDups.foldl (fun s x =>
      (s.sendTxn { kind := .host, core := 48 * homeTower (x * 128), column := homeColumn s x, line := x, rank := some hubRank, ctx := noCtx
                   bytes := cells.filter fun c => decide (lineOf c.1 = x) } s.now).2) s)
  else done s

/-- The host has answered a back-invalidate: H is cleared and the write goes on (R105). -/
def execBackInvalidateResponse (s : State) : Host.Outcome State Fault Refusal :=
  let x := s.arg 0
  let s := s.setLine x { s.line x with host := false }
  match s.txns.look (s.arg 1) with
  | some t => done (s.post 0 t.event [s.arg 1])
  | none => done s

/-! ## Banks (R123 to R128) -/

/-- The bytes of an STP that its banks' write buffers take now, an entry of 128 B each while a bank has room and no STP that came
before waits for it, and those that wait (R125). -/
def State.takesEntries (s : State) (id : Nat) (t : Txn) (cells : List (Nat × Byte)) : List (Nat × Byte) × List (Nat × Byte) :=
  let behind (b : Nat × Nat) : Bool := s.txns.any fun u => decide (u.1 ≠ id ∧ u.2.kind = .pooled true ∧ u.2.stage = 8)
    && decide (t.stage = 0 ∨ u.1 < id) && u.2.bytes.any fun p => decide (bankOf p.1 = b)
  ((cells.map fun p => p.1 / 128).eraseDups).foldl (fun (acc : List (Nat × Byte) × List (Nat × Byte)) e =>
    let b := bankOf (e * 128)
    let mine := cells.filter fun p => decide (p.1 / 128 = e)
    let taken := ((acc.1.map fun p => p.1 / 128).eraseDups.filter fun k => decide (bankOf (k * 128) = b)).length
    if 16 ≤ ((s.column b.1).buffers.look b.2).getD 0 + taken || behind b then (acc.1, acc.2 ++ mine) else (acc.1 ++ mine, acc.2)) ([], [])

/-- An STP arrives in the write buffers of a column's banks and is performed there; what a full buffer does not take waits
(R123 to R125). -/
def execWriteBufferArrival (s : State) : Host.Outcome State Fault Refusal :=
  let id := s.arg 0
  match s.txns.look id with
  | none => done s
  | some t =>
    s.afterBus id t fun s =>
    let t := (s.txns.look id).getD t
    match t.flight.bind s.flights.look with
    | none => done { s with txns := s.txns.cut id }
    | some f =>
      let accs := f.accs.filter fun a => decide ((bankOf a.va).1 = t.column)
      let all := (accs.map fun a => a.data.zipIdx.map fun p => (a.va + p.2, p.1)).flatten
      let (now, later) := s.takesEntries id t (if t.stage = 0 then all else t.bytes)
      let s := now.foldl (fun s c => s.poke c.1 c.2) s
      let s := (s.bufferEntries (now.map (·.1)))
      if later.isEmpty then
        done ((s.healPooled (all.map (·.1))).setTxn id { t with stage := 5, bytes := [] } |>.postAt (t.reached + pooledAck s f.core t.column) .writeAcknowledge [id])
      else done ((s.setTxn id { t with stage := 8, bytes := later, reached := s.now + 1 }).post 1 .writeBufferArrival [id])

/-- A bank commits one entry of its write buffer in each memory-layer cycle in which it does not refresh (R125, R128). -/
def execWriteBufferCommit (s : State) : Host.Outcome State Fault Refusal :=
  let n := s.arg 0
  let k := s.arg 1
  match refreshWait s n k s.now with
  | 0 =>
    let c := s.column n
    let left := (c.buffers.look k).getD 0 - 1
    let s := s.setColumn n { c with buffers := if left = 0 then c.buffers.cut k else c.buffers.put k left }
    done (if left = 0 then s else s.postAt (ofLayerCycle (layerCycle s.now + 1)) .writeBufferCommit [n, k])
  | d => done (s.post d .writeBufferCommit [n, k])

/-- A bank's refresh window opens (R128). The window is a function of CNT, which is the clock: nothing else changes. -/
def execRefreshWindow (s : State) : Host.Outcome State Fault Refusal := done s

/-! ## Local memory (R188, R189) -/

/-- A word of a lower quarter, or of a lower slot of its quarter, that reaches the same place of a core in this cycle too, and
goes first (R176, R188). -/
def State.wordFirst (s : State) (what : Instr) (f : Flight) : Bool :=
  s.agenda.any fun e => decide (e.1 ≤ s.now ∧ e.2.args.length = 1) && e.2.what == what
    && ((s.flights.look (e.2.args.getD 0 0)).any fun g => decide (g.core = f.core)
      && decide (([quarterOf g.slot, g.slot] : List Nat) < [quarterOf f.slot, f.slot]))

/-- Write the lanes of a store over a memory, in ascending lane order. -/
def putLanes (accs : List LaneAcc) (m : Sparse 8) : Sparse 8 :=
  (accs.flatMap fun a => a.data.zipIdx.map fun p => (a.va + p.2, p.1)).foldl (fun m p => Sparse.set m p.1 p.2) m

/-- An atomic of some lanes on local memory, in ascending lane order; a lane whose bytes have an error is poisoned and writes nothing
(R312, R321). -/
def localAtomic (bad : List Nat) (op : AtomOp) (ty : AtomTy) (accs : List LaneAcc) (m : Sparse 8) : List LaneAcc × Sparse 8 :=
  accs.foldl (fun (acc : List LaneAcc × Sparse 8) a =>
    let n := ty.bytes
    if bad.any fun g => decide (a.va / 4 ≤ g ∧ g ≤ (a.va + n - 1) / 4) then
      (acc.1 ++ [{ a with poison := true, got := (List.range n).map fun k => (k, poisonMarker.getD (k % 4) 0) }], acc.2)
    else
      let old := (List.range n).map fun k => Sparse.get acc.2 (a.va + k)
      let new := atomNew op ty (leNat old) (leNat a.data) (leNat a.compare)
      let mem := (leBytes n new).zipIdx.foldl (fun m p => Sparse.set m (a.va + p.2) p.1) acc.2
      (acc.1 ++ [{ a with got := old.zipIdx.map fun p => (p.2, p.1) }], mem)) ([], m)

/-- The accesses of streams of a local A that came before a cycle have been served, or stand before what comes now (R188, R266). -/
def Core.streamed (c : Core) (now : Nat) : Core :=
  c.streams.foldl (fun c u =>
    let k := min u.2 (now - u.1)
    let c := if k = 0 then c else { c with localBusy := max c.localBusy u.1 + k }
    if u.2 ≤ k then c else { c with streams := c.streams ++ [(u.1 + k, u.2 - k)] }) { c with streams := [] }

/-- The cycles in which the banks serve a request that comes now and takes n cycles: the first of them (R188). -/
def Core.localTurn (c : Core) (now n : Nat) : Nat × Core :=
  let c := c.streamed now
  let start := max now c.localBusy
  (start, { c with localBusy := start + n })

/-- A local-memory request reaches the banks, which serve requests one after another, each for its N cycles (R188): the cycle
in which it is served. -/
def State.localTurn (s : State) (id : Nat) (f : Flight) : Nat × State :=
  let n := bankCost (f.accs.map fun a => (a.va, a.size))
  let (start, c) := (s.core f.core).localTurn s.now n
  let last := start + n - 1
  let ready := match f.kind with
    | .atom _ _ _ => last + 12 + 2 * repeatedLanes f.accs
    | _ => last + 8
  let mmas := c.mmas.map (·.heldUp start n)
  let s := s.setCore f.core { c with
    mmas, localUses := (c.localUses.filter fun u => decide (s.now < u.1 + u.2 + 4)) ++ [(start, n)] }
  (last, s.setFlight id { f with ready })

/-- A local-memory request reaches the banks, or with a second number is served: loads, stores and atomics in ascending lane
order (R188, R189, R312). -/
def execLocalMemoryAccess (s : State) : Host.Outcome State Fault Refusal :=
  let id := s.arg 0
  match s.flights.look id with
  | none => done s
  | some f =>
    if s.args.length = 1 && s.wordFirst .localMemoryAccess f then done (s.post 0 .localMemoryAccess [id])
    else
    let (last, s) := if s.args.length = 1 then s.localTurn id f else (s.now, s)
    let f := (s.flights.look id).getD f
    if s.now < last then done (s.postAt last .localMemoryAccess [id, 1])
    else
    let c := s.core f.core
    match f.kind with
    | .loc true =>
      let cells := f.accs.flatMap fun a => a.data.zipIdx.map fun p => (a.va + p.2, p.1)
      let mem := putLanes f.accs c.localMem
      let poison := c.localPoison.filter fun g =>
        !((List.range 4).all fun k => cells.any fun p => decide (p.1 = 4 * g + k))
      let s := s.setCore f.core { c with localMem := mem, localPoison := poison }
      done ((({ s with flights := s.flights.cut id }).settle id).wake f.core)
    | .atom op ty returns =>
      let r := localAtomic c.localPoison op ty f.accs c.localMem
      let s := s.setCore f.core { c with localMem := r.2 }
      if returns then done ((s.setFlight id { f with accs := r.1, pending := [] }).postAt f.ready .registerFill [id])
      else
        let s := match r.1.find? (·.poison) with
          | some a => s.deliverCause f.core f.slot 0x56 a.va
          | none => s
        done ((({ s with flights := s.flights.cut id }).settle id).wake f.core)
    | _ =>
      let accs := f.accs.map fun a =>
        { a with got := (List.range a.size).map fun k => (k, Sparse.get c.localMem (a.va + k))
                 poison := c.localPoison.any fun g => decide (a.va / 4 ≤ g ∧ g ≤ (a.va + a.size - 1) / 4) }
      done ((s.setFlight id { f with accs }).postAt f.ready .registerFill [id])

end Sys2Proof.Machine
end

