-- ==== Sys2Proof/Machine/Work.lean ====
section
/-!
DEFINITION. How work ends: a barge that frees its slot (R227, R316), a workgroup that leaves its core (R182, R248),
a task that signals (R373), and frame slots (R386).
-/
namespace Sys2Proof.Machine
open Sys2Proof

/-! ## Slots -/

/-- Give the words, requests and releases of a barge that ends to its workgroup: what they still do to memory goes on
(R322), and no later barge of the slot is taken for their issuer. -/
def State.orphan (s : State) (core slot : Nat) : State :=
  match s.barge core slot with
  | none => s
  | some b =>
    let g := ghost b.wg
    let txn (t : Txn) : Txn :=
      if t.core = core ∧ t.barge = some slot then
        match t.kind with
        | .red e => { t with barge := some g, kind := .red { e with barge := g } }
        | _ => { t with barge := some g }
      else t
    { s with
      flights := s.flights.mapVals fun f => if f.core = core ∧ f.slot = slot then { f with slot := g } else f
      txns := s.txns.mapVals txn
      rels := s.rels.mapVals fun r => if r.core = core ∧ r.slot = slot then { r with slot := g } else r }

/-- Steps that wake or trap the barge of a slot. -/
def ofBarge (core slot : Nat) (e : Event) : Bool :=
  (match e.what with
   | .sleepEnd => true
   | .wfiWake => true
   | .handlerEntry => true
   | .unrecoverableFault => true
   | _ => false) && decide (e.args.take 2 = [core, slot])

/-- Give a frame slot back (R386). -/
def State.freeFrame (s : State) (ctx slot : Nat) : State :=
  let c := s.ctx ctx
  s.setCtx ctx { c with framesUsed := c.framesUsed.filter fun k => decide (k ≠ slot) }

/-- Room comes free on a core: the wharf sees it one hub cycle after the count that first holds it (R370). -/
def State.reportFree (s : State) (core : Nat) (x : Leaving) : State :=
  let c := s.core core
  let t := ofHubCycle (ceilDiv (8 * s.now) 13 + 1)
  s.setCore core { c with leaving := (c.leaving.filter fun y => decide (s.now < y.until_)) ++ [{ x with until_ := t }] }

/-- A barge gives up its slot, its registers and its frame. -/
def State.freeSlot (s : State) (core slot : Nat) : State :=
  match s.barge core slot with
  | none => s
  | some b =>
    let key := bargeKey core slot
    let s := s.orphan core slot
    let s := { s with
      barges := s.barges.cut key
      agenda := s.agenda.filter fun p => !ofBarge core slot p.2
      walks := s.walks.mapVals fun w => { w with fetchers := w.fetchers.filter fun k => decide (k ≠ key) } }
    let s := s.reportFree core { until_ := 0, slot := some slot, regs := b.regs }
    let g := clusterOf core
    let c := s.cluster g
    let sluice := c.sluice.filter fun k => decide (k.2 ≠ key)
    let s := s.setCluster g { c with sluice, nextWave := if sluice.isEmpty then none else c.nextWave }
    match b.frameSlot with
    | some k => s.freeFrame b.ctx k
    | none => s

/-! ## Clusters (R379, R407, Table 17.7) -/

/-- Frequency of a class in MHz. -/
def classMhz (c : Nat) : Nat := [1600, 1800, 2000, 2200, 2350, 2450, 2550, 2600].getD c 2600

/-- The highest class whose frequency does not exceed F: CUR. -/
def classOf (mhz : Nat) : Nat := ((List.range 8).filter fun c => decide (classMhz c ≤ mhz)).getLast?.getD 0

/-- The largest request of a cluster's resident workgroups: REQ. -/
def State.perfReq (s : State) (cluster : Nat) : Nat :=
  (s.wgs.filter fun w => decide (clusterOf w.2.core = cluster) && !w.2.ended).foldl (fun m w => max m w.2.perf.toNat) 0

/-- The target frequency of a cluster; one of the system partition takes no ceiling below class 4 (R407, R408). -/
def State.targetMhz (s : State) (cluster : Nat) : Nat :=
  let ceil := s.hub.pwrCeil.toNat
  let ceil := if s.hub.partClusters.getLsbD cluster then max 4 ceil else ceil
  min (classMhz (s.perfReq cluster)) (classMhz ceil)

/-- Hub cycles between two steps up (R407). -/
def slopeGap (limit : BitVec 16) : Nat := ceilDiv 40000 (max limit.toNat 26)

/-- Let the loop of a cluster take its next step: 4 hub cycles on where it goes down, U on where it goes up. -/
def State.kickFreq (s : State) (cluster : Nat) : State :=
  let c := s.cluster cluster
  let t := s.targetMhz cluster
  if c.mhz.toNat = t || s.agenda.any (fun e => e.2.what == .freqStep && e.2.args == [cluster]) then s
  else
    let gap := if t < c.mhz.toNat then 4 else slopeGap c.slopeLimit
    s.postAt (ofHubCycle (hubCycle s.now + gap)) .freqStep [cluster]

/-! ## Nodes -/

/-- Workgroups of a node (R362). -/
def Node.count (n : Node) : Nat := n.gx * n.gy * n.gz

/-- Change a node where it exists. -/
def State.onNode (s : State) (id : Nat) (f : Node → Node) : State :=
  match s.nodes.look id with
  | some n => { s with nodes := s.nodes.put id (f n) }
  | none => s

/-- Workgroups of a node that run. -/
def State.running (s : State) (node : Nat) : List (Nat × Workgroup) :=
  s.wgs.filter fun w => decide (w.2.node = node) && !w.2.ended

/-- Ask the wharf to look for something to place in the next hub cycle, for each partition (R367). -/
def State.askDispatch (s : State) : State :=
  [0, 1].foldl (fun s p =>
    let next := ofHubCycle (hubCycle s.now + 1)
    if s.agenda.any fun e => e.2.what == .wharfDispatch && e.2.args == [p] && decide (e.1 ≤ next) then s
    else s.postAt next .wharfDispatch [p]) s

/-- Is a request one that its home performs as a write? -/
def Txn.isWrite (t : Txn) : Bool :=
  match t.kind with
  | .write => true
  | .atomic => true
  | .red _ => true
  | .mxacc => true
  | _ => false

/-- Writes of a task that a core has still to see acknowledged: words, requests and drained entries of its ended barges. -/
def State.taskWrites (s : State) (core : Nat) (wgs : List Nat) : List Nat :=
  let mine (slot : Nat) : Bool := match ghostWg slot with
    | some w => wgs.contains w
    | none => false
  ((s.flights.filter fun f => decide (f.2.core = core) && mine f.2.slot && (f.2.isWrite || f.2.isStp)).map (·.1))
    ++ ((s.txns.filter fun t => decide (t.2.core = core) && mine (t.2.barge.getD 0) && t.2.isWrite).map (·.1))

/-- The last workgroup of a task leaves a core: the task's reduction entries there drain, those of a barge that holds threads of it
from another core among them (R316), every dirty sector of the context is written back, its clean RC and UO sectors go, and the
task waits for the acknowledgements (R182). -/
def State.leaveCore (s : State) (core node : Nat) : State :=
  match s.nodes.look node with
  | none => s
  | some n =>
    let wgs := (s.wgs.filter fun w => decide (w.2.node = node)).map (·.1)
    let ofTask (slot : Nat) : Bool := match s.barge core slot with
      | some b => decide (b.node = node)
      | none => (ghostWg slot).any wgs.contains
    let (drains, s) := s.drainWhere core none fun e => ofTask e.barge
    let (ids, s) := s.writeBackWhere core 0 fun t _ => decide (t.ctx = n.ctx)
    let s := s.l1Leave core n.ctx ids
    let ids := ids ++ drains
    s.onNode node fun n => { n with flushing := n.flushing ++ ids ++ s.taskWrites core wgs }

/-- A workgroup leaves its core: its task learns of it, and BOOT_KERNEL where it is the boot kernel's (R424). -/
def State.workgroupLeaves (s : State) (id : Nat) : State :=
  match s.wgs.look id with
  | none => s
  | some w =>
    let s := { s with wgs := s.wgs.put id { w with gone := true, ended := true } }
    let s := s.reportFree w.core { until_ := 0, base := w.localBase, size := w.localSize }
    let s := if s.hub.bootNode = some w.node then
        s.setHub { s.hub with bootBusy := false, bootDone := true, bootNode := none }
      else s
    let s := if (s.running w.node).any fun v => decide (v.2.core = w.core) then s else s.leaveCore w.core w.node
    let s := s.onNode w.node fun n => { n with ended := n.ended + 1 }
    ((s.kickFreq (clusterOf w.core)).post 0 .taskComplete [w.node]).askDispatch

/-- A workgroup has ended: it leaves its core, and one of a gang leaves with the last of the gang, which stays resident
until it completes (R343). -/
def State.endWorkgroup (s : State) (id : Nat) : State :=
  match s.wgs.look id with
  | none => s
  | some w =>
    if w.gone then s
    else
      match w.gang.bind s.gangs.look with
      | none => s.workgroupLeaves id
      | some g =>
        let s := { s with wgs := s.wgs.put id { w with gone := true } }
        if g.members.all fun m => ((s.wgs.look m).map fun (v : Workgroup) => v.gone).getD true then
          g.members.foldl State.workgroupLeaves { s with gangs := s.gangs.cut (w.gang.getD 0) }
        else s

/-- Threads of a pixel barge have exited: the retires of the covered ones are due 24 cycles later (R294). -/
def State.retireLanes (s : State) (core : Nat) (b : Barge) (lanes : Mask) : State :=
  match (s.nodes.look b.node).bind fun n => n.draw with
  | none => s
  | some d =>
    if !b.pixelProgram || ((s.draws.look d).map fun (x : Draw) => x.dropped).getD true then s
    else
      let t := towerOf core
      ((lanesIn lanes).filter fun i => (b.pixels.getD i {}).covered).foldl (fun s i =>
        let (id, s) := s.fresh
        let g := s.gfxTower t
        (s.setGfx t { g with retires := g.retires.put id (s.now + 24, d, b.pixels.getD i {}) }).post 24 .pixelRetire [t, id]) s

/-- Threads of a barge have exited: each counts in its own workgroup, which completes with its last (R248). -/
def State.threadsExit (s : State) (b : Barge) (lanes : Mask) : State :=
  let s := (lanesIn lanes).foldl (fun s i =>
    match s.wgs.look (b.laneWg.getD i b.wg) with
    | some w => { s with wgs := s.wgs.put (b.laneWg.getD i b.wg) { w with threads := w.threads - 1 } }
    | none => s) s
  ((lanesIn lanes).map fun i => b.laneWg.getD i b.wg).eraseDups.foldl (fun s w =>
    match s.wgs.look w with
    | some x => if x.threads = 0 then s.endWorkgroup w else s
    | none => s) s

/-- A release whose barge ends before its second step waits for what that barge's entries drain as, and takes nothing of
a later barge in the slot (R249, R331). -/
def Rel.leaves (r : Rel) (ids : List Nat) : Rel :=
  { r with
    waitFor := r.waitFor ++ ids
    slot := match r.after with
      | .post _ => 512
      | _ => r.slot }

/-- A barge ends or is dissolved: its entries drain, it leaves its barriers, and its slot is free (R227, R316, R347). -/
def State.endBarge (s : State) (core slot : Nat) : State :=
  match s.barge core slot with
  | none => s
  | some b =>
    let open_ (r : Rel) : Bool := r.release && decide (r.core = core ∧ r.slot = slot ∧ r.step ≤ 2)
    let package := s.rels.any fun r => open_ r.2 && decide (3 ≤ r.2.scope)
    let record := if package then some (core, (s.core core).nextSeq.toNat) else none
    let (ids, s) := s.drainWhere core record fun e => decide (e.barge = slot)
    let s := { s with rels := s.rels.mapVals fun r => if open_ r then r.leaves ids else r }
    ((s.leaveBarriers (bargeKey core slot) b).freeSlot core slot).askDispatch

/-! ## The join stack (R240, R241) -/

/-- Is an entry at a depth satisfied: has every lane of its mask exited, or does it wait at this entry? -/
def Barge.satisfied (b : Barge) (depth : Nat) (e : JoinEntry) : Bool :=
  (lanesIn e.mask).all fun i =>
    laneOn b.exited i || (!laneOn b.running i && decide (b.waitAt.getD i 0 = depth))

/-- Pop satisfied entries from the top: the lanes that wait at them run again after the JOIN. -/
def Barge.popSatisfied (b : Barge) : Nat → Barge
  | 0 => b
  | n + 1 =>
    match b.joins.getLast? with
    | none => b
    | some e =>
      let depth := b.joins.length - 1
      if b.satisfied depth e then
        let wake := maskOf fun i =>
          !laneOn b.running i && !laneOn b.exited i && decide (b.waitAt.getD i 0 = depth)
        Barge.popSatisfied
          { b with
            joins := b.joins.dropLast
            running := b.running ||| wake
            pcs := b.pcs.mapIdx fun i pc => if laneOn wake i then e.addr + 4 else pc } n
      else b

/-- Pop what can be popped; a barge that has threads, none of which runs, waits for ever (R241). -/
def Barge.settleJoins (b : Barge) : Barge :=
  let b := b.popSatisfied 17
  if b.running = 0 && decide (b.exited ≠ BitVec.allOnes 32) then { b with wait := .join } else b

end Sys2Proof.Machine
end

