-- ==== Sys2Proof/Machine/Control.lean ====
section
/-!
DEFINITION. Prefix words (R30 to R36), branches (R238), transfers (R239), MARK and JOIN (R240, R241), EXIT (R242) and
the other words of class 12 (R243); a word that is not an instruction (R46).
-/
namespace Sys2Proof.Machine
open Sys2Proof

/-! ## Prefixes and words that are no instruction -/

/-- XIMM joins the chain (R28, R30). -/
def execXimm (_x : BitVec 24) (s : State) : Host.Outcome State Fault Refusal := prefixWord s
/-- XIMMH joins the chain (R28, R30). -/
def execXimmh (_x : BitVec 24) (s : State) : Host.Outcome State Fault Refusal := prefixWord s
/-- XMOD joins the chain (R30, R32). -/
def execXmod (_x : BitVec 24) (s : State) : Host.Outcome State Fault Refusal := prefixWord s
/-- XPRED joins the chain (R30, R34). -/
def execXpred (_n : BitVec 1) (_e : BitVec 3) (s : State) : Host.Outcome State Fault Refusal := prefixWord s
/-- XOPD joins the chain (R30, R35). -/
def execXopd (_p : BitVec 1) (_c : BitVec 7) (_q : BitVec 1) (_e : BitVec 7) (_z : BitVec 1) (s : State) :
    Host.Outcome State Fault Refusal := prefixWord s
/-- XSCH joins the chain (R30, R36). -/
def execXsch (_y : BitVec 1) (_n : BitVec 5) (s : State) : Host.Outcome State Fault Refusal := prefixWord s

/-- A word that is not an instruction raises its cause at issue and changes nothing else (R46). -/
def execIllegalEncoding (s : State) : Host.Outcome State Fault Refusal :=
  match s.issue with
  | none => .fault .noIssue
  | some iss =>
    match s.barge iss.core iss.slot with
    | none => .fault .noIssue
    | some b =>
      let pres := chainWords s iss
      let p := Pre.ofWords pres
      let active := if iss.replay.isSome then iss.group else activeOf b iss.group p
      let g : Go :=
        { core := iss.core, slot := iss.slot, b, group := iss.group, active, pre := p, addr := iss.addr,
          first := iss.chainStart, words := pres ++ [iss.word], vals := [], srcs := [], unit := none, occupancy := 0,
          progress := (iss.replay.map (·.progress)).getD 0, replay := iss.replay.isSome }
      done (g.trap { cause := if b.handler then 0xB3 else BitVec.ofNat 8 (s.arg 0) } s)

/-! ## Branches and transfers -/

/-- The active lanes for which a target is given move there instead of to the next word. -/
def Go.jump (g : Go) (target : Nat → Option Dword) (s : State) : State :=
  s.onBarge g.core g.slot fun b =>
    { b with pcs := (List.range 32).map fun i =>
        if laneOn g.active i then (target i).getD (b.pcs.getD i 0) else b.pcs.getD i 0 }

/-- Which lanes branch (R40, R238). -/
def branchLanes (c : BitVec 3) (active p : Mask) : Mask :=
  match c.toNat with
  | 0 => active
  | 1 => active &&& p
  | 2 => active &&& ~~~p
  | 3 => if active &&& p ≠ 0 then active else 0
  | 4 => if active &&& p = active then active else 0
  | _ => if active &&& p = 0 then active else 0

/-- What the checks and the scoreboard see of BRA (R40, R238). -/
def shapeBra (c e : BitVec 3) : Shape :=
  { guard := false, psrcs := fun _ => if c = 0 then [] else [e] }

/-- BRA (R40, R238). -/
def execBra (c e : BitVec 3) (o : BitVec 21) (s : State) : Host.Outcome State Fault Refusal :=
  issueWord (shapeBra c e) s fun g s =>
    let lanes := branchLanes c g.active (g.b.pred e)
    let target := g.addr + 4 * o.signExtend 64
    g.jump (fun i => if laneOn lanes i then some target else none) (g.finish g.b s)

/-- A target in a register: its low two bits count as zero (R18, R239). -/
def registerTarget (x : Dword) : Dword := x &&& ~~~3#64

/-- What the checks and the scoreboard see of JMP (R239). -/
def shapeJmp (a : BitVec 7) (p : BitVec 1) : Shape :=
  { srcs := fun _ => [regs a 2 p] }

/-- JMP (R239). -/
def execJmp (a : BitVec 7) (p : BitVec 1) (s : State) : Host.Outcome State Fault Refusal :=
  issueWord (shapeJmp a p) s fun g s =>
    g.jump (fun i => some (registerTarget ((g.val 0).w64 i))) (g.finish g.b s)

/-- What the checks and the scoreboard see of RET (R239). -/
def shapeRet (a : BitVec 7) (p : BitVec 1) : Shape :=
  { srcs := fun _ => [regs a 2 p] }

/-- RET (R239). -/
def execRet (a : BitVec 7) (p : BitVec 1) (s : State) : Host.Outcome State Fault Refusal :=
  issueWord (shapeRet a p) s fun g s =>
    g.jump (fun i => some (registerTarget ((g.val 0).w64 i))) (g.finish g.b s)

/-- Write the return address in d (R239). -/
def Go.link (g : Go) (d : BitVec 7) : Barge :=
  g.b.write g.active { spec := d, words := 2 } fun _ => pairWords (g.addr + 4)

/-- What the checks and the scoreboard see of CALLI (R239). -/
def shapeCalli (d a : BitVec 7) (p : BitVec 1) : Shape :=
  { srcs := fun _ => [regs a 2 p], dsts := fun _ => [{ spec := d, words := 2 }] }

/-- CALLI (R239). -/
def execCalli (d a : BitVec 7) (p : BitVec 1) (s : State) : Host.Outcome State Fault Refusal :=
  issueWord (shapeCalli d a p) s fun g s =>
    g.jump (fun i => some (registerTarget ((g.val 0).w64 i))) (g.finish (g.link d) s)

/-- The target of an immediate-format control word (R41). -/
def Go.immTarget (g : Go) (i : BitVec 8) : Dword := g.addr + 4 * (g.imm i true).signExtend 64

/-- What the checks and the scoreboard see of CALL (R41, R239). -/
def shapeCall (d : BitVec 7) : Shape :=
  { imm := true, dsts := fun _ => [{ spec := d, words := 2 }] }

/-- CALL (R41, R239). -/
def execCall (d : BitVec 7) (i : BitVec 8) (s : State) : Host.Outcome State Fault Refusal :=
  issueWord (shapeCall d) s fun g s =>
    g.jump (fun _ => some (g.immTarget i)) (g.finish (g.link d) s)

/-! ## Divergent regions -/

/-- MARK (R240). -/
def execMark (i : BitVec 8) (s : State) : Host.Outcome State Fault Refusal :=
  issueWord immShape s fun g s =>
    if g.active = 0 then g.finish g.b s
    else if 16 ≤ g.b.joins.length then g.trap { cause := 0x07 } s
    else g.finish { g.b with joins := g.b.joins ++ [{ addr := g.immTarget i, mask := g.active }] } s

/-- The topmost entry of a lane at a rejoin address, by its depth (R241). -/
def Barge.joinOf (b : Barge) (addr : Dword) (lane : Nat) : Option Nat :=
  ((List.range b.joins.length).filter fun k =>
    match b.joins[k]? with
    | some e => decide (e.addr = addr) && laneOn e.mask lane
    | none => false).getLast?

/-- JOIN (R241). -/
def execJoin (s : State) : Host.Outcome State Fault Refusal :=
  issueWord bareShape s fun g s =>
    if g.b.joins.isEmpty then g.trap { cause := 0x08 } s
    else if g.active = 0 then g.finish g.b s
    else
      let fail := maskOf fun i => laneOn g.active i && (g.b.joinOf g.addr i).isNone
      if fail ≠ 0 then g.trap { cause := 0x09, lanes := fail } s
      else
        let waitAt := (List.range 32).map fun i =>
          if laneOn g.active i then (g.b.joinOf g.addr i).getD 0 else g.b.waitAt.getD i 0
        (g.finish g.b s).onBarge g.core g.slot fun b =>
          { b with waitAt, running := b.running &&& ~~~g.active }.settleJoins

/-- The shape of EXIT: it waits while a page of an earlier word of its barge is being looked up, so that the threads still
stand at it where that word traps (Table 20.7; log 40). -/
def shapeExit : Shape :=
  { bareShape with
    holds := fun s core slot =>
      if s.flights.any fun f => decide (f.2.core = core) && decide (f.2.slot = slot) && f.2.translating && !f.2.cancelled
          && decide (f.2.kind ≠ .prefetch) && decide (f.2.kind ≠ .mma) then .other
      else .none }

/-- EXIT (R242). -/
def execExit (s : State) : Host.Outcome State Fault Refusal :=
  issueWord shapeExit s fun g s =>
    if g.active = 0 then g.finish g.b s
    else
      let lanes := g.active &&& ~~~g.b.exited
      let s := (g.finish g.b s).onBarge g.core g.slot fun b =>
        { b with running := b.running &&& ~~~g.active, exited := b.exited ||| g.active }.settleJoins
      let s := s.retireLanes g.core g.b lanes
      let last := decide (g.b.exited ||| g.active = BitVec.allOnes 32)
      let s := if last then s.endBarge g.core g.slot else s
      s.threadsExit g.b lanes

/-! ## The remaining words of class 12 -/

/-- NOP (R243). -/
def execNop (s : State) : Host.Outcome State Fault Refusal := issueWord bareShape s fun g s => g.finish g.b s

/-- SLEEP (R243). -/
def execSleep (i : BitVec 8) (s : State) : Host.Outcome State Fault Refusal :=
  issueWord immShape s fun g s =>
    let n := (g.imm i false).toNat
    if g.active = 0 || n = 0 then g.finish g.b s
    else
      ((g.finish { g.b with blocked := true } s).postAt (s.now + 1 + max n g.pre.stall) .sleepEnd [g.core, g.slot])

/-- A sleep, or another wait of a fixed end, is over: the barge is eligible again (R243, R318). -/
def execSleepEnd (s : State) : Host.Outcome State Fault Refusal :=
  done (s.onBarge (s.arg 0) (s.arg 1) fun b =>
    { b with blocked := false, readyAt := max b.readyAt s.now, eligibleSince := s.now, wait := .none })

/-- YIELD (R243, R376). -/
def execYield (s : State) : Host.Outcome State Fault Refusal :=
  issueWord bareShape s fun g s =>
    if g.active = 0 then g.finish g.b s
    else (g.finish { g.b with yieldMarks := g.b.yieldMarks ||| g.group } s).onBarge g.core g.slot fun b =>
      { b with yieldPending := true }

end Sys2Proof.Machine
end

