-- ==== Sys2Proof/Machine/Agent.lean ====
section
/-!
DEFINITION. Accesses of the engines and of the hub through a context's translation (R165, R387, R372): checked as R96
checks a barge's, read and written at the home.
-/
namespace Sys2Proof.Machine
open Sys2Proof

/-- Who makes such an access: the core or cluster whose second-level TLB translates for it, the context, the label and
the chunk slot of its task. -/
structure Agent where
  core : Nat
  ctx : Nat
  label : BitVec 3 := 0
  chunk : Option Nat := none
  /-- Its place at a column's arbiter; none for that of its core (R113). -/
  rank : Option Nat := none

/-- A 56-bit virtual address as the canonical one it stands for (R75). -/
def wide56 (x : Nat) : Nat := if x.testBit 55 then x % 2 ^ 56 + 2 ^ 64 - 2 ^ 56 else x % 2 ^ 56

/-- A range cut at 64-KiB pages: address and bytes. -/
def pageRuns (va n : Nat) : List (Nat × Nat) :=
  if n = 0 then []
  else (List.range ((va + n - 1) / 65536 + 1 - va / 65536)).map fun k =>
    let lo := max va (65536 * (va / 65536 + k))
    (lo, min (va + n) (65536 * (va / 65536 + k) + 65536) - lo)

/-- The access as the checks of R96 see it. -/
def Agent.flight (a : Agent) (write : Bool) (accs : List LaneAcc) : Flight :=
  { core := a.core, slot := ghost 0, ctx := a.ctx, entry := { words := [] }, kind := if write then .store true else .homeLoad false,
    label := a.label, chunk := a.chunk, write, accs }

/-- The first check of R96 that an access of one run through a leaf fails. -/
def State.agentCause (s : State) (a : Agent) (va n : Nat) (write : Bool) (l : Leaf) : Option (BitVec 8) :=
  let acc : LaneAcc := { lane := 0, va, size := n, leaf := some l }
  s.laneCause (a.flight write [acc]) acc

/-- The leaf for one run, or its cause with the address. -/
def State.agentLeaf (s : State) (a : Agent) (va n : Nat) (write : Bool) : Except (BitVec 8 × Nat) Leaf :=
  if !canonical va then .error (0x41, va)
  else
    match s.walkPage a.ctx (vpnOf va) with
    | .error c => .error (c, va)
    | .ok l =>
      match s.agentCause a va n write l with
      | some c => .error (c, va)
      | none => .ok l

/-- The leaves for a range, in address order, or the first cause. -/
def State.agentLeaves (s : State) (a : Agent) (write : Bool) :
    List (Nat × Nat) → Except (BitVec 8 × Nat) (List (Nat × Nat × Leaf))
  | [] => .ok []
  | (va, n) :: r =>
    match s.agentLeaf a va n write with
    | .error e => .error e
    | .ok l =>
      match s.agentLeaves a write r with
      | .error e => .error e
      | .ok ls => .ok ((va, n, l) :: ls)

/-- Read a range at the home (R165), after the writes of its lines that are under way there (R103); poison is POISON_READ. -/
def State.agentRead (s : State) (a : Agent) (va n : Nat) : Except (BitVec 8 × Nat) (List Byte) :=
  match s.agentLeaves a false (pageRuns va n) with
  | .error e => .error e
  | .ok ls =>
    let s := s.settledAt (ls.flatMap fun p => (p.2.2.lines p.1 p.2.1).map s.redirectLine)
    match ls.find? fun p => (p.2.2.lines p.1 p.2.1).any (s.poisoned (p.2.2.who a.ctx a.label a.chunk))
        || s.scratchPoison (p.2.2.physical p.1 p.2.1) with
    | some p => .error (0x4A, p.1)
    | none => .ok ((ls.map fun p => s.readView (p.2.2.who a.ctx a.label a.chunk) p.2.2 p.1 p.2.1).flatten)

/-- A line passes the stacked cache of its home for such an access: it has a transfer on that column's bus (R113), and where it
misses a GDDR command (R368), and fills. -/
def State.agentLine (s : State) (a : Agent) (w : Who) (cp : BitVec 2) (x : Nat) : State :=
  let x := s.redirectLine x
  let s := s.transfer a.core (homeColumn s x) a.rank
  if inAperture x then s
  else (if s.homeHit w x || bridged x then s else s.backToGddr (homeTower (x * 128)) x).atHome w x cp

/-- What a read of a range takes of the buses, the channels and the stacked caches. -/
def State.fetches (s : State) (a : Agent) (va n : Nat) : State :=
  match s.agentLeaves a false (pageRuns va n) with
  | .error _ => s
  | .ok ls => ls.foldl (fun s p => (p.2.2.lines p.1 p.2.1).foldl (fun s x =>
      s.agentLine a (p.2.2.who a.ctx a.label a.chunk) p.2.2.cp x) s) s

/-- Must a write of a line go to its home as a write of its own: for other sharers' invalidations, the host's answer, a write
before it (R103, R105), its filter set (R108), or a scratchpad's write buffer (R125)? -/
def State.writeWaits (s : State) (x : Nat) : Bool :=
  inAperture x || (s.line x).host || decide ((s.line x).shr &&& ~~~(1#4 <<< homeTower (x * 128)) ≠ 0) || s.setTaken x
    || s.txns.any fun t => decide (1 ≤ t.2.stage ∧ t.2.stage ≤ 4) && (s.writeLines t.2).contains x

/-- A write by the hub or by fixed-function hardware, performed at the home: at once, or where it must wait as a write that
goes through the steps of its lines' home (R103, R105). -/
def State.homeStore (s : State) (a : Agent) (l : Leaf) (cells : List (Nat × Byte)) : State :=
  let xs := (cells.flatMap fun c => l.lines c.1 1).eraseDups
  -- a unit of a format page may lie in several lines: it is written whole
  let groups := if l.fmt = 0 then xs.map fun x => ([x], cells.filter fun c => decide (l.line c.1 = x)) else [(xs, cells)]
  groups.foldl (fun s (p : List Nat × List (Nat × Byte)) =>
    let (ys, mine) := p
    let x := ys.headD 0
    let home := homeTower (x * 128)
    if (ys.map s.redirectLine).any s.writeWaits then
      let t : Txn := { kind := .write, core := 48 * home, column := homeColumn s x, ctx := a.ctx, label := a.label,
                       chunk := a.chunk, rank := some (Txn.place { kind := .transfer, core := a.core, column := homeColumn s x, rank := a.rank }), leaf := l, va := (mine.map (·.1)).headD 0, line := x, also := ys.drop 1, bytes := mine }
      (s.sendTxn t s.now).2
    else (ys.foldl (fun s y => s.agentLine a (l.who a.ctx a.label a.chunk) l.cp y) s).writeView (l.who a.ctx a.label a.chunk) l mine) s

/-- Write a range at the home: runs in address order up to the first that faults (R165, R167). -/
def State.agentWrite (s : State) (a : Agent) (va : Nat) (bytes : List Byte) : State × Option (BitVec 8 × Nat) :=
  (pageRuns va bytes.length).foldl (fun (acc : State × Option (BitVec 8 × Nat)) r =>
    match acc.2 with
    | some e => (acc.1, some e)
    | none =>
      match acc.1.agentLeaf a r.1 r.2 true with
      | .error e => (acc.1, some e)
      | .ok l =>
        let cells := (List.range r.2).map fun k => (r.1 + k, bytes.getD (r.1 - va + k) 0)
        let s := acc.1.sign a.core a.chunk a.ctx true ((l.lines r.1 r.2))
        (s.homeStore a l cells, none)) (s, none)

/-- A dword that the hub reads through a context; none where it cannot. -/
def State.agentDword (s : State) (ctx va : Nat) : Option Dword :=
  match s.agentRead { core := 0, ctx } va 8 with
  | .ok bs => some (BitVec.ofNat 64 (leNat bs))
  | .error _ => none

/-- Is a range held by a migration that has locked its frame (R94)? -/
def State.agentHeld (s : State) (a : Agent) (va n : Nat) : Bool :=
  match s.agentLeaves a true (pageRuns va n) with
  | .error _ => false
  | .ok ls => ls.any fun p => (p.2.2.lines p.1 p.2.1).any fun x => (s.lockedFrame x).isSome

/-- Cycles an LDB from a core to the home of a range's first line takes (R193). -/
def State.agentLatency (s : State) (a : Agent) (va : Nat) : Nat :=
  match s.agentLeaf a va 1 false with
  | .error _ => 90
  | .ok l =>
    let x := s.redirectLine (l.line va)
    let wait := if inAperture x then 0 else s.bankWait (homeColumn s x) x s.now
    (if s.homeHit (l.who a.ctx a.label a.chunk) x then 90 + homePath s a.core x else 460) + wait

/-- Cycles a written-through store from a core to the home of a range's first line takes to be acknowledged (R306). -/
def State.agentAck (s : State) (a : Agent) (va : Nat) : Nat :=
  match s.agentLeaf a va 1 false with
  | .error _ => 60
  | .ok l => 60 + homePath s a.core (l.line va)

end Sys2Proof.Machine
end

