-- ==== Sys2Proof/Machine/Nodes.lean ====
section
/-!
DEFINITION. Nodes of the wharf and the units they run as: readiness and signals (R365, R366, R373), cancellation,
stopping a unit and relaunching it (R398, R399), settling (R153).
-/
namespace Sys2Proof.Machine
open Sys2Proof

/-! ## Signals -/

/-- The completion value of a cancelled task (R373). -/
def cancelledValue : Dword := 0xFFFFFFFFFFFFFFFE
/-- The completion value of a killed task (R373). -/
def killedValue : Dword := 0xFFFFFFFFFFFFFFFF

/-- Physical place of a virtual address, where it translates. -/
def State.physOf (s : State) (ctx va : Nat) : Option Nat :=
  match s.agentLeaf { core := 0, ctx } va 1 false with
  | .ok l => some (((l.physical va 1).headD 0))
  | .error _ => none

/-- A label is live: reach 0 always is. -/
def Context.live (c : Context) (l : BitVec 3) : Bool :=
  l == 0 || ((c.labels.look l.toNat).getD {}).state == .live

/-- A node is cancelled: it places nothing more, and its signal is written once none of its workgroups runs (R373). -/
def State.cancelNode (s : State) (id : Nat) : State :=
  match s.nodes.look id with
  | none => s
  | some n =>
    if n.cancelled || n.state = .done then s
    -- one that the wharf still checks is dropped, or goes on as a cancelled one, once it has been (R363)
    else if n.state = .checking then s.onNode id fun n => { n with cancelled := true }
    else (s.onNode id fun n => { n with cancelled := true, state := if n.state = .placed then .placed else .waiting }).post 0
      .taskComplete [id]

/-- A node becomes ready: its waiting counts from this hub cycle, and its placement is chosen four core cycles later
(R367, R374). -/
def State.makeReady (s : State) (id : Nat) : State :=
  let s := s.onNode id fun n => { n with state := .ready, readySince := hubCycle s.now, readyAt := s.now + 4 }
  [0, 1].foldl (fun s p => s.post 4 .wharfDispatch [p]) s

/-- A node whose predecessors are satisfied becomes ready, is held for its label's commit, or is cancelled where its
label is not live (R365, R366). DEDUCED (log 105): one with HOLD whose label is not live waits for its next commit point. -/
def State.checkReady (s : State) (id : Nat) : State :=
  match s.nodes.look id with
  | none => s
  | some n =>
    if n.state ≠ .waiting || n.cancelled || !(n.predsMet.all fun m => m) then s
    else if n.hold && n.reach ≠ 0 then s.onNode id fun n => { n with state := .held }
    else if (s.ctx n.ctx).live n.reach then
      s.makeReady id
    else s.cancelNode id

/-- The wharf sees a completion write or a SIGNAL to a word: predecessors that name it are compared, and the cancelled
and killed values cancel their nodes (R365). -/
def State.signalSeen (s : State) (pa : Nat) (value : Dword) : State :=
  s.nodes.foldl (fun s p =>
    let n := p.2
    if n.state ≠ .checking && n.state ≠ .waiting && n.state ≠ .held then s
    else
      let hit := n.preds.map fun va => decide (va ≠ 0) && decide (s.physOf n.ctx (wide56 va) = some pa)
      if !(hit.any fun m => m) then s
      else if value = cancelledValue || value = killedValue then s.cancelNode p.1
      else
        let met := (n.predsMet.zip hit).map fun q => if q.2 then decide (value = n.waitVal.setWidth 64) else q.1
        (s.onNode p.1 fun n => { n with predsMet := met }).checkReady p.1) s

/-- Write a completion value, zero address for none; the wharf sees it (R365, R373). A word that cannot be written is
left. -/
def State.writeSignal (s : State) (ctx addr : Nat) (value : Dword) : State :=
  if addr = 0 then s
  else
    let pa := s.physOf ctx (wide56 addr)
    let (s, e) := s.agentWrite { core := 0, ctx, rank := some hubRank } (wide56 addr) (leBytes 8 value.toNat)
    match e, pa with
    | none, some pa => s.signalSeen pa value
    | _, _ => s

/-! ## Draws -/

/-- A draw leaves the order of draws: setup, the windows and the pixels not yet placed lose what is of it, and its
pixels are rejected, so that what waited for them goes on (R288, R294, R296). -/
def State.dismissDraw (s : State) (d : Nat) : State :=
  let mine (code : Nat) : Bool := decide (code % 2 ^ 32 = d)
  let clean (g : GfxTower) : GfxTower :=
    { g with
      setup := g.setup.filter fun e => decide (e.2.draw ≠ d)
      draw := if g.draw = some d then none else g.draw
      window := g.window.filter fun e => decide (e.2.draw ≠ d)
      quads := g.quads.filter fun q => decide (q.2.1 ≠ d)
      openBarge := if g.openDraw = d then [] else g.openBarge
      closed := g.closed.filter fun q => decide (q.1 ≠ d)
      pendingPix := (g.pendingPix.mapVals fun l => l.filter fun c => !mine c).filter fun q => !q.2.isEmpty
      retires := g.retires.filter fun r => decide (r.2.2.1 ≠ d)
      bins := g.bins.filter fun b => decide (b ≠ d) }
  let s := { s with draws := (match s.draws.look d with
                      | some x => s.draws.put d { x with dropped := true }
                      | none => s.draws), gfx := s.gfx.mapVals clean }
  [0, 1, 2, 3].foldl (fun s t =>
    let s := ((s.post 0 .windowRelease [t]).post 0 .earlyZTest [t]).post 0 .pixelBargeClose [t]
    (s.gfxTower t).retires.foldl (fun s r => s.postAt (max s.now r.2.1) .pixelRetire [t, r.1]) s) s

/-- The same, and nothing of it is kept. -/
def State.dropDraw (s : State) (d : Nat) : State :=
  let s := s.dismissDraw d
  { s with draws := s.draws.cut d }

/-! ## Settling -/

/-- Where a sweep comes upon a version: its column and set, or its set of the directory under the number after the columns'
(R153). -/
def State.sweepPlace (s : State) (v : Version) : Nat × Nat :=
  match v.poolSlot, columnOf s (homeTower (v.line * 128)) v.line with
  | none, some n => (n, setOf s n v.line)
  | _, _ => (192, dirSet v.line v.ctx v.label)

/-- Start the sweep of a label, or of a chunk slot under the number 8 + slot: a set in each memory-layer cycle in every
column, and a set of the directory in each hub cycle, with 16 more for each entry that is written home (R153). -/
def State.settleLater (s : State) (ctx code : Nat) : State :=
  let c := s.ctx ctx
  let mine := s.versions.filter fun v => decide (v.ctx = ctx)
    && (if 8 ≤ code then v.slot == some (code - 8) else decide (v.label.toNat = code))
  let home : Bool := if 8 ≤ code then
      match c.chunk (code - 8) with
      | .committed _ => true
      | _ => false
    else ((c.labels.look code).getD {}).state == .committed
  let start := layerCycle s.now
  let hub := hubCycle s.now
  let places := (mine.map s.sweepPlace).eraseDups
  let pooled := (mine.filter fun v => v.poolSlot.isSome).map s.sweepPlace
  -- the directory's walk has spent 16 cycles on each entry of a set up to this one
  let walk (set : Nat) : Nat := hub + set + if home then 16 * (pooled.filter fun p => decide (p.2 ≤ set)).length else 0
  let s := places.foldl (fun s p =>
    s.postAt (if p.1 < 192 then ofLayerCycle (start + p.2) else ofHubCycle (walk p.2)) .settlingComplete [ctx, code, start, p.1, p.2]) s
  let sets := (List.range 192).foldl (fun m n => max m (cacheSets s n)) 0
  s.postAt (max (ofLayerCycle (start + sets)) (ofHubCycle (walk 8192))) .settlingComplete [ctx, code, start]

/-- A chunk slot becomes dead (R154, R342): its lines are found no more, and its signatures are cleared. -/
def State.killSlot (s : State) (ctx sl : Nat) : State :=
  let c := s.ctx ctx
  let s := s.setCtx ctx { c with chunks := c.chunks.put sl .dead }
  let clear (k : Core) : Core :=
    if k.sigCtx.look sl = some ctx then
      { k with sigRead := k.sigRead.cut sl, sigWrite := k.sigWrite.cut sl, sigCtx := k.sigCtx.cut sl }
    else k
  ({ s with cores := s.cores.mapVals clear }).settleLater ctx (8 + sl)

/-! ## Stopping -/

/-- A barge stops for good without a frame: its reduction entries and MMAs are discarded, and the writes it has issued
go on; MMAs of other workgroups move up (R398, R322, R271). -/
def State.stopBarge (s : State) (core slot : Nat) : State :=
  let s := (s.takeEntries core fun e => decide (e.barge = slot)).2
  let c := s.core core
  let wg := (s.barge core slot).map fun (b : Barge) => b.wg
  ((s.setCore core { c with mmas := c.mmas.filter fun m => decide (wg ≠ some m.wg) }).wakeMmas core).freeSlot core slot

/-- Basins whose slot holds no barge any more are gone. -/
def State.dropBasins (s : State) : State :=
  let keep (t : Tab Basin) : Tab Basin := t.filter fun p => (s.barge p.2.core p.2.slot).isSome
  { s with cores := s.cores.mapVals fun c => { c with basins := keep c.basins }
           clusters := s.clusters.mapVals fun c => { c with basins := keep c.basins } }

/-- What pre-emption has saved of some workgroups is discarded with the frame slots of their barges (R398). -/
def State.dropSaves (s : State) (p : SaveRec → Bool) : State :=
  let gone := s.saves.filter p
  let s := { s with saves := s.saves.filter fun (r : SaveRec) => !p r }
  gone.foldl (fun s r => r.barges.foldl (fun s b =>
    match b.2.frameSlot with
    | some k => s.freeFrame b.2.ctx k
    | none => s) s) s

/-- Stop barges, and forget the workgroups of some list. -/
def State.stopUnit (s : State) (wgs : List Nat) (p : Barge → Bool) : State :=
  let s := s.dropSaves fun r => wgs.contains r.id
  let s := (s.barges.filter fun q => p q.2 || wgs.contains q.2.wg && !q.2.reformed).foldl
    (fun s q => s.stopBarge (q.1 / 512) (q.1 % 512)) s
  let s := s.dropBasins
  wgs.foldl (fun s w =>
    match s.wgs.look w with
    | none => s
    | some x =>
      let s := ({ s with wgs := s.wgs.cut w }).reportFree x.core { until_ := 0, base := x.localBase, size := x.localSize }
      let s := s.kickFreq (clusterOf x.core)
      let s := match x.gang with
        | some g => { s with gangs := s.gangs.cut g }
        | none => s
      if (s.running x.node).any fun v => decide (v.2.core = x.core) then s else s.leaveCore x.core x.node) s

/-- The set of task-wide barriers of a task is free (R345). -/
def State.freeTaskBarriers (s : State) (node : Nat) : State :=
  match (s.nodes.look node).bind (·.taskSet) with
  | none => s
  | some k =>
    (s.setHub { s.hub with taskSets := s.hub.taskSets.filter fun x => decide (x ≠ k) }).onNode node fun n => { n with taskSet := none }

/-- Stop a task whole: every barge, workgroup and basin of the node, and its barriers. -/
def State.stopTask (s : State) (node : Nat) : State :=
  let wgs := (s.wgs.filter fun w => decide (w.2.node = node)).map (·.1)
  let s := s.dropSaves fun r => decide (r.wg.node = node)
  ((s.stopUnit wgs fun b => decide (b.node = node)).freeTaskBarriers node).onNode node fun n => { n with ended := 0, barriers := [] }

/-- The workgroups of the relaunch unit of a workgroup: the task where it is placed whole or has reformed, else the gang,
else the workgroup (R398). -/
def State.unitOf (s : State) (wg : Nat) : List Nat :=
  match s.wgs.look wg with
  | none => []
  | some w =>
    match s.nodes.look w.node with
    | none => [wg]
    | some n =>
      if n.coloc || n.reformed then (s.wgs.filter fun v => decide (v.2.node = w.node)).map (·.1)
      else
        match w.gang.bind s.gangs.look with
        | some g => g.members
        | none => [wg]

/-- End the relaunch unit of a workgroup: relaunched where the kernel is idempotent and its limit allows, otherwise the
context is killed with the cause (R398, R399). -/
def State.endUnit (s : State) (wg : Nat) (cause : BitVec 8) : State :=
  match s.wgs.look wg with
  | none => s
  | some w =>
    match s.nodes.look w.node with
    | none => s
    | some n =>
      let whole := n.coloc || n.reformed
      let times := if whole then n.relaunched else w.relaunches
      let s := if whole then s.stopTask w.node else s.stopUnit (s.unitOf wg) fun _ => false
      if n.kernel.idem && !n.gfx && decide (times < n.retry) then
        let per := n.kernel.gang.getD 1
        let s := s.onNode w.node fun n =>
          if whole then { n with nextUnit := 0, again := [], relaunched := times + 1 }
          else { n with again := n.again ++ [(w.index / per, times + 1)] }
        s.makeReady w.node
      else s.post 0 .ctxKill [w.ctx, 0, cause.toNat]

/-- Enter a record in FAULT_LOG; the 257th is lost (Table 18.8). -/
def State.logFault (s : State) (r : FaultRecord) : State :=
  if s.hub.faultLog.length < 256 then s.setHub { s.hub with faultLog := s.hub.faultLog ++ [r] }
  else s.setHub { s.hub with faultOvf := true }

end Sys2Proof.Machine
end

