-- ==== Sys2Proof/Machine/LoadStore.lean ====
section
/-!
DEFINITION. Classes 13 to 16: loads, stores, the compacting store, atomics, reductions, MXACC, and the synchronising
loads, stores and fences (R43 to R45, R122, R125, R152, R190 to R196, R303 to R320, R328 to R333).
-/
namespace Sys2Proof.Machine
open Sys2Proof

/-! ## Shared parts of a memory word -/

/-- A barge that must not access memory now: a fence or acquire before it is not complete (R333), or its label is held
for a version event (R147). -/
def memHolds (s : State) (core slot : Nat) : Wait :=
  match s.barge core slot with
  | none => .none
  | some b =>
    let l := ((s.ctx b.ctx).labels.look b.tag.toNat).getD {}
    if !b.memWait.isEmpty || decide (s.now < b.memHold) || (b.tag ≠ 0 && l.held) then .other else .none

/-- The shape of a memory word that names no register. -/
def memShape : Shape := { holds := memHolds }

/-- Is a barge the urgent one of its workgroup in its quarter: the fewest issues in the last 256 cycles, ties to the
lowest slot (R375)? -/
def State.urgent (s : State) (core slot : Nat) : Bool :=
  match s.barge core slot with
  | none => false
  | some b =>
    let count (x : Barge) : Nat := (x.history.filter fun t => decide (s.now < t + 256)).length
    s.barges.all fun p =>
      if p.1 / 512 = core && decide (quarterOf (p.1 % 512) = quarterOf slot) && decide (p.2.wg = b.wg) && p.1 % 512 ≠ slot then
        decide (count b < count p.2 ∨ count b = count p.2 ∧ slot < p.1 % 512)
      else true

/-- Bytes of an access: the mnemonic's width, or the narrow type of T1 (R43). -/
def Pre.accessBytes (p : Pre) (bytes : Nat) : Nat :=
  if p.t1 = 1 || p.t1 = 5 then 1 else if p.t1 = 2 || p.t1 = 6 then 2 else bytes

/-- The types T1 may narrow a word of this width to (R43). -/
def narrowTypes (bytes : Nat) : List Nat := if bytes = 4 then [0, 1, 2, 5, 6] else [0]

/-- The index of a memory-format word. DESIGN CHOICE: the word's one policy bit covers its index (R26) and XOPD carries a
policy bit of its own for it (R35); either asks that an empty index traps (log 47). -/
def indexSrc (p : Pre) (policy : BitVec 1) : List Src :=
  if p.xopd.isSome then [{ spec := p.third, policy := policy == 1#1 || p.thirdPolicy }] else []

/-- Base and index operands, a global base of 64 bits (R29). -/
def memSrcs (p : Pre) (b : BitVec 7) (policy : BitVec 1) (wide : Bool) : List Src :=
  regs b (if wide then 2 else 1) policy :: indexSrc p policy

/-- The offset of a memory-format word (R28). -/
def Go.offset (g : Go) (o : BitVec 8) (size : Nat) : Dword :=
  if g.pre.ximm.isSome then (g.pre.imm32 o).signExtend 64 else o.signExtend 64 * BitVec.ofNat 64 size

/-- The address of a lane (R29): operand k is the base, the next one the index where there is one; a store's data
register stands before them (R388). -/
def Go.address (g : Go) (k : Nat) (wide : Bool) (offset : Dword) (lane : Nat) : Nat :=
  let index : Word := if g.pre.xopd.isSome then (g.val (k + 1)).w32 lane else 0
  if wide then ((g.val k).w64 lane + index.setWidth 64 + offset).toNat
  else ((g.val k).w32 lane + index + offset.setWidth 32).toNat

/-- Bytes of a data operand in a lane. -/
def dataBytes (v : Val) (lane n : Nat) : List Byte :=
  leBytes n ((v.word lane 0).toNat + (v.word lane 1).toNat * 2 ^ 32 + (v.word lane 2).toNat * 2 ^ 64
    + (v.word lane 3).toNat * 2 ^ 96)

/-- A flight of this word, its access parameters still to be set. -/
def Go.flight (g : Go) (s : State) (kind : MemKind) (accs : List LaneAcc) : Flight :=
  { core := g.core, slot := g.slot, ctx := g.b.ctx, entry := g.entry false, kind, label := g.label,
    chunk := g.b.chunkSlot, accs, issued := s.now, words := 0, bonus := s.urgent g.core g.slot }

/-- Do the active lanes form different addresses? -/
def Go.addressesDiffer (g : Go) (f : Nat → Nat) : Bool :=
  match lowestLane g.active with
  | none => false
  | some i => (lanesIn g.active).any fun j => decide (f j ≠ f i)

/-- The word issues and its global access goes out. -/
def Go.launch (g : Go) (b : Barge) (f : Flight) (s : State) : State :=
  let (id, s) := s.fresh
  (g.finish b (s.setFlight id f)).pump g.core

/-! ## Local and pooled addresses -/

/-- The local range a lane's addresses refer to: its workgroup's, or in a reformed barge its home workgroup's where
that is resident on the core (R188, R248). -/
def State.localRange (s : State) (core : Nat) (b : Barge) (lane : Nat) : Option (Nat × Nat) :=
  let wg := if b.reformed then b.laneWg.getD lane b.wg else b.wg
  match s.wgs.look wg with
  | some w => if w.core = core then some (w.localBase, w.localSize) else none
  | none => none

/-- The physical local address of a lane's access, or its cause (R189, R248). -/
def State.localPlace (s : State) (core : Nat) (b : Barge) (lane a w : Nat) : Except (BitVec 8) Nat :=
  match s.localRange core b lane with
  | none => .error 0x0B
  | some (base, size) =>
    if a % w ≠ 0 then .error 0x51 else if size < a + w then .error 0x50 else .ok (base + a)

/-- The place of each active lane's access, or the cause of the lowest failing lane with all failing lanes. -/
def placeLanes (active : Mask) (addr : Nat → Nat) (place : Nat → Nat → Except (BitVec 8) Nat) :
    Except Cause (List (Nat × Nat)) :=
  let rs := (lanesIn active).map fun i => (i, place i (addr i))
  let bad := rs.filterMap fun r => match r.2 with
    | .error c => some (r.1, c)
    | .ok _ => none
  match bad with
  | (i, c) :: _ =>
    .error { cause := c, lanes := maskOf fun j => bad.any fun p => decide (p.1 = j), va := BitVec.ofNat 64 (addr i) }
  | [] => .ok (rs.filterMap fun r => match r.2 with
    | .ok x => some (r.1, x)
    | .error _ => none)

/-- The aperture address that a pooled address names (R120, R121). -/
def State.pooledAt (s : State) (core a w : Nat) : Except (BitVec 8) Nat :=
  (pooledPlace s core a w).map fun p => aperturePa p.1 p.2

/-- Where a near access lies: local memory or the pooled scratchpad. -/
def State.nearPlace (s : State) (g : Go) (space : Space) (w lane a : Nat) : Except (BitVec 8) Nat :=
  match space with
  | .loc => s.localPlace g.core g.b lane a w
  | _ => s.pooledAt g.core a w

/-- A core's local memory as a barge reads it: under its own issued stores and atomics, numbered below some word, that are still to
be performed (R192, R268). -/
def State.ownLocal (s : State) (core slot before : Nat) : Sparse 8 :=
  let c := s.core core
  s.flights.foldl (fun m f =>
    if before ≤ f.1 || f.2.core ≠ core || f.2.slot ≠ slot then m
    else
      match f.2.kind with
      | .loc true => putLanes f.2.accs m
      | .atom op ty _ => if f.2.space == .loc && f.2.accs.all (·.got.isEmpty) then (localAtomic c.localPoison op ty f.2.accs m).2 else m
      | _ => m) c.localMem

/-- What a barge reads of its core's local memory (R192). -/
def State.localBytes (s : State) (core slot a n : Nat) : List Byte :=
  let m := s.ownLocal core slot s.nextId
  (List.range n).map fun k => m.get (a + k)

/-- A word that reads its packet or card in local memory waits as a memory word does, and until no earlier atomic of the
barge on local memory is to be performed (R192). -/
def cardHolds (s : State) (core slot : Nat) : Wait :=
  let atomics := s.flights.any fun f => decide (f.2.core = core ∧ f.2.slot = slot) && f.2.space == .loc
    && (match f.2.kind with
        | .atom _ _ _ => true
        | _ => false)
  if atomics then .other else memHolds s core slot

/-! ## Loads (R190 to R194, R122, R152) -/

/-- A load's flight: what its fill writes. -/
def Flight.filling (f : Flight) (d : BitVec 7) (bytes width : Nat) (signed : Bool) : Flight :=
  { f with dst := d, words := max 1 (bytes / 4), width, signed }

/-- The address of a lane of a global load (R29, R43). -/
def Go.loadAddress (g : Go) (bytes : Nat) (o : BitVec 8) : Nat → Nat := g.address 0 true (g.offset o (g.pre.accessBytes bytes))

/-- What the checks and the scoreboard see of LD and LDB, and without the cache hint of LDV (R152, R190, R191). -/
def shapeGlobalLoad (kind : MemKind) (bytes : Nat) (d b : BitVec 7) (o : BitVec 8) (p : BitVec 1) : Shape :=
  { imm := true, mod := true, extra := .third,
      modOk := { t1 := narrowTypes bytes, hint := if kind = .homeLoad true then [0] else [0, 1, 2, 3], reach := true },
      srcs := fun x => memSrcs x b p true, dsts := fun _ => [{ spec := d, words := bytes / 4 }],
      nonUniform := fun g => isScalar d && g.addressesDiffer (g.loadAddress bytes o),
      captured := true, holds := memHolds, access := some false }

/-- A global load (R190, R191). -/
def globalLoad (kind : MemKind) (bytes : Nat) (d b : BitVec 7) (o : BitVec 8) (p : BitVec 1) (s : State) :
    Host.Outcome State Fault Refusal :=
  issueWord (shapeGlobalLoad kind bytes d b o p) s
    fun g s =>
      let w := g.pre.accessBytes bytes
      let addr := g.loadAddress bytes o
      if g.active = 0 then g.finish g.b s
      else
        let accs := (lanesIn g.active).map fun i => ({ lane := i, va := addr i, size := w } : LaneAcc)
        let f := (g.flight s kind accs).filling d bytes w (g.pre.t1 == 1 || g.pre.t1 == 2)
        g.launch (g.b.markEmpty g.active { spec := d, words := bytes / 4 })
          { f with hint := g.pre.hint, alignTo := if bytes = 4 then 1 else 4 } s

/-- LDV reads the version of a label that is 0 or live (R152). -/
def labelLive (s : State) (g : Go) : Bool :=
  decide (g.label = 0) || ((((s.ctx g.b.ctx).labels.look g.label.toNat).getD {}).state == .live)

/-- LDV (R152). -/
def versionLoad (bytes : Nat) (d b : BitVec 7) (o : BitVec 8) (p : BitVec 1) (s : State) :
    Host.Outcome State Fault Refusal :=
  issueWord (shapeGlobalLoad (.homeLoad true) bytes d b o p) s
    fun g s =>
      let w := g.pre.accessBytes bytes
      let addr := g.loadAddress bytes o
      if g.active = 0 then g.finish g.b s
      else if !labelLive s g then g.trap { cause := 0x92 } s
      else
        let accs := (lanesIn g.active).map fun i => ({ lane := i, va := addr i, size := w } : LaneAcc)
        let f := (g.flight s (.homeLoad true) accs).filling d bytes w (g.pre.t1 == 1 || g.pre.t1 == 2)
        g.launch (g.b.markEmpty g.active { spec := d, words := bytes / 4 })
          { f with alignTo := if bytes = 4 then 1 else 4 } s

/-- What the checks and the scoreboard see of LDL and LDP (R122, R189, R190). -/
def shapeNearLoad (bytes : Nat) (d b : BitVec 7) (p : BitVec 1) : Shape :=
  { imm := true, mod := true, extra := .third, modOk := { t1 := narrowTypes bytes },
      srcs := fun x => memSrcs x b p false, dsts := fun _ => [{ spec := d, words := bytes / 4 }],
      captured := true, holds := memHolds }

/-- A load from local memory or the pooled scratchpad (R122, R189, R190). -/
def nearLoad (space : Space) (bytes : Nat) (d b : BitVec 7) (o : BitVec 8) (p : BitVec 1) (s : State) :
    Host.Outcome State Fault Refusal :=
  issueWord (shapeNearLoad bytes d b p) s
    fun g s =>
      let w := g.pre.accessBytes bytes
      let addr := g.address 0 false (g.offset o w)
      if isScalar d && g.addressesDiffer addr then g.trap { cause := 0x06 } s
      else if g.active = 0 then g.finish g.b s
      else
        match placeLanes g.active addr (s.nearPlace g space w) with
        | .error c => g.trap c s
        | .ok places =>
          let accs := places.map fun q => ({ lane := q.1, va := q.2, size := w } : LaneAcc)
          let kind := if space = .loc then MemKind.loc false else .pool false
          let f := (g.flight s kind accs).filling d bytes w (g.pre.t1 == 1 || g.pre.t1 == 2)
          let f := { f with space, translating := false }
          let (id, s) := s.fresh
          (g.finish (g.b.markEmpty g.active { spec := d, words := bytes / 4 }) (s.setFlight id f)).sendNear id f

/-- LD.b32 (R190). -/
def execLdB32 (d b : BitVec 7) (o : BitVec 8) (p : BitVec 1) (s : State) : Host.Outcome State Fault Refusal :=
  globalLoad .load 4 d b o p s
/-- LD.b64 (R190). -/
def execLdB64 (d b : BitVec 7) (o : BitVec 8) (p : BitVec 1) (s : State) : Host.Outcome State Fault Refusal :=
  globalLoad .load 8 d b o p s
/-- LD.b128 (R190). -/
def execLdB128 (d b : BitVec 7) (o : BitVec 8) (p : BitVec 1) (s : State) : Host.Outcome State Fault Refusal :=
  globalLoad .load 16 d b o p s
/-- LDB.b32 (R190). -/
def execLdbB32 (d b : BitVec 7) (o : BitVec 8) (p : BitVec 1) (s : State) : Host.Outcome State Fault Refusal :=
  globalLoad (.homeLoad false) 4 d b o p s
/-- LDB.b64 (R190). -/
def execLdbB64 (d b : BitVec 7) (o : BitVec 8) (p : BitVec 1) (s : State) : Host.Outcome State Fault Refusal :=
  globalLoad (.homeLoad false) 8 d b o p s
/-- LDB.b128 (R190). -/
def execLdbB128 (d b : BitVec 7) (o : BitVec 8) (p : BitVec 1) (s : State) : Host.Outcome State Fault Refusal :=
  globalLoad (.homeLoad false) 16 d b o p s
/-- LDL.b32 (R190). -/
def execLdlB32 (d b : BitVec 7) (o : BitVec 8) (p : BitVec 1) (s : State) : Host.Outcome State Fault Refusal :=
  nearLoad .loc 4 d b o p s
/-- LDL.b64 (R190). -/
def execLdlB64 (d b : BitVec 7) (o : BitVec 8) (p : BitVec 1) (s : State) : Host.Outcome State Fault Refusal :=
  nearLoad .loc 8 d b o p s
/-- LDL.b128 (R190). -/
def execLdlB128 (d b : BitVec 7) (o : BitVec 8) (p : BitVec 1) (s : State) : Host.Outcome State Fault Refusal :=
  nearLoad .loc 16 d b o p s
/-- LDP.b32 (R122). -/
def execLdpB32 (d b : BitVec 7) (o : BitVec 8) (p : BitVec 1) (s : State) : Host.Outcome State Fault Refusal :=
  nearLoad .pooled 4 d b o p s
/-- LDP.b64 (R122). -/
def execLdpB64 (d b : BitVec 7) (o : BitVec 8) (p : BitVec 1) (s : State) : Host.Outcome State Fault Refusal :=
  nearLoad .pooled 8 d b o p s
/-- LDP.b128 (R122). -/
def execLdpB128 (d b : BitVec 7) (o : BitVec 8) (p : BitVec 1) (s : State) : Host.Outcome State Fault Refusal :=
  nearLoad .pooled 16 d b o p s
/-- LDV.b32 (R152). -/
def execLdvB32 (d b : BitVec 7) (o : BitVec 8) (p : BitVec 1) (s : State) : Host.Outcome State Fault Refusal :=
  versionLoad 4 d b o p s
/-- LDV.b128 (R152). -/
def execLdvB128 (d b : BitVec 7) (o : BitVec 8) (p : BitVec 1) (s : State) : Host.Outcome State Fault Refusal :=
  versionLoad 16 d b o p s

/-- What the checks and the scoreboard see of PREFETCH (R96, R195). -/
def shapePrefetch (b : BitVec 7) (p : BitVec 1) : Shape :=
  { imm := true, mod := true, extra := .third, modOk := { hint := [0, 1, 2, 3], reach := true },
      srcs := fun x => memSrcs x b p true, holds := memHolds, access := some false }

/-- PREFETCH: the sectors of the active lanes' addresses, with no trap of R96 and no register (R195). -/
def execPrefetch (b : BitVec 7) (o : BitVec 8) (p : BitVec 1) (s : State) : Host.Outcome State Fault Refusal :=
  issueWord (shapePrefetch b p) s
    fun g s =>
      if g.active = 0 then g.finish g.b s
      else
        let addr := g.address 0 true (g.offset o 4)
        let accs := (lanesIn g.active).map fun i => ({ lane := i, va := addr i, size := 1 } : LaneAcc)
        g.launch g.b { g.flight s .prefetch accs with hint := g.pre.hint, captured := false } s

/-- INVL1: every clean sector of the context leaves the core's L1 (R196), in the tag-stage cycle that the word reaches, 4
cycles after its issue. -/
def execInvl1 (s : State) : Host.Outcome State Fault Refusal :=
  issueWord memShape s fun g s => g.finish g.b (if g.active = 0 then s else s.post 4 .l1Fill [g.core, g.b.ctx, 0, 0])

/-! ## Stores (R303 to R307, R122) -/

/-- What the checks and the scoreboard see of ST (R303, R304). -/
def shapeGlobalStore (bytes : Nat) (d b : BitVec 7) (p : BitVec 1) : Shape :=
  { imm := true, mod := true, extra := .third,
      modOk := { t1 := narrowTypes bytes, hint := [0, 1, 2, 3], reach := true },
      srcs := fun x => regs d (bytes / 4) p :: memSrcs x b p true, stores := true, holds := memHolds, access := some true }

/-- A global store (R303, R304). -/
def globalStore (bytes : Nat) (d b : BitVec 7) (o : BitVec 8) (p : BitVec 1) (s : State) :
    Host.Outcome State Fault Refusal :=
  issueWord (shapeGlobalStore bytes d b p) s
    fun g s =>
      if g.active = 0 then g.finish g.b s
      else
        let w := g.pre.accessBytes bytes
        let addr := g.address 1 true (g.offset o w)
        let data := g.val 0
        let accs := (lanesIn g.active).map fun i =>
          ({ lane := i, va := addr i, size := w, data := dataBytes data i w } : LaneAcc)
        g.launch g.b { g.flight s (.store false) accs with
          hint := g.pre.hint, write := true, captured := false, alignTo := if bytes = 4 then 1 else 4 } s

/-- What the checks and the scoreboard see of STL and STP (R122, R189, R304). -/
def shapeNearStore (bytes : Nat) (d b : BitVec 7) (p : BitVec 1) : Shape :=
  { imm := true, mod := true, extra := .third, modOk := { t1 := narrowTypes bytes },
      srcs := fun x => regs d (bytes / 4) p :: memSrcs x b p false, stores := true, holds := memHolds }

/-- A store to local memory or the pooled scratchpad (R122, R189, R304). -/
def nearStore (space : Space) (bytes : Nat) (d b : BitVec 7) (o : BitVec 8) (p : BitVec 1) (s : State) :
    Host.Outcome State Fault Refusal :=
  issueWord (shapeNearStore bytes d b p) s
    fun g s =>
      if g.active = 0 then g.finish g.b s
      else
        let w := g.pre.accessBytes bytes
        let addr := g.address 1 false (g.offset o w)
        match placeLanes g.active addr (s.nearPlace g space w) with
        | .error c => g.trap c s
        | .ok places =>
          let data := g.val 0
          let accs := places.map fun q => ({ lane := q.1, va := q.2, size := w, data := dataBytes data q.1 w } : LaneAcc)
          let kind := if space = .loc then MemKind.loc true else .pool true
          let f := { g.flight s kind accs with space, translating := false, captured := false }
          let (id, s) := s.fresh
          (g.finish g.b (s.setFlight id f)).sendNear id f

/-- ST.b32 (R303). -/
def execStB32 (d b : BitVec 7) (o : BitVec 8) (p : BitVec 1) (s : State) : Host.Outcome State Fault Refusal :=
  globalStore 4 d b o p s
/-- ST.b64 (R303). -/
def execStB64 (d b : BitVec 7) (o : BitVec 8) (p : BitVec 1) (s : State) : Host.Outcome State Fault Refusal :=
  globalStore 8 d b o p s
/-- ST.b128 (R303). -/
def execStB128 (d b : BitVec 7) (o : BitVec 8) (p : BitVec 1) (s : State) : Host.Outcome State Fault Refusal :=
  globalStore 16 d b o p s
/-- STL.b32 (R303). -/
def execStlB32 (d b : BitVec 7) (o : BitVec 8) (p : BitVec 1) (s : State) : Host.Outcome State Fault Refusal :=
  nearStore .loc 4 d b o p s
/-- STL.b64 (R303). -/
def execStlB64 (d b : BitVec 7) (o : BitVec 8) (p : BitVec 1) (s : State) : Host.Outcome State Fault Refusal :=
  nearStore .loc 8 d b o p s
/-- STL.b128 (R303). -/
def execStlB128 (d b : BitVec 7) (o : BitVec 8) (p : BitVec 1) (s : State) : Host.Outcome State Fault Refusal :=
  nearStore .loc 16 d b o p s
/-- STP.b32 (R122). -/
def execStpB32 (d b : BitVec 7) (o : BitVec 8) (p : BitVec 1) (s : State) : Host.Outcome State Fault Refusal :=
  nearStore .pooled 4 d b o p s
/-- STP.b64 (R122). -/
def execStpB64 (d b : BitVec 7) (o : BitVec 8) (p : BitVec 1) (s : State) : Host.Outcome State Fault Refusal :=
  nearStore .pooled 8 d b o p s
/-- STP.b128 (R122). -/
def execStpB128 (d b : BitVec 7) (o : BitVec 8) (p : BitVec 1) (s : State) : Host.Outcome State Fault Refusal :=
  nearStore .pooled 16 d b o p s

/-- What the checks and the scoreboard see of CSTORE (R308, R309). -/
def shapeCompactStore (bytes : Nat) (d b : BitVec 7) (p : BitVec 1) : Shape :=
  { imm := true, mod := true, extra := .third, modOk := { hint := [0, 1, 2, 3], reach := true },
      payloadOk := fun x => x.xopd.isNone || isScalar x.third,
      srcs := fun x => regs d (bytes / 4) p :: memSrcs x b p true, stores := true,
      unit := fun _ => some unitXbar, holds := memHolds, access := some true }

/-- CSTORE: the active lanes' data to consecutive elements, from the progress count of a re-executed chain on (R308,
R309). -/
def compactStore (bytes : Nat) (d b : BitVec 7) (o : BitVec 8) (p : BitVec 1) (s : State) :
    Host.Outcome State Fault Refusal :=
  issueWord (shapeCompactStore bytes d b p) s
    fun g s =>
      let base := g.address 1 true (g.offset o bytes) 0
      if g.active = 0 then g.finish g.b s
      else if base % bytes ≠ 0 then
        g.trap { cause := 0x52, lanes := g.active, va := BitVec.ofNat 64 base } s
      else
        let data := g.val 0
        let accs := ((lanesIn g.active).zipIdx.map fun q =>
          ({ lane := q.1, va := (base + bytes * q.2) % 2 ^ 64, size := bytes, data := dataBytes data q.1 bytes } : LaneAcc)).drop
            g.progress
        g.launch g.b { g.flight s .cstore accs with hint := g.pre.hint, write := true, captured := false, width := bytes } s

/-- CSTORE.b32 (R308). -/
def execCstoreB32 (d b : BitVec 7) (o : BitVec 8) (p : BitVec 1) (s : State) : Host.Outcome State Fault Refusal :=
  compactStore 4 d b o p s
/-- CSTORE.b64 (R308). -/
def execCstoreB64 (d b : BitVec 7) (o : BitVec 8) (p : BitVec 1) (s : State) : Host.Outcome State Fault Refusal :=
  compactStore 8 d b o p s

/-! ## Atomics and reductions (R310 to R318) -/

/-- The type of a sub-op (R45). -/
def atomType (t : BitVec 3) : AtomTy :=
  match t.toNat with
  | 0 => .n32
  | 1 => .i32
  | 2 => .n64
  | 3 => .i64
  | 4 => .f32
  | 5 => .f16x2
  | 6 => .bf16x2
  | _ => .f64

/-- The space aux[0] of XMOD names (R310). -/
def Pre.atomLocal (p : Pre) : Bool := p.aux % 2 == 1

/-- A recording write's record before its release has taken a number: the core's SEQ (R332). -/
def State.seqRecord (s : State) (core : Nat) : Option (Nat × Nat) := some (core, (s.core core).seq.toNat)

/-- Send a word's flight after the release it performs (R331): the release first, then the flight. -/
def Go.launchReleased (g : Go) (scope : Nat) (uo : Bool) (b : Barge) (f : Flight) (s : State) : State :=
  let (rid, s) := s.startRel { core := g.core, slot := g.slot, ctx := g.b.ctx, scope, uo,
                               after := .sendFlight (s.nextId + 1) }
  let (id, s) := s.fresh
  let s := g.finish b (s.setFlight id { f with release := some rid })
  (s.relRun rid relFuel).pump g.core

/-- What the checks and the scoreboard see of an ATOM or a RED on n bytes (R310, R312). -/
def shapeAtomic (op : AtomOp) (red : Bool) (n : Nat) (d b : BitVec 7) (p : BitVec 1) : Shape :=
  { mod := true, extra := if op = .cas then .cas else .third, needOpd := decide (op = .cas),
    modOk := { reach := true, aux := [0, 1] },
    nonUniform := fun g => !red && isScalar d && decide (1 < (lanesIn g.active).length),
    fieldsOk := fun x => x.atomLocal || pairOk b,
    payloadOk := fun x => (op ≠ .cas || n = 4 || pairOk x.third),
    srcs := fun x =>
      [regs d (n / 4) p, regs b (if x.atomLocal then 1 else 2) p]
        ++ (if op = .cas then thirdSrc x (n / 4) :: (if (x.xopd.getD 0).getLsbD 0 then [fourthSrc x 1] else [])
            else if x.xopd.isSome then [thirdSrc x 1] else []),
    stores := true,
    dsts := fun _ => if red then [] else [{ spec := d, words := n / 4 }],
    captured := false, holds := memHolds, access := some true }

/-- ATOM and RED (R310, R312, R314, R315). -/
def atomic (op : AtomOp) (red : Bool) (d b : BitVec 7) (sc : BitVec 3) (r : BitVec 2) (t : BitVec 3) (p : BitVec 1)
    (s : State) : Host.Outcome State Fault Refusal :=
  let ty := atomType t
  let n := ty.bytes
  issueWord (shapeAtomic op red n d b p) s
    fun g s =>
      let near := g.pre.atomLocal
      let hasIndex := if op = .cas then (g.pre.xopd.getD 0).getLsbD 0 else g.pre.xopd.isSome
      let index (i : Nat) : Word := if hasIndex then (g.val (if op = .cas then 3 else 2)).w32 i else 0
      let addr (i : Nat) : Nat :=
        if near then ((g.val 1).w32 i + index i).toNat else ((g.val 1).w64 i + (index i).setWidth 64).toNat
      let data := g.val 0
      let cmp := g.val 2
      if g.active = 0 then g.finish g.b s
      else
        let acc (i va : Nat) : LaneAcc :=
          { lane := i, va, size := n, data := dataBytes data i n, compare := if op = .cas then dataBytes cmp i n else [] }
        let release := 2 ≤ r.toNat
        let acquire := r.toNat % 2 = 1
        let scope := if near then min 2 sc.toNat else sc.toNat
        let b' := if red then g.b else g.b.markEmpty g.active { spec := d, words := n / 4 }
        let b' := if red then b' else { b' with blocked := true }
        let base := { g.flight s (.atom op ty !red) [] with
          write := true, captured := false, alignTo := n, acquire := acquire && decide (3 ≤ scope),
          dst := d, words := if red then 0 else n / 4, width := n,
          recording := decide (3 ≤ sc.toNat) && !near && (!red || release), record := s.seqRecord g.core }
        if near then
          match placeLanes g.active addr (fun i a => s.localPlace g.core g.b i a n) with
          | .error c => g.trap c s
          | .ok places =>
            let f := { base with space := .loc, translating := false, accs := places.map fun q => acc q.1 q.2 }
            if release then g.launchReleased scope false b' f s
            else
              let (id, s) := s.fresh
              (g.finish b' (s.setFlight id f)).sendNear id f
        else
          let f := { base with accs := (lanesIn g.active).map fun i => acc i (addr i) }
          let f := if red && r.toNat = 0 then { f with kind := .red op ty, recording := false } else f
          if release then g.launchReleased scope false b' f s else g.launch b' f s

/-- ATOM.add (R310, R311). -/
def execAtomAdd (d b : BitVec 7) (sc : BitVec 3) (r : BitVec 2) (t : BitVec 3) (p : BitVec 1) (s : State) :
    Host.Outcome State Fault Refusal := atomic .add false d b sc r t p s
/-- ATOM.min (R310, R311). -/
def execAtomMin (d b : BitVec 7) (sc : BitVec 3) (r : BitVec 2) (t : BitVec 3) (p : BitVec 1) (s : State) :
    Host.Outcome State Fault Refusal := atomic .min false d b sc r t p s
/-- ATOM.max (R310, R311). -/
def execAtomMax (d b : BitVec 7) (sc : BitVec 3) (r : BitVec 2) (t : BitVec 3) (p : BitVec 1) (s : State) :
    Host.Outcome State Fault Refusal := atomic .max false d b sc r t p s
/-- ATOM.and (R310, R311). -/
def execAtomAnd (d b : BitVec 7) (sc : BitVec 3) (r : BitVec 2) (t : BitVec 3) (p : BitVec 1) (s : State) :
    Host.Outcome State Fault Refusal := atomic .and false d b sc r t p s
/-- ATOM.or (R310, R311). -/
def execAtomOr (d b : BitVec 7) (sc : BitVec 3) (r : BitVec 2) (t : BitVec 3) (p : BitVec 1) (s : State) :
    Host.Outcome State Fault Refusal := atomic .or false d b sc r t p s
/-- ATOM.xor (R310, R311). -/
def execAtomXor (d b : BitVec 7) (sc : BitVec 3) (r : BitVec 2) (t : BitVec 3) (p : BitVec 1) (s : State) :
    Host.Outcome State Fault Refusal := atomic .xor false d b sc r t p s
/-- ATOM.exch (R310, R311). -/
def execAtomExch (d b : BitVec 7) (sc : BitVec 3) (r : BitVec 2) (t : BitVec 3) (p : BitVec 1) (s : State) :
    Host.Outcome State Fault Refusal := atomic .exch false d b sc r t p s
/-- ATOM.cas (R310, R311). -/
def execAtomCas (d b : BitVec 7) (sc : BitVec 3) (r : BitVec 2) (t : BitVec 3) (p : BitVec 1) (s : State) :
    Host.Outcome State Fault Refusal := atomic .cas false d b sc r t p s
/-- RED.add (R314). -/
def execRedAdd (d b : BitVec 7) (sc : BitVec 3) (r : BitVec 2) (t : BitVec 3) (p : BitVec 1) (s : State) :
    Host.Outcome State Fault Refusal := atomic .add true d b sc r t p s
/-- RED.min (R314). -/
def execRedMin (d b : BitVec 7) (sc : BitVec 3) (r : BitVec 2) (t : BitVec 3) (p : BitVec 1) (s : State) :
    Host.Outcome State Fault Refusal := atomic .min true d b sc r t p s
/-- RED.max (R314). -/
def execRedMax (d b : BitVec 7) (sc : BitVec 3) (r : BitVec 2) (t : BitVec 3) (p : BitVec 1) (s : State) :
    Host.Outcome State Fault Refusal := atomic .max true d b sc r t p s
/-- RED.and (R314). -/
def execRedAnd (d b : BitVec 7) (sc : BitVec 3) (r : BitVec 2) (t : BitVec 3) (p : BitVec 1) (s : State) :
    Host.Outcome State Fault Refusal := atomic .and true d b sc r t p s
/-- RED.or (R314). -/
def execRedOr (d b : BitVec 7) (sc : BitVec 3) (r : BitVec 2) (t : BitVec 3) (p : BitVec 1) (s : State) :
    Host.Outcome State Fault Refusal := atomic .or true d b sc r t p s
/-- RED.xor (R314). -/
def execRedXor (d b : BitVec 7) (sc : BitVec 3) (r : BitVec 2) (t : BitVec 3) (p : BitVec 1) (s : State) :
    Host.Outcome State Fault Refusal := atomic .xor true d b sc r t p s

/-- What the checks and the scoreboard see of REDFLUSH: it waits until each earlier RED of the barge has passed its
checks, for only then does that RED's entry stand in the buffer (R315, R318). -/
def shapeRedflush : Shape :=
  { holds := fun s core slot =>
      let unchecked := s.flights.any fun f => decide (f.2.core = core ∧ f.2.slot = slot) && !f.2.sent
        && (match f.2.kind with
            | .red _ _ => true
            | _ => false)
      if unchecked then .other else memHolds s core slot }

/-- REDFLUSH: the barge's entries drain, and it goes on the cycle after the last acknowledgement (R318). -/
def execRedflush (s : State) : Host.Outcome State Fault Refusal :=
  issueWord shapeRedflush s fun g s =>
    if g.active = 0 then g.finish g.b s
    else
      let (ids, s) := s.drainWhere g.core none fun e => decide (e.barge = g.slot)
      if ids.isEmpty then g.finish g.b s
      else
        let (rid, s) := s.startRel { core := g.core, slot := g.slot, ctx := g.b.ctx, scope := 0, release := false,
                                     step := 9, waitFor := ids, after := .post [(1, { what := .sleepEnd, args := [g.core, g.slot] })] }
        let _ := rid
        g.finish { g.b with blocked := true } s

/-- What the checks and the scoreboard see of MXACC (R319, R320). -/
def shapeMxacc (d b : BitVec 7) (p : BitVec 1) : Shape :=
  { mod := true, extra := .third, modOk := { reach := true }, fieldsOk := fun _ => pairOk b,
      srcs := fun x => [reg d p, regs b 2 p] ++ (if x.xopd.isSome then [thirdSrc x 1] else []), stores := true,
      holds := memHolds, access := some true }

/-- MXACC (R319, R320). -/
def execMxacc (d b : BitVec 7) (sc : BitVec 3) (r : BitVec 2) (k : BitVec 3) (p : BitVec 1) (s : State) :
    Host.Outcome State Fault Refusal :=
  issueWord (shapeMxacc d b p) s
    fun g s =>
      let addr := g.address 1 true 0
      if g.addressesDiffer addr then g.trap { cause := 0x57 } s
      else if g.active = 0 then g.finish g.b s
      else
        let data := g.val 0
        let size := 32 * (mxElem k.toNat).width / 8 + 2
        let accs := (lanesIn g.active).map fun i =>
          ({ lane := i, va := addr i, size, data := dataBytes data i 4 } : LaneAcc)
        let f := { g.flight s (.mxacc k.toNat) accs with
          write := true, captured := false, recording := decide (3 ≤ sc.toNat), record := s.seqRecord g.core }
        if r = 2 then g.launchReleased sc.toNat false g.b f s else g.launch g.b f s

/-! ## Class 16 (R328 to R333) -/

/-- The space aux[1:0] of XMOD names (R328). -/
def Pre.space (p : Pre) : Space := if p.aux = 1 then .loc else if p.aux = 2 then .pooled else .glob

/-- Bytes of a class 16 width (R44). -/
def syncBytes (w : BitVec 3) : Nat :=
  match w.toNat with
  | 0 => 4
  | 1 => 8
  | 2 => 16
  | 3 => 1
  | _ => 2

/-- The shape that class 16 accesses share. -/
def syncShape (d b : BitVec 7) (w : BitVec 3) (p : BitVec 1) (store : Bool) : Shape :=
  let n := max 1 (syncBytes w / 4)
  { mod := true, extra := .third, modOk := { reach := true, aux := [0, 1, 2] },
    fieldsOk := fun x => x.space != .glob || pairOk b,
    payloadOk := fun x => x.space == .glob || x.modField 6 1 == 0,
    srcs := fun x =>
      (if store then [regs d n p] else []) ++ regs b (if x.space = .glob then 2 else 1) p ::
        (if x.xopd.isSome then [thirdSrc x 1] else []),
    stores := store,
    dsts := fun _ => if store then [] else [{ spec := d, words := n }],
    nonUniform := fun g => !store && isScalar d && g.addressesDiffer (g.address 0 (g.pre.space == .glob) 0),
    captured := !store, holds := memHolds, access := some store }

/-- LD and LDB of class 16 (R329, R333). -/
def syncLoad (home : Bool) (d b : BitVec 7) (sc : BitVec 3) (r : BitVec 2) (w : BitVec 3) (p : BitVec 1) (s : State) :
    Host.Outcome State Fault Refusal :=
  issueWord (syncShape d b w p false) s fun g s =>
    let n := syncBytes w
    let space := g.pre.space
    let addr := g.address 0 (space = .glob) 0
    if g.active = 0 then g.finish g.b s
    else
      let package := decide (space = .glob) && decide (3 ≤ sc.toNat)
      let words := max 1 (n / 4)
      let b' := g.b.markEmpty g.active { spec := d, words }
      -- no later memory access before an acquire completes
      let b' := if r = 1 then { b' with memWait := b'.memWait ++ [s.nextId] } else b'
      match space with
      | .glob =>
        let accs := (lanesIn g.active).map fun i => ({ lane := i, va := addr i, size := n } : LaneAcc)
        let kind := if home || package then MemKind.homeLoad false else .load
        let f := (g.flight s kind accs).filling d (4 * words) n false
        g.launch b' { f with alignTo := n, acquire := package && r == 1#2, collect := package && r == 0#2 } s
      | _ =>
        match placeLanes g.active addr (s.nearPlace g space n) with
        | .error c => g.trap c s
        | .ok places =>
          let accs := places.map fun q => ({ lane := q.1, va := q.2, size := n } : LaneAcc)
          let kind := if space = .loc then MemKind.loc false else .pool false
          let f := { (g.flight s kind accs).filling d (4 * words) n false with space, translating := false }
          let (id, s) := s.fresh
          (g.finish b' (s.setFlight id f)).sendNear id f

/-- LD of class 16 (R328, R329). -/
def execSyncLd (d b : BitVec 7) (sc : BitVec 3) (r : BitVec 2) (w : BitVec 3) (p : BitVec 1) (s : State) :
    Host.Outcome State Fault Refusal := syncLoad false d b sc r w p s
/-- LDB of class 16 (R328, R329). -/
def execSyncLdb (d b : BitVec 7) (sc : BitVec 3) (r : BitVec 2) (w : BitVec 3) (p : BitVec 1) (s : State) :
    Host.Outcome State Fault Refusal := syncLoad true d b sc r w p s

/-- A class 16 store to any space, once its operands are known (R329, R331). -/
def Go.syncStore (g : Go) (space : Space) (scope n : Nat) (release uo : Bool) (addr : Nat → Nat) (data : Nat → List Byte)
    (s : State) : State :=
  match space with
  | .glob =>
    let accs := (lanesIn g.active).map fun i => ({ lane := i, va := addr i, size := n, data := data i } : LaneAcc)
    let f := { g.flight s (.store true) accs with
      write := true, captured := false, alignTo := n, recording := decide (3 ≤ scope), record := s.seqRecord g.core }
    if release then g.launchReleased scope uo g.b f s else g.launch g.b f s
  | _ =>
    match placeLanes g.active addr (s.nearPlace g space n) with
    | .error c => g.trap c s
    | .ok places =>
      let accs := places.map fun q => ({ lane := q.1, va := q.2, size := n, data := data q.1 } : LaneAcc)
      let kind := if space = .loc then MemKind.loc true else .pool true
      let f := { g.flight s kind accs with space, translating := false, captured := false }
      if release then g.launchReleased (min 2 scope) false g.b f s
      else
        let (id, s) := s.fresh
        (g.finish g.b (s.setFlight id f)).sendNear id f

/-- ST of class 16 (R328, R329, R331). -/
def execSyncSt (d b : BitVec 7) (sc : BitVec 3) (r : BitVec 2) (w : BitVec 3) (p : BitVec 1) (s : State) :
    Host.Outcome State Fault Refusal :=
  issueWord (syncShape d b w p true) s fun g s =>
    if g.active = 0 then g.finish g.b s
    else
      let data := g.val 0
      g.syncStore g.pre.space sc.toNat (syncBytes w) (r == 2#2) false (g.address 1 (g.pre.space = .glob) 0)
        (fun i => dataBytes data i (syncBytes w)) s

/-- A fence of a barge: release, then acquire, at each space's narrowed scope (R324, R331, R333). The next memory access
may issue 2 cycles after the fence where nothing is waited for (R335). -/
def Go.fence (g : Go) (scope : Nat) (release acquire : Bool) (s : State) : State :=
  let (rid, s) := s.startRel { core := g.core, slot := g.slot, ctx := g.b.ctx, scope, release, acquire, uo := true,
                               pulls := if acquire && decide (3 ≤ scope) then fencePulls g.core g.b else [],
                               after := .resume 2 }
  let b := { g.b with memWait := g.b.memWait ++ [rid], pulls := if acquire && decide (3 ≤ scope) then [] else g.b.pulls }
  ((g.finish b s).relRun rid relFuel).pump g.core

/-- FENCE (R328, R331, R333). -/
def execFence (sc : BitVec 3) (r : BitVec 2) (s : State) : Host.Outcome State Fault Refusal :=
  issueWord memShape s fun g s =>
    if g.active = 0 then g.finish g.b s
    else g.fence sc.toNat (2 ≤ r.toNat) (r.toNat % 2 = 1) s

/-- Stores of a barge on their way to a bank of the pooled scratchpad or the aperture, those among them whose page is not
yet known (R125). -/
def State.bankStores (s : State) (core slot : Nat) : List Nat :=
  let aims (f : Flight) : Bool := f.accs.any fun a => a.leaf.isNone || inAperture ((a.leafAt a.va).line a.va)
  (s.flights.filter fun f => decide (f.2.core = core ∧ f.2.slot = slot)
    && match f.2.kind with
       | .pool store => store
       | .store _ => aims f.2
       | .cstore => aims f.2
       | _ => false).map (·.1)

/-- What the checks and the scoreboard see of a fence with the layer flag (R125, R328). -/
def shapeFenceLayer : Shape :=
  { holds := fun s core slot =>
        if !(s.bankStores core slot).isEmpty then .other else memHolds s core slot }

/-- FENCE.layer: no later instruction issues before every earlier STP and aperture store of the barge has arrived; then
it orders as a memory fence of its scope and order (R125, R328). -/
def execFenceLayer (sc : BitVec 3) (r : BitVec 2) (s : State) : Host.Outcome State Fault Refusal :=
  issueWord shapeFenceLayer s fun g s =>
    if g.active = 0 || r.toNat = 0 then g.finish g.b s
    else g.fence sc.toNat (2 ≤ r.toNat) (r.toNat % 2 = 1) s

end Sys2Proof.Machine
end

