-- ==== Sys2Proof/Machine/Block.lean ====
section
/-!
DEFINITION. The parameter block of an MMA (R252 to R256): its fields, and which values it may have.
-/
namespace Sys2Proof.Machine
open Sys2Proof

/-- Dword k of some bytes. -/
def dwordAt (bs : List Byte) (k : Nat) : Nat := leNat ((bs.drop (8 * k)).take 8)

/-! ## The parameter block (R253, R254) -/

/-- Field of dword k of a parameter block (Table 12.2). -/
def mmaField (bs : List Byte) (k lo w : Nat) : Nat := field (dwordAt bs k) lo w

/-- Width of a matrix element type (Table 12.3). -/
def mmaWidth (t : Nat) : Nat := if t < 2 then 16 else if t = 4 ∨ t = 5 then 6 else if t = 6 ∨ t = 10 then 4 else 8

/-- A float or ds8 element type. -/
def mmaElem (t : Nat) : Elem :=
  match t with
  | 0 => .fl .f16
  | 1 => .fl .bf16
  | 2 => .fl .e5m2
  | 3 => .fl .e4m3
  | 4 => .fl .e3m2
  | 5 => .fl .e2m3
  | 6 => .fl .e2m1
  | _ => .ds8

/-- Elements a layer consumes per cycle (Table 12.1). -/
def mmaKpc (t : Nat) : Nat := if t < 2 then 1 else if t = 2 ∨ t = 3 ∨ t = 8 ∨ t = 9 then 2 else 4

/-- Block length of a geometry code; 0 for none (Table 12.2). -/
def mmaBlock (g : Nat) : Nat := if g = 0 then 0 else 8 * 2 ^ g

/-- Scale kind of a code. -/
def mmaScale (k : Nat) : ScaleKind := if k = 1 then .e8m1 else .e8m0

/-- Bytes of 64 elements. -/
def mmaBytes (t : Nat) : Nat := 8 * mmaWidth t

/-- The fields of a parameter block. -/
structure MmaParam where
  atype : Nat
  btype : Nat
  ageom : Nat
  ascl : ScaleKind
  bgeom : Nat
  bscl : ScaleKind
  global : Bool
  clear : Bool
  isat : Bool
  base : Nat
  cpb : Nat
  stride : Nat
  addr : Nat
  scales : Nat
  row : Nat
  soff : Nat

/-- Read a parameter block. -/
def MmaParam.ofBytes (bs : List Byte) : MmaParam where
  atype := mmaField bs 0 0 4
  btype := mmaField bs 0 4 4
  ageom := mmaBlock (mmaField bs 0 8 2)
  ascl := mmaScale (mmaField bs 0 10 1)
  bgeom := mmaBlock (mmaField bs 0 11 2)
  bscl := mmaScale (mmaField bs 0 13 1)
  global := mmaField bs 0 14 1 == 1
  clear := mmaField bs 0 15 1 == 1
  isat := mmaField bs 0 16 1 == 1
  base := mmaField bs 0 17 7
  cpb := mmaField bs 0 24 7
  stride := mmaField bs 0 32 32
  addr := mmaField bs 1 0 56
  scales := mmaField bs 2 0 56
  row := mmaField bs 3 0 9
  soff := mmaField bs 3 16 16

/-- Float or integer. -/
def MmaParam.float (p : MmaParam) : Bool := decide (p.atype < 8)
/-- kpc (R252). -/
def MmaParam.kpc (p : MmaParam) : Nat := min (mmaKpc p.atype) (mmaKpc p.btype)
/-- P (R252). -/
def MmaParam.pass (p : MmaParam) : Nat := 16 / p.kpc
/-- Bytes of some scale entries packed from bit 0 (R59). -/
def scaleBytes (k : ScaleKind) (n : Nat) : Nat := ceilDiv (n * k.width) 8
/-- Bytes of the A scale stream. -/
def MmaParam.aScaleBytes (p : MmaParam) : Nat := if p.ageom = 0 then 0 else scaleBytes p.ascl (32 * (64 / p.ageom))

/-- Does a block keep R253 and R254, and R257 as far as registers go? -/
def mmaParamOk (bs : List Byte) (regs : Nat) : Bool :=
  let p := MmaParam.ofBytes bs
  let reserved := decide (mmaField bs 0 31 1 = 0 ∧ mmaField bs 1 56 8 = 0 ∧ mmaField bs 2 56 8 = 0 ∧ mmaField bs 3 9 7 = 0
      ∧ mmaField bs 3 32 32 = 0) && (bs.drop 32).all (· == 0)
  let local_ := p.global || (decide (p.addr < 2 ^ 32) && (decide (p.ageom = 0) || decide (p.scales < 2 ^ 32)))
  let types := decide (p.atype ≤ 10 ∧ p.btype ≤ 10 ∧ p.atype ≠ 7) && (decide (p.atype < 8) == decide (p.btype < 8))
  let geometry := (decide (p.ageom = 0) || decide (2 ≤ p.atype ∧ p.atype ≤ 7))
    && (decide (p.bgeom = 0) || decide (2 ≤ p.btype ∧ p.btype ≤ 7))
  reserved && local_ && types && geometry && decide (p.base ≤ 95 ∧ 1 ≤ p.cpb ∧ p.cpb ≤ 96 ∧ p.base + p.cpb ≤ regs)

/-- Does B with its scales lie in the tile store (R256)? -/
def MmaParam.tileOk (p : MmaParam) (n : Nat) : Bool :=
  let g := n / 16
  decide (p.row * 64 + g * mmaBytes p.btype ≤ 32768)
    && (decide (p.bgeom = 0) || decide (p.row * 64 + p.soff + scaleBytes p.bscl (g * (64 / p.bgeom)) ≤ 32768))

/-- The cause of an A that breaks R255, as far as the block shows it. -/
def MmaParam.sourceCause (p : MmaParam) (localSize : Nat) : Option (BitVec 8) :=
  if p.addr % 16 ≠ 0 ∨ p.stride % 16 ≠ 0 then some (if p.global then 0x52 else 0x51)
  else if p.global then none
  else if localSize < p.addr + 31 * p.stride + mmaBytes p.atype
      || decide (p.ageom ≠ 0) && decide (localSize < p.scales + p.aScaleBytes) then some 0x50
  else none

end Sys2Proof.Machine
end

