-- ==== Sys2Proof/Machine/Tile.lean ====
section
/-!
DEFINITION. The tile store (R175 to R178): TLD, TST, TCOPY, TCLR and their access.
-/
namespace Sys2Proof.Machine
open Sys2Proof

/-- Words of a lane that T1 selects: `.b32`, `.b64` or `.b128` (R177). -/
def Pre.tileWords (p : Pre) : Nat := if p.t1 = 10 then 2 else if p.t1 = 11 then 4 else 1

/-- The data-register rules of R43 for a width in words. -/
def widthOk (d : BitVec 7) (words : Nat) : Bool :=
  if words = 1 then true else if words = 2 then pairOk d else quadOk d

/-- The most distinct slice-rows that some accesses touch in one slice (R177). -/
def sliceCost (accs : List (Nat × Nat)) : Nat :=
  let rows := ((accs.map fun a => (List.range ((a.1 + a.2 - 1) / 64 + 1 - a.1 / 64)).map (a.1 / 64 + ·)).flatten).eraseDups
  max 1 ((List.range 16).foldl (fun m k => max m (rows.filter fun r => decide (r % 16 = k)).length) 0)

/-- Is the tile store taken in a cycle by an MMA that has started, which reads the slice-rows of a column group, and one more where
B has scales, in the first cycles of the group's pass? DESIGN CHOICE (log 106): R176 gives B reads the first place and no cycles. -/
def Core.readsB (c : Core) (t : Nat) : Bool :=
  c.mmas.any fun m =>
    let p := MmaParam.ofBytes m.param
    let pass := if m.skip = 0 then p.pass else 2 * p.pass
    let at_ := t - m.startAt
    let lo := at_ / pass * mmaBytes p.btype
    let rows := (lo + mmaBytes p.btype - 1) / 64 + 1 - lo / 64 + if p.bgeom = 0 then 0 else 1
    m.started && decide (m.startAt ≤ t ∧ at_ / pass < m.n / 16 ∧ at_ % pass < rows)

/-- The last of n cycles from one on that no B read takes. -/
def Core.tileLast (c : Core) : Nat → Nat → Nat → Nat
  | 0, t, n => t + n - 1
  | fuel + 1, t, n =>
    if c.readsB t then c.tileLast fuel (t + 1) n
    else if n ≤ 1 then t
    else c.tileLast fuel (t + 1) (n - 1)

/-- Does an MMA start in this cycle, whose B reads go before other accesses (R176)? -/
def State.startsMma (s : State) (core : Nat) : Bool :=
  s.agenda.any fun e => decide (e.1 ≤ s.now) && e.2.what == .mmaStart && decide (e.2.args.head? = some core)

/-- An access of n cycles that comes to the tile store now: its last cycle, behind those that came before and beside the B reads of
the matrix engine (R176, R177). -/
def Core.tileTurn (c : Core) (now n : Nat) : Nat × Core :=
  let last := c.tileLast 4096 (max now c.tileBusy) n
  (last, { c with tileBusy := last + 1 })

/-- Tile accesses of a barge wait for its TCOPY or TCLR (R178), and as every memory word does (R333). -/
def tileHolds (s : State) (core slot : Nat) : Wait :=
  if s.flights.any fun f => decide (f.2.core = core ∧ f.2.slot = slot) && f.2.kind == .tile && decide (f.2.hint = 1) then
    .other
  else memHolds s core slot

/-- What the checks and the scoreboard see of TLD and TST (R177). -/
def shapeTileWord (store : Bool) (d a b : BitVec 7) (p q : BitVec 1) : Shape :=
  { imm := true, immh := fun _ => true, mod := true, modOk := { t1 := [0, 9, 10, 11] }, fieldsOk := fun x => widthOk d x.tileWords,
      srcs := fun x => (if store then [regs d x.tileWords p] else []) ++ reg a p :: regB x b 1 q,
      dsts := fun x => if store then [] else [{ spec := d, words := x.tileWords }],
      captured := !store, stores := store, holds := tileHolds }

/-- TLD and TST: the lane checks at issue, then the access in its turn (R177). -/
def tileWord (store : Bool) (d a b : BitVec 7) (p q : BitVec 1) (s : State) : Host.Outcome State Fault Refusal :=
  issueWord (shapeTileWord store d a b p q) s
    fun g s =>
      let k := if store then 1 else 0
      let n := 4 * g.pre.tileWords
      let addr (i : Nat) : Nat := ((g.val k).w32 i + (g.opB (k + 1) b q).w32 i).toNat
      let bad := (lanesIn g.active).filter fun i => decide (524288 ≤ addr i) || decide (addr i % n ≠ 0)
      match bad with
      | i :: _ => g.trap { cause := 0x4F, lanes := maskOf bad.contains, va := BitVec.ofNat 64 (addr i) } s
      | [] =>
        if g.active = 0 then g.finish g.b s
        else
          let accs := (lanesIn g.active).map fun i =>
            ({ lane := i, va := addr i, size := n, data := if store then dataBytes (g.val 0) i n else [] } : LaneAcc)
          let f := { g.flight s .tile accs with
            translating := false, sent := true, captured := !store, words := if store then 0 else g.pre.tileWords,
            width := n, dst := d }
          let (id, s) := s.fresh
          let b := if store then g.b else g.b.markEmpty g.active { spec := d, words := g.pre.tileWords }
          g.finish b ((s.setFlight id f).post 6 .tileStoreAccess [id])

/-- TLD (R177). -/
def execTld (d a b : BitVec 7) (p q : BitVec 1) (s : State) : Host.Outcome State Fault Refusal := tileWord false d a b p q s
/-- TST (R177). -/
def execTst (d a b : BitVec 7) (p q : BitVec 1) (s : State) : Host.Outcome State Fault Refusal := tileWord true d a b p q s

/-- Is an origin with a shape a legal rectangle (R178)? -/
def rectangleOk (origin rows width : Nat) : Bool :=
  decide (origin < 524288) && decide (origin % 4 = 0 ∧ width % 4 = 0) && decide (origin / 1024 + rows ≤ 512)
    && decide (origin % 1024 + width ≤ 1024)

/-- What the checks and the scoreboard see of TCOPY and TCLR (R178): the register format's prefixes (R37). With XIMM the
destination of TCOPY is the immediate; TCLR has no operand b, and its immediate must be 0 as the field must (log 46). -/
def shapeRectangleWord (copy : Bool) (d a b : BitVec 7) (p q : BitVec 1) : Shape :=
  { imm := true, immh := fun _ => true, mod := true
    payloadOk := fun x => copy || x.immZero
    srcs := fun x => [reg d p, reg a p] ++ (if copy then regB x b 1 q else []), holds := tileHolds }

/-- TCOPY and TCLR: the rectangles are checked at issue (R178). The word's flight holds the source origin, the
destination, rows and width in its one access. -/
def rectangleWord (copy : Bool) (d a b : BitVec 7) (p q : BitVec 1) (s : State) : Host.Outcome State Fault Refusal :=
  issueWord (shapeRectangleWord copy d a b p q) s
    fun g s =>
      let shape := ((g.val 0).dword).toNat
      let rows := field shape 0 9 + 1
      let width := field shape 16 10 + 1
      let src := ((g.val 1).w32 0).toNat
      let dst := if copy then ((g.opB 2 b q).w32 0).toNat else src
      if g.active = 0 then g.finish g.b s
      else if !(rectangleOk src rows width && rectangleOk dst rows width) then g.trap { cause := 0x4F } s
      else
        let f := { g.flight s .tile [] with
          translating := false, sent := true, captured := false, hint := 1, write := false,
          scope := if copy then 1 else 0, issued := src, extra := dst, order := rows, width }
        let (id, s) := s.fresh
        g.finish g.b ((s.setFlight id f).post 6 .tileStoreAccess [id])

/-- TCOPY (R178). -/
def execTcopy (d a b : BitVec 7) (p q : BitVec 1) (s : State) : Host.Outcome State Fault Refusal :=
  rectangleWord true d a b p q s
/-- TCLR (R178). -/
def execTclr (d a : BitVec 7) (p : BitVec 1) (s : State) : Host.Outcome State Fault Refusal :=
  rectangleWord false d a 0 p 0 s

/-- The words a lane of a load receives from the bytes it has read, a narrow value extended (R43, R329). -/
def LaneAcc.loaded (a : LaneAcc) (words width : Nat) (signed : Bool) : List Word :=
  let x := (List.range a.size).foldr (fun k acc =>
    acc * 256 + (((a.got.find? fun p => decide (p.1 = k)).map fun p => p.2.toNat).getD 0)) 0
  if width < 4 then [BitVec.ofInt 32 (intOf signed (8 * width) x)]
  else (List.range words).map fun k => BitVec.ofNat 32 (x / 2 ^ (32 * k))

/-- Cycles for which a word takes the tile store: each row of a rectangle is one read and one write of every slice, or one write
(R176 to R178). -/
def Flight.tileCost (f : Flight) : Nat :=
  if f.hint = 1 then f.order * (1 + f.scope) else sliceCost (f.accs.map fun x => (x.va, x.size))

/-- The tile store with a rectangle or a store of a word in it (R177, R178). -/
def Flight.putTile (f : Flight) (tile : Sparse 8) : Sparse 8 :=
  if f.hint = 1 then
    let cells := (List.range f.order).flatMap fun r => (List.range f.width).map fun k =>
      (f.extra + 1024 * r + k, if f.scope = 1 then tile.get (f.issued + 1024 * r + k) else 0)
    cells.foldl (fun m p => Sparse.set m p.1 p.2) tile
  else putLanes f.accs tile

/-- The tile store as a barge reads it: under its own issued words on it, numbered below some word, that are still to be performed
(R268). -/
def State.ownTile (s : State) (core slot before : Nat) : Sparse 8 :=
  s.flights.foldl (fun m f =>
    if f.1 < before && decide (f.2.core = core ∧ f.2.slot = slot) && f.2.kind == .tile && decide (f.2.words = 0) && !f.2.checked then
      f.2.putTile m
    else m) (s.core core).tile

/-- A tile-store access comes to the tile store; with a second number it is performed: a load is read, a store or a rectangle
written (R176 to R178). -/
def execTileStoreAccess (s : State) : Host.Outcome State Fault Refusal :=
  let id := s.arg 0
  match s.flights.look id with
  | none => done s
  | some f =>
    if s.args.length = 1 && (s.wordFirst .tileStoreAccess f || s.startsMma f.core) then done (s.post 0 .tileStoreAccess [id])
    else
    let (last, c) := if s.args.length = 1 then (s.core f.core).tileTurn s.now f.tileCost else (s.now, s.core f.core)
    let f := if s.args.length ≠ 1 then f else { f with ready := last + if f.hint = 1 then 3 else 18 }
    let s := (s.setCore f.core c).setFlight id f
    if s.now < last then done (s.postAt last .tileStoreAccess [id, 1])
    else if f.hint = 1 then
      let s := (s.setCore f.core { c with tile := f.putTile c.tile }).setFlight id { f with checked := true }
      done (s.postAt f.ready .writeAcknowledge [id])
    else if f.words = 0 then
      let s := s.setCore f.core { c with tile := f.putTile c.tile }
      done ((({ s with flights := s.flights.cut id }).settle id).wake f.core)
    else
      let accs := f.accs.map fun a => { a with got := (List.range a.size).map fun k => (k, Sparse.get c.tile (a.va + k)) }
      let values : List (List Word) := accs.map fun a => a.loaded f.words 4 false
      let differ := isScalar f.dst && values.any fun v => decide (v ≠ values.headD [])
      done ((s.setFlight id { f with accs, cause := if differ then some 0x06 else none }).postAt f.ready .registerFill [id])

end Sys2Proof.Machine
end

