-- ==== Sys2Proof/Machine/Engines.lean ====
section
/-!
DEFINITION. Job cards and engines: posting (R156 to R160), edges (R161, R162), dispatch (R163, R164) and the jobs
themselves (R126, R127, R158, R165 to R167).
-/
namespace Sys2Proof.Machine
open Sys2Proof

/-! ## Words whose result the hub or a scheduler sends back -/

/-- Issue a word whose barge issues nothing further until its scalar d is written: the number of its flight. -/
def Go.awaitScalar (g : Go) (d : BitVec 7) (s : State) : Nat × State :=
  let (id, s) := s.fresh
  let f := { g.flight s .unit [] with
    translating := false, sent := true, captured := false, blocks := true, dst := d, words := 2 }
  (id, (g.finish { g.b with blocked := true } (s.setFlight id f)))

/-- The value of such a word arrives after a delay. -/
def State.fillScalar (s : State) (id : Nat) (x : Dword) (delay : Nat) : State :=
  match s.flights.look id with
  | none => s
  | some f =>
    (s.setFlight id { f with result := List.replicate 32 (pairWords x) }).post delay .registerFill [id]

/-! ## Cards (Tables 8.1 to 8.3) -/

/-- A region slot (Table 8.2); none where it is not legal. -/
def Region.parse (x : Nat) : Option Region :=
  let r : Region := { space := field x 62 2, size := field x 56 6, base := field x 0 56 }
  if 6 ≤ r.size && r.size ≤ 40 && (r.space = 0 || r.base < 2 ^ 32) then some r else none

/-- Does the operation, with its regions and parameters, stand in Table 8.3? DESIGN CHOICE (log 107): PB[63:40] of a collective must
be zero, which the table leaves open. -/
def operationOk (kind subop nr nw pa pb : Nat) (regions : List Region) : Bool :=
  let len := field pb 0 40
  match kind, subop with
  | 1, 0 => decide (nr = 1 ∧ nw = 1 ∧ pa = 0 ∧ field pb 40 24 = 0 ∧ len ≠ 0)
  | 1, 1 => decide (nr = 1 ∧ nw = 1 ∧ field pa 12 14 = 0 ∧ field pb 0 24 ≠ 0)
  | 1, 2 => decide (nr = 0 ∧ nw = 1 ∧ pa = 0 ∧ field pb 32 32 ≠ 0 ∧ field pb 32 32 % 4 = 0)
  | 2, 0 => decide (nr = 2 ∧ nw = 1 ∧ field pa 20 6 = 0 ∧ field pa 17 3 ≤ 5)
      && (match regions with
          | [i, t, d] => decide (i.space = 3 ∧ t.space = 0) && decide (d.space = 1 ∨ d.space = 2)
          | _ => false)
  | 3, 0 => decide (nr = 1 ∧ nw = 1 ∧ field pa 14 12 = 0 ∧ field pb 40 24 = 0)
  | 3, 1 => decide (nr = 1 ∧ nw = 1 ∧ field pa 14 12 = 0 ∧ field pa 4 2 = 0 ∧ field pb 40 24 = 0 ∧ len % 4 = 0)
  | 3, 2 => decide (nr = 1 ∧ nw = 1 ∧ field pa 14 12 = 0 ∧ field pa 4 2 = 0 ∧ field pb 40 24 = 0)
  | _, _ => false

/-- Read a card; none where it breaks R156 to R158. -/
def Card.parse (c : Card) (bs : List Byte) : Option Card :=
  let w := dwordAt bs 0
  let nr := field w 8 3
  let nw := field w 11 2
  let slots := (List.range nr).map (dwordAt bs <| 2 + ·) ++ (List.range nw).map (dwordAt bs <| 6 + ·)
  let regions := slots.filterMap Region.parse
  let unused := (List.range 4).all (fun k => decide (k < nr) || dwordAt bs (2 + k) == 0)
    && (List.range 2).all (fun k => decide (k < nw) || dwordAt bs (6 + k) == 0)
  let c := { c with
    subop := field w 4 4, nr, nw, semf := field w 13 1 == 1, sem := field w 14 8, inc := field w 22 16, pa := field w 38 26,
    pb := dwordAt bs 1, regions }
  if nr ≤ 4 && nw ≤ 2 && unused && regions.length == nr + nw && (c.semf || decide (c.sem < 64))
      && operationOk (field w 0 4) c.subop nr nw c.pa c.pb regions then some c
  else none

/-- The engine a card's KIND names (R159, R115). -/
def State.engineOf (s : State) (core kind : Nat) : Engine :=
  match kind with
  | 1 => .copy core
  | 2 =>
    let g := clusterOf core
    .gather (if (s.column core).retired then 4 * g + substitute s g (core % 4) else core)
  | _ => .collective (towerOf core)

/-- Cards an engine's queue holds (R160). -/
def Engine.capacity : Engine → Nat
  | .copy _ => 16
  | .gather _ => 8
  | .collective _ => 32

/-- Tower whose scheduler serves an engine. -/
def Engine.tower : Engine → Nat
  | .copy c => towerOf c
  | .gather n => n / 48
  | .collective t => t

/-- The first 48 numbers are the place of an engine's kind among the three (R172). -/
def Engine.rank : Engine → Nat
  | .copy _ => 0
  | .gather _ => 1
  | .collective _ => 2

/-- Posted cards of an engine. -/
def State.queueOf (s : State) (e : Engine) : List (Nat × Card) :=
  s.cards.filter fun c => decide (c.2.engine = e ∧ c.2.stage = 2)

/-! ## Posting -/

/-- What the checks and the scoreboard see of JOB and JOBQ (R159). -/
def shapeJobWord (d a : BitVec 7) (p : BitVec 1) : Shape :=
  { noHandler := true, noReformed := true, srcs := fun _ => [reg a p], dsts := fun _ => [{ spec := d, words := 2 }],
    holds := cardHolds }

/-- JOB and JOBQ (R159): the card is read and checked at issue; the release comes before the post. -/
def jobWord (jobq : Bool) (d a : BitVec 7) (p : BitVec 1) (s : State) : Host.Outcome State Fault Refusal :=
  issueWord (shapeJobWord d a p) s
    fun g s =>
      if g.active = 0 then g.finish g.b s
      else
        let at_ := ((g.val 0).w32 0).toNat
        match s.localRange g.core g.b 0 with
        | none => g.trap { cause := 0x78 } s
        | some (base, size) =>
          if at_ % 64 ≠ 0 || decide (size < at_ + 64) then g.trap { cause := 0x78 } s
          else
            let bs := s.localBytes g.core g.slot (base + at_) 64
            let c0 : Card :=
              { engine := s.engineOf g.core (field (dwordAt bs 0) 0 4), seq := 0, ctx := g.b.ctx, tag := g.b.tag,
                core := g.core, node := g.b.node, chunk := g.b.chunkSlot, localBase := base, localSize := size, subop := 0,
                nr := 0, nw := 0, semf := false, sem := 0, inc := 0, pa := 0, pb := 0, regions := [], jobq }
            match c0.parse bs with
            | none => g.trap { cause := 0x78 } s
            | some c =>
              let (fid, s) := g.awaitScalar d s
              let (cid, s) := s.fresh
              let s := { s with cards := s.cards.put cid { c with flight := some fid } }
              let (rid, s) := s.startRel { core := g.core, slot := g.slot, ctx := g.b.ctx, scope := 5, uo := true,
                                           after := .post [(20, { what := .cardStart, args := [cid] })] }
              s.relRun rid relFuel

/-- JOB (R159). -/
def execJob (d a : BitVec 7) (p : BitVec 1) (s : State) : Host.Outcome State Fault Refusal := jobWord false d a p s
/-- JOBQ (R159). -/
def execJobq (d a : BitVec 7) (p : BitVec 1) (s : State) : Host.Outcome State Fault Refusal := jobWord true d a p s

/-! ## Edges (R161, R162) -/

/-- Do two regions, of cards of one tower and context, overlap (R161)? -/
def regionsMeet (coreA coreB : Nat) (a b : Region) : Bool :=
  decide (a.space = b.space) && decide (a.base < b.base + 2 ^ b.size ∧ b.base < a.base + 2 ^ a.size)
    && (match a.space with
        | 0 => true
        | 3 => decide (clusterOf coreA = clusterOf coreB)
        | _ => decide (coreA = coreB))

/-- The read and the write regions of a card. -/
def Card.reads (c : Card) : List Region := c.regions.take c.nr
/-- Its write regions. -/
def Card.writes (c : Card) : List Region := c.regions.drop c.nr

/-- Must a card wait for an earlier one? -/
def Card.follows (c p : Card) : Bool :=
  let meet (xs ys : List Region) : Bool := xs.any fun x => ys.any fun y => regionsMeet p.core c.core x y
  meet p.writes c.reads || meet p.reads c.writes || meet p.writes c.writes

/-- Must a card wait for a running task with these regions: write?, base, bytes? -/
def Card.conflictsWith (c : Card) (rs : List (Bool × Nat × Nat)) : Bool :=
  let hit (r : Bool × Nat × Nat) (x : Region) : Bool :=
    decide (x.space = 0) && decide (wide56 x.base < r.2.1 + r.2.2 ∧ r.2.1 < wide56 x.base + 2 ^ x.size)
  rs.any fun r => c.writes.any (hit r) || (r.1 && c.reads.any (hit r))

/-- Is a task still running for the edges of cards (R162)? -/
def State.taskRuns (s : State) (id : Nat) : Bool :=
  match s.nodes.look id with
  | some n => n.state ≠ .done && (n.nextUnit ≠ 0 || !(s.running id).isEmpty || !n.flushing.isEmpty)
  | none => false

/-- Has a task completed, or been cancelled with nothing of it left running, so that a card's edge from it resolves (R162,
R343)? A task that is to be dispatched again has not. -/
def State.taskOver (s : State) (id : Nat) : Bool :=
  match s.nodes.look id with
  | some n => n.state == .done || (n.cancelled && (s.running id).isEmpty)
  | none => true

/-- May a posted card start, as far as its edges go (R163)? -/
def State.eligible (s : State) (c : Card) : Bool :=
  decide (c.stage = 2) && !c.running && c.pull.isNone && c.taskEdges.all s.taskOver
    && c.edges.all (fun e => ((s.cards.look e).map fun p => decide (p.stage = 3)).getD true)

/-- Let the engines of a tower look for a card to start. -/
def State.kickEngines (s : State) (tower : Nat) : State :=
  (s.cards.filter fun c => decide (c.2.engine.tower = tower) && !c.2.running
    && decide (c.2.stage = 2 ∨ c.2.stage = 1 ∧ c.2.due ≤ s.now)).foldl
    (fun s c => s.post 0 .cardStart [c.1]) s

/-- Post a card at its scheduler: its number, its edges, and the pull of R339 where the core still holds older data. -/
def State.postCard (s : State) (id : Nat) (c : Card) (record : Option (Nat × Nat)) : State :=
  let (q, s) : Nat × State := match c.engine with
    | .copy n => ((s.core n).copySeq, s.setCore n { s.core n with copySeq := (s.core n).copySeq + 1 })
    | .gather n => ((s.column n).gatherSeq, s.setColumn n { s.column n with gatherSeq := (s.column n).gatherSeq + 1 })
    | .collective t => ((s.tower t).collSeq, s.setTower t { s.tower t with collSeq := (s.tower t).collSeq + 1 })
  let edges := (s.cards.filter fun p => decide (p.1 ≠ id ∧ p.2.stage = 2 ∧ p.2.ctx = c.ctx)
    && decide (p.2.engine.tower = c.engine.tower) && c.follows p.2).map (·.1)
  let taskEdges := (s.nodes.filter fun n => decide (n.1 ≠ c.node ∧ n.2.ctx = c.ctx) && s.taskRuns n.1
    && c.conflictsWith n.2.regions).map (·.1)
  let c := { c with seq := q, edges, taskEdges, stage := 2 }
  let s := match c.flight with
    | some f => s.fillScalar f (BitVec.ofNat 64 (1 + 2 ^ 16 * (q % 2 ^ 16))) 4
    | none => s
  match record with
  | some (k, r) =>
    if (s.core k).holdsBelow r then
      let (pid, s) := s.sendPull c.ctx k k k r 41 none
      { s with cards := s.cards.put id { c with pull := some pid } }
    else ({ s with cards := s.cards.put id c }).post 2 .cardStart [id]
  | none => ({ s with cards := s.cards.put id c }).post 2 .cardStart [id]

/-! ## Accesses of a job (R157, R165) -/

/-- The access right of a card. -/
def Card.agent (c : Card) : Agent := { core := c.core, ctx := c.ctx, label := c.tag, chunk := c.chunk }

/-- Change a card. -/
def State.onCard (s : State) (id : Nat) (f : Card → Card) : State :=
  match s.cards.look id with
  | some c => { s with cards := s.cards.put id (f c) }
  | none => s

/-- Change how far a running card has come. -/
def State.onJob (s : State) (id : Nat) (f : Job → Job) : State := s.onCard id fun c => { c with job := f c.job }

/-- Change a request of a running card. -/
def State.onReq (s : State) (id r : Nat) (f : JobReq → JobReq) : State :=
  s.onJob id fun j => match j.reqs.look r with
    | some q => { j with reqs := j.reqs.put r (f q) }
    | none => j

/-- How an access of an engine stands: it faults, it waits for a walk, or it may be made after some cycles, through these
runs of addresses where it is not near. -/
inductive JobAccess where
  | fault (s : State) (cause : BitVec 8) (va : Nat)
  | wait (s : State)
  | go (s : State) (delay : Nat) (runs : List (Nat × Nat × Leaf))

/-- The leaf that stands for a scratchpad's bytes in the aperture (R121). -/
def scratchLeaf (pa : Nat) : Leaf := { frame := BitVec.ofNat 40 (pa / 65536 * 16), w := true }

/-- Translate and check the runs of a global access, at 12 cycles for each page looked up for the first time (R165). -/
def State.jobRuns (id : Nat) (c : Card) (write : Bool) (align : Nat) (who : Option Nat) :
    List (Nat × Nat) → State → Nat → JobAccess
  | [], s, d => .go s d []
  | (va, n) :: rest, s, d =>
    if !canonical va then .fault s 0x41 va
    else
      match s.l2Lookup (clusterOf c.core) c.ctx (vpnOf va) with
      | none =>
        let s := s.onJob id fun j => { j with walkers := j.walkers ++ [(vpnOf va, who)] }
        .wait (s.requestWalk c.core c.ctx (vpnOf va) none (some id) (12 + d))
      | some (e, s) =>
        match s.agentCause c.agent va n write e.leaf with
        | some x => .fault s x va
        | none =>
          if va % align ≠ 0 then .fault s 0x52 va
          else
            let seen := ((s.cards.look id).map fun k => k.job.pages.contains (vpnOf va)).getD true
            let s := if seen then s else s.onJob id fun j => { j with pages := vpnOf va :: j.pages }
            match State.jobRuns id c write 1 who rest s (if seen then d else d + 12) with
            | .go s d ls => .go s d ((va, n, e.leaf) :: ls)
            | x => x

/-- Check an access of a region: its declared footprint, the bounds of its space, the pages of a global one (R157, R165). -/
def State.jobAccess (s : State) (id : Nat) (c : Card) (r : Region) (o n : Nat) (write : Bool) (align : Nat) (who : Option Nat) :
    JobAccess :=
  let a := r.base + o
  if 2 ^ r.size < o + n then .fault s 0x4E a
  else
    match r.space with
    | 0 => State.jobRuns id c write align who (pageRuns (wide56 a) n) s 0
    | 1 => if c.localSize < a + n then .fault s 0x50 a else .go s 0 []
    | 2 => if 524288 < a + n then .fault s 0x4F a else .go s 0 []
    | _ =>
      match s.pooledAt c.core a align, s.pooledAt c.core (a + n - 1) 1 with
      | .ok pa, .ok _ => .go s 0 [(pa, n, scratchLeaf pa)]
      | .error e, _ => .fault s e a
      | _, .error e => .fault s e a

/-- Would a row on a format page leave a unit partly written (R84, R165)? Only its two ends can. -/
def State.partialUnits (s : State) (c : Card) (r : Region) (o n : Nat) : Bool :=
  let ragged (va at_ : Nat) : Bool :=
    match s.walkPage c.ctx (vpnOf va) with
    | .ok l => l.fmt ≠ 0 && decide ((l.offset va + at_) % l.unitBytes ≠ 0)
    | .error _ => false
  r.space == 0 && decide (n ≠ 0) && (ragged (wide56 (r.base + o)) 0 || ragged (wide56 (r.base + o + n - 1)) 1)

/-- Is an access of a card held for the version event of its label (R147)? -/
def State.cardHeld (s : State) (c : Card) : Bool :=
  c.tag ≠ 0 && (((s.ctx c.ctx).labels.look c.tag.toNat).getD {}).held

/-! ## What a job reads and writes (Table 8.3) -/

/-- Index bytes and element bytes of a gather (R126). -/
def Card.indexBytes (c : Card) : Nat := if field c.pa 16 1 = 1 then 4 else 2
/-- Bytes of an element. -/
def Card.elementBytes (c : Card) : Nat := 4 * 2 ^ field c.pa 17 3
/-- Elements of a gather. -/
def Card.count (c : Card) : Nat := field c.pa 0 16 + 1

/-- Rows of a copy or a collective. -/
def Card.rowCount (c : Card) : Nat := if c.engine.rank = 0 ∧ c.subop = 1 then field c.pa 0 12 + 1 else 1

/-- A row: its offsets in the source and in the destination, and its bytes. -/
def Card.rowAt (c : Card) (k : Nat) : Nat × Nat × Nat :=
  match c.engine, c.subop with
  | .copy _, 1 => (k * (16 * field c.pb 24 20), k * (16 * field c.pb 44 20), field c.pb 0 24)
  | .copy _, 2 => (0, 0, field c.pb 32 32)
  | _, _ => (0, 0, field c.pb 0 40)

/-- The first read region, and the write region. -/
def Card.source (c : Card) : Region := c.reads.headD { space := 0, size := 6, base := 0 }
/-- The write region. -/
def Card.sink (c : Card) : Region := c.writes.headD { space := 0, size := 6, base := 0 }

/-- The piece at the cursor of a copy or a collective: offsets in the source and in the destination, and bytes. A copy's
pieces end where its destination crosses 256 B. -/
def Card.piece (c : Card) : Option (Nat × Nat × Nat) :=
  let j := c.job
  let (so, d, len) := c.rowAt j.row
  if c.rowCount ≤ j.row || len ≤ j.off then none
  else
    let at_ := if c.engine.rank = 0 then c.sink.base + d + j.off else j.off
    some (so + j.off, d + j.off, min (len - j.off) (256 - at_ % 256))

/-- The cursor past a piece. -/
def Card.passed (c : Card) (n : Nat) : Job :=
  let j := c.job
  let j := { j with next := j.next + 1, paced := j.paced + 1 }
  if (c.rowAt j.row).2.2 ≤ j.off + n then { j with row := j.row + 1, off := 0 } else { j with off := j.off + n }

/-- Towers of a collective card, rising. -/
def Card.towers (c : Card) : List Nat := (List.range 4).filter fun t => (field c.pa 0 4).testBit t

/-- f32 addition of an all-reduce (R158). -/
def reduceAdd (x y : Nat) : Nat := (round .f32 .rn {} (Exact.add .rn (Fmt.f32.value x) (Fmt.f32.value y))).code

/-- The towers whose data a collective reads. -/
def Card.readers (c : Card) : List Nat := if c.subop = 0 then [field c.pa 4 2] else c.towers

/-! ## Requests (R165) -/

/-- The next turn of a card to issue a request, one in each memory-layer cycle from the first on. -/
def State.nextTurn (s : State) (id : Nat) : State :=
  match s.cards.look id with
  | none => s
  | some c =>
    let t := c.job.base + ceilDiv (13 * c.job.paced) 4
    let s := s.onJob id fun j => if t < s.now then { j with turning := true, base := s.now, paced := 0 } else { j with turning := true }
    s.postAt (max t s.now) .cardStart [id, 0, 6, 0]

/-- A turn is due again where one of 64 requests in flight has ended. -/
def State.moreTurns (s : State) (id : Nat) : State :=
  match s.cards.look id with
  | some c => if c.job.turning || c.job.drained || c.job.limit.isSome || !c.running || (c.job.walkers.any fun w => w.2.isNone) then s
    else s.nextTurn id
  | none => s

/-- Requests whose data is still on its way; of a fill, those still being written. -/
def Job.inFlight (j : Job) : Nat := (j.reqs.filter fun q => decide (q.2.stage = 0) || q.2.parts.isEmpty && decide (q.2.stage = 2)).length

/-- A run cut at 128-B lines. -/
def linePieces (a n : Nat) : List (Nat × Nat) :=
  if n = 0 then []
  else (List.range ((a + n - 1) / 128 + 1 - a / 128)).map fun k =>
    let lo := max a (128 * (a / 128 + k))
    (lo, min (a + n) (128 * (a / 128 + k) + 128) - lo)

/-- The core from whose place an engine reaches memory. -/
def Card.place (c : Card) : Nat := match c.engine with
  | .gather n => n
  | _ => c.core

/-- Where an engine reads a line: at the home, or for the gather engine as a core's load does (R127, R165). -/
def State.jobColumn (s : State) (c : Card) (l : Leaf) (x : Nat) : Nat :=
  if c.engine.rank = 1 then s.readColumn { c.agent.flight false [] with kind := .load } l x else homeColumn s x

/-- The first number of the requests for a gather's index list (R127); its elements have their own, and its packed units those from
2^40 on. -/
def listRequest : Nat := 2 ^ 41

/-- Send the reads of a request whose runs are known: to memory by lines, or to a near space. -/
def State.sendReads (s : State) (id : Nat) (c : Card) (r : Nat) (delay : Nat) (runs : List (Nat × Nat × Leaf)) : State :=
  let t0 := c.job.base + ceilDiv (13 * c.job.paced) 4 + delay
  let gather := decide (c.engine.rank = 1 ∧ r < listRequest)
  let lines := runs.flatMap fun p => (linePieces p.1 p.2.1).map fun q => (q.1, q.2, p.2.2)
  let out := lines.foldl (fun (acc : List Nat × State) p =>
    let s := acc.2
    let l := p.2.2
    let x := l.line p.1
    let s := s.sign c.core c.chunk c.ctx false (l.lines p.1 p.2.1)
    let column := s.jobColumn c l x
    let e := pathExtra s c.place column
    let there := if inAperture x then pooledArrival s c.core column else if gather then e else 14 + e
    let t : Txn := { kind := .cardRead, core := c.core, ctx := c.ctx, label := c.tag, chunk := c.chunk, card := some (id, r),
                     gather, rank := if c.engine.rank = 1 then some 4 else none, leaf := l, va := p.1, size := p.2.1, line := x, path := e, column,
                     first := layerCycle (c.job.base + delay + there) + 1 + c.job.paced }
    let (tid, s) := s.sendTxn t (t0 + there)
    (acc.1 ++ [tid], s)) ([], s)
  out.2.onReq id r fun q => { q with waits := out.1 }

/-- Send the writes of a request: to the homes by lines or larger units, or to a near space, 4 cycles after the data's
arrival (R165). A store's way to its home takes 18 cycles and the path. -/
def State.sendWrites (s : State) (id : Nat) (c : Card) (r : Nat) (delay : Nat) (runs : List (Nat × Nat × Leaf)) : State :=
  match c.job.reqs.look r with
  | none => s
  | some q =>
    let s := s.onReq id r fun q => { q with stage := 2, waits := [] }
    if runs.isEmpty then s.post 4 .cardStart [id, r, 2, 0]
    else
      let cells (p : Nat × Nat × Leaf) (before : Nat) : List (Nat × Byte) :=
        ((q.data.drop before).take p.2.1).zipIdx.map fun b => (p.1 + b.2, b.1)
      let all := (runs.foldl (fun (acc : List (Leaf × List (Nat × Byte)) × Nat) p =>
        (acc.1 ++ [(p.2.2, cells p acc.2)], acc.2 + p.2.1)) ([], 0)).1
      let out := all.foldl (fun (acc : List Nat × State) p =>
        let l := p.1
        ((p.2.map fun b => b.1 / l.storeRun).eraseDups).foldl (fun (acc : List Nat × State) k =>
          let s := acc.2
          let bytes := p.2.filter fun b => decide (b.1 / l.storeRun = k)
          let va := (bytes.headD (0, 0)).1
          let x := l.line va
          let s := s.sign c.core c.chunk c.ctx true ((bytes.map fun b => l.lines b.1 1).flatten.eraseDups)
          let column := homeColumn s x
          let there := if inAperture x then pooledArrival s c.core column else 18 + pathExtra s c.core column
          let t : Txn := { kind := .card, core := c.core, ctx := c.ctx, label := c.tag, chunk := c.chunk, card := some (id, r),
                           leaf := l, va, line := x, column, bytes }
          let (tid, s) := s.sendTxn t (s.now + delay + there + (if l.fmt = 0 then 0 else 4))
          (acc.1 ++ [tid], s)) acc) ([], s)
      out.2.onReq id r fun q => { q with waits := out.1 }

/-! ## The end of a card -/

/-- Where a card signals: file and unit of its semaphore. -/
def Card.semUnit (c : Card) : Nat × Nat := if c.semf then (1, c.engine.tower) else (0, c.core)

/-- A card is over: a chunked task may have waited for its writes (R342). -/
def State.forgetCard (s : State) (id : Nat) (c : Card) : State :=
  let s := { s with cards := s.cards.cut id }
  if c.chunk.isSome then s.post 0 .taskComplete [c.node] else s

/-- A card leaves its queue: those behind it go on. What it still writes goes on without it. -/
def State.cardLeaves (s : State) (id : Nat) (c : Card) : State :=
  let s := if c.job.reqs.isEmpty then s.forgetCard id c else s.onCard id fun c => { c with stage := 3 }
  let s := s.kickEngines c.engine.tower
  match c.engine with
  | .collective _ => [0, 1, 2, 3].foldl (fun s t => if t = c.engine.tower then s else s.kickEngines t) s
  | _ => s

/-- A request is over: the card completes with its last, leaves where its fault has been recorded, or is forgotten where it has left
its queue (R166, R167). -/
def State.jobCheck (s : State) (id : Nat) : State :=
  match s.cards.look id with
  | none => s
  | some c =>
    if !c.job.reqs.isEmpty then s
    else if c.stage = 3 then s.forgetCard id c
    else if c.reported then s.cardLeaves id c
    else if c.job.limit.isNone && c.job.drained && decide (c.job.left = 0) then s.post 0 .cardComplete [id]
    else s

/-- The first access of a card that faults, that of its request r: the engine stops; requests from before it go on, later ones
are dropped (R127, R167). DEDUCED (log 108): accesses count in the order of their requests, and the card leaves once those before
the fault are over. -/
def State.jobFault (s : State) (id r : Nat) (x : BitVec 8 × Nat) : State :=
  match s.cards.look id with
  | none => s
  | some c =>
    let before (r : Nat) (q : Nat × JobReq) : Bool := decide (q.1 < r) || decide (q.2.stage = 2)
    let stop (s : State) (k : Nat) (r : Nat) : State :=
      s.onCard k fun c => { c with fault := c.fault.or (some x), job := { c.job with
        limit := some (min r (c.job.limit.getD r)), reqs := c.job.reqs.filter fun (q : Nat × JobReq) => before r q, walkers := [] } }
    if c.job.limit.isSome then stop s id r
    else if c.engine.rank = 2 && decide (r < 2 ^ 40) then
      -- a read of one tower's card is every card's
      c.job.group.foldl (fun s k => (stop s k 0).post 0 .cardFault [k]) s
    else (stop s id r).post 0 .cardFault [id]

/-- A running card is ended from outside: its current request is written, nothing later (R149, R168). -/
def State.endCard (s : State) (id : Nat) : State :=
  match s.cards.look id with
  | none => s
  | some c =>
    let first := c.job.reqs.foldl (fun (m : Nat) q => min m q.1) (2 ^ 48)
    let keep (q : Nat × JobReq) : Bool := decide (q.2.stage = 2) || decide (c.engine.rank = 0 ∧ q.1 = first)
    let s := s.onJob id fun j => { j with
      drained := true, limit := some (first + 1), reqs := j.reqs.filter fun (q : Nat × JobReq) => keep q, walkers := [] }
    match s.cards.look id with
    | some c => s.cardLeaves id c
    | none => s

/-! ## The steps of a request -/

/-- The data of a request is written to its place. -/
def State.jobWrite (s : State) (id r : Nat) : State :=
  match s.cards.look id with
  | none => s
  | some c =>
    match c.job.reqs.look r with
    | none => s
    | some q =>
      if s.cardHeld c then s.post 1 .cardStart [id, r, 7, 0]
      else
        match s.jobAccess id c c.sink q.dst q.n true 1 (some r) with
        | .fault s e va => (s.jobFault id r (e, va)).jobCheck id
        | .wait s => s
        | .go s d runs => s.sendWrites id c r d runs

/-- Send a gather's packed bytes down the bus of its column, and write them (R127). -/
def State.sendPacked (s : State) (id : Nat) : State :=
  match s.cards.look id with
  | none => s
  | some c =>
    let j := c.job
    if j.bytes.isEmpty then s
    else
      let r := 2 ^ 40 + j.packed
      let q : JobReq := { dst := j.packed * c.elementBytes - j.bytes.length, n := j.bytes.length, stage := 2, data := j.bytes, parts := [(0, [])] }
      let (tid, s) := (s.onJob id fun j => { j with bytes := [], reqs := j.reqs.put r q }).fresh
      s.board tid { kind := .transfer, core := c.core, column := c.place, gather := true, card := some (id, r), ctx := noCtx }

/-- A gather packs its elements in index order; at the first that has faulted, or whose place faults, it stops (R127). -/
def State.packElements (s : State) (id : Nat) : Nat → State
  | 0 => s
  | k + 1 =>
    match s.cards.look id with
    | none => s
    | some c =>
      let e := c.job.packed
      match c.job.reqs.look e with
      | none => s
      | some q =>
        if q.stage = 0 then s
        else
          let bad := match q.bad with
            | some x => some x
            | none => match s.jobAccess id c c.sink (e * c.elementBytes) c.elementBytes true 1 none with
              | .fault _ x va => some (x, va)
              | _ => none
          match bad with
          | some x => (s.sendPacked id).jobFault id e x
          | none =>
            let s := s.onJob id fun j => { j with packed := e + 1, bytes := j.bytes ++ q.data, reqs := j.reqs.cut e }
            let last := decide (e + 1 = c.count)
            let s := if last || decide ((e + 1) * c.elementBytes % 256 = 0) then s.sendPacked id else s
            s.packElements id k

/-- A piece of a collective reaches a card: it is written in its place, or for an all-reduce once every tower's has arrived
(R158). A piece's key is 2^32 times the rank of its tower, plus its number. -/
def State.pieceArrives (s : State) (id key : Nat) : State :=
  match s.cards.look id with
  | none => s
  | some c =>
    let r := key % 2 ^ 32
    let here := c.job.pieces.filter fun p => decide (p.1 % 2 ^ 32 = r ∧ p.2.1 ≤ s.now) && (decide (c.subop = 1) || decide (p.1 = key))
    let n := if c.subop = 1 then c.readers.length else 1
    if here.length < n then s
    else
      let words (bs : List Byte) : List Nat := (List.range (bs.length / 4)).map fun i => leNat ((bs.drop (4 * i)).take 4)
      let sorted := (List.range 4).filterMap fun k => here.find? fun p => decide (p.1 / 2 ^ 32 = k)
      let data := match sorted.map fun p => p.2.2 with
        | [] => []
        | [x] => x
        | x :: rest => ((rest.foldl (fun acc y => (acc.zip (words y)).map fun p => reduceAdd p.1 p.2) (words x)).map (leBytes 4)).flatten
      let dst := (if c.subop = 2 then key / 2 ^ 32 * field c.pb 0 40 else 0) + 256 * r
      let q : JobReq := { dst, n := data.length, stage := 1, data, parts := [(0, [])] }
      let s := s.onJob id fun j => { j with
        pieces := j.pieces.filter fun (p : Nat × Nat × List Byte) => !(here.any fun (h : Nat × Nat × List Byte) => decide (h.1 = p.1)), reqs := j.reqs.put (2 ^ 40 + key) q }
      s.jobWrite id (2 ^ 40 + key)

/-- Indices of a gather in 256 B of its list. -/
def Card.perList (c : Card) : Nat := 256 / c.indexBytes

/-- The place of index e of a gather: the pooled byte, or its fault (R120, R126). -/
def State.indexAt (s : State) (id : Nat) (c : Card) (e : Nat) : JobAccess :=
  s.jobAccess id c c.source (c.indexBytes * e) c.indexBytes false c.indexBytes none

/-- Part k of a gather's index list is at the engine: its indices, none for one whose granule is poisoned (R122, R127). -/
def State.listData (s : State) (id : Nat) (c : Card) (k : Nat) (data : List Byte) : State :=
  let ib := c.indexBytes
  let one (i : Nat) : Option Nat :=
    let bad := match s.indexAt id c (c.perList * k + i) with
      | .go _ _ ((pa, n, _) :: _) => s.scratchPoison ((List.range n).map (pa + ·))
      | _ => false
    if bad then none else some (leNat ((data.drop (ib * i)).take ib))
  s.onJob id fun j => { j with lists := j.lists.put k ((List.range (data.length / ib)).map one), reqs := j.reqs.cut (listRequest + k) }

/-- The index of the element that a gather issues next, where it has been read. -/
def Card.indexNow (c : Card) : Option (Option Nat) :=
  (c.job.lists.look (c.job.next / c.perList)).bind fun l => l[c.job.next % c.perList]?

/-- The data of a request is at its engine. DESIGN CHOICE (log 6): a collective's data is at every tower 210 cycles later. -/
def State.jobData (s : State) (id r : Nat) : State :=
  match s.cards.look id with
  | none => s
  | some c =>
    match c.job.reqs.look r with
    | none => s
    | some q =>
      let data := match q.parts with
        | [] => q.data
        | ps => (ps.foldl (fun m p => patch m (p.2.zipIdx.map fun b => (p.1 + b.2, b.1))) (List.replicate q.n 0))
      let s := s.onReq id r fun q => { q with stage := 1, data, parts := if q.parts.isEmpty then [(0, [])] else q.parts }
      if listRequest ≤ r then (s.listData id c (r - listRequest) data).moreTurns id
      else
      let s := s.moreTurns id
      match c.engine with
      | .copy _ => s.jobWrite id r
      | .gather _ => (s.packElements id 65).jobCheck id
      | .collective t =>
        let key := 2 ^ 32 * (if c.subop = 0 then 0 else (c.towers.findIdx? fun k => decide (k = t)).getD 0) + r
        let s := s.onJob id fun j => { j with reqs := j.reqs.cut r }
        c.job.group.foldl (fun s k =>
          (s.onJob k fun j => { j with pieces := j.pieces ++ [(key, s.now + 210, data)] }).post 210 .cardStart [k, key, 5, 0]) s

/-- Is an access of the core's barges, of its matrix engine, or of a lower engine on its way to the same near space in this cycle, so that
it goes before this one (R176, R188)? -/
def State.nearFirst (s : State) (c : Card) (space : Nat) : Bool :=
  let word := if space = 1 then Instr.localMemoryAccess else .tileStoreAccess
  (space ≠ 1 && s.startsMma c.core) || s.agenda.any fun e => decide (e.1 ≤ s.now) &&
    (e.2.what == word && decide (e.2.args.length = 1)
        && ((s.flights.look (e.2.args.getD 0 0)).any fun f => decide (f.core = c.core))
      || e.2.what == .cardStart && decide (e.2.args.length = 4 ∧ (e.2.args.getD 2 0 = 0 ∨ e.2.args.getD 2 0 = 2))
        && ((s.cards.look (e.2.args.getD 0 0)).any fun d => decide (d.core = c.core ∧ d.engine.rank < c.engine.rank)
          && decide ((if e.2.args.getD 2 0 = 0 then d.source.space else d.sink.space) = space)))

/-- Cycles for which an access of an engine takes local memory or the tile store (R177, R188). -/
def Card.nearCost (c : Card) (r : Region) (o n : Nat) : Nat :=
  if r.space = 1 then bankCost [(c.localBase + r.base + o, n)] else sliceCost [(r.base + o, n)]

/-- An access of an engine comes to local memory or the tile store, and is performed once those before it have been (R176, R188). -/
def State.nearArrives (s : State) (id r step o : Nat) : State :=
  match s.cards.look id with
  | none => s
  | some c =>
    match c.job.reqs.look r with
    | none => s
    | some q =>
      let g := if step = 0 then c.source else c.sink
      if s.nearFirst c g.space then s.post 0 .cardStart [id, r, step, o]
      else
        let n := c.nearCost g (if step = 0 then o else q.dst) q.n
        let k := s.core c.core
        let (last, k) := if g.space = 1 then
            let (start, k) := k.localTurn s.now n
            (start + n - 1, k)
          else k.tileTurn s.now n
        (s.setCore c.core k).postAt last .cardStart [id, r, step + 8, o]

/-- A near read is performed: what local memory or the tile store holds is at the engine 16 or 8 cycles after the access began (R165). -/
def State.nearRead (s : State) (id r o : Nat) : State :=
  match s.cards.look id with
  | none => s
  | some c =>
    match c.job.reqs.look r with
    | none => s
    | some q =>
      let g := c.source
      let a := (if g.space = 1 then c.localBase else 0) + g.base + o
      let k := s.core c.core
      if g.space = 1 && k.localPoison.any fun y => decide (a / 4 ≤ y ∧ 4 * y < a + q.n) then
        (s.jobFault id r (0x4A, g.base + o)).jobCheck id
      else
        let bytes := (List.range q.n).map fun i => Sparse.get (if g.space = 1 then k.localMem else k.tile) (a + i)
        (s.onReq id r fun q => { q with parts := [(0, bytes)] }).post ((if g.space = 1 then 17 else 9) - c.nearCost g o q.n) .cardStart
          [id, r, 1, 0]

/-- A near write is performed; it ends the poison of words it covers whole (R189). -/
def State.nearWrite (s : State) (id r : Nat) : State :=
  match s.cards.look id with
  | none => s
  | some c =>
    match c.job.reqs.look r with
    | none => s
    | some q =>
      let g := c.sink
      let k := s.core c.core
      let a := (if g.space = 1 then c.localBase else 0) + g.base + q.dst
      let put (m : Sparse 8) : Sparse 8 := q.data.zipIdx.foldl (fun m p => Sparse.set m (a + p.2) p.1) m
      let whole (y : Nat) : Bool := decide (a ≤ 4 * y ∧ 4 * y + 4 ≤ a + q.n)
      let k := if g.space = 1 then { k with localMem := put k.localMem, localPoison := k.localPoison.filter fun (y : Nat) => !whole y }
        else { k with tile := put k.tile }
      (((s.setCore c.core k).onJob id fun j => { j with reqs := j.reqs.cut r, left := j.left - 1 }).moreTurns id).jobCheck id

/-! ## Issuing requests (R127, R165) -/

/-- The cursor has met a fault: nothing more is issued. -/
def State.turnFaults (s : State) (id r : Nat) (x : BitVec 8 × Nat) : State :=
  ((s.onJob id fun j => { j with turning := false, drained := true }).jobFault id r x).jobCheck id

/-- The next request of a copy, a fill or a collective. -/
def State.issuePiece (s : State) (id : Nat) (c : Card) : State :=
  let r := c.job.next
  match c.piece with
  | none => (s.onJob id fun j => { j with turning := false, drained := true }).jobCheck id
  | some (so, d, n) =>
    let enter (s : State) (q : JobReq) : State := s.onJob id fun j => { (Card.passed { c with job := j } n) with reqs := j.reqs.put r q }
    if c.engine.rank = 0 && decide (c.subop = 2) then
      let pattern := leBytes 4 (field c.pb 0 32)
      let data := (List.range n).map fun k => pattern.getD ((so + k) % 4) 0
      ((enter s { dst := d, n, stage := 1, data }).jobWrite id r).nextTurn id
    else
      match s.jobAccess id c c.source so n false 1 none with
      | .fault s e va => s.turnFaults id r (e, va)
      | .wait s => s.onJob id fun j => { j with turning := false }
      | .go s delay runs =>
        let s := enter s { dst := d, n }
        let s := if runs.isEmpty then s.post delay .cardStart [id, r, 0, so] else s.sendReads id c r delay runs
        let s := if delay = 0 then s else s.onJob id fun j => { j with base := s.now + delay, paced := 1 }
        s.nextTurn id

/-- Ask for the next 256 B of a gather's index list, as far as its indices have a place: a read of the scratchpad like any other
(R127, R165). -/
def State.issueList (s : State) (id : Nat) (c : Card) : State :=
  let k := c.job.asked
  let n := min c.perList (c.count - c.perList * k)
  let good := ((List.range n).takeWhile fun i => match s.indexAt id c (c.perList * k + i) with
    | .go _ _ _ => true
    | _ => false).length
  let s := s.onJob id fun j => { j with asked := k + 1, paced := j.paced + 1 }
  match good, s.indexAt id c (c.perList * k) with
  | m + 1, .go s d ((pa, _, l) :: _) =>
    let r := listRequest + k
    let bytes := (m + 1) * c.indexBytes
    ((s.onJob id fun j => { j with reqs := j.reqs.put r { n := bytes } }).sendReads id c r d [(pa, bytes, l)]).nextTurn id
  | _, _ => (s.onJob id fun j => { j with lists := j.lists.put k [] }).nextTurn id

/-- The next request of a gather: a part of its index list, of which it reads one ahead (DESIGN CHOICE, log 108), or the read of its
next element (R126, R127). -/
def State.issueElement (s : State) (id : Nat) (c : Card) : State :=
  let e := c.job.next
  let size := c.elementBytes
  let pass (s : State) (q : JobReq) : State :=
    s.onJob id fun j => { j with next := e + 1, paced := j.paced + 1, reqs := j.reqs.put e q
                                 lists := j.lists.filter fun l => decide (e / c.perList ≤ l.1) }
  let bad (s : State) (x : BitVec 8 × Nat) : State :=
    (((pass s { stage := 1, bad := some x }).onJob id fun j => { j with turning := false, drained := true }).packElements id 65).jobCheck id
  let table := (c.reads.drop 1).headD c.source
  if c.count ≤ e then (s.onJob id fun j => { j with turning := false, drained := true }).jobCheck id
  else if decide (c.job.asked * c.perList < c.count) && decide (c.job.asked < e / c.perList + 2) then s.issueList id c
  else
    match c.job.lists.look (e / c.perList), c.indexNow, s.indexAt id c e with
    | none, _, _ => s.onJob id fun j => { j with turning := false }
    | some _, _, .fault s x va => bad s (x, va)
    | some _, none, _ => s.onJob id fun j => { j with turning := false }
    | some _, some none, _ => bad s (0x4A, c.source.base + c.indexBytes * e)
    | some _, some (some v), _ =>
      if field c.pb 32 32 ≤ v then
        (((pass s { n := size, stage := 1, data := List.replicate size 0, parts := [(0, [])] }).packElements id 65).jobCheck id).nextTurn id
      else
        match s.jobAccess id c table (v * field c.pb 0 32) size false (min size 16) none with
        | .fault s x va => bad s (x, va)
        | .wait s => s.onJob id fun j => { j with turning := false }
        | .go s delay runs =>
          let s := (pass s { n := size }).sendReads id c e delay runs
          let s := if delay = 0 then s else s.onJob id fun j => { j with base := s.now + delay, paced := 1 }
          s.nextTurn id

/-- A card's turn to issue a request: not while its label is held, nor with 64 in flight (R147, R165). -/
def State.jobTurn (s : State) (id : Nat) : State :=
  match s.cards.look id with
  | none => s
  | some c =>
    if !c.running || c.job.drained || c.job.limit.isSome || 64 ≤ c.job.inFlight then s.onJob id fun j => { j with turning := false }
    else if s.cardHeld c then s.post 1 .cardStart [id, 0, 6, 0]
    else if c.engine.rank = 1 then s.issueElement id c
    else s.issuePiece id c

/-- The page of a walk is known, or cannot be: what waited for it goes on or faults (R165, R167). -/
def State.jobWalked (s : State) (id vpn cause : Nat) : State :=
  match s.cards.look id with
  | none => s
  | some c =>
    let mine := c.job.walkers.filter fun w => decide (w.1 = vpn)
    let s := s.onJob id fun j => { j with walkers := j.walkers.filter fun (w : Nat × Option Nat) => decide (w.1 ≠ vpn) }
    mine.foldl (fun s w =>
      match w.2, cause with
      | none, 0 => s.moreTurns id
      | some r, 0 => s.post 0 .cardStart [id, r, 7, 0]
      | none, x =>
        let bad : BitVec 8 × Nat := (BitVec.ofNat 8 x, vpn * 65536)
        let va : Option Nat := match c.piece with
          | some (so, _, n) =>
            ((pageRuns (wide56 (c.source.base + so)) n).find? fun p => decide (vpnOf p.1 = vpn)).map (·.1)
          | none => none
        if c.engine.rank = 1 then
          let table := (c.reads.drop 1).headD c.source
          let a := wide56 (table.base + (c.indexNow.bind fun v => v).getD 0 * field c.pb 0 32)
          let va := (((pageRuns a c.elementBytes).find? fun p => decide (vpnOf p.1 = vpn)).map (·.1)).getD a
          let q : JobReq := { stage := 1, bad := some (bad.1, va) }
          ((s.onJob id fun j => { j with drained := true, turning := false, next := j.next + 1, reqs := j.reqs.put j.next q }).packElements
            id 65).jobCheck id
        else s.turnFaults id c.job.next (bad.1, va.getD bad.2)
      | some r, x =>
        let q := (c.job.reqs.look r).getD {}
        let va := ((pageRuns (wide56 (c.sink.base + q.dst)) q.n).find? fun p => decide (vpnOf p.1 = vpn)).map (·.1)
        (s.jobFault id r (BitVec.ofNat 8 x, va.getD (vpn * 65536))).jobCheck id) s

/-- A step of a request of a running card: 0 a near read, 1 its data at the engine, 2 a near write, 3 a write performed at its
home, 4 data of a read from memory, 5 a collective's piece, 6 a turn to issue, 7 its write once more, 8 and 10 a near read and write performed. -/
def State.jobStep (s : State) (id r step x : Nat) : State :=
  match step with
  | 0 => s.nearArrives id r 0 x
  | 1 => s.jobData id r
  | 2 => s.nearArrives id r 2 x
  | 8 => s.nearRead id r x
  | 10 => s.nearWrite id r
  | 3 =>
    let s := s.onReq id r fun q => { q with waits := q.waits.filter fun t => decide (t ≠ x) }
    match (s.cards.look id).bind fun c => c.job.reqs.look r with
    | some q =>
      if q.waits.isEmpty then ((s.onJob id fun j => { j with reqs := j.reqs.cut r, left := j.left - 1 }).moreTurns id).jobCheck id
      else s
    | none => s
  | 4 =>
    match s.txns.look x, s.cards.look id with
    | some t, some c =>
      let s := { s with txns := s.txns.cut x }
      match c.job.reqs.look r with
      | none => s
      | some q =>
        -- poison of an index list is that of its indices
        if t.poison && decide (r < listRequest) then
          if c.engine.rank = 1 then
            ((s.onReq id r fun q => { q with stage := 1, bad := some (0x4A, t.va), waits := [] }).packElements id 65).jobCheck id
          else (s.jobFault id r (0x4A, t.va)).jobCheck id
        else
          let s := s.onReq id r fun q => { q with waits := q.waits.filter fun k => decide (k ≠ x), parts := q.parts ++ [(t.va, t.data)] }
          if q.waits = [x] then
            -- offsets count from the request's lowest address
            let lo := (q.parts.map (·.1)).foldl min t.va
            (s.onReq id r fun q => { q with parts := q.parts.map fun (p : Nat × List Byte) => (p.1 - lo, p.2) }).jobData id r
          else s
    | _, _ => { s with txns := s.txns.cut x }
  | 5 => s.pieceArrives id r
  | 6 => s.jobTurn id
  | _ => s.jobWrite id r

/-! ## Steps of a card -/

/-- A card runs: its first request comes two cycles after its start. -/
def State.runCard (s : State) (id : Nat) (j : Job) : State :=
  (s.onCard id fun c => { c with running := true, job := { j with base := s.now + 2, turning := true } }).post 2 .cardStart [id, 0, 6, 0]

/-- A card faults before it has read or written anything. -/
def State.startFaults (s : State) (id : Nat) (x : BitVec 8 × Nat) : State :=
  (s.onCard id fun c => { c with running := true, fault := some x, job := { c.job with drained := true, limit := some 0 } }).post 2 .cardFault [id]

/-- The collective cards that a card would start with, one for each of its towers: the oldest eligible of its context and
group (R164). -/
def State.collectiveGroup (s : State) (c : Card) : Option (List (Nat × Card)) :=
  let mate (t : Nat) : Option (Nat × Card) :=
    if (s.queueOf (.collective t)).any fun d => d.2.running then none
    else ((s.queueOf (.collective t)).filter fun d =>
      s.eligible d.2 && decide (d.2.ctx = c.ctx) && decide (field d.2.pa 6 8 = field c.pa 6 8)).foldl
        (fun (b : Option (Nat × Card)) d => match b with
          | none => some d
          | some o => if d.2.seq < o.2.seq then some d else b) none
  let towers := if c.towers.isEmpty then [c.engine.tower] else c.towers
  let found := towers.filterMap mate
  if found.length = towers.length then some found else none

/-- Start a collective group: every card with a mismatch where they disagree (R164), else the whole operation. -/
def State.startCollective (s : State) (c : Card) (own : Nat × Card) (group : List (Nat × Card)) : State :=
  let same (d : Card) : Bool := decide (d.subop = c.subop ∧ field d.pa 0 6 = field c.pa 0 6 ∧ field d.pb 0 40 = field c.pb 0 40)
    && d.towers.contains d.engine.tower
  let all := if group.any fun d => decide (d.1 = own.1) then group else own :: group
  if !(all.all fun d => same d.2) then all.foldl (fun s d => s.startFaults d.1 (0x79, 0)) s
  else
    let len := field c.pb 0 40
    let n := if c.subop = 2 then c.towers.length else 1
    let ids := group.map (·.1)
    group.foldl (fun s d =>
      match (List.range n).find? fun k => s.partialUnits d.2 d.2.sink (k * len) len with
      | some k => s.startFaults d.1 (0x46, d.2.sink.base + k * len)
      | none =>
        let reads := c.readers.contains d.2.engine.tower
        s.runCard d.1 { group := ids, left := n * ceilDiv len 256, row := if reads then 0 else 1 }) s

/-- Start a copy, or a fill: not one that would write part of a unit of a format page (R165). -/
def State.startCopy (s : State) (id : Nat) (c : Card) : State :=
  match (List.range c.rowCount).find? fun k => s.partialUnits c c.sink (c.rowAt k).2.1 (c.rowAt k).2.2 with
  | some k => s.startFaults id (0x46, c.sink.base + (c.rowAt k).2.1)
  | none => s.runCard id {}

/-- Start the oldest eligible card of an engine that runs none (R163). -/
def State.startEngine (s : State) (e : Engine) : State :=
  let q := s.queueOf e
  if q.any fun c => c.2.running then s
  else
    let ready := q.filter fun c => s.eligible c.2 && (match e with
      | .collective _ => (s.collectiveGroup c.2).isSome
      | _ => true)
    match ready.foldl (fun (b : Option (Nat × Card)) d => match b with
        | none => some d
        | some o => if d.2.seq < o.2.seq then some d else b) none with
    | none => s
    | some (id, c) =>
      match e with
      | .copy _ => s.startCopy id c
      | .gather _ => s.runCard id {}
      | .collective _ =>
        match s.collectiveGroup c with
        | some group => s.startCollective c (id, c) group
        | none => s

/-- Does a card of a lower core, or of a lower slot of its core, reach its scheduler in this cycle too (R160)? -/
def State.lowerPost (s : State) (c : Card) : Bool :=
  let key (d : Card) : List Nat := [d.core, ((d.flight.bind s.flights.look).map fun (f : Flight) => f.slot).getD 0]
  s.agenda.any fun e => decide (e.1 ≤ s.now) && e.2.what == .cardStart && decide (e.2.args.length ≤ 3)
    && match s.cards.look (e.2.args.getD 0 0) with
       | some d => decide (d.stage ≤ 1 ∧ d.engine.tower = c.engine.tower) && decide (key d < key c)
       | none => false

/-- A card reaches its scheduler, is posted where its queue has room, and starts in its turn (R159, R160, R163). With four
numbers it is a step of a running card's request, with five the end of a walk for it. -/
def execCardStart (s : State) : Host.Outcome State Fault Refusal :=
  let id := s.arg 0
  if s.args.length = 4 then done (s.jobStep id (s.arg 1) (s.arg 2) (s.arg 3))
  else if s.args.length = 5 then done (s.jobWalked id (s.arg 3) (s.arg 4))
  else
  match s.cards.look id with
  | none => done s
  | some c =>
    let full := decide (c.engine.capacity ≤ (s.queueOf c.engine).length)
    let refuse (s : State) : State :=
      let s := match c.flight with
        | some f => s.fillScalar f 0 4
        | none => s
      { s with cards := s.cards.cut id }
    match c.stage with
    | 0 =>
      if c.jobq && full then done (refuse s)
      else
        let record := if s.args.length = 3 then some (s.arg 1, s.arg 2) else none
        done (({ s with cards := s.cards.put id { c with stage := 1, record, due := s.now + 8 } }).post 8 .cardStart [id])
    | 1 =>
      if s.now < c.due then done s
      else if s.lowerPost c then done (s.post 0 .cardStart [id])
      else if full then
        if c.jobq then done (refuse s)
        else done (match c.flight.bind s.flights.look with
          | some f => s.onBarge f.core f.slot fun b =>
              { b with wait := .counted, waitSince := if b.wait = .counted then b.waitSince else s.now }
          | none => s)
      else
        let s := match c.flight.bind s.flights.look with
          | some f => s.onBarge f.core f.slot fun b => { b with wait := .none }
          | none => s
        done (s.postCard id c c.record)
    | _ => done (s.startEngine c.engine)

/-- Every write of a card has been performed: its edges resolve, and its semaphore rises 6 cycles later (R163, R166). -/
def execCardComplete (s : State) : Host.Outcome State Fault Refusal :=
  let id := s.arg 0
  match s.cards.look id with
  | none => done s
  | some c =>
    let s := s.cardLeaves id c
    let u := c.semUnit
    done (if c.inc = 0 then s else s.post 6 .semaphoreUpdate [u.1, u.2, c.sem, 0, c.inc, c.engine.rank])

/-- A card's access faults: the card stops, and its semaphore records the cause 6 cycles later; with a second number, it has, and the
card leaves its queue (R167). -/
def execCardFault (s : State) : Host.Outcome State Fault Refusal :=
  let id := s.arg 0
  match s.cards.look id with
  | none => done s
  | some c =>
    if s.args.length = 2 then done ((s.onCard id fun c => { c with reported := true }).jobCheck id)
    else
      let u := c.semUnit
      let f := c.fault.getD (0, 0)
      done ((s.post 6 .semaphoreUpdate [u.1, u.2, c.sem, 2, 0, c.engine.rank, f.1.toNat, f.2]).post 6 .cardFault [id, 1])

end Sys2Proof.Machine
end

