-- ==== Sys2Proof/Machine/Place.lean ====
section
/-!
DEFINITION. Room on the cores and the placement of workgroups, gangs and whole tasks (R13, R344, R345, R368 to R372).
-/
namespace Sys2Proof.Machine
open Sys2Proof

/-! ## Room (R13, R370) -/

/-- Slots of a quarter that hold no barge, rising. -/
def State.freeSlots (s : State) (core q : Nat) : List Nat :=
  ((List.range 128).map fun k => 128 * q + k).filter fun k => (s.barge core k).isNone

/-- Barge-registers of a quarter that no barge holds. -/
def State.freeRegs (s : State) (core q : Nat) : Nat :=
  6144 - (s.barges.filter fun p => decide (p.1 / 512 = core ∧ quarterOf (p.1 % 512) = q)).foldl (fun n p => n + p.2.regs) 0

/-- What has come free on a core and is not reported yet (R370). -/
def State.unreported (s : State) (core : Nat) : List Leaving := (s.core core).leaving.filter fun x => decide (s.now < x.until_)

/-- Free slots of a quarter as the core has reported them. -/
def State.reportedSlots (s : State) (core q : Nat) : List Nat :=
  (s.freeSlots core q).filter fun k => !(s.unreported core).any fun x => decide (x.slot = some k)

/-- Free barge-registers of a quarter as the core has reported them. -/
def State.reportedRegs (s : State) (core q : Nat) : Nat :=
  s.freeRegs core q
    - ((s.unreported core).filter fun x => (x.slot.map quarterOf) == some q).foldl (fun n x => n + x.regs) 0

/-- Barge-registers of a core that it reports free. -/
def State.freeRegsOf (s : State) (core : Nat) : Nat := ([0, 1, 2, 3].map (s.reportedRegs core)).sum

/-- The lowest free local range of a size, from a 256-B boundary. -/
def State.freeLocal (s : State) (core size : Nat) : Option Nat :=
  let held := (s.wgs.filter fun w => decide (w.2.core = core) && !w.2.ended && decide (w.2.localSize ≠ 0)).map fun w =>
    (w.2.localBase, w.2.localSize)
  let used := held ++ ((s.unreported core).filter fun x => decide (x.size ≠ 0)).map fun x => (x.base, x.size)
  let fits (c : Nat) : Bool :=
    decide (c + size ≤ 262144) && used.all fun u => decide (c + size ≤ u.1 ∨ u.1 + u.2 ≤ c)
  ((0 :: used.map fun u => u.1 + u.2).filter fits).foldl (fun m c => some (min (m.getD c) c)) none

/-- Barges of a workgroup of n barges that stand in quarter q. -/
def inQuarter (n q : Nat) : Nat := (n + 3 - q) / 4

/-- Where a workgroup of a size fits on a core: the slots of its barges and its local range. -/
def State.room (s : State) (core barges regs size : Nat) : Option (List Nat × Nat) :=
  let slots := [0, 1, 2, 3].map (s.reportedSlots core)
  let ok := [0, 1, 2, 3].all fun q =>
    decide (inQuarter barges q ≤ (slots.getD q []).length ∧ inQuarter barges q * regs ≤ s.reportedRegs core q)
  if ok then
    (s.freeLocal core size).map fun base =>
      ((List.range barges).map fun j => (slots.getD (j % 4) []).getD (j / 4) 0, base)
  else none

/-! ## Cores a context may use -/

/-- Both layers of one die are failed (R263). -/
def MtxLayers.dead (m : MtxLayers) : Bool :=
  (m.failed.getLsbD 0 && m.failed.getLsbD 1) || (m.failed.getLsbD 2 && m.failed.getLsbD 3)

/-- A core that holds no workgroup: it or its cluster is out of service (R116, R263). -/
def State.coreDead (s : State) (core : Nat) : Bool := (s.core core).layers.dead || clusterDead s (clusterOf core)

/-- Is a cluster in the context's partition (R368)? -/
def State.inPartition (s : State) (sys : Bool) (cluster : Nat) : Bool := s.hub.partClusters.getLsbD cluster == sys

/-- A column of the cluster waits for its split (R111). -/
def State.splitBusy (s : State) (cluster : Nat) : Bool := [0, 1, 2, 3].any fun k => (s.column (4 * cluster + k)).busy

/-- Vacated for a context by pre-emption (R403). -/
def State.vacatedFor (s : State) (ctx core : Nat) : Bool := (s.ctx ctx).vacated.contains core

/-- The core that a map entry names is read as another one while it is vacated (R405). -/
def State.mapCore (s : State) (n : Node) (core : Nat) : Nat :=
  let v := (s.ctx n.ctx).vacated
  let rest := (n.cores.filter fun c => !v.contains c).mergeSort
  match v.idxOf? core with
  | some j => if rest.isEmpty then core else rest.getD (j % rest.length) core
  | none => core

/-- A cluster is hot for AUTO (R371). -/
def State.hotCluster (s : State) (cluster : Nat) : Bool :=
  (s.tower (clusterTower cluster)).hot && decide ((s.cluster cluster).allow ≤ (s.cluster cluster).used)

/-- The AUTO choice among cores: cool before hot, the most free barge-registers, the lowest number (R370, R371). -/
def State.autoCore (s : State) (ctx barges regs size : Nat) (cores : List Nat) : Option Nat :=
  let sys := (s.ctx ctx).sys
  let ok := cores.filter fun c =>
    s.inPartition sys (clusterOf c) && !s.coreDead c && !s.splitBusy (clusterOf c) && !s.vacatedFor ctx c
      && (s.room c barges regs size).isSome
  let cool := ok.filter fun c => !s.hotCluster (clusterOf c)
  (if cool.isEmpty then ok else cool).foldl (fun (m : Option Nat) c =>
    match m with
    | none => some c
    | some d => if s.freeRegsOf d < s.freeRegsOf c then some c else some d) none

/-! ## Placing -/

/-- Barges of a workgroup. -/
def Kernel.barges (k : Kernel) : Nat := k.wgx * k.wgy * k.wgz / 32

/-- Units of a node (R367). -/
def Node.perUnit (n : Node) : Nat := if n.coloc then n.count else n.kernel.gang.getD 1
/-- How many units a node has. -/
def Node.units (n : Node) : Nat := n.count / max 1 n.perUnit

/-- Barriers of a level with their expected count. -/
def freshBarriers (n expected : Nat) : Tab Barrier := (List.range n).map fun k => (k, { expected })

/-- A core receives a workgroup of a context: a tile store that another context used last is zeroed (R175). -/
def State.tileFor (s : State) (core ctx : Nat) : State :=
  if (s.core core).tileCtx = some ctx then s else s.setCore core { s.core core with tile := [], tileCtx := some ctx }

/-- Put workgroup i of a node on a core (R372): its record, and its barges as they stand at their first issue, which wait
for WORKGROUP_START. A tile store that another context used last is zeroed (R175). -/
def State.putWorkgroup (s : State) (id : Nat) (n : Node) (i core relaunches : Nat) (gang : Option Nat)
    (slots : List Nat) (base : Nat) : Nat × State :=
  let k := n.kernel
  let (wg, s) := s.fresh
  let x := i % n.gx
  let y := i / n.gx % n.gy
  let z := i / (n.gx * n.gy)
  let w : Workgroup :=
    { ctx := n.ctx, node := id, index := i, core, slots, regs := k.regs, x, y, z, localBase := base, localSize := k.localSize,
      perf := k.perf, threads := 32 * slots.length, gang, relaunches, barriers := freshBarriers 16 slots.length }
  let barge (j : Nat) : Barge :=
    { ctx := n.ctx, node := id, wg, number := j, laneWg := List.replicate 32 wg, regs := k.regs, reachOk := k.reachOk,
      chunkSlot := n.chunkSlot, gfx := n.gfx
      wgid := List.replicate 32 [BitVec.ofNat 32 x, BitVec.ofNat 32 y, BitVec.ofNat 32 z]
      pcs := List.replicate 32 (BitVec.ofNat 64 (wide56 k.entry)), running := BitVec.allOnes 32
      waitAt := List.replicate 32 0, fctl := k.fctl, tag := n.reach, blocked := true }
  let s := { s with wgs := s.wgs.put wg w }
  let s := s.tileFor core n.ctx
  let s := slots.zipIdx.foldl (fun s p => s.setBarge core p.1 (barge p.2)) s
  let s := match n.chunkSlot with
    | some sl => s.setCore core { s.core core with sigCtx := (s.core core).sigCtx.put sl n.ctx }
    | none => s
  (wg, s.onNode id fun n => { n with cores := if n.cores.contains core then n.cores else n.cores ++ [core] })

/-- An AUTO placement counts in its cluster's period, which ends at the next multiple of 1,600 hub cycles (R371). -/
def State.countAuto (s : State) (cluster : Nat) : State :=
  let c := s.cluster cluster
  let s := s.setCluster cluster { c with used := if c.used = 255 then 255 else c.used + 1 }
  if s.agenda.any fun e => e.2.what == .thermalPeriodStart then s
  else s.postAt (ofHubCycle ((hubCycle s.now / 1600 + 1) * 1600)) .thermalPeriodStart

/-- How an attempt to place ends: placed, it must wait, or an entry is illegal (R369). -/
inductive Placing where
  | placed (s : State)
  | wait
  | illegal

/-- The map entry of workgroup i: none for AUTO (R369). A map that cannot be read counts as illegal (log 30). -/
def State.mapEntry (s : State) (n : Node) (i : Nat) : Except Unit (Option Nat) :=
  if n.pmap = 0 then .ok none
  else
    match s.agentRead { core := 0, ctx := n.ctx } (wide56 (n.pmap + 2 * i)) 2 with
    | .error _ => .error ()
    | .ok bs =>
      let e := leNat bs
      if e = 0xFFFF then .ok none
      else if e ≥ 192 then .error ()
      else
        let e := s.mapCore n e
        if s.coreDead e || !s.inPartition (s.ctx n.ctx).sys (clusterOf e) then .error () else .ok (some e)

/-- May a chunked workgroup stand on a core: does its signature pair belong to no other context (R341)? -/
def State.pairFree (s : State) (n : Node) (core : Nat) : Bool :=
  match n.chunkSlot with
  | none => true
  | some sl =>
    match (s.core core).sigCtx.look sl with
    | none => true
    | some c => decide (c = n.ctx)

/-- Place one workgroup on its entry's core, or by AUTO among some cores. -/
def State.placeOne (s : State) (id : Nat) (n : Node) (i relaunches : Nat) (gang : Option Nat) (cores : List Nat) :
    Placing :=
  let k := n.kernel
  match s.mapEntry n i with
  | .error _ => .illegal
  | .ok (some c) =>
    match s.room c k.barges k.regs k.localSize with
    | some (slots, base) =>
      if s.splitBusy (clusterOf c) || !s.pairFree n c then .wait
      else .placed (s.putWorkgroup id n i c relaunches gang slots base).2
    | none => .wait
  | .ok none =>
    match s.autoCore n.ctx k.barges k.regs k.localSize (cores.filter (s.pairFree n)) with
    | none => .wait
    | some c =>
      match s.room c k.barges k.regs k.localSize with
      | some (slots, base) =>
        .placed ((s.putWorkgroup id n i c relaunches gang slots base).2.countAuto (clusterOf c))
      | none => .wait

/-- Place workgroups one after another among some cores, all or none. -/
def State.placeAll (s : State) (id : Nat) (n : Node) (relaunches : Nat) (gang : Option Nat) (cores : List Nat) :
    List Nat → Placing
  | [] => .placed s
  | i :: r =>
    match s.placeOne id n i relaunches gang cores with
    | .placed s => s.placeAll id n relaunches gang cores r
    | x => x

/-- The clusters that the explicit entries of some workgroups name, or none where an entry is illegal. -/
def State.namedClusters (s : State) (n : Node) : List Nat → Option (List Nat)
  | [] => some []
  | i :: r =>
    match s.mapEntry n i, s.namedClusters n r with
    | .ok (some c), some l => some (clusterOf c :: l)
    | .ok none, some l => some l
    | _, _ => none

/-- Try a gang on a cluster that holds none: its workgroups in turn (R344, R370). -/
def State.gangOn (s : State) (id : Nat) (n : Node) (u relaunches cluster : Nat) : Placing :=
  let size := n.kernel.gang.getD 1
  if s.gangs.any fun g => decide (g.2.cluster = cluster) then .wait
  else
    let (key, s) := s.fresh
    let first := s.nextId
    match s.placeAll id n relaunches (some key) ((List.range 4).map fun k => 4 * cluster + k)
        ((List.range size).map fun j => size * u + j) with
    | .placed s =>
      let g : Gang :=
        { node := id, cluster, members := (List.range size).map fun j => first + j
          barriers := freshBarriers 8 (size * n.kernel.barges) }
      .placed { s with gangs := s.gangs.put key g }
    | x => x

/-- Place a gang: on the cluster its explicit entries name, else on the cluster with the most free barge-registers on
which it fits, cool before hot, the lowest first (R370, R371). -/
def State.placeGang (s : State) (id : Nat) (n : Node) (u relaunches : Nat) : Placing :=
  let size := n.kernel.gang.getD 1
  match s.namedClusters n ((List.range size).map fun j => size * u + j) with
  | none => .illegal
  | some (c :: r) => if r.all fun d => decide (d = c) then s.gangOn id n u relaunches c else .illegal
  | some [] =>
    let free (c : Nat) : Nat := ((List.range 4).map fun k => s.freeRegsOf (4 * c + k)).sum
    let all := (List.range 48).filter (s.inPartition (s.ctx n.ctx).sys)
    let tries := (all.filter fun c => !s.hotCluster c).mergeSort (fun a b => decide (free b ≤ free a))
      ++ (all.filter s.hotCluster).mergeSort (fun a b => decide (free b ≤ free a))
    tries.foldl (fun (m : Placing) c =>
      match m with
      | .wait => s.gangOn id n u relaunches c
      | x => x) .wait

/-- Place every gang of a task in turn. -/
def State.placeGangs (s : State) (id : Nat) (n : Node) (relaunches : Nat) : List Nat → Placing
  | [] => .placed s
  | u :: r =>
    match s.placeGang id n u relaunches with
    | .placed s => s.placeGangs id n relaunches r
    | x => x

/-- The lowest set of task-wide barriers that no task holds (R345). -/
def State.freeTaskSet (s : State) : Option Nat := (List.range 16).find? fun k => !s.hub.taskSets.contains k

/-- A machine without resident work, for the test of R369. -/
def State.emptied (s : State) : State :=
  { s with
    barges := [], wgs := [], gangs := []
    columns := s.columns.mapVals fun c => { c with busy := false }
    ctxs := s.ctxs.mapVals fun c => { c with vacated := [] }
    cores := s.cores.mapVals fun c => { c with leaving := [] } }

/-- Place a task whole, with a set of task-wide barriers: it waits where it would fit on its partition were that empty,
and is illegal where it would not (R345, R369). -/
def State.placeTask (s : State) (id : Nat) (n : Node) : Placing :=
  let gangs := n.count / max 1 (n.kernel.gang.getD 1)
  let tooBig := decide (98304 < n.count * n.kernel.barges)
  if tooBig then .illegal
  else
    match s.emptied.placeGangs id n n.relaunched (List.range gangs) with
    | .placed _ =>
      match s.freeTaskSet with
      | none => .wait
      | some k =>
        match s.placeGangs id n n.relaunched (List.range gangs) with
        | .placed s =>
          let s := s.setHub { s.hub with taskSets := k :: s.hub.taskSets }
          .placed (s.onNode id fun n =>
            { n with taskSet := some k, barriers := freshBarriers 4 (n.count * n.kernel.barges) })
        | _ => .wait
    | _ => .illegal

/-- Place a unit of a node. -/
def State.placeUnit (s : State) (id : Nat) (n : Node) (u relaunches : Nat) : Placing :=
  if n.coloc then s.placeTask id n
  else if n.kernel.gang.isSome then s.placeGang id n u relaunches
  else s.placeOne id n u relaunches none (List.range 192)

end Sys2Proof.Machine
end

