-- ==== Sys2Proof/Machine/Packet.lean ====
section
/-!
DEFINITION. What the wharf reads: launch packets (Table 17.3), kernel descriptors (Table 17.5) and draw descriptors
(Table 13.4), with the checks of R282, R363 and R364.
-/
namespace Sys2Proof.Machine
open Sys2Proof

/-! ## Kernel descriptors (R364) -/

/-- A footprint slot j: nothing where it is unused, none where it breaks R364. -/
def footprintSlot (bs : List Byte) (j : Nat) : Option (List (Bool × Nat × Nat)) :=
  let x := dwordAt bs (8 + j)
  if field x 5 1 = 0 then (if x = 0 then some [] else none)
  else if field x 6 40 = 0 || field x 46 18 ≠ 0 then none
  else some [(decide (4 ≤ j), field x 0 5, field x 6 40)]

/-- Every footprint slot. -/
def footprintList (bs : List Byte) : Option (List (Bool × Nat × Nat)) :=
  [0, 1, 2, 3, 4, 5].foldl (fun acc j =>
    match acc, footprintSlot bs j with
    | some l, some m => some (l ++ m)
    | _, _ => none) (some [])

/-- Are the control bits of FCTL legal in a descriptor: reserved bits 0, RND 1 to 5? -/
def fctlImage (x : Nat) : Bool :=
  decide (Nat.land x 0x003F3F7F = x % 2 ^ 32) && decide (1 ≤ field x 0 3 ∧ field x 0 3 ≤ 5)

/-- A kernel descriptor, or none where it breaks R364. -/
def Kernel.parse (bs : List Byte) : Option Kernel :=
  let d0 := dwordAt bs 0
  let d1 := dwordAt bs 1
  let d2 := dwordAt bs 2
  let regs := field d1 0 4
  let size := field d1 4 11
  let x := field d1 15 11
  let y := field d1 26 11
  let z := field d1 37 11
  let gang := field d1 48 1
  let n := field d1 49 4
  let chunked := field d1 53 1 == 1
  let ok := field d0 56 8 = 0 && field d0 0 2 = 0 && decide (1 ≤ regs ∧ regs ≤ 12) && decide (size ≤ 1024)
    && decide (1 ≤ x ∧ 1 ≤ y ∧ 1 ≤ z) && decide (x * y * z % 32 = 0 ∧ x * y * z ≤ 1024)
    && decide (gang = 1 ∧ 1 ≤ n ∨ gang = 0 ∧ n = 0) && !(chunked && gang == 1) && field d1 59 5 = 0
    && fctlImage (field d2 0 32) && dwordAt bs 7 = 0 && dwordAt bs 14 = 0 && dwordAt bs 15 = 0
  match footprintList bs with
  | none => none
  | some fs =>
    if ok then
      some
        { entry := field d0 0 56, regs := 8 * regs, localSize := 256 * size, wgx := x, wgy := y, wgz := z
          gang := if gang = 1 then some (n + 1) else none
          chunked, idem := field d1 54 1 == 1, reachOk := field d1 55 1 == 1, perf := BitVec.ofNat 3 (field d1 56 3)
          fctl := Fctl.ofWord (BitVec.ofNat 32 (field d2 0 32)), pmask := BitVec.ofNat 32 (field d2 32 32)
          poff := (List.range 32).map fun k => (bs.getD (24 + k) 0).toNat, footprints := fs }
    else none

/-- A kernel descriptor in memory. -/
def State.kernelAt (s : State) (ctx va : Nat) : Option Kernel :=
  match s.agentRead { core := 0, ctx } (wide56 va) 128 with
  | .error _ => none
  | .ok bs => Kernel.parse bs

/-! ## Packets (R362, R363) -/

/-- A packet's dword. -/
def packetField (bs : List Byte) (k lo w : Nat) : Nat := field (dwordAt bs k) lo w

/-- Are its reserved bits 0 and its addresses aligned? -/
def packetOk (bs : List Byte) : Bool :=
  let f := packetField bs
  f 1 62 2 = 0 && f 2 52 12 = 0 && f 3 56 8 = 0 && f 4 56 8 = 0 && f 6 56 8 = 0 && f 7 56 7 = 0
    && f 0 0 7 = 0 && f 1 0 3 = 0 && (f 1 61 1 = 0 || f 1 0 7 = 0) && f 3 0 3 = 0 && f 4 0 1 = 0
    && f 6 0 3 = 0 && f 7 0 3 = 0

/-- A node as its packet describes it. -/
def Node.ofPacket (bs : List Byte) (ctx queue arrival : Nat) : Node :=
  let f := packetField bs
  { ctx, queue, state := .checking, arrival, kdesc := f 0 0 56, prio := f 0 56 8, args := f 1 0 56
    reach := BitVec.ofNat 3 (f 1 56 3), label := BitVec.ofNat 3 (f 1 56 3), hold := f 1 59 1 == 1, coloc := f 1 60 1 == 1
    gfx := f 1 61 1 == 1, gx := f 2 0 16 + 1, gy := f 2 16 16 + 1, gz := f 2 32 16 + 1, retry := f 2 48 4
    sigAddr := f 3 0 56, pmap := f 4 0 56, sigVal := BitVec.ofNat 32 (f 5 0 32), waitVal := BitVec.ofNat 32 (f 5 32 32)
    preds := [f 6 0 56, f 7 0 56], predsMet := [f 6 0 56 == 0, f 7 0 56 == 0], desc := bs }

/-- Does a packet with its kernel pass the other checks of R363? -/
def Node.fits (n : Node) (k : Kernel) : Bool :=
  !(n.hold && n.reach == 0) && (n.reach == 0 || k.reachOk) && (!n.coloc || k.gang.isSome)
    && decide (n.count % (k.gang.getD 1) = 0) && !(n.gfx && n.coloc)

/-! ## Draw descriptors (R282) -/

/-- A field of a draw descriptor. -/
def drawField (bs : List Byte) (k lo w : Nat) : Nat := field (dwordAt bs k) lo w

/-- Format and blend code of target t (Table 13.4). -/
def drawTarget (bs : List Byte) (t : Nat) : Nat × Nat × Nat × Nat :=
  (drawField bs (4 + t) 0 4, drawField bs (4 + t) 4 4, drawField bs (4 + t) 8 48 * 256, drawField bs 1 (56 + 2 * t) 2)

/-- Does a descriptor keep R282, its pixel program apart? -/
def drawOk (bs : List Byte) : Bool :=
  let f := drawField bs
  f 0 52 12 = 0 && f 0 17 2 ≠ 3 && f 1 0 7 = 0 && f 2 0 2 = 0 && f 2 56 8 = 0 && f 3 0 8 = 0 && f 3 56 8 = 0
    && f 8 20 44 = 0 && f 9 0 6 = 0 && f 9 56 8 = 0
    && ([10, 11, 12, 13, 14, 15].all fun k => dwordAt bs k = 0)
    && ([0, 1, 2, 3].all fun t =>
      let (fmt, _, _, blend) := drawTarget bs t
      f (4 + t) 56 8 = 0 && decide (fmt ≤ 9) && (blend = 0 || (fmt ≠ 8 && fmt ≠ 9)))

/-- Take a draw from its descriptor: its pixel program, and whether it faults DRAW_DESC_BAD (R282, R291). A descriptor
that cannot be read counts as bad (log 31). -/
def State.takeDraw (s : State) (node : Nat) (n : Node) : Draw :=
  match s.agentRead { core := 0, ctx := n.ctx, label := n.reach, rank := some hubRank } (wide56 n.args) 128 with
  | .error _ => { node, ctx := n.ctx, desc := List.replicate 128 0, number := 0, label := n.reach, faulted := true }
  | .ok bs =>
    let d : Draw := { node, ctx := n.ctx, desc := bs, number := drawField bs 0 0 12, label := n.reach }
    match s.kernelAt n.ctx (drawField bs 1 0 56) with
    | none => { d with faulted := true }
    | some k => { d with pixel := k, faulted := !drawOk bs || k.gang.isSome || k.chunked }

end Sys2Proof.Machine
end

