-- ==== Sys2Proof/Machine/Power.lean ====
section
/-!
DEFINITION. Frequency, power and heat: the clusters' steps (R379, R407), the package ceiling (R408), the periods of
thermal rotation (R371), the memory dies' temperature (R129) and the layers' (R263), power-off (R413).
-/
namespace Sys2Proof.Machine
open Sys2Proof

/-! ## Clusters (R379, R407) -/

/-- A step of 25 MHz towards the target (R407); or a workgroup's new request reaches its cluster (R379). -/
def execFreqStep (s : State) : Host.Outcome State Fault Refusal :=
  let cluster := s.arg 0
  match s.args with
  | [_, wg, n] =>
    match s.wgs.look wg with
    | some w => done (({ s with wgs := s.wgs.put wg { w with perf := BitVec.ofNat 3 n } }).kickFreq cluster)
    | none => done s
  | _ =>
    let c := s.cluster cluster
    let t := s.targetMhz cluster
    let h := hubCycle s.now
    if c.mhz.toNat = t then done s
    else if t < c.mhz.toNat then done ((s.setCluster cluster { c with mhz := c.mhz - 25 }).kickFreq cluster)
    else
      let gap := slopeGap c.slopeLimit
      if c.lastStep ≠ 0 && decide (h < c.lastStep + gap) then
        done (s.postAt (ofHubCycle (c.lastStep + gap)) .freqStep [cluster])
      else done ((s.setCluster cluster { c with mhz := c.mhz + 25, lastStep := h }).kickFreq cluster)

/-- A period of thermal rotation begins: the counts of every cluster start anew (R371). -/
def execThermalPeriodStart (s : State) : Host.Outcome State Fault Refusal :=
  done { s with clusters := s.clusters.mapVals fun c => { c with used := 0 } }

/-! ## The package (R408) -/

/-- The limit in force, between 180 and 420 W. -/
def Hub.limitWatts (h : Hub) : Nat := min 420 (max 180 h.pwrLimit.toNat)

/-- A power sample of so many watts: the ceiling moves by at most one class (R408). -/
def execPowerSample (s : State) : Host.Outcome State Fault Refusal :=
  let w := s.arg 0
  let h := s.hub
  let l := h.limitWatts
  let ceil := h.pwrCeil.toNat
  let ceil := if l < w then ceil - 1 else if w + 10 < l then min 7 (ceil + 1) else ceil
  let s := s.setHub { h with pwrWatts := BitVec.ofNat 9 (min 511 w), pwrCeil := BitVec.ofNat 3 ceil }
  done ((List.range 48).foldl State.kickFreq s)

/-! ## Temperatures -/

/-- A sample of a memory die, in quarter degrees: it becomes hot above 85.00 °C and stops at 83.00 °C or below, from the
first refresh period that begins after the sample (R129). -/
def execMemTempSample (s : State) : Host.Outcome State Fault Refusal :=
  let t := s.arg 0
  let x := s.tower t
  let r := s.arg 1
  let state := match x.hotPending with
    | some p => p.2
    | none => x.hot
  let want := if 340 < r then true else if r ≤ 332 then false else state
  let s := s.setTower t { x with temp := BitVec.ofNat 10 r }
  if want = state then done s
  else
    let m := ((layerCycle s.now + x.refreshLead) / 3200 + 1) * 3200 - x.refreshLead
    let s := s.setTower t { s.tower t with hotPending := some (m, want) }
    done (s.postAt (ofLayerCycle m) .hotStateChange [t])

/-- A memory die changes its state (R129): HOT_SEEN is set while it is hot. -/
def execHotStateChange (s : State) : Host.Outcome State Fault Refusal :=
  let t := s.arg 0
  let x := s.tower t
  match x.hotPending with
  | some (m, v) =>
    if m ≤ layerCycle s.now then
      done (s.setTower t { x with hot := v, hotSeen := v || x.hotSeenAt m, hotClear := none, hotPending := none })
    else done s
  | none => done s

/-- An argument as a two's-complement reading. -/
def signedArg (x : Nat) : Int := (BitVec.ofNat 64 x).toInt

/-- Which layers are throttled after a sample (R263): the higher reading of a pair, the higher number on equal ones; one
is released at THROT_C − 3 or below. -/
def MtxLayers.sample (m : MtxLayers) (readings : List Int) : MtxLayers :=
  let c : Int := m.throtC.toNat
  let r (j : Nat) : Int := readings.getD j 0
  let partner (j : Nat) : Nat := if j % 2 = 0 then j + 1 else j - 1
  let keeps (j : Nat) : Bool := m.throttled.getLsbD j && decide (c - 3 < r j) && !m.failed.getLsbD (partner j)
  let takes (j : Nat) : Bool :=
    let p := partner j
    decide (c < r j) && !m.failed.getLsbD p && !keeps p && !m.throttled.getLsbD j
      && !(decide (c < r p) && (decide (r j < r p) || (decide (r j = r p) && decide (j < p))))
  let bits := (List.range 4).foldl (fun (acc : Nat) j => if keeps j || takes j then acc + 2 ^ j else acc) 0
  { m with throttled := BitVec.ofNat 4 bits }

/-- A sample of the four layers of a core (R263). -/
def execLayerTempSample (s : State) : Host.Outcome State Fault Refusal :=
  let core := s.arg 0
  let c := s.core core
  done (s.setCore core { c with layers := c.layers.sample ((s.args.drop 1).map signedArg) })

/-! ## Off and on (R413) -/

/-- The part is unpowered: nothing of its state is left (R413). -/
def execPowerOff (_s : State) : Host.Outcome State Fault Refusal := done { State.reset with powered := false }

/-- The host link wakes the part: every wake is a power-up from reset (R410, R413). -/
def execPowerUp (_s : State) : Host.Outcome State Fault Refusal := done State.reset

end Sys2Proof.Machine
end

