-- ==== Sys2Proof/Machine/Wharf.lean ====
section
/-!
DEFINITION. Queues and the wharf: slot writes (R360), taking packets (R361, R363), dispatch (R366 to R371), the start
of a workgroup (R372), the end of a task (R373) and the weir (R342).
-/
namespace Sys2Proof.Machine
open Sys2Proof

/-! ## Queue slots (R360) -/

/-- A queue. -/
def State.queue (s : State) (q : Nat) : Queue := (s.hub.queues.look q).getD {}
/-- Replace a queue. -/
def State.setQueue (s : State) (q : Nat) (x : Queue) : State := s.setHub { s.hub with queues := s.hub.queues.put q x }

/-- Is a slot full? -/
def Queue.full (x : Queue) (slot : Nat) : Bool := (x.slots.get (64 * slot + 63)).getLsbD 7

/-- The bytes of a slot. -/
def Queue.packet (x : Queue) (slot : Nat) : List Byte := (List.range 64).map fun k => x.slots.get (64 * slot + k)

/-- Write bytes of a slot. -/
def Queue.write (x : Queue) (slot offset : Nat) (bs : List Byte) : Queue :=
  { x with slots := bs.zipIdx.foldl (fun m p => m.set (64 * slot + offset + p.2) p.1) x.slots }

/-- The number under which QUEUE_SLOT_WRITE stands for a LAUNCH to queue 0. -/
def launchQueue : Nat := 1000

/-- A slot whose FULL a LAUNCH is about to set. -/
def State.slotClaimed (s : State) (q slot : Nat) : Bool :=
  s.agenda.any fun e => e.2.what == .queueSlotWrite && e.2.args.take 2 == [q, slot]

/-- A write to a queue slot arrives (R360): from the host, or a LAUNCH's packet (R377). A LAUNCH comes twice: when its
packet has been read, which fixes its slot and its status, and when its bytes reach the slot. -/
def execQueueSlotWrite (s : State) : Host.Outcome State Fault Refusal :=
  let q := s.arg 0
  if launchQueue ≤ q then
    let q := q - launchQueue
    let x := s.queue q
    let t := x.tail.toNat
    if x.full t || s.slotClaimed q t then done (s.fillScalar (s.arg 1) 2 20)
    else
      let s := s.setQueue q { x with tail := x.tail + 1 }
      let s := s.fillScalar (s.arg 1) (BitVec.ofNat 64 (1 + 2 ^ 16 * t)) 20
      done (s.post 36 .queueSlotWrite (q :: t :: 0 :: (s.args.drop 2).take 64))
  else
    let slot := s.arg 1
    let x := s.queue q
    if x.full slot || decide (64 ≤ q) || decide (64 ≤ slot) then done s
    else
      let bytes := ((s.args.drop 3).take (64 - s.arg 2)).map fun b => BitVec.ofNat 8 b
      let y := x.write slot (s.arg 2) bytes
      done (if y.full slot then (s.setQueue q { y with takeAt := y.takeAt.put slot (s.now + 4) }).post 4 .wharfTake
        else s.setQueue q y)

/-! ## Failing and finishing -/

/-- Record a failure in WHARF_FAULT (Table 17.4). -/
def State.wharfFault (s : State) (ctx queue : Nat) (cause : BitVec 8) : State :=
  s.setHub { s.hub with
    wharfFaultValid := true, wharfFaultCtx := BitVec.ofNat 8 ctx, wharfFaultQueue := BitVec.ofNat 6 queue
    wharfFaultCause := cause }

/-- A node leaves the wharf for good: its workgroups' records and its barriers go with it. -/
def State.removeNode (s : State) (id : Nat) : State :=
  match s.nodes.look id with
  | none => s
  | some _ =>
    let s := s.freeTaskBarriers id
    let s := { s with
      nodes := s.nodes.cut id, wgs := s.wgs.filter fun w => decide (w.2.node ≠ id)
      gangs := s.gangs.filter fun g => decide (g.2.node ≠ id)
      saves := s.saves.filter fun r => decide (r.wg.node ≠ id)
      -- its number may name another task later (R162)
      cards := s.cards.mapVals fun c => { c with taskEdges := c.taskEdges.filter fun e => decide (e ≠ id) } }
    s.askDispatch

/-- A node ends with a completion value (R373). -/
def State.signalNode (s : State) (id : Nat) (value : Dword) : State :=
  match s.nodes.look id with
  | none => s
  | some n => (s.removeNode id).writeSignal n.ctx n.sigAddr value

/-! ## Taking a packet (R361, R363, R374) -/

/-- The node waits in the wharf: it counts towards the 4,096 (R361). -/
def Node.inWharf (n : Node) : Bool := n.state ≠ .placed && n.state ≠ .done

/-- May the wharf take the head of a queue: is it full, and has it been so for four cycles (R361, R374)? -/
def Queue.ready (x : Queue) (now : Nat) : Bool :=
  x.en && x.full x.head.toNat && decide ((x.takeAt.look x.head.toNat).getD 0 ≤ now)

/-- The first enabled queue with a full head, after the one last taken. -/
def State.nextQueue (s : State) : Option Nat :=
  ((List.range 64).map fun k => (s.hub.lastQueue + 1 + k) % 64).find? fun q => (s.queue q).ready s.now

/-- Cycles that a line costs the wharf beyond its own cache: from a stacked cache or from GDDR (R374). -/
def State.wharfLine (s : State) (ctx va : Nat) : Nat :=
  match s.agentLeaf { core := 0, ctx } va 1 false with
  | .ok l => if s.homeHit (l.who ctx 0 none) (l.line va) then 170 else 410
  | .error _ => 410

/-- The lowest node number not in use (log 32). -/
def State.freeNode (s : State) : Nat := ((List.range 8192).find? fun k => (s.nodes.look k).isNone).getD 8192

/-- The agent by which the hub reads what a launch names. -/
def hubAgent (ctx : Nat) (label : BitVec 3) : Agent := { core := 0, ctx, label, rank := some hubRank }

/-- The lines of a context's memory between two addresses. -/
def linesOf (lo hi : Nat) : List Nat := (List.range (hi / 128 + 1 - lo / 128)).map fun k => 128 * (lo / 128 + k)

/-- The wharf reads the words that a packet waits for, after every write of the same hub cycle (R365). -/
def State.readPreds (s : State) (id : Nat) (n : Node) : State :=
  let seen := n.preds.map fun va => if va = 0 then none else s.agentDword n.ctx (wide56 va)
  let met := (n.preds.zip seen).map fun p => decide (p.1 = 0) || decide (p.2 = some (n.waitVal.setWidth 64))
  let s := (n.preds.filter (· ≠ 0)).foldl (fun s va => s.fetches (hubAgent n.ctx 0) (wide56 va) 8) s
  let s := s.onNode id fun n => { n with predsMet := met }
  if seen.any fun v => decide (v = some cancelledValue ∨ v = some killedValue) then s.cancelNode id else s

/-- The wharf takes a packet (R361): its predecessors are read, and the checks follow. -/
def State.takePacket (s : State) (q : Nat) : State :=
  let x := s.queue q
  let bs := x.packet x.head.toNat
  let last := 64 * x.head.toNat + 63
  let s := s.setQueue q { x with head := x.head + 1, slots := x.slots.set last ((x.slots.get last).setWidth 7 |>.setWidth 8) }
  let s := s.setHub { s.hub with lastQueue := q, launched := true, dispatched := s.hub.dispatched.put 2 (hubCycle s.now) }
  let ctx := x.ctx.toNat
  let id := s.freeNode
  let (arrival, s) := s.fresh
  let n := Node.ofPacket bs ctx q arrival
  let s := { s with nodes := s.nodes.put id { n with predsMet := n.preds.map fun va => decide (va = 0) } }
  let hit := s.hub.descCache.contains (n.kdesc, ctx)
  let kline := if hit then 0 else s.wharfLine ctx (wide56 n.kdesc)
  let plines := if n.pmap = 0 then 0 else
    ((linesOf n.pmap (n.pmap + 2 * n.count - 1)).map fun va => s.wharfLine ctx (wide56 va)).sum
  let cache := ((n.kdesc, ctx) :: s.hub.descCache.filter fun p => decide (p ≠ (n.kdesc, ctx))).take 64
  let s := s.setHub { s.hub with descCache := cache }
  let s := if hit then s else s.fetches (hubAgent ctx 0) (wide56 n.kdesc) 128
  let s := if n.pmap = 0 then s else s.fetches (hubAgent ctx 0) (wide56 n.pmap) (2 * n.count)
  (s.post (24 + kline + plines) .wharfTake [1, id, arrival]).postAt (max s.now (ofHubCycle (hubCycle s.now + 1) - 1)) .wharfTake [2, id, arrival]

/-- A packet's checks are done (R363): it waits for its predecessors, or it fails; one that has been cancelled ends there. -/
def State.checkPacket (s : State) (id : Nat) (n : Node) : State :=
  let kernel := if packetOk n.desc && (s.ctx n.ctx).valid then s.kernelAt n.ctx n.kdesc else none
  match kernel with
  | some k =>
    if n.fits k then
      let s := s.onNode id fun n => { n with kernel := k, state := .waiting }
      if n.cancelled then s.post 0 .taskComplete [id] else s.checkReady id
    else (s.wharfFault n.ctx n.queue 0x74).signalNode id cancelledValue
  | none => (s.wharfFault n.ctx n.queue 0x74).signalNode id cancelledValue

/-- WHARF_TAKE: in each hub cycle the wharf takes at most one packet, while it holds fewer than 4,096 nodes, verified
firmware runs and the device is not in the fatal state (R361, R401, R410; log 35). -/
def execWharfTake (s : State) : Host.Outcome State Fault Refusal :=
  match s.args with
  | [k, id, arrival] =>
    match s.nodes.look id with
    | some n =>
      if n.arrival ≠ arrival || n.state ≠ .checking then done s
      else if k = 1 then done (s.checkPacket id n)
      else if s.agenda.any (reachesHome s.now) then done (s.post 0 .wharfTake s.args)
      else done (s.readPreds id n)
    | none => done s
  | _ =>
    let next (s : State) : State :=
      let at_ := ofHubCycle (hubCycle s.now + 1)
      if s.nextQueue.isSome && !(s.agenda.any fun e => e.2.what == .wharfTake && e.2.args.isEmpty && decide (e.1 ≤ at_)) then
        s.postAt at_ .wharfTake
      else s
    if s.hub.fatalValid || s.hub.bootState ≠ 2 then done s
    else if s.hub.dispatched.look 2 = some (hubCycle s.now) then done (next s)
    else if 4096 ≤ (s.nodes.filter fun n => n.2.inWharf).length then done (next s)
    else
      match s.nextQueue with
      | none => done s
      | some q => done (next (s.takePacket q))

/-! ## Dispatch (R366 to R371, R374) -/

/-- Effective priority of a ready node (R367). -/
def State.priority (s : State) (n : Node) : Nat :=
  let q := s.queue n.queue
  let w := hubCycle s.now - n.readySince
  max n.prio (min q.cap.toNat (n.prio + w / (1600 * 2 ^ q.agek.toNat)))

/-- Ready nodes of a partition, in rank order. -/
def State.ranked (s : State) (sys : Bool) : List (Nat × Node) :=
  (s.nodes.filter fun p =>
      p.2.state = .ready && !p.2.cancelled && decide (p.2.readyAt ≤ s.now) && (s.ctx p.2.ctx).sys == sys
        && !(s.ctx p.2.ctx).killBusy
        && !(p.2.gfx && (s.hub.gfxHalt == some p.2.ctx || s.saveGfx.any fun g => decide (g.ctx = p.2.ctx)))
        && !(s.saves.any fun r => decide (r.wg.node = p.1))).mergeSort
    fun a b => decide (s.priority b.2 < s.priority a.2)
      || (decide (s.priority a.2 = s.priority b.2) && decide (a.2.arrival ≤ b.2.arrival))

/-- The chunk slot a node is to run in: its own, or the lowest free one (R154). -/
def State.slotFor (s : State) (n : Node) : Option (Option Nat) :=
  if !n.kernel.chunked then some none
  else
    match n.chunkSlot with
    | some k => some (some k)
    | none => ((List.range 64).find? fun k => (s.ctx n.ctx).chunk k = .free).map some

/-- Argument words of a node: the values of its `.param` registers, none where a word cannot be read (R372). -/
def State.argument (s : State) (n : Node) (k : Kernel) (r : Nat) : Option Dword :=
  let base := n.args + (if n.gfx then 128 else 0)
  match s.agentRead (hubAgent n.ctx n.reach) (wide56 (base + 8 * k.poff.getD r 0)) 8 with
  | .ok bs => some (BitVec.ofNat 64 (leNat bs))
  | .error _ => none

/-- A node's first unit has been placed: its regions are those of a running task (R162), and a draw takes its place in
the order of draws (R288). -/
def State.nodeStarts (s : State) (id : Nat) : State :=
  match s.nodes.look id with
  | none => s
  | some n =>
    let regions := n.kernel.footprints.filterMap fun f => (s.argument n n.kernel f.2.1).map fun v => (f.1, v.toNat, f.2.2)
    let s := s.onNode id fun n => { n with regions }
    if n.gfx && n.draw.isNone then
      let (d, s) := s.fresh
      let s := { s with draws := s.draws.put d (s.takeDraw id n) }
      [0, 1, 2, 3].foldl (fun s t => s.post 0 .windowRelease [t]) (s.onNode id fun n => { n with draw := some d })
    else s

/-- A unit of a node has been placed; `before` is the number from which its workgroups are new. -/
def State.unitPlaced (s : State) (id before : Nat) : State :=
  match s.nodes.look id with
  | none => s
  | some n =>
    let first := decide (n.nextUnit = 0) && n.again.isEmpty
    let n' := match n.again with
      | _ :: r => { n with again := r }
      | [] => { n with nextUnit := if n.coloc then n.units else n.nextUnit + 1 }
    let n' := if n'.again.isEmpty && decide (n'.units ≤ n'.nextUnit) then { n' with state := .placed } else n'
    let s := { s with nodes := s.nodes.put id n' }
    let s := match n.chunkSlot with
      | some k => s.setCtx n.ctx { s.ctx n.ctx with chunks := (s.ctx n.ctx).chunks.put k .running }
      | none => s
    let s := if first then s.nodeStarts id else s
    let new := s.wgs.filter fun w => decide (before ≤ w.1)
    let s := new.foldl (fun s w => s.post 48 .workgroupStart [w.1]) s
    ((new.map fun w => clusterOf w.2.core).eraseDups).foldl State.kickFreq s

/-- Place the next unit of the first node that can be placed (R367). -/
def State.dispatchFrom (s : State) : List (Nat × Node) → State
  | [] => s
  | (id, n) :: r =>
    match s.slotFor n with
    | none => s.dispatchFrom r
    | some slot =>
      let n' := { n with chunkSlot := slot }
      let (u, times) := match n.again with
        | x :: _ => x
        | [] => (n.nextUnit, 0)
      match ({ s with nodes := s.nodes.put id n' }).placeUnit id n' u times with
      | .placed t => t.unitPlaced id s.nextId
      | .wait => s.dispatchFrom r
      | .illegal =>
        ((s.wharfFault n.ctx n.queue 0x75).cancelNode id).dispatchFrom r

/-- WHARF_DISPATCH: at most one unit of a partition in a hub cycle (R367). -/
def execWharfDispatch (s : State) : Host.Outcome State Fault Refusal :=
  let p := s.arg 0
  let h := hubCycle s.now
  let ready := s.nodes.any fun n => n.2.state = .ready && !n.2.cancelled && (s.ctx n.2.ctx).sys == (p == 1)
  if !ready then done s
  -- a period that begins in this cycle has begun (R371)
  else if s.agenda.any fun e => decide (e.1 ≤ s.now) && e.2.what == .thermalPeriodStart then done (s.post 0 .wharfDispatch s.args)
  else if s.hub.dispatched.look p = some h then done s.askDispatch
  else
    let t := s.dispatchFrom (s.ranked (p == 1))
    let t := if t.nextId = s.nextId then t else t.setHub { t.hub with dispatched := t.hub.dispatched.put p h }
    done t.askDispatch

/-! ## The start of a workgroup (R372) -/

/-- The kernel a workgroup runs: its node's, or the pixel program of its node's draw (R291). -/
def State.kernelOf (s : State) (w : Workgroup) (n : Node) : Kernel :=
  let pixel := match w.slots.head?.bind (s.barge w.core) with
    | some b => b.pixelProgram
    | none => false
  if pixel then ((n.draw.bind s.draws.look).map (·.pixel)).getD n.kernel else n.kernel

/-- Registers that `.param` names. -/
def Kernel.params (k : Kernel) : List Nat := (List.range 32).filter k.pmask.getLsbD

/-- Read the arguments of a workgroup; a word that cannot be read is a free value (log 33). -/
def State.readParams (s : State) (core : Nat) (n : Node) (k : Kernel) : Tab Dword × State :=
  let base := n.args + (if n.gfx then 128 else 0)
  let lines := (k.params.map fun r => (base + 8 * k.poff.getD r 0) / 128 * 128).eraseDups
  let s := lines.foldl (fun s va => s.fetches { core, ctx := n.ctx, label := n.reach } (wide56 va) 8) s
  k.params.foldl (fun (acc : Tab Dword × State) r =>
    match acc.2.argument n k r with
    | some v => (acc.1.put r v, acc.2)
    | none =>
      let (v, s) := acc.2.free
      (acc.1.put r v, s)) ([], s)

/-- The latency of the argument lines from the core (R374). -/
def State.paramLatency (s : State) (core : Nat) (n : Node) (k : Kernel) : Nat :=
  let base := n.args + (if n.gfx then 128 else 0)
  (k.params.map fun r => (base + 8 * k.poff.getD r 0) / 128 * 128).eraseDups.foldl
    (fun m va => max m (s.agentLatency { core, ctx := n.ctx, label := n.reach } (wide56 va))) 0

/-- The entry fetch of a launch has its page in the TLBs before the first word issues: the exact counts of R374 have no
room for a walk (log 44). -/
def State.entryFetch (s : State) (core ctx : Nat) (entry : Nat) : State :=
  let vpn := vpnOf (wide56 entry)
  match s.lookupPage core ctx vpn with
  | some (_, _, t) => t
  | none =>
    match s.walkPage ctx vpn with
    | .ok l => s.installLeaf [core] { ctx, vpn, leaf := l }
    | .error _ => s

/-- The workgroup record reaches its core: its local range is zero-filled, its arguments are read and its entry word is
fetched; then its registers are set, the launch acquire is performed (R182, R338) and its barges may issue (R372, R374). -/
def execWorkgroupStart (s : State) : Host.Outcome State Fault Refusal :=
  let id := s.arg 0
  match s.wgs.look id with
  | none => done s
  | some w =>
    match s.nodes.look w.node with
    | none => done s
    | some n =>
      let k := s.kernelOf w n
      match s.args with
      | [_] =>
        let c := s.core w.core
        let inRange (a : Nat) : Bool := decide (w.localBase ≤ a ∧ a < w.localBase + w.localSize)
        let s := s.setCore w.core { c with
          localMem := c.localMem.filter fun p => !inRange p.1
          localPoison := c.localPoison.filter fun a => !inRange (4 * a) }
        let s := s.entryFetch w.core w.ctx k.entry
        done (s.post (s.paramLatency w.core n k) .workgroupStart [id, s.now + ceilDiv w.localSize 128 + 1])
      | _ =>
        let (params, s) := s.readParams w.core n k
        let s := s.l1Invalidate w.core fun t => decide (t.kind = 1)
        let s := { s with wgs := s.wgs.put id { w with started := true, params } }
        let bad := ((n.draw.bind s.draws.look).map (·.faulted)).getD false
        let at_ := max (s.now + 28) (s.arg 1)
        let start (b : Barge) : Barge :=
          { params.foldl (fun b p => b.setS p.1 p.2) b with
            blocked := false, readyAt := at_, eligibleSince := at_
            delivered := if bad && !b.pixelProgram then some 0x7B else b.delivered }
        done (w.slots.foldl (fun s k => s.onBarge w.core k start) s)

/-! ## The weir (R342) -/

/-- A core's signature of a slot of a context; empty where its pair belongs to another. -/
def Core.signature (c : Core) (write : Bool) (ctx slot : Nat) : Sparse 1 :=
  if c.sigCtx.look slot = some ctx then ((if write then c.sigWrite else c.sigRead).look slot).getD [] else []

/-- Do all four banks of two signatures share a set bit? -/
def banksMeet (a b : Sparse 1) : Bool :=
  [0, 1, 2, 3].all fun k => a.any fun p => decide (p.1 / 512 = k) && decide (b.get p.1 ≠ 0)

/-- Does the task in slot t conflict with that in slot u (R342)? -/
def State.conflict (s : State) (ctx t u : Nat) : Bool :=
  s.cores.any fun c =>
    let w := c.2.signature true ctx t
    banksMeet w (c.2.signature true ctx u) || banksMeet w (c.2.signature false ctx u)

/-- A chunked task is aborted and requeued from its start (R342). -/
def State.requeue (s : State) (id : Nat) : State :=
  match s.nodes.look id with
  | none => s
  | some n =>
    let s := s.stopTask id
    let s := match n.chunkSlot with
      | some k => s.killSlot n.ctx k
      | none => s
    let s := s.onNode id fun n => { n with chunkSlot := none, nextUnit := 0, again := [], regions := [] }
    if n.cancelled then s else s.makeReady id

/-- A chunked task requests its commit; 180 cycles later the weir tests it against the running slots, aborts those that
conflict, and commits it (R342). -/
def execChunkCommitRequest (s : State) : Host.Outcome State Fault Refusal :=
  let id := s.arg 0
  match s.nodes.look id with
  | none => done s
  | some n =>
    match n.chunkSlot with
    | none => done s
    | some t =>
      match s.args with
      | [_] => done (s.post 180 .chunkCommitRequest [id, t])
      | _ =>
        -- requests of one hub cycle are taken in ascending slot
        let before := s.agenda.filter fun (e : Nat × Event) => e.2.what == Instr.chunkCommitRequest
          && decide (e.2.args.length = 2 ∧ e.2.args.getD 1 0 < t ∧ hubCycle (e.1 - 180) = hubCycle (s.now - 180))
          && ((s.nodes.look (e.2.args.getD 0 0)).any fun m => decide (m.ctx = n.ctx))
        if t ≠ s.arg 1 || decide ((s.ctx n.ctx).chunk t ≠ ChunkState.running) then done s
        else if !before.isEmpty then
          done (s.postAt (before.foldl (fun m e => max m e.1) s.now) .chunkCommitRequest s.args)
        else
          let losers := s.nodes.filter fun m => decide (m.1 ≠ id ∧ m.2.ctx = n.ctx) &&
            match m.2.chunkSlot with
            | some u => decide ((s.ctx n.ctx).chunk u = ChunkState.running) && s.conflict n.ctx t u
            | none => false
          let s := losers.foldl (fun s m => s.requeue m.1) s
          let c := s.ctx n.ctx
          let s := s.setCtx n.ctx { c with chunks := c.chunks.put t (.committed c.commitSeq), commitSeq := c.commitSeq + 1 }
          let clear (k : Core) : Core :=
            if k.sigCtx.look t = some n.ctx then
              { k with sigRead := k.sigRead.cut t, sigWrite := k.sigWrite.cut t, sigCtx := k.sigCtx.cut t }
            else k
          let s := ({ s with cores := s.cores.mapVals clear }).settleLater n.ctx (8 + t)
          done ((s.onNode id fun n => { n with chunkSlot := none, released := true }).post 0 .taskComplete [id])

/-! ## The end of a task (R343, R373) -/

/-- A draw is over: every tower has released its primitives, and nothing of it is left to shade or to retire. -/
def State.drawOver (s : State) (d : Nat) : Bool :=
  match s.draws.look d with
  | none => !(s.saveGfx.any fun g => (g.draws.look d).isSome)
  | some x =>
    [0, 1, 2, 3].all fun t =>
      let g := s.gfxTower t
      (x.faulted || x.towersDone.contains t && (drawField x.desc 9 0 56 = 0 || g.bins.contains d))
        && !(g.quads.any fun q => decide (q.2.1 = d)) && !(decide (g.openDraw = d) && !g.openBarge.isEmpty)
        && !(g.closed.any fun q => decide (q.1 = d)) && !(g.retires.any fun r => decide (r.2.2.1 = d))

/-- Has every workgroup of a node been placed and ended? -/
def State.allEnded (s : State) (id : Nat) (n : Node) : Bool :=
  decide (n.state = .placed) && n.again.isEmpty && (s.running id).isEmpty && decide (n.units ≤ n.nextUnit)
    && !(s.saves.any fun r => decide (r.wg.node = id))

/-- TASK_COMPLETE: a cancelled task none of whose workgroups runs receives the cancelled value; a task whose workgroups
have ended, whose writes are acknowledged and, where it is chunked, which has committed, signals 120 cycles later
(R342, R343, R373). -/
def execTaskComplete (s : State) : Host.Outcome State Fault Refusal :=
  let id := s.arg 0
  match s.nodes.look id with
  | none => done s
  | some n =>
    match s.args with
    | [_, arrival] =>
      if n.arrival = arrival && n.state = .done then
        let s := match n.draw with
          | some d => s.dropDraw d
          | none => s
        done (s.signalNode id (n.sigVal.setWidth 64))
      else done s
    | _ =>
      if n.state = .checking then done s
      else if n.cancelled then
        if (s.running id).isEmpty && !(s.saves.any fun r => decide (r.wg.node = id)) then
          let s := match n.chunkSlot with
            | some k => if (s.ctx n.ctx).chunk k = ChunkState.running then s.killSlot n.ctx k else s
            | none => s
          let s := match n.draw with
            | some d => s.dropDraw d
            | none => s
          done ([0, 1, 2, 3].foldl State.kickEngines (s.signalNode id cancelledValue))
        else done s
      else if n.state = .done || !s.allEnded id n || !n.flushing.isEmpty then done s
      -- the writes of the cards it has posted are its writes too (R342)
      else if n.kernel.chunked && !n.released && (s.cards.any fun c => decide (c.2.node = id) && c.2.chunk.isSome) then done s
      else if n.kernel.chunked && !n.released then done (s.post 0 .chunkCommitRequest [id])
      else if !((n.draw.map s.drawOver).getD true) then done s
      else
        let s := s.onNode id fun n => { n with state := .done }
        let s := [0, 1, 2, 3].foldl State.kickEngines s
        done (s.post 120 .taskComplete [id, n.arrival])

end Sys2Proof.Machine
end

