-- ==== Sys2Proof/Machine/Basin.lean ====
section
/-!
DEFINITION. Reforms and basins (R244 to R250).
-/
namespace Sys2Proof.Machine
open Sys2Proof

/-! ## Places -/

/-- The number of a cluster as a place of basins; a core stands under its own number. -/
def clusterPlace (g : Nat) : Nat := 1000 + g

/-- Basins of a place. -/
def State.basinsAt (s : State) (place : Nat) : Tab Basin :=
  if place < 1000 then (s.core place).basins else (s.cluster (place - 1000)).basins

/-- Replace the basins of a place. -/
def State.setBasins (s : State) (place : Nat) (t : Tab Basin) : State :=
  if place < 1000 then s.setCore place { s.core place with basins := t }
  else s.setCluster (place - 1000) { s.cluster (place - 1000) with basins := t }

/-- How many basins a place has (R245). -/
def basinLimit (place : Nat) : Nat := if place < 1000 then 64 else 16

/-- The core of a new basin: its own, or in a cluster the live one with the most free slots, the lowest position first
(R245, R263). -/
def State.basinCore (s : State) (place : Nat) : Nat :=
  if place < 1000 then place
  else
    let free (c : Nat) : Nat := ([0, 1, 2, 3].map fun q => (s.freeSlots c q).length).sum
    let g := place - 1000
    let cores := ((List.range 4).map fun k => 4 * g + k).filter fun c => !s.coreDead c
    cores.foldl (fun m c => if free m < free c then c else m) (cores.headD (4 * g))

/-- The lowest free slot of a live core with room for an allocation. -/
def State.basinSlot (s : State) (core regs : Nat) : Option Nat :=
  if s.coreDead core then none
  else ([0, 1, 2, 3].map fun q => if regs ≤ s.freeRegs core q then s.freeSlots core q else []).flatten.head?

/-! ## Filing (R245 to R247) -/

/-- One move over the permutation network: the basin it goes to, its slot, its first cycle, and its lanes from and to. -/
structure Move where
  basin : Nat
  core : Nat
  slot : Nat
  start : Nat
  lanes : List (Nat × Nat) := []

/-- A REFORM while it files: the cycle from which its next move may start, its moves in order, and the lanes that wait. -/
structure Filing where
  s : State
  net : Nat
  moves : List Move := []
  left : List Nat := []

/-- The control and default bits of FCTL that belong to a basin key (R73). -/
def Fctl.keyBits (f : Fctl) : Nat := Nat.land f.toDword.toNat 0x3F7F

/-- A thread's basin key (R245). -/
def basinKey (b : Barge) (fctl : Fctl) (live : Nat) (target : Dword) (key : Word) : List Nat :=
  [target.toNat, key.toNat, b.tag.toNat, fctl.keyBits, b.node, live]

/-- The barge of a new basin, empty and not yet eligible (R246). -/
def reformedBarge (b : Barge) (fctl : Fctl) (live home : Nat) (params : Tab Dword) : Barge :=
  params.foldl (fun b p => b.setS p.1 p.2)
    { ctx := b.ctx, node := b.node, wg := home, laneWg := List.replicate 32 home, reformed := true, moved := live, regs := b.regs
      reachOk := b.reachOk, chunkSlot := b.chunkSlot, gfx := b.gfx, pixelProgram := b.pixelProgram
      wgid := List.replicate 32 [0, 0, 0], pcs := List.replicate 32 0, waitAt := List.replicate 32 0
      fctl := { fctl with sticky := {} }, tag := b.tag, blocked := true, pixels := List.replicate 32 {} }

/-- A thread takes a lane: its PC, predicates, vector registers, which stay empty until they arrive, its workgroup and its
pixel (R245, R246). -/
def Barge.takeThread (n b : Barge) (fctl : Fctl) (live i j : Nat) (target : Dword) : Barge :=
  let n := (List.range live).foldl (fun n r => (n.setV r j (b.vreg r i)).markV r (maskOf fun k => k = j)) n
  { n with
    pcs := n.pcs.set j target
    preds := (n.preds.zip b.preds).map fun p =>
      (p.1 &&& ~~~(1#32 <<< j)) ||| (if laneOn p.2 i then 1#32 <<< j else 0#32)
    laneWg := n.laneWg.set j (b.laneWg.getD i b.wg)
    wgid := n.wgid.set j (b.wgid.getD i [])
    pixels := n.pixels.set j (b.pixels.getD i {})
    fctl := { n.fctl with sticky := n.fctl.sticky.or fctl.sticky } }

/-- A lane joins an open basin as its next lane; the 32nd closes it. -/
def Filing.join (x : Filing) (b : Barge) (fctl : Fctl) (place live len k i : Nat) (n : Basin) (target : Dword) : Filing :=
  let (start, moves, net) : Nat × List Move × Nat :=
    match x.moves.find? fun m => m.basin = k with
    | some m =>
      (m.start, x.moves.map fun v => if v.basin = k then { v with lanes := v.lanes ++ [(i, n.lanes)] } else v, x.net)
    | none =>
      (x.net, x.moves ++ [{ basin := k, core := n.core, slot := n.slot, start := x.net, lanes := [(i, n.lanes)] }],
       x.net + len)
  let s := x.s.onBarge n.core n.slot fun v => v.takeThread b fctl live i n.lanes target
  let s := s.setBasins place ((s.basinsAt place).put k { n with lanes := n.lanes + 1 })
  let s := if n.lanes = 31 then s.postAt start .basinClose [0, place, k, n.opened] else s
  { x with s, net, moves }

/-- File one lane: into an open basin with its key, else into a new one, else it waits (R245). -/
def Filing.lane (x : Filing) (b : Barge) (fctl : Fctl) (place live len i : Nat) (target : Dword) (key : Word) : Filing :=
  let want := basinKey b fctl live target key
  let startOf (k : Nat) : Nat := ((x.moves.find? fun m => m.basin = k).map (·.start)).getD x.net
  match (x.s.basinsAt place).find? fun p =>
      decide (p.2.key = want) && decide (p.2.lanes < 32) && decide (startOf p.1 < p.2.opened + 64) with
  | some (k, n) => x.join b fctl place live len k i n target
  | none =>
    let core := x.s.basinCore place
    match (List.range (basinLimit place)).find? fun k => ((x.s.basinsAt place).look k).isNone, x.s.basinSlot core b.regs with
    | some k, some slot =>
      let home := b.laneWg.getD i b.wg
      let params := ((x.s.wgs.look home).map fun (w : Workgroup) => w.params).getD []
      let n : Basin := { key := want, core, slot, opened := x.net }
      let s := x.s.setBarge core slot (reformedBarge b fctl live home params)
      let s := (s.setBasins place ((s.basinsAt place).put k n)).postAt (x.net + 64) .basinClose [0, place, k, x.net]
      { x with s }.join b fctl place live len k i n target
    | _, _ => { x with left := x.left ++ [i] }

/-- The registers of a move arrive: ceil(LIVE / 8) cycles after it starts, 14 later in a cluster basin (R247). -/
def Filing.arrive (b : Barge) (ctx live len late : Nat) (s : State) (m : Move) : State :=
  if live = 0 then s
  else
    let (id, s) := s.fresh
    let result := (List.range 32).map fun j =>
      match m.lanes.find? fun p => p.2 = j with
      | some p => (List.range live).map fun r => b.vreg r p.1
      | none => []
    let lanes := maskOf fun j => m.lanes.any fun p => p.2 = j
    let f : Flight :=
      { core := m.core, slot := m.slot, ctx, entry := { words := [], lanes }, kind := .unit, label := 0
        translating := false, sent := true, captured := false, dst := 0, words := live, result, issued := s.now }
    ({ s with flights := s.flights.put id f }).postAt (m.start + len + late) .registerFill [id]

/-- The next acquire of a reformed barge may begin once its basin is closed and every release of its sources is complete
(R249). -/
def State.reformAcquire (s : State) (core slot : Nat) : State :=
  let mine (e : Event) : Bool := e.what == .basinClose && e.args.take 3 == [1, core, slot]
  let pending := (s.agenda.any fun e => mine e.2) || s.rels.any fun r =>
    match r.2.after with
    | .post steps => steps.any fun p => mine p.2
    | _ => false
  match s.barge core slot with
  | none => s
  | some b =>
    if pending || b.blocked then s
    else
      -- the releases of its sources are over
      let left := b.memWait.filter fun k => (s.rels.look k).isSome || (s.flights.look k).isSome
      (s.setBarge core slot { b with memWait := left }).acquireFence core slot 3 (!b.pulls.isEmpty) 0

/-- REFORM, which moves registers, waits for an acquire of its barge (R249; DEDUCED, log 111). -/
def reformHolds (s : State) (core slot : Nat) : Wait :=
  match s.barge core slot with
  | some b => if !b.memWait.isEmpty || decide (s.now < b.memHold) then .other else .none
  | none => .none

/-- What the checks and the scoreboard see of REFORM (R244, R245). -/
def shapeReform (d a : BitVec 7) (p : BitVec 1) (i : BitVec 8) : Shape :=
  { imm := true, mod := true, extra := .third, modOk := { aux := [0, 1] }, noHandler := true
    fieldsOk := fun x => x.xopd.isNone || i = 0
    payloadOk := fun x => x.xopd.isNone || pairOk x.third
    srcs := fun x => reg a p :: (if x.xopd.isSome then [thirdSrc x 2] else [])
    dsts := fun _ => if d = 0 then [] else [{ spec := 0, words := 8 * d.toNat }], holds := reformHolds }

/-- REFORM (R244, R245). The moved registers are checked as destinations are: allocated, settled and full in every
active lane. DESIGN CHOICE: a filed thread takes the flags that have reached write-back in the cycle it is filed; those of
words still in flight then are lost with the lane (log 48). -/
def execReform (d a : BitVec 7) (p : BitVec 1) (i : BitVec 8) (s : State) : Host.Outcome State Fault Refusal :=
  let live := 8 * d.toNat
  issueWord (shapeReform d a p i) s
    fun g s =>
      if g.active = 0 then g.finish g.b s
      else if !g.b.joins.isEmpty then g.trap { cause := 0x0A } s
      else
        let place := if g.pre.aux = 1 then clusterPlace (clusterOf g.core) else g.core
        let len := max 1 d.toNat
        let fctl := g.b.fctlAt s.now
        let target (k : Nat) : Dword := if g.pre.xopd.isSome then registerTarget ((g.val 1).w64 k) else g.immTarget i
        let x0 : Filing := { s, net := max (s.now + 4) (s.core g.core).netBusy }
        let x := (lanesIn g.active).foldl (fun (x : Filing) k =>
          x.lane g.b fctl place live len k (target k) ((g.val 0).w32 k)) x0
        if x.moves.isEmpty then s.hold g.core g.slot .other
        else
          let left := maskOf fun k => x.left.contains k
          let filed := g.active &&& ~~~left
          let s := x.s.setCore g.core { x.s.core g.core with netBusy := x.net }
          let late := if place < 1000 then 0 else 14
          let s := x.moves.foldl (fun s m => Filing.arrive g.b g.b.ctx live len late s m) s
          let s := (s.onNode g.b.node fun n => { n with reformed := true })
          let s := (g.finish { g.b with running := g.b.running &&& ~~~filed, exited := g.b.exited ||| filed } s)
          let again : Chain := { start := g.first, words := g.words.dropLast, group := left }
          let s := s.onBarge g.core g.slot fun b =>
            if left = 0 then b
            else if g.replay then { b with reinject := { g.entry false with lanes := left } :: b.reinject }
            else { b with
              chain := some again
              follow := some g.addr
              readyAt := s.now + 1
              eligibleSince := s.now + 1
              pcs := b.pcs.mapIdx fun k pc => if laneOn left k then g.first else pc }
          let steps : List (Nat × Event) := (x.moves.map fun m =>
            (0, ({ what := .basinClose, args := [1, m.core, m.slot] } : Event))).eraseDups
          let (rid, s) := s.startRel
            { core := g.core, slot := g.slot, ctx := g.b.ctx, scope := 3, uo := true, after := .post steps }
          let s := x.moves.foldl (fun s m => s.onBarge m.core m.slot fun b => { b with memWait := b.memWait ++ [rid] }) s
          let gone := decide (g.b.exited ||| filed = BitVec.allOnes 32)
          let s := if gone then
              (s.onBarge g.core g.slot fun b => { b with blocked := true }).postAt x.net .basinClose [2, g.core, g.slot]
            else s
          (s.relRun rid relFuel).pump g.core

/-- A release number of a core joins those a barge is to pull: the latest of each core (R249). -/
def Barge.latestPull (pulls : List (Nat × Nat)) (core seq : Nat) : List (Nat × Nat) :=
  match pulls.find? fun (p : Nat × Nat) => decide (p.1 = core) with
  | some p => if epochBelow (BitVec.ofNat 16 p.2) seq then pulls.map fun (x : Nat × Nat) => if x.1 = core then (core, seq) else x else pulls
  | none => pulls ++ [(core, seq)]

/-- BASIN_CLOSE: a basin closes, and its barge is eligible two cycles later (R246); a source's release is complete, with
its number (R249); or a source's last threads have left and its slot is free (R245). -/
def execBasinClose (s : State) : Host.Outcome State Fault Refusal :=
  match s.args with
  | [0, place, k, opened] =>
    match (s.basinsAt place).look k with
    | none => done s
    | some n =>
      if n.opened ≠ opened then done s
      else
        let s := s.setBasins place ((s.basinsAt place).cut k)
        let on := maskOf fun j => j < n.lanes
        let s := s.onBarge n.core n.slot fun b =>
          { b with
            running := on, exited := ~~~on, blocked := false, readyAt := s.now + 2, eligibleSince := s.now + 2 }
        done (s.reformAcquire n.core n.slot)
  | 1 :: core :: slot :: record =>
    let s := match record with
      | [c, q] =>
        if c = core then s
        else s.onBarge core slot fun b => { b with pulls := Barge.latestPull b.pulls c q }
      | _ => s
    done (s.reformAcquire core slot)
  | [2, core, slot] =>
    match s.barge core slot with
    | some b =>
      if decide (b.exited = BitVec.allOnes 32) && b.blocked then
        done (s.endBarge core slot)
      else done s
    | none => done s
  | _ => done s

end Sys2Proof.Machine
end

