-- ==== Sys2Proof/Machine/Sfu.lean ====
section
/-!
DEFINITION. The functions of the special-function unit (R215, R216) as exact values for the one rounding of
R60. EXP2, LOG2, SINPI, COSPI and TANH are computed in fixed point with 640 fraction bits, so that the
rounding to f32 sees the true value (DEDUCED, log 10).
-/
namespace Sys2Proof.Machine

/-- Fraction bits of the fixed-point values below. -/
def fxBits : Nat := 640

/-- ln 2 in fixed point, rounded down. -/
def fxLn2 : Nat := 0xb17217f7d1cf79abc9e3b39803f2f6af40f343267298b62d8a0d175b8baafa2be7b876206debac98559552fb4afa1b10ed2eae35c138214427573b291169b8253e96ca16224ae8c51acbda11317c387e

/-- π in fixed point, rounded down. -/
def fxPi : Nat := 0x3243f6a8885a308d313198a2e03707344a4093822299f31d0082efa98ec4e6c89452821e638d01377be5466cf34e90c6cc0ac29b7c97c50dd3f84d5b5b54709179216d5d98979fb1bd1310ba698dfb5ac

/-- Product of two fixed-point values. -/
def fxMul (a b : Nat) : Nat := a * b / 2 ^ fxBits

/-- An irrational value known to fixed point: the low 64 bits absorb the error of the series. -/
def Exact.ofFx (neg : Bool) (r : Nat) : Exact := .mag neg (r / 2 ^ 64) (64 - (fxBits : Int)) true

/-- m·2^e in fixed point, for e not below −fxBits. -/
def toFx (m : Nat) (e : Int) : Nat := m * 2 ^ (e + fxBits).toNat

/-- Σ term_k of the exponential series, term_k = term_(k-1)·x/k. -/
def expSeries (x : Nat) : Nat → Nat → Nat → Nat → Nat
  | 0, _, _, acc => acc
  | n + 1, k, term, acc =>
    let t := fxMul term x / k
    expSeries x n (k + 1) t (acc + t)

/-- e^x for 0 ≤ x < 1 in fixed point. -/
def fxExp (x : Nat) : Nat := expSeries x 140 1 (2 ^ fxBits) (2 ^ fxBits)

/-- Σ z^(2k+1)/(2k+1) of the inverse hyperbolic tangent. -/
def atanhSeries (z2 : Nat) : Nat → Nat → Nat → Nat → Nat
  | 0, _, _, acc => acc
  | n + 1, k, pw, acc => atanhSeries z2 n (k + 2) (fxMul pw z2) (acc + pw / k)

/-- Σ ±y^(2k+1)/(2k+1)! of the sine. -/
def sinSeries (y2 : Nat) : Nat → Nat → Int → Int → Int
  | 0, _, _, acc => acc
  | n + 1, k, term, acc =>
    let t := -(term * y2 / (2 ^ fxBits : Nat)) / ((k + 1) * (k + 2) : Nat)
    sinSeries y2 n (k + 2) t (acc + t)

/-- sin(π·x) for 0 ≤ x ≤ 1/2 in fixed point. -/
def fxSinPi (x : Nat) : Nat :=
  let y := fxMul x fxPi
  (sinSeries (fxMul y y) 75 1 y y).toNat

/-- 2^a (R216). -/
def sfuExp2 (a : Exact) : Exact :=
  match a with
  | .nan i => .nan i
  | .inf n => if n then .zero false else .inf false
  | .zero _ => .mag false 1 0 false
  | .mag n m e _ =>
    if 10 < (m.log2 : Int) + e then .mag false 1 (if n then -2000 else 2000) true
    else
      let one : Int := (2 ^ fxBits : Nat)
      let x : Int := if n then -(toFx m e : Int) else toFx m e
      let i := x / one
      let f := (x % one).toNat
      if f = 0 then .mag false 1 i false
      else .mag false (fxExp (fxMul f fxLn2) / 2 ^ 64) (i + 64 - fxBits) true

/-- log₂ a (R216). -/
def sfuLog2 (a : Exact) : Exact :=
  match a with
  | .nan i => .nan i
  | .inf n => if n then .nan true else .inf false
  | .zero _ => .inf true
  | .mag n m e _ =>
    if n then .nan true
    else
      let l := m.log2
      if m = 2 ^ l then .ofInt (l + e)
      else
        let z := (m - 2 ^ l) * 2 ^ fxBits / (m + 2 ^ l)
        let ln := 2 * atanhSeries (fxMul z z) 215 1 z 0
        let r : Int := (l + e) * (2 ^ fxBits : Nat) + (ln * 2 ^ fxBits / fxLn2 : Nat)
        .ofFx (decide (r < 0)) r.natAbs

/-- sin(π·a) (R216): an integer other than 0 gives a zero of a's sign, a half-integer ±1. -/
def sfuSinPi (a : Exact) : Exact :=
  match a with
  | .nan i => .nan i
  | .inf _ => .nan true
  | .zero n => .zero n
  | .mag n m e _ =>
    let one := 2 ^ fxBits
    let x := toFx m e % (2 * one)
    let neg := n != decide (one ≤ x)
    let y := x % one
    if y = 0 then .zero n
    else if 2 * y = one then .mag neg 1 0 false
    else .ofFx neg (fxSinPi (if one < 2 * y then one - y else y))

/-- cos(π·a) (R216): a half-integer gives +0, an integer ±1. -/
def sfuCosPi (a : Exact) : Exact :=
  match a with
  | .nan i => .nan i
  | .inf _ => .nan true
  | .zero _ => .mag false 1 0 false
  | .mag _ m e _ =>
    let one := 2 ^ fxBits
    let x := toFx m e % (2 * one)
    let y := if one < x then 2 * one - x else x
    let neg := decide (one < 2 * y)
    let z := if neg then one - y else y
    if 2 * z = one then .zero false
    else if z = 0 then .mag neg 1 0 false
    else .ofFx neg (fxSinPi (one / 2 - z))

/-- tanh a (R216), as (1 − t)/(1 + t) with t = e^(−2|a|). -/
def sfuTanh (a : Exact) : Exact :=
  match a with
  | .nan i => .nan i
  | .inf n => .mag n 1 0 false
  | .zero n => .zero n
  | .mag n m e _ =>
    let one := 2 ^ fxBits
    if 6 < (m.log2 : Int) + e then .ofFx n (one - 1)
    else
      let y := 2 * toFx m e
      let k := y / fxLn2
      let t := one * one / fxExp (y % fxLn2) / 2 ^ k
      .ofFx n ((one - t) * one / (one + t))

/-- 1/a (R216). -/
def sfuRcp (a : Exact) : Exact := Exact.div (.mag false 1 0 false) a

/-- √a (R216). -/
def sfuSqrt (a : Exact) : Exact :=
  match a with
  | .nan i => .nan i
  | .inf n => if n then .nan true else .inf false
  | .zero n => .zero n
  | .mag n m e _ => if n then .nan true else sqrtMag m e

/-- 1/√a (R216): a zero of either sign gives an infinity of that sign. -/
def sfuRsq (a : Exact) : Exact :=
  match a with
  | .nan i => .nan i
  | .inf n => if n then .nan true else .zero false
  | .zero n => .inf n
  | .mag n m e _ => if n then .nan true else rsqrtMag m e

/-- Does a division or a logarithm raise DZ: a zero turned into an infinity (R216)? -/
def isDivZero (numerator denominator : Exact) : Bool :=
  match numerator, denominator with
  | .mag _ _ _ _, .zero _ => true
  | _, _ => false

end Sys2Proof.Machine
end

