-- ==== Sys2Proof/Machine/Special.lean ====
section
/-!
DEFINITION. Class 7, the special-function unit (R215, R216): results correctly rounded (log 10).
-/
namespace Sys2Proof.Machine
open Sys2Proof

/-- The ops of class 7. -/
inductive SfuOp where
  | rcp | rsq | sqrt | exp2 | log2 | sinpi | cospi | tanh | divf
  deriving DecidableEq, Repr

/-- Does the op accept every rounding mode (R215)? -/
def SfuOp.anyMode : SfuOp → Bool
  | .rcp | .sqrt | .divf => true
  | .rsq | .exp2 | .log2 | .sinpi | .cospi | .tanh => false

/-- The exact result, and whether the op divides by zero (R216). -/
def SfuOp.value (op : SfuOp) (a b : Exact) : Exact × Bool :=
  match op with
  | .rcp => (sfuRcp a, isDivZero (.mag false 1 0 false) a)
  | .rsq => (sfuRsq a, isDivZero (.mag false 1 0 false) a)
  | .sqrt => (sfuSqrt a, false)
  | .exp2 => (sfuExp2 a, false)
  | .log2 => (sfuLog2 a, isDivZero (.mag false 1 0 false) a)
  | .sinpi => (sfuSinPi a, false)
  | .cospi => (sfuCosPi a, false)
  | .tanh => (sfuTanh a, false)
  | .divf => (Exact.div a b, isDivZero a b)

/-- What the checks and the scoreboard see of a class 7 word (R215). -/
def shapeSfu (op : SfuOp) (d a b : BitVec 7) (p q : BitVec 1) : Shape :=
  { imm := decide (op = .divf), mod := true,
    modOk := { t1 := [0, 14], rnd := if op.anyMode then anyRnd else [0, 1], sat := true },
    srcs := fun x => reg a p :: (if op = .divf then regB x b 1 q else []),
    dsts := fun _ => [{ spec := d }], unit := fun _ => some unitSfu,
    occupancy := fun _ => if op = .divf then 8 else 4, captured := true }

/-- A class 7 word: its destination is empty until write-back (R25, R215). -/
def sfu (op : SfuOp) (d a b : BitVec 7) (p q : BitVec 1) (s : State) : Host.Outcome State Fault Refusal :=
  issueWord (shapeSfu op d a b p q) s
    fun g s =>
      let ftz := g.ftz .f32
      g.writeFill { spec := d } (if op = .divf then 20 else 12) (fun i =>
        let x := op.value (Fmt.f32.operand ftz ((g.val 0).w32 i).toNat)
          (Fmt.f32.operand ftz ((g.opB 1 b q).w32 i).toNat)
        let r := round .f32 (g.modeOr .rn) (g.fctx ftz) x.1
        { words := [BitVec.ofNat 32 r.code], flags := r.flags.or { dz := x.2 } }) s

/-- d := 1 / a (R215). -/
def execRcp (d a : BitVec 7) (p : BitVec 1) (s : State) : Host.Outcome State Fault Refusal := sfu .rcp d a 0 p 0 s
/-- d := 1 / √a (R215). -/
def execRsq (d a : BitVec 7) (p : BitVec 1) (s : State) : Host.Outcome State Fault Refusal := sfu .rsq d a 0 p 0 s
/-- d := √a (R215). -/
def execSqrt (d a : BitVec 7) (p : BitVec 1) (s : State) : Host.Outcome State Fault Refusal := sfu .sqrt d a 0 p 0 s
/-- d := 2^a (R215). -/
def execExp2 (d a : BitVec 7) (p : BitVec 1) (s : State) : Host.Outcome State Fault Refusal := sfu .exp2 d a 0 p 0 s
/-- d := log₂ a (R215). -/
def execLog2 (d a : BitVec 7) (p : BitVec 1) (s : State) : Host.Outcome State Fault Refusal := sfu .log2 d a 0 p 0 s
/-- d := sin(π·a) (R215). -/
def execSinpi (d a : BitVec 7) (p : BitVec 1) (s : State) : Host.Outcome State Fault Refusal := sfu .sinpi d a 0 p 0 s
/-- d := cos(π·a) (R215). -/
def execCospi (d a : BitVec 7) (p : BitVec 1) (s : State) : Host.Outcome State Fault Refusal := sfu .cospi d a 0 p 0 s
/-- d := tanh a (R215). -/
def execTanh (d a : BitVec 7) (p : BitVec 1) (s : State) : Host.Outcome State Fault Refusal := sfu .tanh d a 0 p 0 s
/-- d := a / b (R215, R216). -/
def execDivf (d a b : BitVec 7) (p q : BitVec 1) (s : State) : Host.Outcome State Fault Refusal := sfu .divf d a b p q s

end Sys2Proof.Machine
end

