-- ==== Sys2Proof/Machine/Convert.lean ====
section
/-!
DEFINITION. Class 8, conversions (R217 to R220).
-/
namespace Sys2Proof.Machine
open Sys2Proof

/-- Signedness and width of an integer type code (Table 2.5). -/
def intType : Nat → Bool × Nat
  | 1 => (true, 8)
  | 2 => (true, 16)
  | 3 => (true, 32)
  | 4 => (true, 64)
  | 5 => (false, 8)
  | 6 => (false, 16)
  | 7 => (false, 32)
  | _ => (false, 64)

/-- The float format of a type code (Table 2.5). -/
def floatType : Nat → Fmt
  | 12 => .f16
  | 13 => .bf16
  | 15 => .f64
  | _ => .f32

/-- The element format of a type code (Table 2.5). -/
def elemType : Nat → Elem
  | 18 => .fl .e5m2
  | 19 => .fl .e4m3
  | 20 => .fl .e3m2
  | 21 => .fl .e2m3
  | 22 => .fl .e2m1
  | _ => .ds8

/-- Integer types. -/
def intTypes : List Nat := [1, 2, 3, 4, 5, 6, 7, 8]
/-- Float types of FCVT, FTOI and ITOF. -/
def floatTypes : List Nat := [12, 13, 14, 15]
/-- Element types. -/
def elemTypes : List Nat := [18, 19, 20, 21, 22, 23]

/-- Words of a value of a type: 64-bit types take two (R217). -/
def typeWords (t : Nat) : Nat := if t = 4 || t = 8 || t = 15 then 2 else 1

/-- A one-source conversion (R218). -/
def cvtShape (d a : BitVec 7) (p : BitVec 1) (m : ModOk) (ok : Pre → Bool) : Shape where
  mod := true
  needMod := true
  modOk := m
  payloadOk := ok
  fieldsOk x := (typeWords x.t1 == 1 || pairOk d) && (typeWords x.t2 == 1 || pairOk a)
  srcs x := [regs a (typeWords x.t2) p]
  dsts x := [{ spec := d, words := typeWords x.t1 }]
  unit x := some (if x.t1 = 15 || x.t2 = 15 then unitF64 else unitFloat)
  occupancy x := if x.t1 = 15 || x.t2 = 15 then 16 else 1

/-- Latency of class 8 (Table 10.1). -/
def Pre.latency8 (p : Pre) : Nat := if p.t1 = 15 || p.t2 = 15 then 20 else 4

/-- The low bits of an operand in the width of a type (R217). -/
def Val.ofType (v : Val) (t width lane : Nat) : Nat := v.code (typeWords t) lane % 2 ^ width

/-- The words of an integer result: 8 and 16 bits are extended to 32 by the sign (R217). -/
def intWords (t : Nat) (x : Int) : List Word :=
  let (sg, w) := intType t
  if w = 64 then pairWords (BitVec.ofInt 64 x)
  else [BitVec.ofInt 32 (intOf sg w (codeOf w x))]

/-- d := a in another float format (R65). -/
def execFcvt (d a : BitVec 7) (p : BitVec 1) (s : State) : Host.Outcome State Fault Refusal :=
  issueWord (cvtShape d a p { t1 := floatTypes, t2 := floatTypes, rnd := anyRnd, sat := true } fun x => x.t1 != x.t2) s
    fun g s => g.writeFloat { spec := d, words := typeWords g.pre.t1 } g.pre.latency8 (fun i =>
      let f := floatType g.pre.t1
      let h := floatType g.pre.t2
      let r := round f g.mode (g.fctx (g.ftz f)) (h.operand (g.ftz h) ((g.val 0).ofType g.pre.t2 h.width i))
      { words := codeWords (typeWords g.pre.t1) r.code, flags := r.flags }) s

/-- d := a in another integer type (R65). -/
def execIcvt (d a : BitVec 7) (p : BitVec 1) (s : State) : Host.Outcome State Fault Refusal :=
  issueWord (cvtShape d a p { t1 := intTypes, t2 := intTypes, sat := true } fun _ => true) s
    fun g s => g.writeFloat { spec := d, words := typeWords g.pre.t1 } g.pre.latency8 (fun i =>
      let (sg, w) := intType g.pre.t2
      let (sd, wd) := intType g.pre.t1
      let x := intOf sg w ((g.val 0).ofType g.pre.t2 w i)
      let y := clampInt (intLo sd wd) (intHi sd wd) x
      { words := intWords g.pre.t1 (if g.pre.sat then y.1 else x), flags := { sat := g.pre.sat && y.2 } }) s

/-- d := a rounded to an integer type, `.rz` by default (R65). -/
def execFtoi (d a : BitVec 7) (p : BitVec 1) (s : State) : Host.Outcome State Fault Refusal :=
  issueWord (cvtShape d a p { t1 := intTypes, t2 := floatTypes, rnd := anyRnd, sat := true } fun _ => true) s
    fun g s => g.writeFloat { spec := d, words := typeWords g.pre.t1 } g.pre.latency8 (fun i =>
      let h := floatType g.pre.t2
      let (sd, wd) := intType g.pre.t1
      let r := toInteger (g.modeOr .rz) (intLo sd wd) (intHi sd wd)
        (h.operand (g.ftz h) ((g.val 0).ofType g.pre.t2 h.width i))
      { words := intWords g.pre.t1 r.1, flags := r.2 }) s

/-- d := the integer a in a float format (R65). -/
def execItof (d a : BitVec 7) (p : BitVec 1) (s : State) : Host.Outcome State Fault Refusal :=
  issueWord (cvtShape d a p { t1 := floatTypes, t2 := intTypes, rnd := anyRnd, sat := true } fun _ => true) s
    fun g s => g.writeFloat { spec := d, words := typeWords g.pre.t1 } g.pre.latency8 (fun i =>
      let f := floatType g.pre.t1
      let (sg, w) := intType g.pre.t2
      let r := round f g.mode (g.fctx (g.ftz f)) (Exact.ofInt (intOf sg w ((g.val 0).ofType g.pre.t2 w i)))
      { words := codeWords (typeWords g.pre.t1) r.code, flags := r.flags }) s

/-- The packed format of a type code: f16 or bf16. -/
def packedType (t : Nat) : Fmt := if t = 17 then .bf16 else .f16

/-- The element values a lane holds in one register: one f32, or two of a packed type (R221). -/
def laneElems (t : Nat) (ftz : Fmt → Bool) (w : Word) : List Exact :=
  if t = 16 || t = 17 then [0, 1].map fun k => (packedType t).operand (ftz (packedType t)) (half w k)
  else [Fmt.f32.operand (ftz .f32) w.toNat]

/-- The aux limit of R219 for k elements of w bits. -/
def fieldFits (p : Pre) (k w : Nat) : Bool := decide (p.aux < 32 / (k * w))

/-- Put element codes of w bits into a word from bit lo (R59, R219). -/
def putFields (d : Nat) (w : Nat) : Nat → List Nat → Nat
  | _, [] => d
  | lo, c :: cs =>
    let cleared := d - d / 2 ^ lo % 2 ^ w * 2 ^ lo
    putFields (cleared + c % 2 ^ w * 2 ^ lo) w (lo + w) cs

/-- What the checks and the scoreboard see of NPACK (R219). -/
def shapeNpack (d a b : BitVec 7) (p q : BitVec 1) : Shape :=
  { imm := true, mod := true, needMod := true,
      modOk := { t1 := elemTypes, t2 := [14, 16, 17], rnd := anyRnd, sat := true, aux := [0, 1, 2, 3, 4, 5, 6, 7] },
      payloadOk := fun x => fieldFits x (if x.t2 = 14 then 2 else 4) (elemType x.t1).width
        && (x.t1 != 23 || x.rnd == 0 || x.rnd == 1),
      srcs := fun x => [reg d p, reg a p] ++ regB x b 1 q, dsts := fun _ => [{ spec := d }],
      unit := fun _ => some unitFloat }

/-- d := d with one field of converted elements (R219). -/
def execNpack (d a b : BitVec 7) (p q : BitVec 1) (s : State) : Host.Outcome State Fault Refusal :=
  issueWord (shapeNpack d a b p q) s
    fun g s => g.writeFloat { spec := d } 4 (fun i =>
      let el := elemType g.pre.t1
      let xs := laneElems g.pre.t2 g.ftz ((g.val 1).w32 i) ++ laneElems g.pre.t2 g.ftz ((g.opB 2 b q).w32 i)
      let rs := xs.map (el.round (g.modeOr .rn) (g.fctx false))
      let lo := g.pre.aux * xs.length * el.width
      { words := [BitVec.ofNat 32 (putFields ((g.val 0).w32 i).toNat el.width lo (rs.map (·.code)))],
        flags := rs.foldl (fun f r => f.or r.flags) {} }) s

/-- What the checks and the scoreboard see of NUNPACK (R220). -/
def shapeNunpack (d a : BitVec 7) (p : BitVec 1) : Shape :=
  { mod := true, needMod := true,
      modOk := { t1 := [14, 16, 17], t2 := elemTypes, aux := [0, 1, 2, 3, 4, 5, 6, 7] },
      payloadOk := fun x => fieldFits x (if x.t1 = 14 then 1 else 2) (elemType x.t2).width,
      srcs := fun _ => [reg a p], dsts := fun _ => [{ spec := d }], unit := fun _ => some unitFloat }

/-- d := the elements of one field of a (R220). -/
def execNunpack (d a : BitVec 7) (p : BitVec 1) (s : State) : Host.Outcome State Fault Refusal :=
  issueWord (shapeNunpack d a p) s
    fun g s => g.writeFloat { spec := d } 4 (fun i =>
      let el := elemType g.pre.t2
      let k := if g.pre.t1 = 14 then 1 else 2
      let view := if k = 1 then Fmt.f32 else packedType g.pre.t1
      let w := ((g.val 0).w32 i).toNat
      let code (j : Nat) := (round view .rn {} (el.value (field w ((g.pre.aux * k + j) * el.width) el.width))).code
      plain [BitVec.ofNat 32 (if k = 1 then code 0 else code 1 * 2 ^ 16 + code 0)]) s

end Sys2Proof.Machine
end

