-- ==== Sys2Proof/Machine/Crypto.lean ====
section
/-!
DEFINITION. SHA-384 and ECDSA over P-384, which R410 to R412 name and do not give: taken from FIPS 180-4 and FIPS 186
(PRESUMED, log 14).
-/
namespace Sys2Proof.Machine
open Sys2Proof

/-! ## SHA-384 -/

/-- Round constants. -/
def shaRound : List Nat :=
  [0x428a2f98d728ae22, 0x7137449123ef65cd, 0xb5c0fbcfec4d3b2f, 0xe9b5dba58189dbbc] ++
  [0x3956c25bf348b538, 0x59f111f1b605d019, 0x923f82a4af194f9b, 0xab1c5ed5da6d8118] ++
  [0xd807aa98a3030242, 0x12835b0145706fbe, 0x243185be4ee4b28c, 0x550c7dc3d5ffb4e2] ++
  [0x72be5d74f27b896f, 0x80deb1fe3b1696b1, 0x9bdc06a725c71235, 0xc19bf174cf692694] ++
  [0xe49b69c19ef14ad2, 0xefbe4786384f25e3, 0x0fc19dc68b8cd5b5, 0x240ca1cc77ac9c65] ++
  [0x2de92c6f592b0275, 0x4a7484aa6ea6e483, 0x5cb0a9dcbd41fbd4, 0x76f988da831153b5] ++
  [0x983e5152ee66dfab, 0xa831c66d2db43210, 0xb00327c898fb213f, 0xbf597fc7beef0ee4] ++
  [0xc6e00bf33da88fc2, 0xd5a79147930aa725, 0x06ca6351e003826f, 0x142929670a0e6e70] ++
  [0x27b70a8546d22ffc, 0x2e1b21385c26c926, 0x4d2c6dfc5ac42aed, 0x53380d139d95b3df] ++
  [0x650a73548baf63de, 0x766a0abb3c77b2a8, 0x81c2c92e47edaee6, 0x92722c851482353b] ++
  [0xa2bfe8a14cf10364, 0xa81a664bbc423001, 0xc24b8b70d0f89791, 0xc76c51a30654be30] ++
  [0xd192e819d6ef5218, 0xd69906245565a910, 0xf40e35855771202a, 0x106aa07032bbd1b8] ++
  [0x19a4c116b8d2d0c8, 0x1e376c085141ab53, 0x2748774cdf8eeb99, 0x34b0bcb5e19b48a8] ++
  [0x391c0cb3c5c95a63, 0x4ed8aa4ae3418acb, 0x5b9cca4f7763e373, 0x682e6ff3d6b2b8a3] ++
  [0x748f82ee5defb2fc, 0x78a5636f43172f60, 0x84c87814a1f0ab72, 0x8cc702081a6439ec] ++
  [0x90befffa23631e28, 0xa4506cebde82bde9, 0xbef9a3f7b2c67915, 0xc67178f2e372532b] ++
  [0xca273eceea26619c, 0xd186b8c721c0c207, 0xeada7dd6cde0eb1e, 0xf57d4f7fee6ed178] ++
  [0x06f067aa72176fba, 0x0a637dc5a2c898a6, 0x113f9804bef90dae, 0x1b710b35131c471b] ++
  [0x28db77f523047d84, 0x32caab7b40c72493, 0x3c9ebe0a15c9bebc, 0x431d67c49c100d4c] ++
  [0x4cc5d4becb3e42b6, 0x597f299cfc657e2a, 0x5fcb6fab3ad6faec, 0x6c44198c4a475817]

/-- Initial hash words. -/
def shaInit : List Nat :=
  [0xcbbb9d5dc1059ed8, 0x629a292a367cd507, 0x9159015a3070dd17, 0x152fecd8f70e5939] ++
  [0x67332667ffc00b31, 0x8eb44a8768581511, 0xdb0c2e0d64f98fa7, 0x47b5481dbefa4fa4]

/-- Bytes as a number, the most significant first. -/
def beNat (bs : List Byte) : Nat := bs.foldl (fun acc b => acc * 256 + b.toNat) 0

/-- A number as n bytes, the most significant first. -/
def beBytes (n x : Nat) : List Byte := (leBytes n x).reverse

/-- A message with its padding and length. -/
def shaPad (m : List Byte) : List Byte :=
  m ++ [0x80] ++ List.replicate ((239 - m.length % 128) % 128) 0 ++ beBytes 16 (8 * m.length)

/-- The next word of the message schedule. -/
def shaNext (w : List (BitVec 64)) : BitVec 64 :=
  let x (k : Nat) : BitVec 64 := w.getD (w.length - k) 0
  let s0 := (x 15).rotateRight 1 ^^^ (x 15).rotateRight 8 ^^^ (x 15) >>> 7
  let s1 := (x 2).rotateRight 19 ^^^ (x 2).rotateRight 61 ^^^ (x 2) >>> 6
  x 16 + s0 + x 7 + s1

/-- The schedule of a block of 128 bytes. -/
def shaSchedule (block : List Byte) : List (BitVec 64) :=
  (List.range 64).foldl (fun w _ => w ++ [shaNext w])
    ((List.range 16).map fun k => BitVec.ofNat 64 (beNat ((block.drop (8 * k)).take 8)))

/-- One round on the eight working words. -/
def shaStep (h : List (BitVec 64)) (kw : BitVec 64 × BitVec 64) : List (BitVec 64) :=
  match h with
  | [a, b, c, d, e, f, g, i] =>
    let t1 := i + (e.rotateRight 14 ^^^ e.rotateRight 18 ^^^ e.rotateRight 41) + ((e &&& f) ^^^ (~~~e &&& g)) + kw.1 + kw.2
    let t2 := (a.rotateRight 28 ^^^ a.rotateRight 34 ^^^ a.rotateRight 39) + ((a &&& b) ^^^ (a &&& c) ^^^ (b &&& c))
    [t1 + t2, a, b, c, d + t1, e, f, g]
  | _ => h

/-- The hash after one block. -/
def shaBlock (h : List (BitVec 64)) (block : List Byte) : List (BitVec 64) :=
  (h.zip (((shaRound.map (BitVec.ofNat 64)).zip (shaSchedule block)).foldl shaStep h)).map fun p => p.1 + p.2

/-- SHA-384 as a number of 384 bits. -/
def sha384 (m : List Byte) : Nat :=
  let bs := shaPad m
  let h := (List.range (bs.length / 128)).foldl (fun h k => shaBlock h ((bs.drop (128 * k)).take 128)) (shaInit.map (BitVec.ofNat 64))
  (h.take 6).foldl (fun acc x => acc * 2 ^ 64 + x.toNat) 0

/-! ## P-384 -/

/-- The prime of the field. -/
def p384 : Nat := 2 ^ 384 - 2 ^ 128 - 2 ^ 96 + 2 ^ 32 - 1
/-- The order of the base point. -/
def n384 : Nat :=
  0xFFFFFFFFFFFFFFFFFFFFFFFFFFFFFFFFFFFFFFFFFFFFFFFFC7634D81F4372DDF581A0DB248B0A77AECEC196ACCC52973
/-- The base point. -/
def g384 : Nat × Nat :=
  (0xAA87CA22BE8B05378EB1C71EF320AD746E1D3B628BA79B9859F741E082542A385502F25DBF55296C3A545E3872760AB7,
   0x3617DE4A96262C6F5D9E98BF9292DC29F8F41DBD289A147CE9DA3113B5F0B8C00A60B1CE1D7E819D7A431D7C90EA0E5F)

/-- x^e modulo m, by the bits of e from the lowest, at most `fuel` of them. -/
def powMod (m : Nat) : Nat → Nat → Nat → Nat
  | 0, _, _ => 1
  | fuel + 1, x, e => (if e % 2 = 1 then x else 1) * powMod m fuel (x * x % m) (e / 2) % m

/-- The inverse modulo a prime. -/
def invMod (m x : Nat) : Nat := powMod m 384 (x % m) (m - 2)

/-- The sum of two points; none is the point at infinity. -/
def curveAdd (a b : Option (Nat × Nat)) : Option (Nat × Nat) :=
  match a, b with
  | none, b => b
  | a, none => a
  | some (x1, y1), some (x2, y2) =>
    if x1 = x2 && (y1 + y2) % p384 == 0 then none
    else
      let l := if x1 = x2 then (3 * x1 * x1 + p384 - 3) * invMod p384 (2 * y1) % p384
        else (y2 + p384 - y1) * invMod p384 (x2 + p384 - x1) % p384
      let x := (l * l + 2 * p384 - x1 - x2) % p384
      some (x, (l * (x1 + p384 - x) + p384 - y1) % p384)

/-- k times a point, by the bits of k from the lowest, at most `fuel` of them. -/
def curveMul : Nat → Nat → Option (Nat × Nat) → Option (Nat × Nat)
  | 0, _, _ => none
  | fuel + 1, k, q => curveAdd (if k % 2 = 1 then q else none) (curveMul fuel (k / 2) (curveAdd q q))

/-- Does a signature (r, s) of a digest verify under a public key? -/
def ecdsaOk (key : Nat × Nat) (digest r s : Nat) : Bool :=
  let ok (x : Nat) : Bool := decide (1 ≤ x ∧ x < n384)
  let w := invMod n384 s
  let sum := curveAdd (curveMul 384 (digest * w % n384) (some g384))
    (curveMul 384 (r * w % n384) (some (key.1 % p384, key.2 % p384)))
  ok r && ok s && match sum with
    | some q => decide (q.1 % n384 = r)
    | none => false

end Sys2Proof.Machine
end

