-- ==== Sys2Proof/Machine/Sync.lean ====
section
/-!
DEFINITION. Class 17: barriers (R352, R353), the sluice (R351) and semaphores (R169 to R174); the deadlock watchdog
(R356, R357).
-/
namespace Sys2Proof.Machine
open Sys2Proof

/-! ## Barriers -/

/-- How many barriers a level has (R42). -/
def barriersOf (level : Nat) : Nat := match level with
  | 0 => 16
  | 1 => 8
  | 2 => 4
  | _ => 0

/-- Scope of a barrier's release and acquire (R346). -/
def barrierScope (level : Nat) : Nat := match level with
  | 0 => 2
  | 1 => 3
  | _ => 5

/-- The flag of a barge at a barrier. -/
def Barge.flagAt (b : Barge) (level number : Nat) : Option BarFlag :=
  b.flags.find? fun f => decide (f.level = level ∧ f.number = number)

/-- The barge without its flag at a barrier. -/
def Barge.clearFlag (b : Barge) (level number : Nat) : Barge :=
  { b with flags := b.flags.filter fun f => decide (f.level ≠ level ∨ f.number ≠ number) }

/-- The cause that a barrier word meets, in the order of R353. -/
def Go.barrierCause (g : Go) (s : State) (level number : Nat) (arrives : Bool) : Option (BitVec 8) :=
  if barriersOf level ≤ number then some 0x71
  else
    match s.holderOf g.b level with
    | none => some 0x71
    | some h =>
      if ~~~g.b.exited &&& ~~~g.group ≠ 0 then some 0x72
      else
        match arrives, g.b.flagAt level number with
        | true, some f => if f.phase = (s.barrier level h number).phase then some 0x73 else none
        | _, _ => none

/-- An acquire outside a fence: at device scope or another, with the pulls given (R333). -/
def State.acquireFrom (s : State) (core slot scope : Nat) (uo : Bool) (pulls : List (Nat × Nat × Nat)) (delay : Nat) :
    State :=
  match s.barge core slot with
  | none => s
  | some b =>
    let (id, s) := s.startRel { core, slot, ctx := b.ctx, scope, release := false, acquire := true, uo, pulls,
                                after := .resume delay }
    (s.setBarge core slot { b with memWait := b.memWait ++ [id] }).relRun id relFuel

/-- A barrier word: arrive, wait, acquire (R353). -/
def Go.barrierWord (g : Go) (level number : Nat) (arrives waits : Bool) (s : State) : State :=
  if g.b.reformed then g.trap { cause := 0x0B } s
  else if g.active = 0 then g.finish g.b s
  else
    match g.barrierCause s level number arrives, s.holderOf g.b level with
    | some c, _ => g.trap { cause := c } s
    | none, none => g.trap { cause := 0x71 } s
    | none, some h =>
      let x := s.barrier level h number
      let b := if arrives then
          { (g.b.clearFlag level number) with
            flags := (g.b.clearFlag level number).flags ++ [{ level, number, phase := x.phase }] }
        else g.b
      let flag := b.flagAt level number
      let held := match flag with
        | some f => waits && decide (f.phase = x.phase)
        | none => false
      let b := if held then { b with blocked := true, waitBar := flag } else if waits then b.clearFlag level number else b
      let s := g.finish b s
      let s := if held then
          (s.setBarrier level h number { x with waiters := x.waiters ++ [bargeKey g.core g.slot] }).onBarge g.core g.slot
            fun b => { b with wait := .barrier, waitSince := s.now }
        else s
      let s := if arrives then
          let (rid, s) := s.startRel { core := g.core, slot := g.slot, ctx := g.b.ctx, scope := barrierScope level, uo := true,
                                       barrier := some (level, h, number), after := .arrive level h number }
          s.relRun rid relFuel
        else s
      if waits && !held then s.acquireFence g.core g.slot (barrierScope level) true 2 else s

/-- What the checks and the scoreboard see of BAR (R352, R353). -/
def shapeBar : Shape :=
  { noHandler := true }

/-- BAR (R352, R353). -/
def execBar (l : BitVec 2) (n : BitVec 6) (s : State) : Host.Outcome State Fault Refusal :=
  issueWord shapeBar s fun g s => g.barrierWord l.toNat n.toNat true true s

/-- What the checks and the scoreboard see of BARARR (R352, R353). -/
def shapeBararr : Shape :=
  { noHandler := true }

/-- BARARR (R352, R353). -/
def execBararr (l : BitVec 2) (n : BitVec 6) (s : State) : Host.Outcome State Fault Refusal :=
  issueWord shapeBararr s fun g s => g.barrierWord l.toNat n.toNat true false s

/-- What the checks and the scoreboard see of BSYNC (R352, R353). -/
def shapeBsync (a : BitVec 7) (p : BitVec 1) : Shape :=
  { noHandler := true, srcs := fun _ => [reg a p] }

/-- BSYNC: a[7:6] names the level, a[5:0] the number (R352, R353). -/
def execBsync (a : BitVec 7) (p : BitVec 1) (s : State) : Host.Outcome State Fault Refusal :=
  issueWord (shapeBsync a p) s fun g s =>
    let x := (g.val 0).dword
    g.barrierWord (x.extractLsb' 6 2).toNat (x.extractLsb' 0 6).toNat false true s

/-- A barrier may open: its last arrival has been counted, or its pulls have ended (R348 to R350). -/
def execBarrierOpen (s : State) : Host.Outcome State Fault Refusal := done (s.tryOpen (s.arg 1) (s.arg 0) (s.arg 2))

/-- Cycles between two waves (R351). -/
def waveGap (limit : BitVec 16) : Nat := ceilDiv 10400 (max limit.toNat 26)

/-- The barges of a wave: from each quarter of each core the first two in queue order (R351). -/
def waveOf (queue : List Nat) : List Nat :=
  queue.foldl (fun out k =>
    let same := out.filter fun j => decide (j / 512 = k / 512) && decide (quarterOf (j % 512) = quarterOf (k % 512))
    if same.length < 2 then out ++ [k] else out) []

/-- A wave leaves a cluster's release queue: its barges may issue from this cycle, each without its flag and with the
acquire of its barrier under way (R351, R353). -/
def execSluiceWave (s : State) : Host.Outcome State Fault Refusal :=
  let g := s.arg 0
  let c := s.cluster g
  if c.nextWave ≠ some s.now then done s
  else
  let wave := waveOf (c.sluice.map (·.2))
  let rest := c.sluice.filter fun k => !wave.contains k.2
  let gap := waveGap c.slopeLimit
  let s := s.setCluster g { c with sluice := rest, nextWave := if rest.isEmpty then none else some (s.now + gap) }
  let s := if rest.isEmpty then s else s.post gap .sluiceWave [g]
  done (wave.foldl (fun s k =>
    match s.barge (k / 512) (k % 512) with
    | none => s
    | some b =>
      let f := b.waitBar.getD { level := 0, number := 0, phase := 0 }
      let b := { b.clearFlag f.level f.number with
        waitBar := none, blocked := b.trap.isSome, wait := if b.trap.isSome then .other else .none
        readyAt := max b.readyAt s.now, eligibleSince := s.now }
      let s := (s.setBarge (k / 512) (k % 512) b).acquireFence (k / 512) (k % 512) (barrierScope f.level) true 2
      -- a trap that has waited for the release goes on (R354)
      match b.trap with
      | some r => s.trapStep (k / 512) (k % 512) b r
      | none => s) s)

/-! ## Semaphores -/

/-- The semaphore of a file and unit: sem of a core (file 0), or tsem of a tower (R169). -/
def State.sem (s : State) (file unit number : Nat) : Sem :=
  (if file = 0 then (s.core unit).sems.look number else (s.tower unit).tsems.look number).getD {}

/-- Replace a semaphore. -/
def State.setSem (s : State) (file unit number : Nat) (x : Sem) : State :=
  if file = 0 then s.setCore unit { s.core unit with sems := (s.core unit).sems.put number x }
  else s.setTower unit { s.tower unit with tsems := (s.tower unit).tsems.put number x }

/-- Does a value satisfy a threshold (R170)? -/
def semMet (value threshold : Word) : Bool := decide ((value - threshold).toNat < 2 ^ 31)

/-- What a satisfied SEMWAIT pulls: the releaser that a tsem names, where it is another core (R170). -/
def semPulls (core file unit : Nat) (x : Sem) : List (Nat × Nat × Nat) :=
  match x.record with
  | some (c, q) => if file = 1 ∧ c ≠ core ∧ q ≠ 0 then [(c, q, pullTimeTower unit c)] else []
  | none => []

/-- Barges in WFI on some cores are woken, 4 cycles after the event (R396); one that pre-emption has saved wakes as it is
restored. -/
def State.wakeWfi (s : State) (p : Nat → Bool) : State :=
  let awake (b : Barge) : Barge := { b with wfi := false }
  let saved (r : SaveRec) : SaveRec := if p r.core then { r with barges := r.barges.mapVals awake } else r
  let s := { s with saves := s.saves.map saved }
  (s.barges.filter fun q => q.2.wfi && p (q.1 / 512)).foldl (fun s q =>
    (s.onBarge (q.1 / 512) (q.1 % 512) fun b => { b with wfi := false }).post 4 .wfiWake [q.1 / 512, q.1 % 512]) s

/-- A semaphore has been updated: the SEMWAITs it satisfies go on and acquire, one that finds ERR traps, and barges in
WFI on its core or tower wake (R170, R173, R396). -/
def State.semUpdated (s : State) (file unit number : Nat) : State :=
  let x := s.sem file unit number
  let waits (b : Barge) : Bool := match b.semWait with
    | some w => decide (w.file = file ∧ w.unit = unit ∧ w.number = number) && (x.err || semMet x.value w.threshold)
    | none => false
  let s := (s.barges.filter fun q => waits q.2).foldl (fun s q =>
    let core := q.1 / 512
    let slot := q.1 % 512
    match q.2.semWait with
    | none => s
    | some w =>
      let t := s.now + (if file = 0 then 4 else 12)
      let s := s.onBarge core slot fun b =>
        { b with semWait := none, blocked := false, wait := .none, readyAt := t, eligibleSince := t }
      if x.err then
        let (id, s) := s.fresh
        s.takeTrap core slot { cause := 0x7A, semFault := x.fault } w.entry.addr
          (some (id, { w.entry with faulted := true }))
      else s.acquireFrom core slot 5 false (semPulls core file unit x) 0) s
  s.wakeWfi fun c => if file = 0 then c == unit else towerOf c == unit

/-- The shape of SEMWAIT, SEMSIG and SEMSET: without a narrower list, an immediate-format word takes XIMM and XIMMH (R37),
whose bits stand above the semaphore's number and must be 0 (DESIGN CHOICE, log 46). -/
def semShape (a : BitVec 7) (p : BitVec 1) (aux : List Nat) (payload : Pre → Bool) : Shape :=
  { imm := true, immh := fun _ => true, mod := true, modOk := { aux }, payloadOk := fun x => payload x && x.immZero,
    srcs := fun _ => [reg a p] }

/-- What the checks and the scoreboard see of SEMWAIT (R170, R173). -/
def shapeSemwait (a : BitVec 7) (p : BitVec 1) : Shape :=
  semShape a p [0] fun x => x.xmod.isNone

/-- SEMWAIT (R170, R173). -/
def execSemwait (f : BitVec 1) (a : BitVec 7) (p : BitVec 1) (n : BitVec 8) (s : State) :
    Host.Outcome State Fault Refusal :=
  issueWord (shapeSemwait a p) s fun g s =>
    if g.active = 0 then g.finish g.b s
    else
      let file := f.toNat
      let unit := if file = 0 then g.core else towerOf g.core
      let x := s.sem file unit n.toNat
      let t := (g.val 0).w32 0
      if x.err then g.trap { cause := 0x7A, semFault := x.fault } s
      else if semMet x.value t then
        let d := if file = 0 then 6 else 18
        let s := (g.finish g.b s).onBarge g.core g.slot fun b =>
          { b with readyAt := max b.readyAt (s.now + d), eligibleSince := max b.readyAt (s.now + d) }
        s.acquireFrom g.core g.slot 5 false (semPulls g.core file unit x) 0
      else
        let w : SemWait := { file, unit, number := n.toNat, threshold := t, entry := g.entry false }
        (g.finish { g.b with blocked := true, semWait := some w } s).onBarge g.core g.slot fun b =>
          { b with wait := .sem x.ext, waitSince := s.now }

/-- SEMSIG or SEMSET: a release at device scope, then the update (R170, R171, R173). -/
def semUpdateWord (set : Bool) (f : BitVec 1) (a : BitVec 7) (p : BitVec 1) (n : BitVec 8) (s : State) :
    Host.Outcome State Fault Refusal :=
  issueWord
    (semShape a p (if f = 0 then [0] else [0, 4, 5, 6, 7]) fun _ => true) s fun g s =>
    if g.active = 0 then g.finish g.b s
    else
      let own := towerOf g.core
      let unit := if f = 0 then g.core else if g.pre.aux < 4 then own else g.pre.aux - 4
      let d := if f = 0 then 4 else if unit = own then 16 else 160
      let args := [f.toNat, unit, n.toNat, if set then 1 else 0, ((g.val 0).w32 0).toNat, 3 + bargeKey g.core g.slot]
      let (rid, s) := s.startRel { core := g.core, slot := g.slot, ctx := g.b.ctx, scope := 5,
                                   after := .post [(d, { what := .semaphoreUpdate, args })] }
      (g.finish g.b s).relRun rid relFuel

/-- SEMSIG (R170). -/
def execSemsig (f : BitVec 1) (a : BitVec 7) (p : BitVec 1) (n : BitVec 8) (s : State) :
    Host.Outcome State Fault Refusal := semUpdateWord false f a p n s

/-- SEMSET (R170). -/
def execSemset (f : BitVec 1) (a : BitVec 7) (p : BitVec 1) (n : BitVec 8) (s : State) :
    Host.Outcome State Fault Refusal := semUpdateWord true f a p n s

/-- Is an update of the semaphore due in this cycle that goes before one of this rank (R172)? -/
def State.earlierUpdate (s : State) (file unit number rank : Nat) : Bool :=
  s.agenda.any fun e => decide (e.1 ≤ s.now) && e.2.what == .semaphoreUpdate
    && e.2.args.take 3 == [file, unit, number] && decide (3 < e.2.args.length ∧ e.2.args.getD 5 0 < rank)
    || decide (e.1 ≤ s.now) && e.2.what == .semValWrite && decide (10 ^ 9 < rank)

/-- Is a test of the waits on a semaphore due in this cycle already? -/
def State.testDue (s : State) (file unit number : Nat) : Bool :=
  s.agenda.any fun e => decide (e.1 ≤ s.now) && e.2.what == .semaphoreUpdate && e.2.args == [file, unit, number]

/-- The host's write of SEM_VAL: ERR is cleared where its bit is 1, EXT is stored, and the value is set as SEMSET sets it,
without a release (R174). -/
def State.hostSem (s : State) (file unit number : Nat) (v : Dword) : State :=
  let x := s.sem file unit number
  let ext := v.getLsbD 32
  let retime (b : Barge) : Barge := match b.semWait with
    | some w =>
      if w.file = file ∧ w.unit = unit ∧ w.number = number then { b with wait := .sem ext, waitSince := s.now } else b
    | none => b
  let s := if ext = x.ext then s else { s with barges := s.barges.mapVals retime }
  s.setSem file unit number { x with err := x.err && !v.getLsbD 33, ext, value := v.extractLsb' 0 32 }

/-- An update reaches its sync unit: an increment (0), a new value (1), a card's fault (2), or the host's write (3); updates
of one cycle are applied in the order of R172, and with no more than its names, the waits are tested on what they have all
left. Its arguments: file, unit, number, kind, value, rank, then the releaser's core and
number; a fault has its cause and address in their place. -/
def execSemaphoreUpdate (s : State) : Host.Outcome State Fault Refusal :=
  let file := s.arg 0
  let unit := s.arg 1
  let number := s.arg 2
  let rest := if s.args.length = 3 then 2 * 10 ^ 9 else s.arg 5
  if s.earlierUpdate file unit number rest then done (s.post 0 .semaphoreUpdate s.args)
  else if s.args.length = 3 then done (s.semUpdated file unit number)
  else
    let s := if s.testDue file unit number then s else s.post 0 .semaphoreUpdate [file, unit, number]
    let x := s.sem file unit number
    let v := BitVec.ofNat 32 (s.arg 4)
    let record := if s.args.length = 8 then some (s.arg 6, s.arg 7) else x.record
    if s.arg 3 = 3 then done (s.hostSem file unit number (BitVec.ofNat 64 (s.arg 4)))
    else
    let x := match s.arg 3 with
      | 0 => { x with value := x.value + v, record := if 3 ≤ s.arg 5 then record else x.record }
      | 1 => { x with value := v, record }
      | _ => { x with err := true, fault := BitVec.ofNat 64 (s.arg 6 % 256 * 2 ^ 56 + s.arg 7 % 2 ^ 56) }
    done (s.setSem file unit number x)

/-! ## The watchdog -/

/-- Is a barge held by a counted satisfier (R356)? -/
def Barge.counted (b : Barge) : Bool :=
  match b.wait with
  | .counted => true
  | .join => true
  | .barrier => true
  | .frame => true
  | .setup => true
  | .sem ext => !ext
  | _ => false

/-- Does a barge wait only on writes that a migration holds: those of a release of its own, which its barrier then waits
for (R95)? -/
def State.onHeldWrites (s : State) (core slot : Nat) : Bool :=
  let held := (s.hub.migs.flatMap fun m => m.2.held)
  !held.isEmpty && s.rels.any fun r =>
    decide (r.2.core = core ∧ r.2.slot = slot) && !r.2.waitFor.isEmpty && r.2.waitFor.all fun k =>
      held.contains k || match s.flights.look k with
        | some f => f.sent && !f.pending.isEmpty && f.pending.all held.contains
        | none => false

/-- The barges of a context that a counted satisfier holds (R356). -/
def State.countedBarges (s : State) (ctx : Nat) : Tab Barge :=
  s.barges.filter fun p => decide (p.2.ctx = ctx) && p.2.counted && !s.onHeldWrites (p.1 / 512) (p.1 % 512)

/-- A context has made no progress for LIMIT hub cycles: its counted waiters take WATCHDOG, and the hub records it
(R357). -/
def execWatchdog (s : State) : Host.Outcome State Fault Refusal :=
  let x := s.arg 0
  let h := s.hub
  let s := s.setHub { h with watchdogOver := h.watchdogOver || h.watchdogFired, watchdogFired := true,
                             watchdogCtx := BitVec.ofNat 8 x }
  let s := s.setCtx x { s.ctx x with watchdog := 0 }
  done ((s.countedBarges x).foldl (fun s q =>
    if q.2.trap.isSome then s.post 0 .unrecoverableFault [q.1 / 512, q.1 % 512, 0x70, 0]
    else s.takeTrap (q.1 / 512) (q.1 % 512) { cause := 0x70 } 0 none) s)

end Sys2Proof.Machine
end

