-- ==== Sys2Proof/Machine/Launch.lean ====
section
/-!
DEFINITION. The class 22 words LAUNCH, SIGNAL, PERFCL and FLIP (R377 to R380), and the display heads that FLIP feeds
(R380, R381).
-/
namespace Sys2Proof.Machine
open Sys2Proof

/-! ## LAUNCH, SIGNAL, PERFCL -/

/-- The reach field of a packet held in local memory, with the barge's tag put in (R377); none where it names another
label. -/
def tagPacket (bs : List Byte) (tag : BitVec 3) : Option (List Byte) :=
  let b := bs.getD 15 0
  let r := b.extractLsb' 0 3
  if tag = 0 then some bs
  else if r ≠ 0 && decide (r ≠ tag) then none
  else some (bs.set 15 (b.extractLsb' 3 5 ++ tag))

/-- What the checks and the scoreboard see of LAUNCH (R377). -/
def shapeLaunch (d a b : BitVec 7) (p q : BitVec 1) : Shape :=
  { noHandler := true, srcs := fun _ => [reg a p, reg b q], dsts := fun _ => [{ spec := d, words := 2 }],
    holds := cardHolds }

/-- LAUNCH (R377): the checks and the packet's bytes at issue, then a release at device scope; the packet is read 20
cycles later. -/
def execLaunch (d a b : BitVec 7) (p q : BitVec 1) (s : State) : Host.Outcome State Fault Refusal :=
  issueWord (shapeLaunch d a b p q) s
    fun g s =>
      if g.active = 0 then g.finish g.b s
      else
        let at_ := ((g.val 0).dword.extractLsb' 0 32).toNat
        let queue := ((g.val 1).dword.extractLsb' 0 6).toNat
        match s.localRange g.core g.b ((lowestLane g.active).getD 0) with
        | none => g.trap { cause := 0x0B } s
        | some (base, size) =>
          if at_ % 64 ≠ 0 || decide (size < at_ + 64) then g.trap { cause := 0x74 } s
          else if !(s.queue queue).en || decide ((s.queue queue).ctx.toNat ≠ g.b.ctx) then g.trap { cause := 0x74 } s
          else
            let bytes := s.localBytes g.core g.slot (base + at_) 64
            match tagPacket bytes g.b.tag with
            | none => g.trap { cause := 0x74 } s
            | some bs =>
              let packet := bs.set 63 ((bs.getD 63 0) ||| 0x80#8)
              let (id, s) := g.awaitScalar d s
              let step : Event := { what := .queueSlotWrite, args := (launchQueue + queue) :: id :: packet.map (·.toNat) }
              let (rid, s) := s.startRel
                { core := g.core, slot := g.slot, ctx := g.b.ctx, scope := 5, uo := true, after := .post [(20, step)] }
              (s.relRun rid relFuel).pump g.core

/-- What the checks and the scoreboard see of SIGNAL (R378). -/
def shapeSignal (a b : BitVec 7) (p q : BitVec 1) : Shape :=
  { srcs := fun _ => [reg a p, reg b q], holds := memHolds, stores := true }

/-- SIGNAL: as ST.b64.device.rel of class 16, its release covering UO pages (R378). Between words it is the step in which
the wharf sees the value of one. -/
def execSignal (a b : BitVec 7) (p q : BitVec 1) (s : State) : Host.Outcome State Fault Refusal :=
  if s.issue.isNone && !s.args.isEmpty then done (s.signalSeen (s.arg 0) (BitVec.ofNat 64 (s.arg 1)))
  else
    issueWord (shapeSignal a b p q) s fun g s =>
      if g.active = 0 then g.finish g.b s
      else
        let acc : LaneAcc :=
          { lane := (lowestLane g.active).getD 0, va := (g.val 0).dword.toNat, size := 8
            data := leBytes 8 (g.val 1).dword.toNat }
        let f := { g.flight s (.store true) [acc] with
          write := true, captured := false, alignTo := 8, recording := true, record := s.seqRecord g.core, hint := signalHint }
        g.launchReleased 5 true g.b f s

/-- PERFCL (R379). -/
def execPerfcl (n : BitVec 3) (s : State) : Host.Outcome State Fault Refusal :=
  issueWord bareShape s fun g s =>
    if g.active = 0 then g.finish g.b s
    else
      let wg := g.b.laneWg.getD ((lowestLane g.active).getD 0) g.b.wg
      (g.finish g.b s).post 8 .freqStep [clusterOf g.core, wg, n.toNat]

/-! ## Display heads (R380, R381) -/

/-- A head. -/
def State.head (s : State) (h : Nat) : Head := (s.hub.heads.look h).getD {}
/-- Replace a head. -/
def State.setHead (s : State) (h : Nat) (x : Head) : State := s.setHub { s.hub with heads := s.hub.heads.put h x }

/-- Do the registers let the head run frames? -/
def Head.mayRun (x : Head) : Bool :=
  x.en && (x.fmt == 1 || x.fmt == 3 || x.fmt == 4) && x.pclk != 0 && decide (x.vact.toNat < x.vtotal.toNat)
    && decide (x.hact.toNat < x.htotal.toNat)

/-- Hub cycles from the start of a frame to its line l, under the values it runs by. -/
def Head.lineAt (x : Head) (l : Nat) : Nat :=
  match x.running with
  | some (_, _, _, htotal, pclk, _) => l * (htotal.toNat + 1) * 1600000 / max 1 pclk.toNat
  | none => 0

/-- Active lines of the frame that runs. -/
def Head.lines' (x : Head) : Nat :=
  match x.running with
  | some (vact, _, _, _, _, _) => vact.toNat + 1
  | none => 0

/-- The deadline of the frame that runs. -/
def Head.deadline (x : Head) : Nat := x.frameStart + x.lineAt (x.lines' - x.lines.toNat)

/-- A frame starts, under the values its registers hold now (R381). -/
def execFrameStart (s : State) : Host.Outcome State Fault Refusal :=
  let h := s.arg 0
  let x := s.head h
  let t := hubCycle s.now
  if !x.mayRun then done (s.setHead h { x with running := none })
  else
    let x := { x with running := some (x.vact, x.hact, x.vtotal, x.htotal, x.pclk, x.fmt), frameStart := t }
    let s := s.setHead h x
    let s := s.postAt (ofHubCycle (t + x.lineAt x.lines')) .verticalBlank [h]
    done (s.postAt (ofHubCycle (t + max 1 (x.lineAt (x.vtotal.toNat + 1)))) .frameStart [h])

/-- How the oldest flip is judged (R380): the surface presented and the code of its retirement, none where it stays. -/
def Flip.judge (f : Flip) (deadline : Nat) : Option (Nat × BitVec 2) :=
  if deadline < f.queuedAt then none
  else if f.tag = 0 then some (f.surface, 0)
  else if f.squashed then some (f.fallback, 2)
  else
    match f.committedAt with
    | some c => if c ≤ deadline then some (f.surface, 0) else some (f.fallback, 1)
    | none => some (f.fallback, 1)

/-- May a flip or a version event still come at this cycle? -/
def State.flipsDue (s : State) : Bool :=
  s.agenda.any fun e => decide (e.1 ≤ s.now)
    && (e.2.what == .flip 0 0 0 0 0 || e.2.what == .commitPoint || e.2.what == .squashPoint)

/-- Vertical blank: barges in WFI wake (R396); with a second number, at the end of the hub cycle, behind the flips and commit points
of that cycle, the oldest flip is judged (R380, R150; DESIGN CHOICE, log 109). -/
def execVerticalBlank (s : State) : Host.Outcome State Fault Refusal :=
  let h := s.arg 0
  let x := s.head h
  if s.args.length = 1 then
    done ((s.postAt (ofHubCycle (hubCycle s.now + 1) - 1) .verticalBlank [h, 1]).wakeWfi fun _ => true)
  else if s.flipsDue then done (s.post 0 .verticalBlank s.args)
  else
  let s := match x.flips with
    | f :: r =>
      match f.judge x.deadline with
      | some (surface, code) =>
        s.setHead h { x with flips := r, shown := some (f.ctx, surface), count := x.count + 1, last := code }
      | none => s
    | [] => s
  done s

/-- A flip reaches the hub (R380). -/
def State.queueFlip (s : State) (id ctx : Nat) (surface fallback : Nat) (tag : BitVec 3) (h : Nat) : State :=
  let x := s.head h
  if 2 ≤ x.flips.length then s.fillScalar id 2 18
  else
    let l := ((s.ctx ctx).labels.look tag.toNat).getD {}
    let f : Flip :=
      { ctx, surface, fallback, tag, queuedAt := hubCycle s.now
        squashed := decide (l.state = .dead ∨ l.state = .free), committedAt := if l.state = .committed then some 0 else none }
    (s.setHead h { x with flips := x.flips ++ [f] }).fillScalar id 1 18

/-- What the checks and the scoreboard see of FLIP (R380). -/
def shapeFlip (d a b : BitVec 7) (p q : BitVec 1) : Shape :=
  { mod := true, modOk := { aux := [0, 1] }, noHandler := true, srcs := fun _ => [reg a p, reg b q],
        dsts := fun _ => [{ spec := d, words := 2 }] }

/-- FLIP: the barge waits for its status (R25, R380). Between words it is the step in which one reaches the hub. -/
def execFlip (d a b : BitVec 7) (p q : BitVec 1) (s : State) : Host.Outcome State Fault Refusal :=
  if s.issue.isNone && !s.args.isEmpty then
    done (s.queueFlip (s.arg 0) (s.arg 1) (s.arg 2) (s.arg 3) (BitVec.ofNat 3 (s.arg 4)) (s.arg 5))
  else
    issueWord (shapeFlip d a b p q) s
      fun g s =>
        if g.active = 0 then g.finish g.b s
        else
          let surface := (g.val 0).dword.toNat
          let fallback := (g.val 1).dword.toNat
          if surface % 256 ≠ 0 || fallback % 256 ≠ 0 then g.trap { cause := 0x76 } s
          else
            let (id, s) := g.awaitScalar d s
            s.post 18 (.flip 0 0 0 0 0) [id, g.b.ctx, surface, fallback, g.b.tag.toNat, g.pre.aux]

end Sys2Proof.Machine
end

