-- ==== Sys2Proof/Machine/Reach.lean ====
section
/-!
DEFINITION. Reaches: the class 23 words (R143 to R145, R148, R151), the version events of the hub in their order (R147,
R150), their commit and squash points (R146, R149), starvation (R142) and the end of settling (R153).
-/
namespace Sys2Proof.Machine
open Sys2Proof

/-! ## Labels -/

/-- A label of a context. -/
def Context.label (c : Context) (l : BitVec 3) : Label := (c.labels.look l.toNat).getD {}

/-- Change a label. -/
def Context.onLabel (c : Context) (l : BitVec 3) (f : Label → Label) : Context :=
  { c with labels := c.labels.put l.toNat (f (c.label l)) }

/-- Change a label of a context. -/
def State.onLabel (s : State) (ctx : Nat) (l : BitVec 3) (f : Label → Label) : State :=
  s.setCtx ctx ((s.ctx ctx).onLabel l f)

/-- The reach labels of a mask, rising. -/
def labelsIn (m : BitVec 8) : List (BitVec 3) := ([1, 2, 3, 4, 5, 6, 7] : List (BitVec 3)).filter fun l => m.getLsbD l.toNat

/-- The mask of some labels. -/
def labelMask (p : BitVec 3 → Bool) : BitVec 8 :=
  ([1, 2, 3, 4, 5, 6, 7] : List (BitVec 3)).foldl (fun m l => if p l then m ||| (1#8 <<< l.toNat) else m) 0

/-- The code of a label's state (Table 7.1). -/
def LabelState.code : LabelState → Nat
  | .free => 0
  | .live => 1
  | .committed => 2
  | .dead => 3

/-- VERSION_MAP of a context (Table 7.2). -/
def Context.versionMap (c : Context) : Dword :=
  let shown := ([1, 2, 3, 4, 5, 6, 7] : List (BitVec 3)).map fun l => (l.toNat, c.label l)
  let committed := ((shown.find? fun p => p.2.shown == .committed).map (·.1)).getD 0
  let settling := shown.any fun p => p.2.shown == .committed || p.2.shown == .dead
  BitVec.ofNat 64 (c.forkSeq.toNat * 2 ^ 48 + committed * 2 ^ 45 + (if settling then 2 ^ 44 else 0)
    + (shown.map fun p => (p.2.shown.code + if p.2.shownStarved then 4 else 0) * 16 ^ p.1).sum)

/-! ## What a point does to work (R146, R149) -/

/-- Change the flips of a label that no point has met yet. -/
def State.onFlips (s : State) (ctx : Nat) (l : BitVec 3) (f : Flip → Flip) : State :=
  let upd (x : Flip) : Flip := if x.ctx = ctx && x.tag == l && !x.squashed && x.committedAt.isNone then f x else x
  s.setHub { s.hub with heads := s.hub.heads.mapVals fun h => { h with flips := h.flips.map upd } }

/-- Cards of a label are cancelled without an increment; a word that still waits for one goes on (R149, R168). -/
def State.cancelCards (s : State) (p : Card → Bool) : State :=
  let chosen := s.cards.filter fun c => p c.2 && decide (c.2.stage ≠ 3)
  -- a collective cannot go on without one of its cards
  let mates := chosen.flatMap fun c => c.2.job.group
  let more := s.cards.filter fun c => mates.contains c.1 && !(chosen.any fun d => decide (d.1 = c.1)) && decide (c.2.stage = 2)
  (chosen ++ more).foldl (fun s c =>
    let s := s.endCard c.1
    match c.2.flight with
    | some f => if c.2.stage < 2 then s.fillScalar f 0 0 else s
    | none => s) s

/-- The threads that a selected basin holds are discarded: they count as exited, and the basin forms no barge (R250). -/
def State.dropBasinThreads (s : State) (p : Barge → Bool) : State :=
  let basins := (s.cores.map fun c => c.2.basins.map (·.2)).flatten ++ (s.clusters.map fun c => c.2.basins.map (·.2)).flatten
  (basins.foldl (fun s n =>
    match s.barge n.core n.slot with
    | some b =>
      if p b then (s.freeSlot n.core n.slot).threadsExit b (maskOf fun i => decide (i < n.lanes)) else s
    | none => s) s).dropBasins

/-- What a squash does to the unfinished work of a label (R149, R250). -/
def State.squashWork (s : State) (ctx : Nat) (l : BitVec 3) : State :=
  let mine := s.nodes.filter fun n => decide (n.2.ctx = ctx) && n.2.label == l
  let s := mine.foldl (fun s n => (s.stopTask n.1).cancelNode n.1) s
  let s := s.dropBasinThreads fun b => decide (b.ctx = ctx) && b.tag == l
  let doom (b : Barge) : Barge :=
    let b := if b.ctx = ctx && b.frameTag == l && b.handler && b.frameEnd.isNone then { b with frameEnd := some false } else b
    if b.ctx = ctx && b.tag == l then { b with dead := true } else b
  let saved (r : SaveRec) : SaveRec := { r with barges := r.barges.mapVals doom }
  let s := { s with barges := s.barges.mapVals doom, saves := s.saves.map saved }
  let s := s.cancelCards fun c => decide (c.ctx = ctx) && c.tag == l
  s.onFlips ctx l fun x => { x with squashed := true }

/-- A label dies: by an instruction, or by starvation (R148, R142). Its lines wait for reclamation (R153). -/
def State.squashLabel (s : State) (ctx : Nat) (starved : BitVec 8) (l : BitVec 3) : State :=
  let lost := starved.getLsbD l.toNat
  let s := s.onLabel ctx l fun x =>
    { x with state := .dead, held := false, starved := lost, cause := if lost then 0x91 else 0 }
  (s.squashWork ctx l).settleLater ctx l.toNat

/-- The commit point of a label (R146): its versions are base, its barges, cards and draws are the base's, and its held
launches may be placed. -/
def State.commitLabel (s : State) (ctx : Nat) (k : BitVec 3) : State :=
  let s := s.onLabel ctx k fun x => { x with state := .committed, held := false }
  let s := s.setCtx ctx { s.ctx ctx with clabel := k }
  let mine (c : Nat) (l : BitVec 3) : Bool := decide (c = ctx) && l == k
  let barge (b : Barge) : Barge :=
    let b := if mine b.ctx b.frameTag && b.handler && b.frameEnd.isNone then { b with frameEnd := some true } else b
    if mine b.ctx b.tag then { b with tag := 0 } else b
  let saved (r : SaveRec) : SaveRec := { r with barges := r.barges.mapVals barge }
  let card (c : Card) : Card := if mine c.ctx c.tag then { c with tag := 0 } else c
  let draw (d : Draw) : Draw := if mine d.ctx d.label then { d with label := 0 } else d
  let node (n : Node) : Node :=
    if mine n.ctx n.label then { n with reach := 0, label := 0, hold := false } else n
  let basins (t : Tab Basin) : Tab Basin := t.mapVals fun n =>
    match s.barge n.core n.slot with
    | some b => if mine b.ctx b.tag then { n with key := n.key.set 2 0 } else n
    | none => n
  let held := (s.nodes.filter fun n => mine n.2.ctx n.2.label && n.2.state == .held).map (·.1)
  let s := { s with
    barges := s.barges.mapVals barge, saves := s.saves.map saved, cards := s.cards.mapVals card, draws := s.draws.mapVals draw
    nodes := s.nodes.mapVals node
    cores := s.cores.mapVals fun c => { c with basins := basins c.basins }
    clusters := s.clusters.mapVals fun c => { c with basins := basins c.basins } }
  let s := s.onFlips ctx k fun x => { x with committedAt := some (hubCycle s.now) }
  (held.foldl State.makeReady s).settleLater ctx k.toNat

/-- The clean L1 lines of a context's versioned pages go, and VERSION_MAP shows the labels of a point (R146, Table
7.6). -/
def State.epochStep (s : State) (ctx : Nat) (m : BitVec 8) : State :=
  let s := (s.cores.map (·.1)).foldl (fun s c => s.l1Clean c fun t ver => ver && decide (t.ctx = ctx)) s
  (labelsIn m).foldl (fun s l => s.onLabel ctx l fun x => { x with shown := x.state, shownStarved := x.starved }) s

/-! ## Version events (R147, R150) -/

/-- The row that takes an event's next phase. -/
def VerOp.row : VerOp → Instr
  | .fork _ _ => .forkGrant
  | .commit _ => .commitPoint
  | .squash _ => .squashPoint
  | .starved _ => .squashPoint

/-- Does an event go before another: by hub cycle of arrival, then by rank? -/
def VerEvent.before (a b : VerEvent) : Bool :=
  decide (hubCycle a.arrived < hubCycle b.arrived)
    || (decide (hubCycle a.arrived = hubCycle b.arrived) && decide (a.rank < b.rank))

/-- Enter an event among those that wait, behind one that is in progress. -/
def enterEvent (e : VerEvent) : List VerEvent → List VerEvent
  | [] => [e]
  | x :: r => if x.phase = 0 && e.before x then e :: x :: r else x :: enterEvent e r

/-- Enter the starvation of a label behind the event in progress and the starvations that came before, and ahead of every
other event that waits (R150). -/
def enterNext (e : VerEvent) : List VerEvent → List VerEvent
  | [] => [e]
  | x :: r =>
    let ahead : Bool := decide (x.phase ≠ 0) || match x.what with
      | .starved _ => !e.before x
      | _ => false
    if ahead then x :: enterNext e r else e :: x :: r

/-- An event arrives: it is taken at the end of its hub cycle, once those before it are complete. -/
def State.versionArrives (s : State) (ctx rank : Nat) (what : VerOp) (flight : Option Nat) : State :=
  let due := ofHubCycle (hubCycle s.now + 1) - 1
  let e : VerEvent := { what, arrived := s.now, rank, due, flight }
  let c := s.ctx ctx
  -- a label that starves during another event's drain is squashed as soon as that event is complete (R150)
  let next : Bool := (c.events.head?.any fun x => decide (x.phase ≠ 0)) && match what with
    | .starved _ => true
    | _ => false
  (s.setCtx ctx { c with events := if next then enterNext e c.events else enterEvent e c.events }).postAt due what.row [ctx]

/-- Rank of a barge's event: after the starvations of its hub cycle (R150). -/
def versionRankOf (core slot : Nat) : Nat := 8 + bargeKey core slot

/-- Has every write of the labels of a mask been acknowledged (R147)? -/
def State.drained (s : State) (ctx : Nat) (m : BitVec 8) : Bool :=
  let mine (c : Nat) (l : BitVec 3) : Bool := decide (c = ctx) && m.getLsbD l.toNat
  let writes (t : Txn) : Bool := match t.kind with
    | .write => true
    | .card => true
    | .atomic => true
    | .red _ => true
    | .mxacc => true
    | _ => false
  !(s.flights.any fun f => f.2.isWrite && mine f.2.ctx f.2.label)
    && !(s.txns.any fun t => writes t.2 && mine t.2.ctx t.2.label)

/-- The grant of FORK (R143): the labels granted, and the machine after it. -/
def State.grant (s : State) (ctx : Nat) (m : BitVec 8) (quota : BitVec 24) : BitVec 8 × State :=
  let c := s.ctx ctx
  let g := labelMask fun l => m.getLsbD l.toNat && (c.label l).state == .free && decide ((c.label l).poolSlots ≠ 0)
  let s := (labelsIn g).foldl (fun s l => s.onLabel ctx l fun x =>
    { x with state := .live, starved := false, quota, shown := .live, shownStarved := false }) s
  (g, if g = 0 then s else s.setCtx ctx { s.ctx ctx with forkSeq := (s.ctx ctx).forkSeq + 1 })

/-- Write the status of an event to the word that waits for it. -/
def State.versionStatus (s : State) (e : VerEvent) (x : Dword) (delay : Nat) : State :=
  match e.flight with
  | some f => s.fillScalar f x delay
  | none => s

/-- Replace the event in progress. -/
def State.setEvent (s : State) (ctx : Nat) (e : VerEvent) : State :=
  let c := s.ctx ctx
  (s.setCtx ctx { c with events := e :: c.events.drop 1 }).postAt e.due e.what.row [ctx]

/-- The event in progress is complete. -/
def State.popEvent (s : State) (ctx : Nat) : State :=
  let c := s.ctx ctx
  let s := s.setCtx ctx { c with events := c.events.drop 1 }
  match c.events.drop 1 with
  | e :: _ => s.postAt e.due e.what.row [ctx]
  | [] => s

/-- Take an event: a FORK at once, a COMMIT or SQUASH that finds nothing to do at once, any other into its hold (R143,
R145, R148). -/
def State.takeEvent (s : State) (ctx : Nat) (e : VerEvent) : State :=
  let base := if s.now < ofHubCycle (hubCycle e.arrived + 1) then e.arrived else s.now
  let late := s.now - base
  let c := s.ctx ctx
  let live (l : BitVec 3) : Bool := (c.label l).state == .live
  let hold (m lost : BitVec 8) : State := s.setEvent ctx { e with phase := 1, mask := m, lost, due := base + 48 }
  match e.what with
  | .fork m q =>
    let (g, t) := s.grant ctx m q
    (t.versionStatus e (BitVec.ofNat 64 ((t.ctx ctx).forkSeq.toNat * 2 ^ 48 + g.toNat)) (60 - late)).popEvent ctx
  | .commit k =>
    if k = 0 || !live k then (s.versionStatus e 1 (84 - late)).popEvent ctx
    else if c.clabel ≠ 0 then (s.versionStatus e 2 (84 - late)).popEvent ctx
    else hold (labelMask live) 0
  | .squash m =>
    let m := labelMask fun l => m.getLsbD l.toNat && live l
    if m = 0 then (s.versionStatus e 0 (84 - late)).popEvent ctx else hold m 0
  | .starved l => if live l then hold (1#8 <<< l.toNat) (1#8 <<< l.toNat) else s.popEvent ctx

/-- The commit or squash point of the event in progress; its epoch step follows after 60 cycles, its status after 96
(Table 7.6). -/
def State.versionPoint (s : State) (ctx : Nat) (e : VerEvent) : State :=
  let dead (m : BitVec 8) (s : State) : State := (labelsIn m).foldl (fun s l => s.squashLabel ctx e.lost l) s
  let word (m : BitVec 8) (status : Nat) : Dword := BitVec.ofNat 64 (m.toNat * 2 ^ 8 + status)
  let s := s.post 60 e.what.row [ctx, e.mask.toNat]
  let s := match e.what with
    | .commit k =>
      if e.lost.getLsbD k.toNat then (dead e.mask s).versionStatus e (word e.mask 3) 96
      else
        let others := e.mask &&& ~~~(1#8 <<< k.toNat)
        (dead others (s.commitLabel ctx k)).versionStatus e (word others 0) 96
    | _ => (dead e.mask s).versionStatus e (word e.mask 0) 96
  s.popEvent ctx

/-- The hold of an event is in force: no further access of its labels issues, and the reduction entries of those labels
drain (R147). -/
def State.holdLabels (s : State) (ctx : Nat) (m : BitVec 8) : State :=
  let s := (labelsIn m).foldl (fun s l => s.onLabel ctx l fun x => { x with held := true }) s
  (s.cores.map (·.1)).foldl (fun s c =>
    (s.drainWhere c none fun e => decide (e.ctx = ctx) && m.getLsbD e.label.toNat).2) s

/-- The next phase of the first event of a context, where it is due (R147, R150). -/
def State.versionStep (s : State) (ctx : Nat) : State :=
  match (s.ctx ctx).events with
  | [] => s
  | e :: _ =>
    if s.now < e.due then s
    else
      match e.phase with
      | 0 => s.takeEvent ctx e
      | 1 => (s.setEvent ctx { e with phase := 2, due := s.now + 24 }).holdLabels ctx e.mask
      | 2 =>
        if s.drained ctx e.mask then s.setEvent ctx { e with phase := 3, due := s.now + 48 }
        else s.setEvent ctx { e with due := s.now + 1 }
      | _ => s.versionPoint ctx e

/-! ## The rows -/

/-- FORK reaches the hub after its release, or is taken there (R143). -/
def execForkGrant (s : State) : Host.Outcome State Fault Refusal :=
  match s.args with
  | ctx :: core :: slot :: fid :: mask :: quota :: _ =>
    done (s.versionArrives ctx (versionRankOf core slot) (.fork (BitVec.ofNat 8 mask) (BitVec.ofNat 24 quota)) (some fid))
  | _ => done (s.versionStep (s.arg 0))

/-- A COMMIT reaches the hub, goes on to its next phase, or makes its epoch step (R145 to R147). -/
def execCommitPoint (s : State) : Host.Outcome State Fault Refusal :=
  match s.args with
  | [ctx, core, slot, fid, k] => done (s.versionArrives ctx (versionRankOf core slot) (.commit (BitVec.ofNat 3 k)) (some fid))
  | [ctx, m] => done (s.epochStep ctx (BitVec.ofNat 8 m))
  | _ => done (s.versionStep (s.arg 0))

/-- A SQUASH reaches the hub; it or a starvation goes on to its next phase, or makes its epoch step (R147 to R149). -/
def execSquashPoint (s : State) : Host.Outcome State Fault Refusal :=
  match s.args with
  | [ctx, core, slot, fid, m] => done (s.versionArrives ctx (versionRankOf core slot) (.squash (BitVec.ofNat 8 m)) (some fid))
  | [ctx, m] => done (s.epochStep ctx (BitVec.ofNat 8 m))
  | _ => done (s.versionStep (s.arg 0))

/-- A chunked task cannot place a pending line in pool 0: it is aborted and waits until the pool is empty, or traps
CHUNK_STARVED where no other slot holds lines there (R142). -/
def State.chunkStarves (s : State) (ctx sl : Nat) : State :=
  match s.nodes.find? fun n => decide (n.2.ctx = ctx ∧ n.2.chunkSlot = some sl) with
  | none => s
  | some (id, n) =>
    let others := s.versions.any fun v => v.poolSlot.isSome && decide (v.ctx = ctx ∧ v.pool = 0 ∧ v.slot ≠ some sl)
    if others then
      let s := (s.stopTask id).killSlot ctx sl
      let s := s.onNode id fun n => { n with state := .starved, chunkSlot := none, nextUnit := 0, again := [], regions := [] }
      if n.cancelled then s.cancelNode id else s
    else
      match s.barges.find? fun b => decide (b.2.node = id) && b.2.trap.isNone with
      | some (k, _) => s.takeTrap (k / 512) (k % 512) { cause := 0x95 } 0 none
      | none =>
        match (s.wgs.filter fun w => decide (w.2.node = id)).map (·.1) with
        | w :: _ => s.post 0 .unrecoverableFault [((s.wgs.look w).map (·.core)).getD 0, ghost w, 0x95, 0]
        | [] => s

/-- A label finds no room for a version: the hub squashes it, at once or with the event in progress that holds it (R142,
R150). DESIGN CHOICE (log 110): one that a SQUASH in progress names takes STARVED and the cause too, as R145 says for COMMIT. -/
def execReachStarved (s : State) : Host.Outcome State Fault Refusal :=
  let ctx := s.arg 0
  if 8 ≤ s.arg 1 then done (s.chunkStarves ctx (s.arg 1 - 8))
  else
    let l := BitVec.ofNat 3 (s.arg 1)
    let c := s.ctx ctx
    match c.events with
    | e :: r =>
      if e.phase ≠ 0 && e.mask.getLsbD l.toNat then
        done (s.setCtx ctx { c with events := { e with lost := e.lost ||| (1#8 <<< l.toNat) } :: r })
      else if c.events.any fun x => decide (x.what = VerOp.starved l) then done s
      else done (s.versionArrives ctx l.toNat (.starved l) none)
    | [] => done (s.versionArrives ctx l.toNat (.starved l) none)

/-- A sweep settles those of the lines of a label or slot (as the number of `settleLater`) that a rule selects (R153). -/
def State.settleSome (s : State) (ctx code : Nat) (p : Version → Bool) : State :=
  if 8 ≤ code then
    match (s.ctx ctx).chunk (code - 8) with
    | .committed _ => s.settleSlot ctx (code - 8) p
    | .dead => s.dropVersions fun v => decide (v.ctx = ctx ∧ v.slot = some (code - 8)) && p v
    | _ => s
  else
    let l := BitVec.ofNat 3 code
    match ((s.ctx ctx).label l).state with
    | .committed => s.settleLabel ctx l p
    | .dead => s.dropVersions fun v => decide (v.ctx = ctx ∧ v.label = l) && p v
    | _ => s

/-- Tasks that overflowed pool 0 are requeued once it is empty, and its slots are handed out from the first again (R141, R142). -/
def State.requeueStarved (s : State) (ctx : Nat) : State :=
  let inPool := s.versions.any fun v => v.poolSlot.isSome && decide (v.ctx = ctx ∧ v.pool = 0)
  if inPool then s
  else
    let s := s.onLabel ctx 0 fun x => { x with poolUsed := 0 }
    (s.nodes.filter fun n => decide (n.2.ctx = ctx) && n.2.state == .starved && !n.2.cancelled).foldl
      (fun s n => s.makeReady n.1) s

/-- Every column sweep and the directory walk of a label or slot are complete: it is free (R153). -/
def State.settled (s : State) (ctx code : Nat) : State :=
  let s := s.settleSome ctx code fun _ => true
  let s := if s.settling then s else { s with columns := s.columns.mapVals fun (c : Column) => { c with tagUses := [] } }
  if 8 ≤ code then
    let c := s.ctx ctx
    ((s.setCtx ctx { c with chunks := c.chunks.cut (code - 8) }).requeueStarved ctx).askDispatch
  else
    let l := BitVec.ofNat 3 code
    let committed := ((s.ctx ctx).label l).state == .committed
    let s := s.onLabel ctx l fun x => { x with state := .free, shown := .free, poolUsed := 0 }
    let s := if committed then s.setCtx ctx { s.ctx ctx with clabel := 0 } else s
    s.requeueStarved ctx

/-- A sweep, of a context and a label or slot, that began in a memory-layer cycle comes to a set of a column, or to one of
the directory (the number after the columns'); or with no place, to its end. A set waits for as many cycles as accesses have
used the column's tag port since (R153). -/
def execSettlingComplete (s : State) : Host.Outcome State Fault Refusal :=
  match s.args with
  | [ctx, code, start, n, set] =>
    let due := ofLayerCycle (start + set + s.portUses n start)
    if n < 192 && s.now < due then done (s.postAt due .settlingComplete s.args)
    else
      let s := s.settleSome ctx code fun v => decide (s.sweepPlace v = (n, set))
      done (if code < 8 then s else s.requeueStarved ctx)
  | [ctx, code, start] =>
    let due := ofLayerCycle (start + ((List.range 192).foldl (fun m n => max m (cacheSets s n + s.portUses n start)) 0))
    if s.now < due then done (s.postAt due .settlingComplete s.args) else done (s.settled ctx code)
  | _ => done s

/-! ## The words of class 23 -/

/-- What the checks and the scoreboard see of FORK (R143). -/
def shapeFork (d a b : BitVec 7) (p q : BitVec 1) : Shape :=
  { imm := true, immh := fun _ => true, mod := true, noHandler := true, srcs := fun x => reg a p :: regB x b 1 q,
      dsts := fun _ => [{ spec := d, words := 2 }] }

/-- FORK (R143): a release at system scope, then the grant at the hub. -/
def execFork (d a b : BitVec 7) (p q : BitVec 1) (s : State) : Host.Outcome State Fault Refusal :=
  issueWord (shapeFork d a b p q) s
    fun g s =>
      if g.active = 0 then g.finish g.b s
      else if g.b.tag ≠ 0 then g.trap { cause := 0x94 } s
      else
        let (fid, s) := g.awaitScalar d s
        let mask := (g.val 0).dword.extractLsb' 0 8 &&& 0xFE#8
        let quota := (g.opB 1 b q).dword.extractLsb' 0 24
        let step : Event := { what := .forkGrant, args := [g.b.ctx, g.core, g.slot, fid, mask.toNat, quota.toNat] }
        let (rid, s) := s.startRel
          { core := g.core, slot := g.slot, ctx := g.b.ctx, scope := 6, after := .post [(36, step)] }
        (s.relRun rid relFuel).pump g.core

/-- What the checks and the scoreboard see of REACH (R144). -/
def shapeReach : Shape :=
  { imm := true, immh := fun _ => true, mod := true, payloadOk := Pre.immZero }

/-- REACH (R144). -/
def execReach (k : BitVec 3) (s : State) : Host.Outcome State Fault Refusal :=
  issueWord shapeReach s fun g s =>
    if g.active = 0 then g.finish g.b s
    else if k ≠ 0 && !g.b.reachOk then g.trap { cause := 0x94 } s
    else if !(s.ctx g.b.ctx).live k then g.trap { cause := 0x92 } s
    else g.finish { g.b with tag := k } s

/-- What the checks and the scoreboard see of COMMIT and SQUASH (R145, R148). -/
def shapeVersionWord (d : BitVec 7) (srcs : List Src) : Shape :=
  { imm := true, immh := fun _ => true, mod := true, noHandler := true, payloadOk := Pre.immZero, srcs := fun _ => srcs,
      dsts := fun _ => [{ spec := d, words := 2 }] }

/-- COMMIT or SQUASH: no tag, and the barge waits for its status (R145, R148). -/
def versionWord (d : BitVec 7) (srcs : List Src) (row : Instr) (arg : Go → Nat) (s : State) :
    Host.Outcome State Fault Refusal :=
  issueWord (shapeVersionWord d srcs) s
    fun g s =>
      if g.active = 0 then g.finish g.b s
      else if g.b.tag ≠ 0 then g.trap { cause := 0x94 } s
      else
        let (fid, s) := g.awaitScalar d s
        s.post 36 row [g.b.ctx, g.core, g.slot, fid, arg g]

/-- COMMIT of an immediate label (R145). -/
def execCommit (d : BitVec 7) (k : BitVec 3) (s : State) : Host.Outcome State Fault Refusal :=
  versionWord d [] .commitPoint (fun _ => k.toNat) s

/-- COMMIT of the label in sa[2:0] (R145). -/
def execCommitReg (d a : BitVec 7) (p : BitVec 1) (s : State) : Host.Outcome State Fault Refusal :=
  versionWord d [reg a p] .commitPoint (fun g => ((g.val 0).dword.extractLsb' 0 3).toNat) s

/-- SQUASH of an immediate mask (R148). -/
def execSquash (d m : BitVec 7) (s : State) : Host.Outcome State Fault Refusal :=
  versionWord d [] .squashPoint (fun _ => 2 * m.toNat) s

/-- SQUASH of the mask in sa[7:1] (R148). -/
def execSquashReg (d a : BitVec 7) (p : BitVec 1) (s : State) : Host.Outcome State Fault Refusal :=
  versionWord d [reg a p] .squashPoint (fun g => 2 * ((g.val 0).dword.extractLsb' 1 7).toNat) s

/-- What RQUERY reads of a label and an item (R151). -/
def State.reachQuery (s : State) (ctx : Nat) (l : BitVec 3) (item : Nat) : Dword :=
  let c := s.ctx ctx
  let x := c.label l
  let mine := s.versions.filter fun v => decide (v.ctx = ctx ∧ v.label = l)
  -- a base line bears no context: label 0 counts every ordinary base line of the stacked caches, and the context's pending ones
  let base := if l = 0 then
      (s.columns.map fun c => (c.2.ways.filter fun w => decide (w.2.label = 0) && w.2.slot.isNone).length).sum else 0
  let slots (p : ChunkState → Bool) : Nat := (List.range 64).foldl (fun m k => if p (c.chunk k) then m + 2 ^ k else m) 0
  match item with
  | 0 => BitVec.ofNat 64 (x.state.code + (if x.starved then 4 else 0) + x.cause.toNat * 2 ^ 8
      + ((mine.filter fun v => v.poolSlot.isNone).length + base) * 2 ^ 32)
  | 1 => BitVec.ofNat 64 (x.poolUsed.toNat + (mine.filter fun v => v.poolSlot.isSome).length * 2 ^ 32)
  | 2 => c.versionMap
  | 3 => BitVec.ofNat 64 (slots fun k => k == .running)
  | 4 => BitVec.ofNat 64 (slots fun k => match k with
      | .committed _ => true
      | _ => false)
  | _ => 0

/-- What the checks and the scoreboard see of RQUERY (R151). -/
def shapeRquery (d a : BitVec 7) (p : BitVec 1) : Shape :=
  { imm := true, immh := fun _ => true, mod := true, payloadOk := Pre.immZero, srcs := fun _ => [reg a p]
    dsts := fun _ => [{ spec := d, words := 2 }] }

/-- RQUERY (R151). Between words it is the step in which the hub reads the item. -/
def execRquery (d a : BitVec 7) (p : BitVec 1) (s : State) : Host.Outcome State Fault Refusal :=
  if s.issue.isNone && !s.args.isEmpty then
    done (s.fillScalar (s.arg 0) (s.reachQuery (s.arg 1) (BitVec.ofNat 3 (s.arg 2)) (s.arg 3)) 48)
  else
    issueWord (shapeRquery d a p) s fun g s =>
      if g.active = 0 then g.finish g.b s
      else
        let x := (g.val 0).dword
        let (fid, s) := g.awaitScalar d s
        s.post 36 (.rquery 0 0 0) [fid, g.b.ctx, (x.extractLsb' 0 3).toNat, (x.extractLsb' 3 3).toNat]

end Sys2Proof.Machine
end

