-- ==== Sys2Proof/Machine/System.lean ====
section
/-!
DEFINITION. The hub: the tear-down and the kill of a context (R359, R400, R401), invalidation and migration (R92 to R95),
splits, tests and retirement of columns (R111, R114, R115), the input latch (R155), FAULT_RESUME and FAULT_LOG (R397),
boot and attestation (R410 to R412) and the boot kernel (R424).
-/
namespace Sys2Proof.Machine
open Sys2Proof

/-- Let an event follow the step being taken, before anything else that is due. -/
def State.postNext (s : State) (what : Instr) (args : List Nat := []) : State :=
  { s with agenda := (s.now, { what, args }) :: s.agenda }

/-! ## Killing a context (R359, R400, R401) -/

/-- Has a node placed any of its units? -/
def Node.begun (n : Node) : Bool := n.state == .placed || n.state == .done || decide (n.nextUnit ≠ 0) || !n.again.isEmpty

/-- Every packet of a context that stands in a queue slot is discarded with the cancelled value (R359). -/
def State.discardPackets (s : State) (ctx : Nat) : State :=
  (s.hub.queues.filter fun q => decide (q.2.ctx.toNat = ctx)).foldl (fun s q =>
    ((List.range 64).filter q.2.full).foldl (fun s k =>
      let x := s.queue q.1
      let last := 64 * k + 63
      let n := Node.ofPacket (x.packet k) ctx q.1 0
      let s := s.setQueue q.1 { x with slots := x.slots.set last ((x.slots.get last).setWidth 7 |>.setWidth 8) }
      s.writeSignal ctx n.sigAddr cancelledValue) s) s

/-- VALID = 0: packets in slots are discarded, and the context is killed (R359). -/
def execCtxTeardown (s : State) : Host.Outcome State Fault Refusal :=
  done ((s.discardPackets (s.arg 0)).postNext .ctxKill [s.arg 0, 1, 0])

/-- Step 1 of a kill: BUSY; nodes not yet placed are discarded, no task of the context completes any more, and its draws leave
the order of draws (R288, R400). -/
def State.killStarts (s : State) (ctx : Nat) (host : Bool) (cause : BitVec 8) : State :=
  let s := s.setCtx ctx { s.ctx ctx with killBusy := true, killHost := host, killCause := cause }
  let s := (s.draws.filter fun d => decide (d.2.ctx = ctx)).foldl (fun s d => s.dismissDraw d.1) s
  (s.nodes.filter fun n => decide (n.2.ctx = ctx) && n.2.state ≠ .done).foldl (fun s n =>
    if n.2.begun then s.onNode n.1 fun n => { n with state := .faulted, again := [] } else s.cancelNode n.1) s

/-- Is a transaction a write that its home has still to perform? -/
def Txn.unperformed (t : Txn) : Bool :=
  decide (t.stage < 5) && match t.kind with
    | .write => true
    | .atomic => true
    | .red _ => true
    | .mxacc => true
    | _ => false

/-- Writes of a context that are not yet performed are dropped; what waits behind them goes on (R400). -/
def State.dropWrites (s : State) (ctx : Nat) : State :=
  let mine (t : Txn) : Bool := decide (t.ctx = ctx) && t.unperformed
  let gone := s.txns.filter fun t => mine t.2
  let ids := gone.map (·.1)
  let s := { s with txns := s.txns.filter fun t => !mine t.2 }
  let s := s.setHub { s.hub with migs := s.hub.migs.mapVals fun m => { m with held := m.held.filter fun k => !ids.contains k } }
  gone.foldl (fun s t => (s.release t.2).settle t.1) s

/-- Step 2: barges, frames, basins, barriers, reduction entries, MMAs, replay queues, cards and draws of a context are
discarded, and what pre-emption has saved of it. A frame that a FAULT_LOG record names stays until that is read. -/
def State.killWork (s : State) (ctx : Nat) : State :=
  let wgs := (s.wgs.filter fun w => decide (w.2.ctx = ctx)).map (·.1)
  let s := (s.barges.filter fun b => decide (b.2.ctx = ctx)).foldl (fun s b => s.stopBarge (b.1 / 512) (b.1 % 512)) s
  let s := s.dropBasins
  let s := { s with
    wgs := s.wgs.filter fun w => !wgs.contains w.1
    gangs := s.gangs.filter fun g => decide (((s.nodes.look g.2.node).map fun (n : Node) => n.ctx) ≠ some ctx)
    rels := s.rels.filter fun r => decide (r.2.ctx ≠ ctx)
    flights := s.flights.filter fun f => decide (f.2.ctx ≠ ctx)
    saves := s.saves.filter fun r => decide (r.ctx ≠ ctx)
    saveTiles := s.saveTiles.filter fun r => decide (r.ctx ≠ ctx)
    saveGfx := s.saveGfx.filter fun r => decide (r.ctx ≠ ctx)
    cores := s.cores.mapVals fun c => { c with
      reds := c.reds.map fun (q : Nat × List RedEntry) => (q.1, q.2.filter fun (e : RedEntry) => decide (e.ctx ≠ ctx))
      mmas := c.mmas.filter fun m => decide (m.ctx ≠ ctx) } }
  let s := (s.cores.map (·.1)).foldl State.wakeMmas s
  let s := s.cancelCards fun c => decide (c.ctx = ctx)
  let s : State := (s.draws.filter fun d => decide (d.2.ctx = ctx)).foldl (fun s d => s.dropDraw d.1) s
  let named := (s.hub.faultLog.filter fun r => decide (r.ctx = ctx) && !r.noframe).map (·.frame)
  let s := if s.hub.gfxHalt = some ctx then s.setHub { s.hub with gfxHalt := none } else s
  let c := s.ctx ctx
  s.setCtx ctx { c with framesUsed := c.framesUsed.filter named.contains, events := [], vacated := [], watchdog := 0 }

/-- Step 3: writes not performed are dropped, dirty sectors are written back, pending lines are discarded and live labels
squashed. -/
def State.killWrites (s : State) (ctx : Nat) : State :=
  let s := s.dropWrites ctx
  let flying := (s.txns.filter fun t => decide (t.2.ctx = ctx) && (t.2.kind == .writeBack || t.2.kind == .card)).map (·.1)
  let (ids, s) := if s.hub.fatalValid then (([] : List Nat), s) else
    (s.cores.map (·.1)).foldl (fun (acc : List Nat × State) core =>
      let (ids, s) := acc.2.writeBackWhere core 0 fun t _ => decide (t.ctx = ctx)
      (acc.1 ++ ids, s)) ([], s)
  let c := s.ctx ctx
  let s := ((List.range 64).filter fun k => c.chunk k == .running).foldl (fun s k => s.killSlot ctx k) s
  let live := labelMask fun l => ((s.ctx ctx).label l).state == .live
  let s := (labelsIn live).foldl (fun s l => s.squashLabel ctx 0 l) s
  let s := s.epochStep ctx 0xFE
  s.setCtx ctx { s.ctx ctx with killAwaits := flying ++ ids }

/-- CTX_KILL (R400): a kill begins, and 36 cycles later reaches the cores; a device-fatal one reaches them at once (R401).
A kill of a context that is being killed changes nothing. -/
def execCtxKill (s : State) : Host.Outcome State Fault Refusal :=
  let ctx := s.arg 0
  match s.args with
  | [_] => done (((s.killWork ctx).killWrites ctx).post 0 .ctxKillDone [ctx])
  | _ =>
    if (s.ctx ctx).killBusy then done s
    else
      let s := s.killStarts ctx (decide (s.arg 1 = 1)) (BitVec.ofNat 8 (s.arg 2))
      done (s.post (if s.hub.fatalValid then 0 else 36) .ctxKill [ctx])

/-- CTX_KILL_DONE (R400): once every write-back is acknowledged, DONE, VALID = 0, and the killed values in the order of
arrival; a boot kernel has been killed (R424). -/
def execCtxKillDone (s : State) : Host.Outcome State Fault Refusal :=
  let ctx := s.arg 0
  let c := s.ctx ctx
  let waits := s.txns.any fun t => c.killAwaits.contains t.1 || (decide (t.2.ctx = ctx) && t.2.unperformed)
  if waits then done (s.post 1 .ctxKillDone [ctx])
  else
    let s := s.setCtx ctx { c with killBusy := false, killDone := true, valid := false, killAwaits := [] }
    let boot := ctx = 0 && s.hub.bootBusy
    let s := if boot then
        s.setHub { s.hub with bootBusy := false, bootDone := true, bootKilled := true, bootNode := none }
      else s
    let mine := (s.nodes.filter fun n => decide (n.2.ctx = ctx) && n.2.state ≠ .done).mergeSort
      fun a b => decide (a.2.arrival ≤ b.2.arrival)
    done (mine.foldl (fun s n => if n.2.begun then s.signalNode n.1 killedValue else s.cancelNode n.1) s).askDispatch

/-- An uncorrectable error in the data of a column's way: the line that it holds is poisoned, the ordinary one or a version; its
home only with its write-back (R118). -/
def State.wayError (s : State) (n k : Nat) (y : CacheWay) : State :=
  if y.label = 0 && y.slot.isNone then
    s.setColumn n { s.column n with ways := (s.column n).ways.put k { y with st := .poisoned } }
  else
    match s.versions.find? fun v => v.isAt y.ctx y.line y.label y.slot && v.poolSlot.isNone with
    | some v => (s.onVersion v fun u => { u with poison := true }).onWay y.line y.ctx y.label y.slot fun y => some { y with st := .poisoned }
    | none => s

/-- An uncorrectable error in a line of GDDR: it is poisoned, with the version whose pool slot it is (R102, R139). -/
def State.gddrError (s : State) (x : Nat) : State :=
  let here (v : Version) : Bool := v.poolSlot.any fun k =>
    decide (lineOf ((((s.ctx v.ctx).labels.look v.pool.toNat).getD {}).poolBase.toNat * 4096 + 128 * k) = x)
  { s.poisonLine x with versions := s.versions.map fun v => if here v then { v with poison := true } else v }

/-- An error that the hardware finds, from outside: 1 uncorrectable in a GDDR line (R102), 2 a symbol of one corrected
(Table 5.3), 3 in the data of a stacked-cache way of a column (R118), 4 parity in an L1 way of a core (R187), 5 in a local
word of a core (R189), 6 in a granule of a column's scratchpad (R122). -/
def State.dataError (s : State) : List Nat → State
  | [1, pa] => if pa < 0xB40000000 then s.gddrError (lineOf pa) else s
  | [2, pa] =>
    let ch := channelOf pa
    let e := (s.hub.ecc.look ch).getD {}
    if pa < 0xB40000000 && e.ceCount ≠ 1023#10 then
      s.setHub { s.hub with ecc := s.hub.ecc.put ch { e with ceCount := e.ceCount + 1 } }
    else s
  | [3, n, set, way] =>
    match if n < 192 && way < 16 then (s.column n).ways.look (16 * set + way) else none with
    | some y => s.wayError n (16 * set + way) y
    | none => s
  | [4, core, set, way, sector] => if core < 192 then s.parityError core set way sector else s
  | [5, core, word] =>
    let c := s.core core
    if core < 192 && word < 65536 && !c.localPoison.contains word then
      s.setCore core { c with localPoison := c.localPoison ++ [word] } else s
  | [6, n, granule] =>
    let c := s.column n
    if n < 192 && granule < 2 ^ 21 && !c.pooledPoison.contains granule then
      s.setColumn n { c with pooledPoison := c.pooledPoison ++ [granule] } else s
  | _ => s

/-- DEVICE_FATAL: an uncorrectable error in the metadata of a line, its address given (R401); with further numbers, an error
in data. -/
def execDeviceFatal (s : State) : Host.Outcome State Fault Refusal :=
  if 2 ≤ s.args.length then done (s.dataError s.args)
  else
  let s := s.setHub { s.hub with
    fatalValid := true, fatalCause := 0xB5, fatalPa := BitVec.ofNat 52 (s.arg 0 / 4096 * 4096) }
  done ((s.ctxs.filter fun c => c.2.valid).foldl (fun s c => s.post 0 .ctxKill [c.1, 0, 0xB5]) s)

/-! ## Invalidation (R92) -/

/-- Does an invalidation name a page of a context? Scope 0 is one page, 1 a context, 2 everything. -/
def tlbiNames (scope ctx vpn : Nat) (e : TlbEntry) : Bool :=
  match scope with
  | 0 => e.covers ctx vpn
  | 1 => decide (e.ctx = ctx)
  | _ => true

/-- Does it name a walk of a page? -/
def tlbiWalk (scope ctx vpn : Nat) (c v : Nat) : Bool :=
  match scope with
  | 0 => decide (c = ctx ∧ v / 1024 = vpn / 1024)
  | 1 => decide (c = ctx)
  | _ => true

/-- TLBI_GO (R92): matching entries leave every TLB and walk cache, and matching walks in flight will start again. -/
def execTlbiGo (s : State) : Host.Outcome State Fault Refusal :=
  let h := s.hub
  let scope := h.tlbiScope.toNat
  let ctx := h.tlbiCtx.toNat
  let vpn := h.tlbiVa.toNat
  let hit := tlbiNames scope ctx vpn
  let walks : WalkEntry → Bool := fun e => match scope with
    | 0 => decide (e.ctx = ctx ∧ e.index = vpn / 2 ^ (10 * e.level))
    | 1 => decide (e.ctx = ctx)
    | _ => true
  let mark (w : Walk) : Walk := if w.started && tlbiWalk scope ctx vpn w.ctx w.vpn then { w with restart := true } else w
  let s := { s with
    cores := s.cores.mapVals fun c => { c with tlb := c.tlb.filter fun e => !hit e }
    clusters := s.clusters.mapVals fun c => { c with tlb := c.tlb.filter fun p => !hit p.2 }
    towers := s.towers.mapVals fun t => { t with walkCache := t.walkCache.filter fun e => !walks e }
    walks := s.walks.mapVals mark }
  let s := s.setHub { h with tlbiBusy := true, tlbiFrom := s.now, tlbiExtra := 0, tlbiId := s.nextId }
  done (s.post 180 .tlbiDone [scope, ctx, vpn])

/-- TLBI_DONE (R92): 180 cycles after GO and as many as each matching walk in flight took from then on, and not before
every access that may use an old entry has ended. Its arguments: scope, context and page. -/
def execTlbiDone (s : State) : Host.Outcome State Fault Refusal :=
  let scope := s.arg 0
  let ctx := s.arg 1
  let vpn := s.arg 2
  let h := s.hub
  let walking := s.walks.any fun w => w.2.restart && tlbiWalk scope ctx vpn w.2.ctx w.2.vpn
  let uses (f : Flight) : Bool := decide (f.issued ≤ h.tlbiFrom) && f.accs.any fun a =>
    a.leaf.isSome && tlbiWalk scope ctx vpn f.ctx (vpnOf a.va)
  -- requests of engines, and writes of the hub and of fixed-function hardware, that are older than GO
  let moves (t : Nat × Txn) : Bool := decide (t.1 < h.tlbiId) && (t.2.card.isSome || decide (t.2.kind = .write) && t.2.flight.isNone)
    && tlbiWalk scope ctx vpn t.2.ctx (vpnOf t.2.va)
  if walking || (s.flights.any fun f => uses f.2) || s.txns.any moves then done (s.post 1 .tlbiDone s.args)
  else if s.now < h.tlbiFrom + 180 + h.tlbiExtra then done (s.postAt (h.tlbiFrom + 180 + h.tlbiExtra) .tlbiDone s.args)
  else done (s.setHub { h with tlbiBusy := false, tlbiDone := true })

/-! ## Migration (R93 to R95) -/

/-- A migration slot. -/
def State.mig (s : State) (n : Nat) : Migration := (s.hub.migs.look n).getD {}
/-- Replace a migration slot. -/
def State.setMig (s : State) (n : Nat) (m : Migration) : State := s.setHub { s.hub with migs := s.hub.migs.put n m }

/-- Does a line lie in the old frame? -/
def Migration.holds (m : Migration) (x : Nat) : Bool :=
  decide (m.src.toNat * 32 ≤ x ∧ x < (m.src.toNat + m.units.toNat + 1) * 32)

/-- Is a version live, or still to be settled: not that of a dead label or slot (R94, R153)? -/
def State.lives (s : State) (v : Version) : Bool :=
  !s.wayDead { line := v.line, ctx := v.ctx, label := v.label, slot := v.slot }

/-- MIG_LOCK (R94): a frame with versions of a line refuses; otherwise its dirty sectors are written back while writes to
it are held. -/
def execMigLock (s : State) : Host.Outcome State Fault Refusal :=
  let n := s.arg 0
  let m := s.mig n
  if m.state ≠ 0 then done s
  else if s.versions.any fun v => m.holds v.line && s.lives v then done (s.setMig n { m with busyFail := true })
  else
    let flying := (s.txns.filter fun t => t.2.kind == .writeBack && m.holds t.2.line).map (·.1)
    let (ids, s) := (s.cores.map (·.1)).foldl (fun (acc : List Nat × State) core =>
      let (ids, s) := acc.2.writeBackWhere core 0 fun t _ => t.fmt == 0#4 && (m.holds (2 * t.line) || m.holds (2 * t.line + 1))
      (acc.1 ++ ids, s)) ([], s)
    done ((s.setMig n { m with state := 1, awaits := flying ++ ids }).post 0 .migLocked [n])

/-- MIG_LOCKED (R94): the write-backs, and the writes that had reached their home before the lock, are finished. -/
def execMigLocked (s : State) : Host.Outcome State Fault Refusal :=
  let n := s.arg 0
  let m := s.mig n
  let waits := s.txns.any fun t => m.awaits.contains t.1 || (decide (1 ≤ t.2.stage ∧ t.2.stage < 5) && t.2.unperformed && m.holds t.2.line)
  if m.state ≠ 1 then done s
  else if waits then done (s.post 1 .migLocked [n])
  else done (s.setMig n { m with state := 2, awaits := [] })

/-- MIG_SWITCH (R94): the redirect stands, the old frame's lines leave every stacked cache, and the held writes are
performed on the new frame in the order they arrived: each waits for the one before it. -/
def execMigSwitch (s : State) : Host.Outcome State Fault Refusal :=
  let n := s.arg 0
  let m := s.mig n
  if m.state ≠ 2 then done s
  else
    let s := s.setMig n { m with state := 3, held := [] }
    let s := { s with
      columns := s.columns.mapVals fun c => { c with ways := c.ways.filter fun w => !(m.holds w.2.line) }
      lines := s.lines.map fun l => if m.holds l.1 then (l.1, { l.2 with shr := 0 }) else l }
    let held := m.held.filter fun id => (s.txns.look id).isSome
    let s := held.zipIdx.foldl (fun s p =>
      match s.txns.look p.1 with
      | some t =>
        let x := s.redirectLine t.line
        s.setTxn p.1 { t with line := x, column := homeColumn s x, waiters := t.waiters ++ (held[p.2 + 1]?).toList }
      | none => s) s
    done (match held.head?.bind s.txns.look with
      | some t => s.post 0 t.event [held.headD 0]
      | none => s)

/-- MIG_RELEASE (R94). -/
def execMigRelease (s : State) : Host.Outcome State Fault Refusal :=
  let m := s.mig (s.arg 0)
  done (if m.state = 3 then s.setMig (s.arg 0) { m with state := 0 } else s)

/-! ## Columns (R111, R114, R115) -/

/-- Every line of a column's cache part leaves it, versions as victims do (R139). -/
def State.emptyColumn (s : State) (n : Nat) : State :=
  let ways := (s.column n).ways
  let s := s.setColumn n { s.column n with ways := [] }
  ways.foldl (fun s w => s.evict w.2) s

/-- Zeros over a range of a column's bytes. -/
def State.zeroColumn (s : State) (n lo hi : Nat) : State :=
  let a := aperturePa n lo
  let b := aperturePa n hi
  let s := (s.mem.filter fun c => decide (a ≤ c.1 ∧ c.1 < b)).foldl (fun s c => s.poke c.1 0) s
  let c := s.column n
  s.setColumn n { c with pooledPoison := c.pooledPoison.filter fun u => decide (32 * u < lo ∨ hi ≤ 32 * u) }

/-- Does the cluster of a column hold a workgroup, or run an engine job (R111)? -/
def State.clusterBusy (s : State) (n : Nat) : Bool :=
  let g := clusterOf n
  let engine (e : Engine) : Bool := match e with
    | .copy c => decide (clusterOf c = g)
    | .gather c => decide (clusterOf c = g)
    | .collective _ => false
  (s.wgs.any fun w => decide (clusterOf w.2.core = g) && !w.2.ended)
    || (s.barges.any fun b => decide (clusterOf (b.1 / 512) = g))
    || (s.cards.any fun c => c.2.running && engine c.2.engine)

/-- COL_SPLIT_REQUEST (R111): nothing more is placed on the cluster. -/
def execColSplitRequest (s : State) : Host.Outcome State Fault Refusal :=
  let n := s.arg 0
  let c := s.column n
  if c.busy then done s
  else done ((s.setColumn n { c with busy := true }).post 0 .colSplitApply [n])

/-- Zeros over what has become scratchpad of a column since a state, its own or what it hosts; one that hosts another amount
has another cache part, and empties it (R111, R115). -/
def State.relay (s old : State) (n : Nat) : State :=
  let a := scratchSize old n
  let h := hostedPart old n
  let a' := scratchSize s n
  let h' := hostedPart s n
  let s := if h = h' then s else s.emptyColumn n
  ((s.zeroColumn n a a').zeroColumn n a' (min (a' + h') a)).zeroColumn n (max a' (a + h)) (a' + h')

/-- COL_SPLIT_APPLY (R111): in the first hub cycle in which the cluster is empty. -/
def execColSplitApply (s : State) : Host.Outcome State Fault Refusal :=
  let n := s.arg 0
  if s.clusterBusy n then done (s.postAt s.nextHub .colSplitApply [n])
  else
    let c := s.column n
    let old := s
    let s := s.emptyColumn n
    let s := s.setColumn n { s.column n with cur := c.scr, busy := false }
    done ((List.range 4).foldl (fun s k => s.relay old (4 * clusterOf n + k)) s).askDispatch

/-- Are repair, test and retirement of a column frozen (R114)? -/
def State.busLocked (s : State) (n : Nat) : Bool := (s.column n).locked || s.hub.launched

/-- The physical wire of its group on which a logical one travels (R112). -/
def Repair.wire (r : Repair) (i : Nat) : Nat := if r.used && decide (r.pos.toNat ≤ i) then i + 1 else i

/-- The level that arrives of a bit sent on logical wire i of a group: that of its physical wire, which may be stuck (R112,
R426). -/
def Column.carries (c : Column) (group i : Nat) (level : Bool) : Bool :=
  (c.stuck.look (33 * group + ((c.repairs.look group).getD {}).wire i)).getD level

/-- The levels that arrive when a pattern is driven on a group with no shift: a stuck wire keeps its level (R114,
R426). -/
def Column.received (c : Column) (group : Nat) (pat : BitVec 33) : BitVec 33 :=
  (List.range 33).foldl (fun v w =>
    match c.stuck.look (33 * group + w) with
    | some true => v ||| (1#33 <<< w)
    | some false => v &&& ~~~(1#33 <<< w)
    | none => v) pat

/-- VBUS_TEST_GO (R114): DONE goes, and the levels are captured four hub cycles later; until then the column's arbiter grants
nothing (R425). -/
def execVbusTestGo (s : State) : Host.Outcome State Fault Refusal :=
  let n := s.arg 0
  let c := s.column n
  let s := { s with agenda := s.agenda.filter fun (e : Nat × Event) => !(e.2.what == Instr.vbusCaptDone && e.2.args.head? == some n) }
  let s := s.setColumn n { c with captDone := false, testFrom := s.now, testUntil := ofHubCycle (hubCycle s.now + 4) }
  done (s.postAt (ofHubCycle (hubCycle s.now + 4)) .vbusCaptDone [n, c.testGroup.toNat, c.testPat.toNat])

/-- VBUS_CAPT_DONE (R114). -/
def execVbusCaptDone (s : State) : Host.Outcome State Fault Refusal :=
  let n := s.arg 0
  let c := s.column n
  done (s.setColumn n { c with captDone := true, capt := c.received (s.arg 1) (BitVec.ofNat 33 (s.arg 2)) })

/-- VBUS_LOCK (R114). -/
def execVbusLock (s : State) : Host.Outcome State Fault Refusal :=
  done (s.setColumn (s.arg 0) { s.column (s.arg 0) with locked := true })

/-- VBUS_RETIRE (R115, R116): the substitute empties its cache part and zeroes its hosted range; a second retirement takes
the cluster out of service. DESIGN CHOICE (log 114): R115 gives the change no count, and it takes no time. -/
def execVbusRetire (s : State) : Host.Outcome State Fault Refusal :=
  let n := s.arg 0
  let g := clusterOf n
  let s := s.setColumn n { s.column n with retired := true }
  if clusterDead s g then done ((List.range 4).foldl (fun s k => s.emptyColumn (4 * g + k)) s)
  else
    let m := substitute s g (n % 4)
    let s := (s.emptyColumn n).emptyColumn m
    done (s.zeroColumn m (scratchSize s m) (scratchSize s m + hostedSize s n))

/-! ## The input latch, semaphores (R155, R174) -/

/-- Rank of a host's update of a semaphore: after every barge's (R172). -/
def hostRank : Nat := 1000000

/-- INPUT_PUBLISH (R155). -/
def execInputPublish (s : State) : Host.Outcome State Fault Refusal :=
  let h := s.hub
  let now := hubCycle s.now
  let s := s.setHub { h with
    latchBefore := some (now, h.latch, h.latchSeq, h.latchTime), latch := h.latchStaging, latchSeq := h.latchSeq + 1
    latchTime := BitVec.ofNat 64 now }
  let s := ((List.range 4).filter h.latchTowers.getLsbD).foldl (fun s t =>
    s.post 0 .semaphoreUpdate [1, t, h.latchTsem.toNat, 0, 1, hostRank]) s
  done (s.wakeWfi fun _ => true)

/-- The semaphore that SEM_SEL names: file, unit, number (Table 8.5). DESIGN CHOICE (log 115): FILE 0 with NUM 64 to 255 names
none, for a core has 64. -/
def Hub.semNamed (h : Hub) : Option (Nat × Nat × Nat) :=
  let file := (h.semSel.extractLsb' 16 1).toNat
  let unit := (h.semSel.extractLsb' 8 8).toNat
  let num := (h.semSel.extractLsb' 0 8).toNat
  if file = 0 then (if unit < 192 ∧ num < 64 then some (file, unit, num) else none)
  else if unit < 4 then some (file, unit, num) else none

/-- SEM_VAL_WRITE (R174), as an update after every other of its cycle (R172). -/
def execSemValWrite (s : State) : Host.Outcome State Fault Refusal :=
  match s.hub.semNamed with
  | none => done s
  | some (file, unit, num) =>
    done (s.post 0 .semaphoreUpdate [file, unit, num, 3, s.arg 0 % 2 ^ 64, hostRank])

/-! ## Faults (R397) -/

/-- FAULT_RESUME (R397): the named node, or every one, that a chunked abort holds arrives anew and is ready. -/
def execFaultResume (s : State) : Host.Outcome State Fault Refusal :=
  let v := BitVec.ofNat 64 (s.arg 0)
  let named (id : Nat) : Bool := v.getLsbD 30 || decide (id = (v.extractLsb' 0 12).toNat)
  done ((s.nodes.filter fun n => n.2.state == .faulted && named n.1 && !(s.ctx n.2.ctx).killBusy).foldl (fun s n =>
    let (arrival, s) := s.fresh
    (s.onNode n.1 fun n => { n with arrival }).makeReady n.1) s)

/-- FAULT_LOG as a read finds it (Table 18.8). -/
def Hub.faultWord (h : Hub) : Dword :=
  match h.faultLog with
  | [] => BitVec.ofNat 64 (bit h.faultOvf 62)
  | r :: _ => BitVec.ofNat 64 (2 ^ 63 + bit h.faultOvf 62 + bit r.noframe 61 + bit r.kind 60 + r.cause.toNat * 2 ^ 52
      + r.ctx % 256 * 2 ^ 44 + r.node % 4096 * 2 ^ 32 + r.frame % 65536 * 2 ^ 16)

/-- FAULT_LOG_READ: a read pops the oldest record, whose frame slot is free (R386, R397). Its argument is the word that
reads, where it is a barge's. DESIGN CHOICE (log 51): the read clears OVF. -/
def execFaultLogRead (s : State) : Host.Outcome State Fault Refusal :=
  let v := s.hub.faultWord
  let s := match s.args with
    | id :: _ => s.fillScalar id v 48
    | [] => s
  match s.hub.faultLog with
  | [] => done (s.setHub { s.hub with faultOvf := false })
  | r :: rest =>
    let s := s.setHub { s.hub with faultLog := rest, faultVa := r.va, faultOvf := false }
    done (if r.noframe then s else s.freeFrame r.ctx r.frame)

/-! ## Boot and attestation (R410 to R412) -/

/-- Bytes of the staged image. -/
def State.staged (s : State) (o n : Nat) : List Byte := (List.range n).map fun k => s.hub.staging.get (o + k)

/-- BOOT_VERIFY (R410): the boot ROM begins to check the staged image under the length of BOOT_CTRL. -/
def execBootVerify (s : State) : Host.Outcome State Fault Refusal :=
  done ((s.setHub { s.hub with bootState := 1, bootErr := 0 }).postAt s.nextHub .bootVerifyComplete [s.hub.bootLen.toNat])

/-- The check that fails first: length, key digest, signature (R410). -/
def State.imageError (s : State) (len : Nat) : BitVec 4 :=
  let h := s.staged 0 256
  let key := (h.drop 64).take 96
  let part (o : Nat) : Nat := beNat ((h.drop o).take 48)
  if leNat (h.take 8) ≠ len || len = 0 || decide (2 ^ 24 - 256 < len) || ((h.drop 8).take 56).any (· ≠ 0) then 3
  else if sha384 key ≠ Config.vendorKeyDigest then 1
  else if !ecdsaOk (part 64, part 112) (sha384 (h.take 64 ++ s.staged 256 len)) (part 160) (part 208) then 2
  else 0

/-- The log extended by a measurement (R411). -/
def extendLog (log : BitVec 384) (m : Nat) : BitVec 384 := BitVec.ofNat 384 (sha384 (beBytes 48 log.toNat ++ beBytes 48 m))

/-- BOOT_VERIFY_COMPLETE (R410, R411): a good image extends the log by its body's digest, and firmware runs. -/
def execBootVerifyComplete (s : State) : Host.Outcome State Fault Refusal :=
  let len := s.arg 0
  let e := s.imageError len
  if e ≠ 0 then done (s.setHub { s.hub with bootState := 3, bootErr := e })
  else
    let log := extendLog s.hub.attestLog (sha384 (s.staged 256 len))
    done ((s.setHub { s.hub with bootState := 2, bootErr := 0, attestLog := log }).post 0 .wharfTake)

/-- ATTEST_EXTEND (R411): by the nonce registers. -/
def execAttestExtend (s : State) : Host.Outcome State Fault Refusal :=
  done (s.setHub { s.hub with attestLog := extendLog s.hub.attestLog s.hub.attestNonce.toNat })

/-- QUOTE_START (R412): the digest of log, nonce and serial is signed; ignored while a quote runs. -/
def execQuoteStart (s : State) : Host.Outcome State Fault Refusal :=
  let h := s.hub
  if h.quote.isSome then done s
  else
    let serial := (Config.devSerial 1).toNat * 2 ^ 64 + (Config.devSerial 0).toNat
    let digest := sha384 (beBytes 48 h.attestLog.toNat ++ beBytes 48 h.attestNonce.toNat ++ beBytes 16 serial)
    done ((s.setHub { h with quote := some digest }).postAt (ofHubCycle (hubCycle s.now + 1200000)) .quoteDone)

/-- QUOTE_DONE (R412). -/
def execQuoteDone (s : State) : Host.Outcome State Fault Refusal :=
  let h := s.hub
  match h.quote with
  | none => done s
  | some digest =>
    let k := s.freeIdx
    let sig : Tab (BitVec 64) := (List.range 12).map fun n => (n, Config.quoteSignature digest k n)
    done { s.setHub { h with quote := none, attestDone := true, attestSig := sig } with freeIdx := k + 1 }

/-! ## The boot kernel (R424) -/

/-- The core a boot kernel runs on: the lowest in the partition that is in service. -/
def State.bootCore (s : State) : Option Nat :=
  (List.range 192).find? fun c => s.inPartition true (clusterOf c) && !s.coreDead c

/-- BOOT_KERNEL_GO (R424): ignored while one runs, and for good once a packet has been accepted. A descriptor that the
rule does not allow, and a core without room, count as no usable core (log 36). -/
def execBootKernelGo (s : State) : Host.Outcome State Fault Refusal :=
  let h := s.hub
  if h.bootBusy || h.launched then done s
  else
    let s := s.setHub { h with bootNocore := false, bootKilled := false }
    let none' : Host.Outcome State Fault Refusal := done (s.setHub { s.hub with bootNocore := true, bootDone := true })
    let kernel := (s.kernelAt 0 h.bootKdesc.toNat).filter fun k => k.pmask == 0 && k.gang.isNone
    match s.bootCore, kernel with
    | some core, some k =>
      match s.room core k.barges k.regs k.localSize with
      | some (slots, base) =>
        let id := s.freeNode
        let (arrival, s) := s.fresh
        let n : Node := { ctx := 0, queue := 0, state := .placed, arrival, kdesc := h.bootKdesc.toNat, gx := 1, gy := 1, gz := 1,
                          kernel := k, nextUnit := 1 }
        let s := { s with nodes := s.nodes.put id n }
        let (wg, s) := s.putWorkgroup id n 0 core 0 none slots base
        let s := slots.foldl (fun s j => s.onBarge core j fun b => b.setS 4 h.bootArg) s
        let s := s.setHub { s.hub with bootBusy := true, bootNode := some id }
        done ((s.post 48 .workgroupStart [wg]).kickFreq (clusterOf core))
      | none => none'
    | _, _ => none'

end Sys2Proof.Machine
end

