-- ==== Sys2Proof/Machine/Csr.lean ====
section
/-!
DEFINITION. Registers as software sees them: CSRR, CSRW and CSRS (R394, R395), the barge registers of Table 18.5, the hub
registers of Table 18.6 with every field's access (R5), writes through BAR0, and WFI (R396).
-/
namespace Sys2Proof.Machine
open Sys2Proof

/-! ## The registers of the hub -/

/-- A hub register by name; an argument is its place in a row of registers (Table 18.6). -/
inductive HubReg where
  | ctxSel | ctxRoot | ctxCtrl | ctxTrap | ctxFrames | ctxSave | ctxKill
  | tlbiCtrl | tlbiVa | tlbiStatus
  | migSrc (n : Nat) | migDst (n : Nat) | migCtrl (n : Nat)
  | gddrEcc (n : Nat)
  | colSel | colSplit | vbusTest | vbusCapt | vbusCtrl | vbusRepair (n : Nat)
  | pscrMap (n : Nat) | memTemp (n : Nat)
  | vctxSel | vpoolBase (n : Nat) | vpoolSlots (n : Nat) | vpoolUsed (n : Nat)
  | inputLatch (n : Nat) | inputLatchTime | inputLatchCtrl
  | semSel | semVal | semFault
  | mtxLayer (n : Nat)
  | slopeLimit (n : Nat) | thermAllow (n : Nat) | perfClass (n : Nat)
  | watchdogLimit | watchdogStatus | wharfFault
  | dispFlip (n : Nat) | dispMode (n : Nat) | dispTime (n : Nat) | dispStatus (n : Nat)
  | qCtrl (n : Nat) | qHead (n : Nat)
  | preemptCtrl | preemptStatus | preemptMask (n : Nat)
  | faultLog | faultLogVa | faultResume | fatalStatus
  | bootKernel | bootArg
  | hostWin | poolWin (n : Nat) | poolMap (n : Nat)
  | pwrLimit | pwrStatus | partClusters | partBwFloor
  | bootCtrl | bootStatus | attestLog (n : Nat) | attestNonce (n : Nat) | attestCtrl | attestSig (n : Nat)
  | idKey (n : Nat) | devSerial (n : Nat)
  deriving DecidableEq, Repr

/-- Rows of registers with consecutive numbers: the first number, how many, and the register at each place. -/
def hubRows : List (Nat × Nat × (Nat → HubReg)) :=
  [(0x1020, 12, fun k => if k % 3 = 0 then .migSrc (k / 3) else if k % 3 = 1 then .migDst (k / 3) else .migCtrl (k / 3)),
   (0x1030, 12, .gddrEcc), (0x1060, 32, .vbusRepair), (0x1080, 48, .pscrMap), (0x10B0, 4, .memTemp),
   (0x10C8, 8, .vpoolBase), (0x10D0, 8, .vpoolSlots), (0x10D8, 8, .vpoolUsed), (0x10E0, 16, .inputLatch),
   (0x1200, 192, .mtxLayer), (0x1300, 48, .slopeLimit), (0x1340, 48, .thermAllow), (0x1380, 48, .perfClass),
   (0x13C3, 2, .dispFlip), (0x13C5, 2, .dispMode), (0x13C7, 2, .dispTime), (0x13C9, 2, .dispStatus),
   (0x1400, 64, .qCtrl), (0x1440, 64, .qHead), (0x1482, 3, .preemptMask), (0x1508, 8, .poolWin), (0x1510, 8, .poolMap),
   (0x1E18, 6, .attestLog), (0x1E20, 6, .attestNonce), (0x1E28, 12, .attestSig), (0x1E40, 12, .idKey),
   (0x1E50, 2, .devSerial)]

/-- Registers with a number of their own. -/
def hubSingles : List (Nat × HubReg) :=
  [(0x1000, .ctxSel), (0x1001, .ctxRoot), (0x1002, .ctxCtrl), (0x1003, .ctxTrap), (0x1004, .ctxFrames), (0x1005, .ctxSave),
   (0x1006, .ctxKill), (0x1010, .tlbiCtrl), (0x1011, .tlbiVa), (0x1012, .tlbiStatus), (0x1040, .colSel),
   (0x1041, .colSplit), (0x1042, .vbusTest), (0x1043, .vbusCapt), (0x1044, .vbusCtrl), (0x10C0, .vctxSel),
   (0x10F0, .inputLatchTime), (0x10F1, .inputLatchCtrl), (0x1100, .semSel), (0x1101, .semVal), (0x1102, .semFault),
   (0x13C0, .watchdogLimit), (0x13C1, .watchdogStatus), (0x13C2, .wharfFault), (0x1480, .preemptCtrl),
   (0x1481, .preemptStatus), (0x1488, .faultLog), (0x1489, .faultLogVa), (0x148A, .faultResume), (0x148B, .fatalStatus),
   (0x1490, .bootKernel), (0x1491, .bootArg), (0x1500, .hostWin), (0x1E00, .pwrLimit), (0x1E01, .pwrStatus),
   (0x1E02, .partClusters), (0x1E03, .partBwFloor), (0x1E10, .bootCtrl), (0x1E11, .bootStatus), (0x1E26, .attestCtrl)]

/-- The register of a number (Table 18.6, and the numbers of "Power, boot and trust"). -/
def hubReg (number : Nat) : Option HubReg :=
  match hubSingles.find? fun (p : Nat × HubReg) => p.1 == number with
  | some p => some p.2
  | none =>
    (hubRows.find? fun (r : Nat × Nat × (Nat → HubReg)) => decide (r.1 ≤ number ∧ number < r.1 + r.2.1)).map
      fun r => r.2.2 (number - r.1)

/-- May any barge read the register (access U of Table 18.6)? -/
def HubReg.anyReads : HubReg → Bool
  | .memTemp _ | .inputLatch _ | .inputLatchTime | .inputLatchCtrl | .thermAllow _ | .perfClass _ | .dispFlip _
  | .dispStatus _ => true
  | _ => false

/-- The context that CTX_SEL names (R386). -/
def State.selected (s : State) : Context := s.ctx s.hub.ctxSel.toNat
/-- Change it. -/
def State.onSelected (s : State) (f : Context → Context) : State := s.setCtx s.hub.ctxSel.toNat (f s.selected)

/-- The column that COL_SEL names; none of 192 or more (Table 6.1). -/
def Hub.column? (h : Hub) : Option Nat := if h.colSel.toNat < 192 then some h.colSel.toNat else none

/-- Read a register of the selected column. -/
def State.ofColumn (s : State) (f : Column → Nat) : Nat :=
  match s.hub.column? with
  | some n => f (s.column n)
  | none => 0

/-- The layers of a core, FAILED and THROT_C frozen? (R263) -/
def State.layersLocked (s : State) (core : Nat) : Bool := (s.core core).layers.locked || s.hub.launched

/-- PSCR_MAP of a cluster (Table 6.3): fields of the substitute read 0 where no column is retired, and where the cluster is
out of service. -/
def State.pscrMap (s : State) (g : Nat) : Nat :=
  if clusterDead s g then 2 ^ 9
  else
    match retiredIn s g with
    | k :: _ => 2 ^ 8 + k * 2 ^ 6 + substitute s g k % 4 * 2 ^ 4 + hostedSize s (4 * g + k) / (16 * 2 ^ 20) * 2 ^ 2
    | [] => 0

/-- The line a head scans, and whether it is in vertical blank (R381): line l begins at floor(l · HTOTAL · 1,600,000 /
PCLK) cycles of the frame. -/
def Head.status (x : Head) (hub : Nat) : Nat :=
  match x.running with
  | none => 0
  | some (vact, _, vtotal, htotal, pclk, _) =>
    let line := ((hub - x.frameStart + 1) * pclk.toNat - 1) / ((htotal.toNat + 1) * 1600000)
    min line vtotal.toNat + bit (decide (vact.toNat < line)) 16

/-- The visible input latch as a read in this hub cycle finds it: a read in the hub cycle of a PUBLISH returns the values
from before it (R155). -/
def State.latchNow (s : State) : Tab (BitVec 64) × BitVec 32 × BitVec 64 :=
  match s.hub.latchBefore with
  | some (h, d, q, t) => if h = hubCycle s.now then (d, q, t) else (s.hub.latch, s.hub.latchSeq, s.hub.latchTime)
  | none => (s.hub.latch, s.hub.latchSeq, s.hub.latchTime)

/-- A 64-bit word of a wide register. -/
def wideWord (x : BitVec 384) (n : Nat) : Nat := (x.extractLsb' (64 * n) 64).toNat

/-- What a read of a hub register returns (R5): reserved bits and WO fields read 0. -/
def State.hubValue (s : State) (r : HubReg) : Nat :=
  let h := s.hub
  let c := s.selected
  match r with
  | .ctxSel => h.ctxSel.toNat
  | .ctxRoot => c.root.toNat * 2 ^ 13
  | .ctxCtrl => bit c.valid 31 + bit c.sys 30
  | .ctxTrap => c.trapEntry.toNat
  | .ctxFrames => c.framesBase.toNat * 2 ^ 17 + c.framesSlots.toNat
  | .ctxSave => c.saveBase.toNat * 2 ^ 12
  | .ctxKill => bit c.killBusy 30 + bit c.killDone 29 + bit c.killHost 8 + c.killCause.toNat
  | .tlbiCtrl => h.tlbiScope.toNat * 2 ^ 8 + h.tlbiCtx.toNat
  | .tlbiVa => h.tlbiVa.toNat
  | .tlbiStatus => bit h.tlbiDone 1 + bit h.tlbiBusy 0
  | .migSrc n => (s.mig n).src.toNat
  | .migDst n => (s.mig n).dst.toNat
  | .migCtrl n => (s.mig n).state.toNat * 2 ^ 30 + bit (s.mig n).busyFail 29 + (s.mig n).units.toNat
  | .gddrEcc n =>
    let e := (h.ecc.look n).getD {}
    e.uePa.toNat / 4096 * 4096 + e.ceCount.toNat * 4 + bit e.poisoned 1
  | .colSel => h.colSel.toNat
  | .colSplit => s.ofColumn fun k => bit k.busy 6 + k.cur.toNat * 2 ^ 4 + k.scr.toNat
  | .vbusTest => s.ofColumn fun k => k.testGroup.toNat * 2 ^ 33 + k.testPat.toNat
  | .vbusCapt => s.ofColumn fun k => bit k.captDone 63 + k.capt.toNat
  | .vbusCtrl => s.ofColumn fun k => bit (k.locked || h.launched) 2 + bit k.retired 1
  | .vbusRepair n => s.ofColumn fun k =>
      let x := (k.repairs.look n).getD {}
      bit x.fail2 7 + bit x.used 5 + x.pos.toNat
  | .pscrMap n => s.pscrMap n
  | .memTemp n => bit ((s.tower n).hasBeenHot s.now) 17 + bit (s.tower n).hot 16 + (s.tower n).temp.toNat
  | .vctxSel => h.vctxSel.toNat
  | .vpoolBase n => ((s.ctx h.vctxSel.toNat).label (BitVec.ofNat 3 n)).poolBase.toNat * 2 ^ 12
  | .vpoolSlots n => ((s.ctx h.vctxSel.toNat).label (BitVec.ofNat 3 n)).poolSlots.toNat
  | .vpoolUsed n => ((s.ctx h.vctxSel.toNat).label (BitVec.ofNat 3 n)).poolUsed.toNat
  | .inputLatch n => ((s.latchNow.1.look n).getD 0).toNat
  | .inputLatchTime => s.latchNow.2.2.toNat
  | .inputLatchCtrl => s.latchNow.2.1.toNat * 2 ^ 32 + h.latchTsem.toNat * 2 ^ 16 + h.latchTowers.toNat * 2 ^ 12
  | .semSel => h.semSel.toNat
  | .semVal => match h.semNamed with
    | some (f, u, n) => bit (s.sem f u n).err 33 + bit (s.sem f u n).ext 32 + (s.sem f u n).value.toNat
    | none => 0
  | .semFault => match h.semNamed with
    | some (f, u, n) => (s.sem f u n).fault.toNat
    | none => 0
  | .mtxLayer n =>
    let m := (s.core n).layers
    m.throtC.toNat * 2 ^ 16 + bit (s.layersLocked n) 11 + bit m.dead 10 + m.throttled.toNat * 2 ^ 4 + m.failed.toNat
  | .slopeLimit n => (s.cluster n).slopeLimit.toNat
  | .thermAllow n => (s.cluster n).used.toNat * 2 ^ 16 + (s.cluster n).allow.toNat
  | .perfClass n => (s.cluster n).mhz.toNat * 2 ^ 16 + classOf (s.cluster n).mhz.toNat * 2 ^ 8 + s.perfReq n
  | .watchdogLimit => h.watchdogLimit.toNat
  | .watchdogStatus => bit h.watchdogOver 9 + bit h.watchdogFired 8 + h.watchdogCtx.toNat
  | .wharfFault =>
    bit h.wharfFaultValid 31 + h.wharfFaultCtx.toNat * 2 ^ 16 + h.wharfFaultQueue.toNat * 2 ^ 10 + h.wharfFaultCause.toNat
  | .dispFlip n => (s.head n).lines.toNat * 2 ^ 16 + (s.head n).count.toNat * 2 ^ 8 + (s.head n).last.toNat
  | .dispMode n =>
    bit (s.head n).en 63 + (s.head n).fmt.toNat * 2 ^ 56 + (s.head n).vact.toNat * 2 ^ 32 + (s.head n).hact.toNat * 2 ^ 16
  | .dispTime n => (s.head n).vtotal.toNat * 2 ^ 48 + (s.head n).htotal.toNat * 2 ^ 32 + (s.head n).pclk.toNat
  | .dispStatus n => (s.head n).status (hubCycle s.now)
  | .qCtrl n =>
    let q := s.queue n
    bit q.en 31 + q.cap.toNat * 2 ^ 20 + q.agek.toNat * 2 ^ 16 + q.ctx.toNat
  | .qHead n => (s.queue n).tail.toNat * 2 ^ 8 + (s.queue n).head.toNat
  | .preemptCtrl => h.preemptCmd.toNat * 2 ^ 28 + h.preemptK.toNat * 2 ^ 8 + h.preemptCtx.toNat
  | .preemptStatus => bit h.preemptBusy 31 + bit h.preemptDone 30 + h.preemptCount.toNat
  | .preemptMask n =>
    ((s.ctx h.preemptCtx.toNat).vacated.filter fun k => decide (k / 64 = n)).foldl (fun m k => m ||| 2 ^ (k % 64)) 0
  | .faultLog => h.faultWord.toNat
  | .faultLogVa => h.faultVa.toNat
  | .faultResume => 0
  | .fatalStatus => h.fatalPa.toNat / 4096 * 4096 + bit h.fatalValid 8 + h.fatalCause.toNat
  | .bootKernel =>
    bit h.bootBusy 62 + bit h.bootDone 61 + bit h.bootKilled 60 + bit h.bootNocore 59 + h.bootKdesc.toNat
  | .bootArg => h.bootArg.toNat
  | .hostWin => h.hostWin.toNat
  | .poolWin n =>
    let p := (h.pools.look n).getD {}
    bit p.en 63 + p.size.toNat * 2 ^ 42 + p.base.toNat * 2 ^ 21
  | .poolMap n => ((h.pools.look n).getD {}).fabric.toNat * 2 ^ 30
  | .pwrLimit => h.pwrLimit.toNat
  | .pwrStatus => h.pwrCeil.toNat * 2 ^ 16 + h.pwrWatts.toNat
  | .partClusters => h.partClusters.toNat
  | .partBwFloor => h.partFloor.toNat
  | .bootCtrl => h.bootLen.toNat
  | .bootStatus => h.bootErr.toNat * 2 ^ 8 + h.bootState.toNat
  | .attestLog n => wideWord h.attestLog n
  | .attestNonce n => wideWord h.attestNonce n
  | .attestCtrl => bit h.attestDone 30
  | .attestSig n => ((h.attestSig.look n).getD 0).toNat
  | .idKey n => (Config.idKey n).toNat
  | .devSerial n => (Config.devSerial n).toNat

/-- A read of a hub register. -/
def State.hubRead (s : State) (r : HubReg) : Dword := BitVec.ofNat 64 (s.hubValue r)

/-! ## Writes -/

/-- Who writes a register: the host through BAR0, a barge by CSRW or CSRS, or hub firmware. -/
inductive Writer where
  | host | barge | firmware
  deriving DecidableEq, Repr

/-- The writer of a number, as an event's argument gives it. -/
def writerOf (n : Nat) : Writer := if n = 2 then .firmware else if n = 1 then .barge else .host

/-- Let a register's behaviour follow at once where its GO bit is written. -/
def State.go (s : State) (b : Bool) (what : Instr) (args : List Nat) : State := if b then s.postNext what args else s

/-- A write to a register of the selected column. -/
def State.toColumn (s : State) (f : Nat → State → State) : State :=
  match s.hub.column? with
  | some n => f n s
  | none => s

/-- A write of a repair or test register, which LOCKED freezes (R114). -/
def State.toOpenColumn (s : State) (f : Nat → State → State) : State :=
  s.toColumn fun n s => if s.busLocked n then s else f n s

/-- A head whose registers now let it run starts its first frame in the next hub cycle (R381). -/
def State.startHead (s : State) (n : Nat) (x : Head) : State :=
  let s := s.setHead n x
  let begins := x.mayRun && x.running.isNone
    && !(s.agenda.any fun (e : Nat × Event) => e.2.what == Instr.frameStart && e.2.args == [n])
  if begins then s.postAt s.nextHub .frameStart [n] else s

/-- A pool register is written only while its label is free; pool 0's, while nothing is handed out (R141). -/
def State.onPool (s : State) (n : Nat) (f : Label → Label) : State :=
  let ctx := s.hub.vctxSel.toNat
  let l := (s.ctx ctx).label (BitVec.ofNat 3 n)
  let open' := if n = 0 then decide (l.poolUsed = 0) else l.state == .free
  if open' then s.onLabel ctx (BitVec.ofNat 3 n) f else s

/-- A window register is written only while no context is valid (R98). -/
def State.onWindow (s : State) (f : Hub → Hub) : State :=
  if s.ctxs.any fun (c : Nat × Context) => c.2.valid then s else s.setHub (f s.hub)

/-- The effect of a 64-bit write to a hub register (R5): RW fields take it, W1C bits are cleared where it has 1, WO bits
act, reserved bits and RO fields ignore it. -/
def State.hubWrite (s : State) (r : HubReg) (v : Dword) (by' : Writer) : State :=
  let h := s.hub
  let b (k : Nat) : Bool := v.getLsbD k
  let ctx := h.ctxSel.toNat
  match r with
  | .ctxSel => s.setHub { h with ctxSel := v.extractLsb' 0 8 }
  | .ctxRoot => if s.selected.valid then s else s.onSelected fun c => { c with root := v.extractLsb' 13 39 }
  | .ctxCtrl =>
    let down := s.selected.valid && !b 31
    (s.onSelected fun c => { c with valid := b 31, sys := b 30 }).go down .ctxTeardown [ctx]
  | .ctxTrap => s.onSelected fun c => { c with trapEntry := v.extractLsb' 0 56 }
  | .ctxFrames => s.onSelected fun c => { c with framesBase := v.extractLsb' 17 39, framesSlots := v.extractLsb' 0 17 }
  | .ctxSave => s.onSelected fun c => { c with saveBase := v.extractLsb' 12 44 }
  | .ctxKill =>
    let s := s.onSelected fun c => { c with killDone := c.killDone && !b 29 }
    s.go (b 31 && !s.selected.killBusy) .ctxKill [ctx, 1, 0]
  | .tlbiCtrl =>
    (s.setHub { h with tlbiScope := v.extractLsb' 8 2, tlbiCtx := v.extractLsb' 0 8 }).go
      (b 10 && !h.tlbiBusy && v.extractLsb' 8 2 != 3#2) .tlbiGo []
  | .tlbiVa => s.setHub { h with tlbiVa := v.extractLsb' 0 40 }
  | .tlbiStatus => s.setHub { h with tlbiDone := h.tlbiDone && !b 1 }
  | .migSrc n => s.setMig n { s.mig n with src := v.extractLsb' 0 40 }
  | .migDst n => s.setMig n { s.mig n with dst := v.extractLsb' 0 40 }
  | .migCtrl n =>
    let s := s.setMig n { s.mig n with units := v.extractLsb' 0 14, busyFail := (s.mig n).busyFail && !b 29 }
    match (v.extractLsb' 24 3).toNat with
    | 1 => s.postNext .migLock [n]
    | 2 => s.postNext .migSwitch [n]
    | 3 => s.postNext .migRelease [n]
    | _ => s
  | .gddrEcc n =>
    let e := (h.ecc.look n).getD {}
    s.setHub { h with ecc := h.ecc.put n { e with ceCount := v.extractLsb' 2 10, poisoned := e.poisoned && !b 1 } }
  | .colSel => s.setHub { h with colSel := v.extractLsb' 0 8 }
  | .colSplit => s.toColumn fun n s =>
      (s.setColumn n { s.column n with scr := v.extractLsb' 0 2 }).go (v.extractLsb' 0 2 != (s.column n).cur)
        .colSplitRequest [n]
  | .vbusTest => s.toOpenColumn fun n s =>
      (s.setColumn n { s.column n with testGroup := v.extractLsb' 33 5, testPat := v.extractLsb' 0 33 }).go (b 38)
        .vbusTestGo [n]
  | .vbusRepair k => s.toOpenColumn fun n s =>
      let x : Repair := { fail2 := b 7, used := b 5, pos := v.extractLsb' 0 5 }
      s.setColumn n { s.column n with repairs := (s.column n).repairs.put k x }
  | .vbusCtrl => s.toColumn fun n s =>
      (s.go (b 3) .vbusLock [n]).go (b 0 && !s.busLocked n && !(s.column n).retired) .vbusRetire [n]
  | .memTemp n =>
    let t := s.tower n
    if b 17 then s.setTower n { t with hotSeen := false, hotClear := some (layerCycle s.now) } else s
  | .vctxSel => s.setHub { h with vctxSel := v.extractLsb' 0 8 }
  | .vpoolBase n => s.onPool n fun l => { l with poolBase := v.extractLsb' 12 40 }
  | .vpoolSlots n => s.onPool n fun l => { l with poolSlots := v.extractLsb' 0 21 }
  | .inputLatch n => s.setHub { h with latchStaging := h.latchStaging.put n v }
  | .inputLatchCtrl =>
    (s.setHub { h with latchTsem := v.extractLsb' 16 8, latchTowers := v.extractLsb' 12 4 }).go (b 31) .inputPublish []
  | .semSel => s.setHub { h with semSel := v.extractLsb' 0 17 }
  | .semVal => s.postNext .semValWrite [v.toNat]
  | .mtxLayer n =>
    let c := s.core n
    let m := ({ c.layers with throtC := v.extractLsb' 16 8, failed := v.extractLsb' 0 4 } : MtxLayers).release
    (if s.layersLocked n then s else s.setCore n { c with layers := m }).go (b 12) .mtxLayerLock [n]
  | .slopeLimit n => s.setCluster n { s.cluster n with slopeLimit := v.extractLsb' 0 16 }
  | .thermAllow n => s.setCluster n { s.cluster n with allow := v.extractLsb' 0 8 }
  | .watchdogLimit => s.setHub { h with watchdogLimit := v.extractLsb' 0 32 }
  | .watchdogStatus => s.setHub { h with watchdogOver := h.watchdogOver && !b 9, watchdogFired := h.watchdogFired && !b 8 }
  | .wharfFault => s.setHub { h with wharfFaultValid := h.wharfFaultValid && !b 31 }
  | .dispFlip n => s.setHead n { s.head n with lines := v.extractLsb' 16 16 }
  | .dispMode n => s.startHead n { s.head n with
      en := b 63, fmt := v.extractLsb' 56 4, vact := v.extractLsb' 32 14, hact := v.extractLsb' 16 14 }
  | .dispTime n => s.startHead n { s.head n with
      vtotal := v.extractLsb' 48 16, htotal := v.extractLsb' 32 16, pclk := v.extractLsb' 0 32 }
  | .qCtrl n =>
    (s.setQueue n { s.queue n with
      en := b 31, cap := v.extractLsb' 20 8, agek := v.extractLsb' 16 4, ctx := v.extractLsb' 0 8 }).go (b 31) .wharfTake []
  | .preemptCtrl =>
    let s := s.setHub { h with preemptCmd := v.extractLsb' 28 3, preemptK := v.extractLsb' 8 8, preemptCtx := v.extractLsb' 0 8 }
    let c := (v.extractLsb' 0 8).toNat
    if !b 31 || h.preemptBusy then s
    else
      match (v.extractLsb' 28 3).toNat with
      | 1 => s.postNext .preemptVacate [c, (v.extractLsb' 8 8).toNat]
      | 2 => s.postNext .preemptSaveGraphics [c]
      | 3 => s.postNext .preemptRestoreGraphics [c]
      | 4 => s.postNext .preemptRelease [c]
      | _ => s
  | .preemptStatus => s.setHub { h with preemptDone := h.preemptDone && !b 30 }
  | .faultResume => s.go (b 31) .faultResume [v.toNat]
  | .bootKernel =>
    (s.setHub { h with bootKdesc := v.extractLsb' 0 56, bootDone := h.bootDone && !b 61 }).go
      (b 63 && by' == .firmware) .bootKernelGo []
  | .bootArg => s.setHub { h with bootArg := v }
  | .hostWin => s.onWindow fun h => { h with hostWin := v.extractLsb' 0 21 }
  | .poolWin n => s.onWindow fun h =>
      let p := (h.pools.look n).getD {}
      { h with pools := h.pools.put n { p with en := b 63, size := v.extractLsb' 42 21, base := v.extractLsb' 21 21 } }
  | .poolMap n => s.onWindow fun h =>
      let p := (h.pools.look n).getD {}
      { h with pools := h.pools.put n { p with fabric := v.extractLsb' 30 22 } }
  | .pwrLimit => s.setHub { h with pwrLimit := v.extractLsb' 0 9 }
  | .partClusters =>
    if h.launched then s
    else (List.range 48).foldl State.kickFreq (s.setHub { h with partClusters := v.extractLsb' 0 48 })
  | .partBwFloor => if h.launched then s else s.setHub { h with partFloor := v.extractLsb' 0 7 }
  | .bootCtrl =>
    (s.setHub { h with bootLen := v.extractLsb' 0 24 }).go (b 31 && (h.bootState == 0 || h.bootState == 3)) .bootVerify []
  | .attestNonce n =>
    let mask : BitVec 384 := BitVec.ofNat 384 ((2 ^ 64 - 1) * 2 ^ (64 * n))
    let x := (h.attestNonce &&& ~~~mask) ||| BitVec.ofNat 384 (v.toNat * 2 ^ (64 * n))
    s.setHub { h with attestNonce := x }
  | .attestCtrl =>
    -- an extend in the same write is applied after the quote has read the log (R412)
    let s := s.setHub { h with attestDone := h.attestDone && !b 30 }
    (s.go (b 29 && by' == .firmware) .attestExtend []).go (b 31) .quoteStart []
  | .vbusCapt | .pscrMap _ | .vpoolUsed _ | .inputLatchTime | .semFault | .perfClass _ | .dispStatus _ | .qHead _
  | .preemptMask _ | .faultLog | .faultLogVa | .fatalStatus | .pwrStatus | .bootStatus | .attestLog _ | .attestSig _
  | .idKey _ | .devSerial _ => s

/-- What a read does besides returning a value: FAULT_LOG pops its oldest record (R397). -/
def State.afterRead (s : State) (r : HubReg) (args : List Nat) : State :=
  if r = .faultLog then s.postNext .faultLogRead args else s

/-- Bytes of a word of the staging window (R410). -/
def State.stage (s : State) (o : Nat) (v : Dword) : State :=
  let m := (leBytes 8 v.toNat).zipIdx.foldl (fun (m : Sparse 8) (p : Byte × Nat) => m.set (o + p.2) p.1) s.hub.staging
  s.setHub { s.hub with staging := m }

/-- REGISTER_WRITE (R5): a write from outside the cores: number, value, writer. The number is the offset in BAR0 by 8 (R394): those
from 0x400000 are the windows of the queues, 0x1000 bytes each of 64 slots (R360), those from 0x600000 the staging window (R410). -/
def execRegisterWrite (s : State) : Host.Outcome State Fault Refusal :=
  let n := s.arg 0
  let v := BitVec.ofNat 64 (s.arg 1)
  match hubReg n with
  | some r => done (s.hubWrite r v (writerOf (s.arg 2)))
  | none =>
    if 0x600000 ≤ n ∧ n < 0x800000 then done (s.stage (8 * (n - 0x600000)) v)
    else if 0x400000 ≤ n ∧ n < 0x408000 then
      let o := 8 * (n - 0x400000)
      done (s.post 0 .queueSlotWrite (o / 4096 :: o % 4096 / 64 :: o % 64 :: (leBytes 8 v.toNat).map (·.toNat)))
    else done s

/-! ## CSRR, CSRW, CSRS (R394, R395) -/

/-- Value of a barge register in a lane (Table 18.5). -/
def State.bargeReg (s : State) (core slot : Nat) (b : Barge) (n lane : Nat) : Option Dword :=
  match n with
  | 0x01 => some (b.fctlAt s.now).toDword
  | 0x02 => some (BitVec.ofNat 64 lane)
  | 0x03 => some (BitVec.ofNat 64 slot)
  | 0x04 => some (((b.wgid.getD lane []).getD 0 0).setWidth 64)
  | 0x05 => some (((b.wgid.getD lane []).getD 1 0).setWidth 64)
  | 0x06 => some (((b.wgid.getD lane []).getD 2 0).setWidth 64)
  | 0x07 => some (BitVec.ofNat 64 core)
  | 0x08 => some (BitVec.ofNat 64 (towerOf core))
  | 0x09 => some (b.tag.setWidth 64)
  | 0x0A => some (s.ctx b.ctx).versionMap
  | 0x0B => some (BitVec.ofNat 64 b.ctx)
  | 0x0C => some (BitVec.ofNat 64 (bit b.handler 16 + b.trapCode.toNat * 2 ^ 8 + b.trapCause.toNat))
  | 0x0D => some (b.trapFrame.setWidth 64)
  | 0x0E => some (BitVec.ofNat 64 s.now)
  | _ => none

/-- The register number of a word. -/
def Pre.csr (p : Pre) (c : BitVec 8) : Nat := (p.imm32 c).toNat

/-- The shape of a register access. -/
def csrShape (reads : Bool) (d : BitVec 7) (srcs : List Src) (c : BitVec 8) : Shape :=
  let words := if isScalar d then 2 else 1
  { imm := true
    srcs := fun _ => srcs
    dsts := fun _ => if reads then [{ spec := d, words }] else []
    unit := fun p => if p.csr c < 0x100 then some unitInt else none
    flagFence := fun p => decide (p.csr c = 1)
    capturedIf := fun p => reads && decide (0x1000 ≤ p.csr c) }

/-- May the word act, by the access rules of R394? -/
def csrCause (sys : Bool) (n : Nat) (reads writes : Bool) : Option (BitVec 8) :=
  if n < 0x100 then if n = 0 || decide (0x0E < n) then some 0xB1 else none
  else
    match hubReg n with
    | none => some 0xB1
    | some r => if sys || (!writes && (!reads || r.anyReads)) then none else some 0xB0

/-- A barge register access: fixed latency 4; only FCTL takes a write (R5, R395). -/
def Go.bargeCsr (g : Go) (d : BitVec 7) (n : Nat) (reads : Bool) (write : Option Dword) (s : State) : State :=
  let words := if isScalar d then 2 else 1
  let old := g.b
  let b := match write with
    | some x => if n = 1 then let b := old.settleFlags s.now; { b with fctl := b.fctl.write x } else old
    | none => old
  let value (i : Nat) : LaneResult := plain ((pairWords ((s.bargeReg g.core g.slot old n i).getD 0)).take words)
  if g.active = 0 then g.finish g.b s
  else if reads then Go.writeChecked { g with b } { spec := d, words } 4 value s
  else g.finish { b with busyUntil := max b.busyUntil (s.now + 4) } s

/-- A hub register access: an SO access of the barge, performed 48 cycles after issue; d full 96 cycles after it
(R326, R395). The hint tells the kinds apart: 0 read, 1 write, 2 both. -/
def Go.hubCsr (g : Go) (d : BitVec 7) (n : Nat) (reads writes : Bool) (s : State) : State :=
  let words := if isScalar d then 2 else 1
  let kind := if reads && writes then 2 else if writes then 1 else 0
  if g.active = 0 then g.finish g.b s
  else
    let (id, s) := s.fresh
    let f := { g.flight s .csr [] with
      translating := false, so := true, write := writes, captured := reads, dst := d, words := if reads then words else 0,
      hint := kind, tag := n }
    let b := if reads then g.b.markEmpty g.active { spec := d, words } else g.b
    (g.finish b (s.setFlight id f)).pump g.core

/-- A register access by a barge. -/
def csrWord (reads writes : Bool) (d a : BitVec 7) (p : BitVec 1) (c : BitVec 8) (s : State) : Host.Outcome State Fault Refusal :=
  issueWord (csrShape reads d (if writes then [reg a p] else []) c) s fun g s =>
    let n := g.pre.csr c
    if g.active = 0 then g.finish g.b s
    else
      match csrCause (s.ctx g.b.ctx).sys n reads writes with
      | some x => g.trap { cause := x } s
      | none =>
        if n < 0x100 then g.bargeCsr d n reads (if writes then some (g.val 0).dword else none) s
        else g.hubCsr d n reads writes s

/-- The half of a register access that is performed at the hub: its arguments are its flight and the register. -/
def State.csrAtHub (s : State) (reads writes : Bool) : State :=
  let id := s.arg 0
  match s.flights.look id, hubReg (s.arg 1) with
  | some f, some r =>
    let v := s.hubRead r
    let x := f.entry.scalars.headD 0
    let s := if writes then s.hubWrite r x .barge else s
    if reads then
      if r = .faultLog then s.afterRead r [id] else s.fillScalar id v 48
    else ((({ s with flights := s.flights.cut id }).settle id).wake f.core).pump f.core
  | _, _ => s

/-- CSRR (R395). Between words it is the hub's half of one. -/
def execCsrr (d : BitVec 7) (c : BitVec 8) (s : State) : Host.Outcome State Fault Refusal :=
  if s.issue.isNone && !s.args.isEmpty then done (s.csrAtHub true false) else csrWord true false d 0 0 c s
/-- CSRW (R395). Between words it is the hub's half of one. -/
def execCsrw (a : BitVec 7) (p : BitVec 1) (c : BitVec 8) (s : State) : Host.Outcome State Fault Refusal :=
  if s.issue.isNone && !s.args.isEmpty then done (s.csrAtHub false true) else csrWord false true 0 a p c s
/-- CSRS: the read and the write are one step at the register (R395). Between words it is the hub's half of one. -/
def execCsrs (d a : BitVec 7) (p : BitVec 1) (c : BitVec 8) (s : State) : Host.Outcome State Fault Refusal :=
  if s.issue.isNone && !s.args.isEmpty then done (s.csrAtHub true true) else csrWord true true d a p c s

/-! ## WFI (R396) -/

/-- WFI: the barge waits for a wake event; only in a system context. -/
def execWfi (s : State) : Host.Outcome State Fault Refusal :=
  issueWord bareShape s fun g s =>
    if g.active = 0 then g.finish g.b s
    else if !(s.ctx g.b.ctx).sys then g.trap { cause := 0xB0 } s
    else
      (g.finish g.b s).onBarge g.core g.slot fun b => { b with wfi := true, blocked := true, wait := .other, waitSince := s.now }

/-- WFI_WAKE: the event has reached the core (R396). -/
def execWfiWake (s : State) : Host.Outcome State Fault Refusal :=
  done (s.onBarge (s.arg 0) (s.arg 1) fun b =>
    { b with wfi := false, blocked := false, wait := .none, readyAt := max b.readyAt s.now, eligibleSince := s.now })

end Sys2Proof.Machine
end

