-- ==== Sys2Proof/Machine/Matrix.lean ====
section
/-!
DEFINITION. The folded matrix engine (R251 to R271): the parameter block, the checks of MMA, the exact slice sums and
their chain, the fold report, and when each column group is written.
-/
namespace Sys2Proof.Machine
open Sys2Proof

/-! ## The barges of an MMA (R257) -/

/-- The slots of the workgroup's barges 0 to n − 1, where all of them exist (R257). -/
def State.bargesOf (s : State) (core wg n : Nat) : Option (List Nat) :=
  let found := (List.range n).filterMap fun w =>
    (s.barges.find? fun q => decide (q.1 / 512 = core) && decide (q.2.wg = wg ∧ q.2.number = w) && !q.2.reformed).map fun q => q.1 % 512
  if found.length = n then some found else none

/-! ## Issue and acceptance (R259, R267) -/

/-- The barge w of an MMA's workgroup, where it still stands in the slot that it had at the checks (R257). -/
def State.mmaBarge (s : State) (core wg : Nat) (slots : List Nat) (w : Nat) : Option Barge :=
  (s.barge core (slots.getD w 512)).filter fun b => decide (b.wg = wg ∧ b.number = w) && !b.reformed

/-- Change a register's barge of an MMA, unless it has ended or is dissolved (R269). -/
def State.onMmaBarge (s : State) (core wg : Nat) (slots : List Nat) (w : Nat) (f : Barge → Barge) : State :=
  match s.mmaBarge core wg slots w with
  | some b => s.setBarge core (slots.getD w 512) (f b)
  | none => s

/-- Does some word or MMA still fill a register of a barge? -/
def State.hasProducer (s : State) (id core wg slot r : Nat) : Bool :=
  (s.flights.any fun f => decide (f.1 ≠ id ∧ f.2.core = core ∧ f.2.slot = slot ∧ f.2.words ≠ 0)
      && decide (f.2.dst.toNat ≤ r ∧ r < f.2.dst.toNat + f.2.words))
    || (s.core core).mmas.any fun m =>
      let p := MmaParam.ofBytes m.param
      m.wg = wg && (List.range m.n).any fun n => decide (m.slots.getD (n / p.cpb) 0 = slot ∧ p.base + n % p.cpb = r)

/-- Is every accumulator full, but for those that the word's own trapped instance emptied (R259, R270)? A register of a barge that
has ended is waited for by none. -/
def State.accumulatorsFull (s : State) (id core wg : Nat) (slots : List Nat) (p : MmaParam) (n : Nat) (replay : Bool) : Bool :=
  (List.range n).all fun k =>
    let r := p.base + k % p.cpb
    match s.mmaBarge core wg slots (k / p.cpb) with
    | none => true
    | some b => decide (b.emptyLanes r = 0) || (replay && !s.hasProducer id core wg (slots.getD (k / p.cpb) 0) r)

/-- The accesses that fetch a global A and its scales, in the order of R270: row by row, along K, the bytes of a block
before its scale. -/
def MmaParam.accesses (p : MmaParam) : List LaneAcc :=
  ((List.range 32).map fun m =>
    let row := (wide56 p.addr + m * p.stride) % 2 ^ 64
    if p.ageom = 0 then [({ lane := m, va := row, size := mmaBytes p.atype } : LaneAcc)]
    else
      let blocks := 64 / p.ageom
      let n := mmaBytes p.atype / blocks
      ((List.range blocks).map fun j =>
        let lo := (m * blocks + j) * p.ascl.width
        [({ lane := m, va := (row + j * n) % 2 ^ 64, size := n } : LaneAcc),
         { lane := m, va := (wide56 p.scales + lo / 8) % 2 ^ 64, size := (lo + p.ascl.width - 1) / 8 + 1 - lo / 8 }]).flatten).flatten

/-- The cycle from which the first MMA of a core that has not started may start: by the formula of R267 after the one before it, and
not before only that one runs (log 54). -/
def nextStart (ms : List MmaOp) (m : MmaOp) (skips : Bool) : Nat :=
  let running := ms.filter (·.started)
  match running.getLast? with
  | none => m.accepted + 1
  | some q =>
    let alone := (running.dropLast.map (·.endAt)).foldl max 0
    let p := MmaParam.ofBytes m.param
    let pq := MmaParam.ofBytes q.param
    let t := q.startAt + q.late
    if q.skip ≠ 0 || skips then max (m.accepted + 1) q.endAt
    else max (max (m.accepted + 1) alone) (max (t + pq.pass * (q.n / 16)) (t + pq.pass * (q.n / 16 + 3) - 3 * p.pass))

/-- Let the first MMA that has not started start in its turn. -/
def State.kickMma (s : State) (core : Nat) : State :=
  match (s.core core).mmas.find? fun m => !m.started with
  | none => s
  | some m =>
    if (MmaParam.ofBytes m.param).global && m.fetched.isNone then s
    else s.postAt (nextStart (s.core core).mmas m false) .mmaStart [core, m.id]

/-- Accept an MMA: its registers are empty in all lanes, and its A is fetched where that is global. -/
def State.acceptMma (s : State) (id : Nat) (f : Flight) (n base : Nat) (b : Barge) : State :=
  let p := MmaParam.ofBytes f.block
  let s := (List.range n).foldl (fun s k =>
    s.onMmaBarge f.core b.wg f.slots (k / p.cpb) fun b => b.markV (p.base + k % p.cpb) (BitVec.allOnes 32)) s
  let s := s.onBarge f.core f.slot fun b =>
    { b.markS (f.dst.toNat - 96) with blocked := false, wait := .none, readyAt := max b.readyAt (s.now + 1), eligibleSince := s.now + 1 }
  let op : MmaOp := { id, barge := f.slot, wg := b.wg, ctx := f.ctx, param := f.block, n, dst := f.dst, entry := f.entry,
                      localBase := base, slots := f.slots, accepted := s.now }
  let c := s.core f.core
  let s := s.setCore f.core { c with mmas := c.mmas ++ [op] }
  if p.global then
    let f := { f with
      kind := .mma, captured := false, mma := false, translating := true, accs := p.accesses, issued := s.now + 1,
      order := if p.ageom = 0 then p.atype else 15 }
    (s.setFlight id f).pump f.core
  else ({ s with flights := s.flights.cut id }).kickMma f.core

/-- Hold an MMA, or let the engine accept it (R259, R267). -/
def State.holdMma (s : State) (id : Nat) (f : Flight) (b : Barge) : State :=
  let n := (f.entry.scalars.getD 1 0).toNat
  let waiting := ((s.core f.core).mmas.filter fun m => !m.started).length
  if 2 ≤ waiting || !s.accumulatorsFull id f.core b.wg f.slots (MmaParam.ofBytes f.block) n (decide (f.tag = 1)) then
    (s.onBarge f.core f.slot fun b =>
      { b with wait := .counted, waitSince := if b.wait = .counted then b.waitSince else s.now }).post 1 (.mma 0 0 0 0 0) [id]
  else s.acceptMma id f n ((s.localRange f.core b 0).getD (0, 0)).1 b

/-- What the engine does with an MMA from three cycles after its issue on: it reads the block once and checks it, and then
holds the MMA until it is accepted. -/
def State.checkMma (s : State) (id : Nat) (f : Flight) : State :=
  match s.barge f.core f.slot with
  | none => { s with flights := s.flights.cut id }
  | some b =>
    let a0 := ((f.entry.scalars.getD 0 0).setWidth 32 : Word).toNat
    let n := (f.entry.scalars.getD 1 0).toNat
    let trap (c : BitVec 8) (va : Nat) : State :=
      s.flightTrap id f { cause := c, va := BitVec.ofNat 64 va } 0
    let (base, size) := (s.localRange f.core b 0).getD (0, 0)
    if !f.block.isEmpty then s.holdMma id f b
    else if a0 % 64 ≠ 0 then trap 0x51 a0
    else if size < a0 + 64 then trap 0x50 a0
    else if n < 16 ∨ 512 < n ∨ n % 16 ≠ 0 then trap 0x0D 0
    else
      let near := s.ownLocal f.core f.slot id
      let block := (List.range 64).map fun k => near.get (base + a0 + k)
      let p := MmaParam.ofBytes block
      match mmaParamOk block b.regs, s.bargesOf f.core b.wg (ceilDiv n (max 1 p.cpb)) with
      | true, some slots =>
        if !p.tileOk n then trap 0x4F 0
        else
          match p.sourceCause size with
          | some c => trap c p.addr
          | none =>
            let f := { f with block, slots }
            (s.setFlight id f).holdMma id f b
      | _, _ => trap 0x0D 0

/-- What the checks and the scoreboard see of MMA (R258, R259). -/
def shapeMma (d a b : BitVec 7) (p q : BitVec 1) : Shape :=
  { noHandler := true, fieldsOk := fun _ => isScalar d && isScalar a && isScalar b,
        srcs := fun _ => [reg a p, regs b 2 q], dsts := fun _ => [{ spec := d, words := 2 }] }

/-- MMA (R258, R259). As an event it is the engine's work on the parameter block of the word that waits. -/
def execMma (d a b : BitVec 7) (p q : BitVec 1) (s : State) : Host.Outcome State Fault Refusal :=
  if s.issue.isNone && !s.args.isEmpty then
    match s.flights.look (s.arg 0) with
    | none => done s
    | some f => done (s.checkMma (s.arg 0) f)
  else
    issueWord (shapeMma d a b p q) s
      fun g s =>
        if g.b.reformed then g.trap { cause := 0x0B } s
        else if g.active = 0 then g.finish g.b s
        else if 1 < (lanesIn g.active).length then g.trap { cause := 0x0C } s
        else
          let (id, s) := s.fresh
          let f := { g.flight s .unit [] with translating := false, dst := d, mma := true, tag := if g.replay then 1 else 0 }
          (g.finish { g.b with blocked := true } (s.setFlight id f)).post 3 (.mma 0 0 0 0 0) [id]

/-! ## A global A (R255, R270) -/

/-- The bytes an access has read, as a number. -/
def LaneAcc.number (a : LaneAcc) : Nat :=
  (List.range a.size).foldr (fun k acc =>
    acc * 256 + (((a.got.find? fun p => decide (p.1 = k)).map fun p => p.2.toNat).getD 0)) 0

/-- A global A is complete: its rows and scale entries go to the operand buffers. Poison of what was read is delivered, and else the
fault of the access that the fetch stopped at, behind all that was read (R270). -/
def State.mmaFetched (s : State) (id : Nat) (f : Flight) : State :=
  match f.accs.find? (·.poison), f.fetchFault with
  | some a, _ => s.mmaFault id f { cause := 0x4A, va := BitVec.ofNat 64 a.va }
  | none, some (c, va) => s.mmaFault id f { cause := c, va }
  | none, none =>
    let c := s.core f.core
    let give (m : MmaOp) : MmaOp :=
      if m.id ≠ id then m
      else
        let p := MmaParam.ofBytes m.param
        let mine (r : Nat) : List LaneAcc := f.accs.filter fun a => decide (a.lane = r)
        if p.ageom = 0 then
          { m with fetched := some ((List.range 32).map fun r =>
              ((mine r).map fun a => leBytes a.size a.number).flatten, []) }
        else
          let blocks := 64 / p.ageom
          let rows := (List.range 32).map fun r =>
            (((mine r).zipIdx.filter fun q => decide (q.2 % 2 = 0)).map fun q => leBytes q.1.size q.1.number).flatten
          let scales := ((List.range 32).map fun r =>
            ((mine r).zipIdx.filter fun q => decide (q.2 % 2 = 1)).map fun q =>
              field (q.1.number) ((r * blocks + q.2 / 2) * p.ascl.width % 8) p.ascl.width).flatten
          { m with fetched := some (rows, scales) }
    let s := { s.setCore f.core { c with mmas := c.mmas.map give } with flights := s.flights.cut id }
    s.kickMma f.core

/-! ## The product (R259 to R262) -/

/-- Bits of a byte sequence, packed as R59 says. -/
def packedBits (bs : Nat → Byte) (pos w : Nat) : Nat :=
  field ((List.range ((pos + w - 1) / 8 + 1 - pos / 8)).foldr (fun k acc => acc * 256 + (bs (pos / 8 + k)).toNat) 0) (pos % 8) w

/-- Element k of 64 with its scale, in float mode. -/
def mmaValue (t code : Nat) (scale : Option (ScaleKind × Nat)) : Exact :=
  match scale with
  | none => (mmaElem t).value code
  | some (k, c) =>
    match k.value c with
    | none => .nan false
    | some sc => ((mmaElem t).value code).timesScale sc

/-- Element k in integer mode (R261). -/
def mmaInt (t code : Nat) : Int := intOf (t ≠ 9) (mmaWidth t) code

/-- The rounding of every step (R260). -/
def f32Round (x : Exact) : Rounded := round .f32 .rn {} x

/-- Order code of a skip set (Table 12.4). -/
def orderCode (skip : BitVec 4) : Nat :=
  match skip.toNat with
  | 1 => 1
  | 2 => 2
  | 4 => 3
  | 8 => 4
  | 5 => 5
  | 9 => 6
  | 6 => 7
  | 10 => 8
  | _ => 0

/-- The order in which a chain takes the slices (Table 12.4): the healthy layers from the top down, then the skipped
slices from the top down. -/
def chainOrder (skip : BitVec 4) : List Nat :=
  ([3, 2, 1, 0].filter fun j => !skip.getLsbD j) ++ [3, 2, 1, 0].filter fun j => skip.getLsbD j

/-- One element of D in float mode: its code, whether it is NaN, whether it overflowed by R265, and whether a rounding was
inexact. DEDUCED (log 72): an exact zero is +0 unless every term is −0, as R60 has it. -/
def mmaFloat (a b : List Exact) (c : Exact) (skip : BitVec 4) : Nat × Bool × Bool × Bool :=
  let slice (j : Nat) : Rounded :=
    f32Round (Exact.sum .rn ((List.range 16).map fun k =>
      Exact.mul (a.getD (16 * j + k) (.zero false)) (b.getD (16 * j + k) (.zero false))))
  let slices := [0, 1, 2, 3].map slice
  let value (j : Nat) : Exact := Fmt.f32.value (((slices[j]?).map (·.code)).getD 0)
  let start : Exact × Bool := (value ((chainOrder skip).headD 3), slices.any fun r => r.flags.nx)
  let t := ((chainOrder skip).drop 1).foldl (fun acc j =>
    let r := f32Round (Exact.add .rn acc.1 (value j))
    (Fmt.f32.value r.code, acc.2 || r.flags.nx)) start
  let d := f32Round (Exact.add .rn c t.1)
  let v := Fmt.f32.value d.code
  let special := (a.any fun x => x.isNan || x.isInf) || (b.any fun x => x.isNan || x.isInf) || c.isNan || c.isInf
  (d.code, v.isNan, v.isInf && !special, t.2 || d.flags.nx)

/-- One element of D in integer mode: its code, and whether it wrapped or was clamped (R261). -/
def mmaInteger (a b : List Int) (c : Int) (isat : Bool) : Nat × Bool :=
  let x := c + ((a.zip b).map fun p => p.1 * p.2).foldl (· + ·) 0
  let r := clampInt (-(2 ^ 31 : Nat)) ((2 ^ 31 : Nat) - 1) x
  (codeOf 32 (if isat then r.1 else x), r.2)

/-- Row r of A as bytes, in local memory as the issuing barge reads it or as fetched. -/
def mmaRow (near : Nat → Byte) (m : MmaOp) (p : MmaParam) (r : Nat) : Nat → Byte :=
  match m.fetched with
  | some f => fun k => (f.1.getD r []).getD k 0
  | none => fun k => near (m.localBase + p.addr + r * p.stride + k)

/-- The scale of block j of row r of A. -/
def mmaRowScale (near : Nat → Byte) (m : MmaOp) (p : MmaParam) (r j : Nat) : Nat :=
  let entry := r * (64 / p.ageom) + j
  match m.fetched with
  | some f => f.2.getD entry 0
  | none => packedBits (fun k => near (m.localBase + p.scales + k)) (entry * p.ascl.width) p.ascl.width

/-- Byte k of slice stream q of B (R256). -/
def mmaStream (tile : Sparse 8) (p : MmaParam) (q k : Nat) : Byte :=
  tile.get ((p.row + k / 64) * 1024 + 64 * q + k % 64)

/-- Codes and scales of the 64 elements of a row of A. -/
def mmaA (near : Nat → Byte) (m : MmaOp) (p : MmaParam) (r : Nat) : List (Nat × Option (ScaleKind × Nat)) :=
  let w := mmaWidth p.atype
  (List.range 64).map fun k =>
    (packedBits (mmaRow near m p r) (w * k) w,
     if p.ageom = 0 then none else some (p.ascl, mmaRowScale near m p r (k / p.ageom)))

/-- Codes and scales of the 64 elements of a column of B. -/
def mmaB (tile : Sparse 8) (p : MmaParam) (n : Nat) : List (Nat × Option (ScaleKind × Nat)) :=
  let w := mmaWidth p.btype
  let g := n / 16
  let stream := mmaStream tile p (n % 16)
  (List.range 64).map fun k =>
    (packedBits stream (8 * (g * mmaBytes p.btype) + w * k) w,
     if p.bgeom = 0 then none
     else some (p.bscl, packedBits stream (8 * p.soff + (g * (64 / p.bgeom) + k / p.bgeom) * p.bscl.width) p.bscl.width))

/-- The code of C(r, n): +0 or 0 when CLEAR is set. -/
def State.mmaC (s : State) (core : Nat) (m : MmaOp) (p : MmaParam) (r n : Nat) : Nat :=
  if p.clear then 0
  else match s.mmaBarge core m.wg m.slots (n / p.cpb) with
    | some b => (b.vreg (p.base + n % p.cpb) r).toNat
    | none => 0

/-- The product: the columns of D as 32 words each, and the bits INVAL, OVF and NX of the report. What the issuing barge wrote
to local memory and to the tile store before the word is seen (R268). -/
def State.product (s : State) (core : Nat) (m : MmaOp) (skip : BitVec 4) : List (List Word) × Bool × Bool × Bool :=
  let p := MmaParam.ofBytes m.param
  let rows := (List.range 32).map (mmaA (s.ownLocal core m.barge m.id).get m p)
  let tile := s.ownTile core m.barge m.id
  let cols := (List.range m.n).map fun n => (n, mmaB tile p n)
  let elements : List (List (Nat × Bool × Bool × Bool)) :=
    if p.float then
      let va := rows.map fun r => r.map fun e => mmaValue p.atype e.1 e.2
      cols.map fun q =>
        let vb := q.2.map fun e => mmaValue p.btype e.1 e.2
        va.zipIdx.map fun r => mmaFloat r.1 vb (Fmt.f32.value (s.mmaC core m p r.2 q.1)) skip
    else
      let va := rows.map fun r => r.map fun e => mmaInt p.atype e.1
      cols.map fun q =>
        let vb := q.2.map fun e => mmaInt p.btype e.1
        va.zipIdx.map fun r =>
          let d := mmaInteger r.1 vb (intOf true 32 (s.mmaC core m p r.2 q.1)) p.isat
          (d.1, false, d.2, false)
  (elements.map fun c => c.map fun e => BitVec.ofNat 32 e.1,
   elements.any fun c => c.any fun e => e.2.1,
   elements.any fun c => c.any fun e => e.2.2.1,
   elements.any fun c => c.any fun e => e.2.2.2)

/-- The fold report (Table 12.6). -/
def foldReport (p : MmaParam) (groups : Nat) (skip failed : BitVec 4) (inval ovf nx : Bool) : Nat :=
  let bit (b : Bool) (k : Nat) : Nat := if b then 2 ^ k else 0
  p.kpc * 2 ^ 24 + bit p.global 23 + (if skip = 0 then groups + 3 else 2 * groups + 4) * 2 ^ 16 + bit inval 14 + bit ovf 13
    + bit nx 12 + orderCode skip * 2 ^ 8 + (skip &&& failed).toNat * 2 ^ 4 + skip.toNat

/-! ## Steps of the engine -/

/-- Cycles from the start until group g is full (R266). -/
def groupTime (p : MmaParam) (skip : BitVec 4) (g : Nat) : Nat :=
  4 + p.pass * (if skip = 0 then g + 4 else 2 * g + 6)

/-- The stream of a local A and its scales, 128 B in a cycle from two cycles before the start on, past the cycles in which
words of barges hold the banks: its end, and how many of those it waited for (R188, R266). -/
def Core.streamA (c : Core) (p : MmaParam) (start : Nat) : Nat × Nat :=
  let from_ := start - 2
  if p.global then (from_, 0)
  else
    c.localUses.foldl (fun t u =>
      let k := u.1 + u.2 - max u.1 from_
      if u.1 < t.1 then (t.1 + k, t.2 + k) else t) (from_ + ceilDiv (32 * mmaBytes p.atype + p.aScaleBytes) 128, 0)

/-- An MMA starts in its turn: it samples the skip set, which stands until it completes (R262, R267). -/
def execMmaStart (s : State) : Host.Outcome State Fault Refusal :=
  let core := s.arg 0
  let c := s.core core
  match c.mmas.find? fun m => !m.started with
  | none => done s
  | some m =>
    let p := MmaParam.ofBytes m.param
    if m.id ≠ s.arg 1 || (p.global && m.fetched.isNone) then done s
    else
      let skip := c.layers.failed ||| c.layers.throttled
      let t := nextStart c.mmas m (skip ≠ 0)
      if s.now < t then done (s.postAt t .mmaStart s.args)
      else
        let groups := m.n / 16
        let r := s.product core m skip
        let report := foldReport p groups skip c.layers.failed r.2.1 r.2.2.1 r.2.2.2
        let stream := c.streamA p s.now
        let m' := { m with
          started := true, startAt := s.now, skip, streamEnd := stream.1, late := stream.2
          endAt := s.now + stream.2 + groupTime p skip (groups - 1)
          groups := (List.range groups).map fun g => (r.1.drop (16 * g)).take 16, report := BitVec.ofNat 64 report }
        -- the stream's accesses stand among those of the engines from two cycles before on (R188)
        let streams := if p.global then c.streams
          else c.streams ++ [(s.now - 2, ceilDiv (32 * mmaBytes p.atype + p.aScaleBytes) 128)]
        let s := s.setCore core { c with streams, mmas := c.mmas.map fun x => if x.id = m.id then m' else x }
        let s := (List.range groups).foldl (fun s g => s.post (stream.2 + groupTime p skip g) .mmaGroupFull [core, m.id, g]) s
        done (s.kickMma core)

/-- A column group is written and full in all 32 lanes; the last one also writes the fold report (R265, R266, R269). -/
def execMmaGroupFull (s : State) : Host.Outcome State Fault Refusal :=
  let core := s.arg 0
  let g := s.arg 2
  let c := s.core core
  match c.mmas.find? fun m => decide (m.id = s.arg 1) with
  | none => done s
  | some m =>
    let p := MmaParam.ofBytes m.param
    let all : Mask := BitVec.allOnes 32
    let due := m.startAt + m.late + groupTime p m.skip g
    if s.now < due then done (s.postAt due .mmaGroupFull s.args)
    else
    let s := ((m.groups.getD g []).zipIdx).foldl (fun s q =>
      let n := 16 * g + q.2
      s.onMmaBarge core m.wg m.slots (n / p.cpb) fun b =>
        let d : Dst := { spec := BitVec.ofNat 7 (p.base + n % p.cpb), words := 1 }
        (b.write all d fun i => [q.1.getD i 0]).markFull all d) s
    if g + 1 < m.groups.length then done s
    else
      let s := s.onBarge core m.barge fun b =>
        if b.wg = m.wg && !b.reformed then (b.setS (m.dst.toNat - 96) m.report).fillS (m.dst.toNat - 96) else b
      let c := s.core core
      done ((s.setCore core { c with mmas := c.mmas.filter fun x => decide (x.id ≠ m.id) }).kickMma core)

/-- A write of LOCK to a core's MTX_LAYER register sets LOCKED there (R264). -/
def execMtxLayerLock (s : State) : Host.Outcome State Fault Refusal :=
  let core := s.arg 0
  let c := s.core core
  done (s.setCore core { c with layers := { c.layers with locked := true } })

end Sys2Proof.Machine
end

