-- ==== Sys2Proof/Machine/Traverse.lean ====
section
/-!
DEFINITION. Class 20: rays, the box and triangle testers, and the per-lane stacks (R272 to R281).
-/
namespace Sys2Proof.Machine
open Sys2Proof

/-! ## f32 values -/

/-- An f32 register as a value. -/
def f32Of (w : Word) : Exact := Fmt.f32.value w.toNat
/-- A rounding to f32, as a code. -/
def f32Code (mode : RMode) (x : Exact) : Word := BitVec.ofNat 32 (round .f32 mode {} x).code
/-- A rounding to f32, as a value. -/
def f32Step (mode : RMode) (x : Exact) : Exact := f32Of (f32Code mode x)
/-- Neither infinite nor NaN. -/
def Exact.finite (x : Exact) : Bool := !x.isNan && !x.isInf
/-- ±0. -/
def Exact.isZero : Exact → Bool
  | .zero _ => true
  | _ => false
/-- x ≤ y, false for a NaN. -/
def Exact.le (x y : Exact) : Bool := !x.isNan && !y.isNan && decide (Exact.cmp x y ≤ 0)
/-- x < y, false for a NaN. -/
def Exact.lt (x y : Exact) : Bool := !x.isNan && !y.isNan && decide (Exact.cmp x y < 0)
/-- x − y, exact. -/
def Exact.sub (x y : Exact) : Exact := Exact.add .rn x y.neg
/-- The larger. -/
def Exact.max (x y : Exact) : Exact := if Exact.cmp x y < 0 then y else x
/-- The smaller. -/
def Exact.min (x y : Exact) : Exact := if Exact.cmp y x < 0 then y else x

/-! ## The ray record (R274, R275) -/

/-- Word k of a ray record as a value. -/
def rayAt (r : List Word) (k : Nat) : Exact := f32Of (r.getD k 0)

/-- The eight words that RAYINIT derives from the first eight. A direction with a NaN component has no axis of largest
magnitude: the one it takes is `open_`, which the spec leaves open. -/
def rayInit (r : List Word) (open_ : Nat) : List Word :=
  let dir (k : Nat) : Exact := rayAt r (3 + k)
  let mag (k : Nat) : Exact := (dir k).abs
  let someNan := (dir 0).isNan || (dir 1).isNan || (dir 2).isNan
  let big := if (mag 0).lt (mag 1) then 1 else 0
  let kz := if someNan then open_ % 3 else if (mag big).lt (mag 2) then 2 else big
  let kx := (kz + 1) % 3
  let ky := (kx + 1) % 3
  let turned := (dir kz).lt (.zero false)
  let (kx, ky) := if turned then (ky, kx) else (kx, ky)
  let o := [0, 1, 2].map (rayAt r)
  let dirs := [0, 1, 2].map dir
  let tmin := rayAt r 6
  let tmax := rayAt r 7
  let dead := !(o.all Exact.finite && dirs.all Exact.finite && tmin.finite && !tmax.isNan)
    || dirs.all Exact.isZero || tmax.lt tmin
  let quot (a b : Exact) : Word := if dead && b.isZero then 0 else f32Code .rn (Exact.div a b)
  let one : Exact := .mag false 1 0 false
  dirs.map (quot one) ++ [quot (dir kx) (dir kz), quot (dir ky) (dir kz), quot one (dir kz),
    BitVec.ofNat 32 (kx + 4 * ky + 16 * kz + if dead then 256 else 0), 0]

/-- What the checks and the scoreboard see of RAYINIT (R274, R275). -/
def shapeRayinit (d : BitVec 7) (p : BitVec 1) : Shape :=
  { srcs := fun _ => [regs d 8 p], dsts := fun _ => [{ spec := d + 8, words := 8 }],
      unit := fun _ => some unitTraverse, occupancy := fun _ => 2, captured := true }

/-- RAYINIT (R274, R275). -/
def execRayinit (d : BitVec 7) (p : BitVec 1) (s : State) : Host.Outcome State Fault Refusal :=
  issueWord (shapeRayinit d p) s
    fun g s =>
      let first := s.freeIdx
      g.writeFill { spec := d + 8, words := 8 } 16
        (fun i => plain (rayInit ((List.range 8).map ((g.val 0).word i)) (Config.freeValue (first + i)).toNat))
        { s with freeIdx := first + 32 }

/-! ## BOXT (R277, R279) -/

/-- Bytes lo … lo + n − 1 of some bytes, as a number. -/
def bytesAt (bs : List Byte) (lo n : Nat) : Nat := leNat ((bs.drop lo).take n)

/-- A bound of a node's child on an axis, in the direction given. -/
def boxBound (bs : List Byte) (axis c k : Nat) (mode : RMode) : Exact :=
  let p := Fmt.f32.value (bytesAt bs (4 * axis) 4)
  let e : Int := (bytesAt bs (12 + axis) 1 : Nat) - 127
  f32Step mode (Exact.add .rn p (.ofMag false (bytesAt bs (16 + 6 * c + k + axis) 1) e false))

/-- What a ray's test of a child's box comes to (R277): no hit, a hit with where it enters, or nothing that the spec states,
where a NaN of the grid decides. -/
inductive BoxHit where
  | no
  | yes (near : Exact)
  | either
  deriving DecidableEq, Repr

/-- A ray's test of a child's box (R277). -/
def boxHit (r : List Word) (bs : List Byte) (c : Nat) : BoxHit :=
  let axis (acc : Option (Bool × Exact × Exact)) (a : Nat) : Option (Bool × Exact × Exact) :=
    match acc with
    | none => none
    | some (unknown, tn, tf) =>
      let lo := boxBound bs a c 0 .rm
      let hi := boxBound bs a c 3 .rp
      let o := rayAt r a
      let inv := rayAt r (8 + a)
      if bytesAt bs (19 + 6 * c + a) 1 < bytesAt bs (16 + 6 * c + a) 1 then none
      else if inv.isInf then (if o.lt lo || hi.lt o then none else some (unknown, tn, tf))
      else if lo.isNan || hi.isNan then some (true, tn, tf)
      else
        let g := Exact.mul (lo.sub o) inv
        let h := Exact.mul (hi.sub o) inv
        some (unknown, tn.max (f32Step .rm (g.min h)), tf.min (f32Step .rp (g.max h)))
  match [0, 1, 2].foldl axis (some (false, rayAt r 6, rayAt r 7)) with
  | none => .no
  | some (unknown, tn, tf) => if unknown then .either else if tn.le tf then .yes tn else .no

/-- HIT with the count, and ORDER. -/
def boxWords (hits : List (Nat × Exact)) : List Word :=
  let sorted := hits.mergeSort fun x y => decide (Exact.cmp x.2 y.2 ≤ 0)
  let mask := hits.foldl (fun m h => m + 2 ^ h.1) 0
  let order := sorted.zipIdx.foldl (fun m h => m + h.1.1 * 8 ^ h.2) 0
  [BitVec.ofNat 32 (mask + hits.length * 256), BitVec.ofNat 32 order]

/-- The result of BOXT in a lane (R277). Where a NaN leaves a child's test open, its hit and where the ray enters are free
values. -/
def boxTest (r : List Word) (bs : List Byte) (hit : Dword) (near : Nat → Dword) : List Word :=
  let valid := bytesAt bs 15 1
  if (r.getD 14 0).getLsbD 8 || decide (valid = 0) then [0, 0]
  else boxWords ((List.range 8).filterMap fun c =>
    if !valid.testBit c then none
    else match boxHit r bs c with
      | .no => none
      | .yes t => some (c, t)
      | .either => if hit.getLsbD c then some (c, .ofInt (near c).toInt) else none)

/-- Is a node malformed? -/
def boxBad (bs : List Byte) : Bool := [12, 13, 14].any fun k => bytesAt bs k 1 == 255

/-! ## TRIT (R278, R279) -/

/-- The result of TRIT on a miss. -/
def triMiss : List Word := [0x7F800000, 0, 0, 0]

/-- The result of TRIT in a lane (R278). -/
def triTest (r : List Word) (bs : List Byte) : List Word :=
  let vertex (j a : Nat) : Exact := Fmt.f32.value (bytesAt bs (12 * j + 4 * a) 4)
  let flags := bytesAt bs 44 4
  let axes := (r.getD 14 0).toNat
  let k (n : Nat) : Nat := field axes (2 * n) 2
  if axes.testBit 8 || !([0, 1, 2].all fun j => [0, 1, 2].all fun a => (vertex j a).finite) then triMiss
  else
    let rel (j a : Nat) : Exact := f32Step .rn ((vertex j a).sub (rayAt r a))
    let x (j : Nat) : Exact := f32Step .rn ((rel j (k 0)).sub (Exact.mul (rayAt r 11) (rel j (k 2))))
    let y (j : Nat) : Exact := f32Step .rn ((rel j (k 1)).sub (Exact.mul (rayAt r 12) (rel j (k 2))))
    let z (j : Nat) : Exact := f32Step .rn (Exact.mul (rayAt r 13) (rel j (k 2)))
    let e0 := (Exact.mul (x 2) (y 1)).sub (Exact.mul (y 2) (x 1))
    let e1 := (Exact.mul (x 0) (y 2)).sub (Exact.mul (y 0) (x 2))
    let e2 := (Exact.mul (x 1) (y 0)).sub (Exact.mul (y 1) (x 0))
    let sum (a b c : Exact) : Exact := Exact.add .rn (Exact.add .rn a b) c
    let det := sum e0 e1 e2
    let zero : Exact := .zero false
    let es := [e0, e1, e2]
    let same := es.all (fun e => zero.le e) || es.all (fun e => e.le zero)
    let back := det.lt zero
    let culled := (back && flags.testBit 1) || (zero.lt det && flags.testBit 2)
    if !same || det.isZero || det.isNan || culled then triMiss
    else
      let t := f32Step .rn (Exact.div (sum (Exact.mul e0 (z 0)) (Exact.mul e1 (z 1)) (Exact.mul e2 (z 2))) det)
      if (rayAt r 6).le t && t.le (rayAt r 7) then
        [f32Code .rn t, f32Code .rn (Exact.div e1 det), f32Code .rn (Exact.div e2 det),
         BitVec.ofNat 32 (1 + (if back then 2 else 0) + if flags.testBit 0 then 4 else 0)]
      else triMiss

/-- Is a triangle malformed? -/
def triBad (bs : List Byte) : Bool := decide (8 ≤ bytesAt bs 44 4)

/-! ## The testers (R280) -/

/-- The bytes an access has read. -/
def LaneAcc.bytes (a : LaneAcc) : List Byte :=
  (List.range a.size).map fun k => ((a.got.find? fun p => decide (p.1 = k)).map (·.2)).getD 0

/-- What the checks and the scoreboard see of BOXT and TRIT (R276, R279). -/
def shapeTestWord (words : Nat) (d a b : BitVec 7) (p q : BitVec 1) : Shape :=
  { mod := true, modOk := { hint := [0, 1, 2, 3] }, fieldsOk := fun _ => pairOk b,
      srcs := fun _ => [regs a 16 p, regs b 2 q], dsts := fun _ => [{ spec := d, words }], captured := true,
      holds := memHolds }

/-- BOXT and TRIT: a read of each active lane's node or triangle, and the ray with it (R276, R279). -/
def testWord (kind : MemKind) (words size align : Nat) (d a b : BitVec 7) (p q : BitVec 1) (s : State) :
    Host.Outcome State Fault Refusal :=
  issueWord (shapeTestWord words d a b p q) s
    fun g s =>
      if g.active = 0 then g.finish g.b s
      else
        let accs := (lanesIn g.active).map fun i => ({ lane := i, va := ((g.val 1).w64 i).toNat, size } : LaneAcc)
        let f := { g.flight s kind accs with dst := d, words, hint := g.pre.hint, alignTo := align }
        g.launch (g.b.markEmpty g.active { spec := d, words }) f s

/-- BOXT (R276, R277). -/
def execBoxt (d a b : BitVec 7) (p q : BitVec 1) (s : State) : Host.Outcome State Fault Refusal :=
  testWord .box 2 64 128 d a b p q s
/-- TRIT (R276, R278). -/
def execTrit (d a b : BitVec 7) (p q : BitVec 1) (s : State) : Host.Outcome State Fault Refusal :=
  testWord .tri 4 48 16 d a b p q s

/-- The first malformed node or triangle of a word, as its trap (R279). -/
def Flight.malformed (f : Flight) (bad : List Byte → Bool) : Option Cause :=
  match f.accs.filter fun a => bad a.bytes with
  | [] => none
  | a :: rest =>
    some { cause := 0x55, lanes := maskOf fun i => (a :: rest).any fun c => decide (c.lane = i), va := BitVec.ofNat 64 a.va }

/-- A word whose data is ready enters its testers: its results, and its fill once they have passed (R280). -/
def State.enterTesters (s : State) (id : Nat) (f : Flight) : State :=
  let c := s.core f.core
  let box := decide (f.kind = .box)
  let n := ceilDiv f.accs.length (if box then 4 else 2)
  let start := max s.now (if box then c.boxBusy else c.triBusy)
  let s := s.setCore f.core (if box then { c with boxBusy := start + n } else { c with triBusy := start + n })
  let first := s.freeIdx
  let result : List (List Word) := (List.range 32).map fun i =>
    match f.accs.find? fun a => decide (a.lane = i) with
    | none => []
    | some a =>
      let ray := f.entry.vectors.getD i []
      if box then boxTest ray a.bytes (Config.freeValue (first + i)) fun c => Config.freeValue (first + 32 + 8 * i + c)
      else triTest ray a.bytes
  let s := if box then { s with freeIdx := first + 288 } else s
  (s.setFlight id { f with tag := 1, result }).postAt (start + n + (if box then 6 else 10)) .registerFill [id]

/-! ## Stacks (R281) -/

/-- What the checks and the scoreboard see of TSPUSH (R281, R291). -/
def shapeTspush (d a b : BitVec 7) (p q : BitVec 1) : Shape :=
  { srcs := fun _ => [reg d p, regs a 2 p, reg b q], dsts := fun _ => [{ spec := d }], holds := memHolds }

/-- TSPUSH (R281): a helper lane of a pixel barge stores nothing (R291). -/
def execTspush (d a b : BitVec 7) (p q : BitVec 1) (s : State) : Host.Outcome State Fault Refusal :=
  issueWord (shapeTspush d a b p q) s
    fun g s =>
      let sp (i : Nat) : Nat := ((g.val 0).w32 i).toNat
      if g.active = 0 then g.finish g.b s
      else
        match (lanesIn g.active).filter fun i => decide (((g.val 2).w32 i).toNat < sp i + 8) with
        | i :: rest => g.trap { cause := 0x53, lanes := maskOf (i :: rest).contains, va := BitVec.ofNat 64 (sp i) } s
        | [] =>
          match placeLanes g.active sp (fun i x => s.localPlace g.core g.b i x 8) with
          | .error c => g.trap c s
          | .ok places =>
            let accs := (places.filter fun x => !laneOn g.b.helpers x.1).map fun x =>
              ({ lane := x.1, va := x.2, size := 8, data := dataBytes (g.val 1) x.1 8 } : LaneAcc)
            let f := { g.flight s (.loc true) accs with space := .loc, translating := false, captured := false }
            let b := g.b.write g.active { spec := d, words := 1 } fun i => [(g.val 0).w32 i + 8]
            let b := { b with busyUntil := max b.busyUntil (s.now + 4) }
            let (id, s) := s.fresh
            (g.finish (b.readyFrom { spec := d, words := 1 } (s.now + 4)) (s.setFlight id f)).sendNear id f

/-- What the checks and the scoreboard see of TSPOP (R281). -/
def shapeTspop (d a b : BitVec 7) (p q : BitVec 1) : Shape :=
  { srcs := fun _ => [reg a p, reg b q], dsts := fun _ => [{ spec := d, words := 2 }, { spec := a }], captured := true,
      holds := memHolds }

/-- TSPOP (R281). -/
def execTspop (d a b : BitVec 7) (p q : BitVec 1) (s : State) : Host.Outcome State Fault Refusal :=
  issueWord (shapeTspop d a b p q) s
    fun g s =>
      let sp (i : Nat) : Nat := ((g.val 0).w32 i).toNat
      let full := maskOf fun i => laneOn g.active i && decide (((g.val 1).w32 i).toNat + 8 ≤ sp i)
      if g.active = 0 then g.finish g.b s
      else
        match placeLanes full (fun i => sp i - 8) (fun i x => s.localPlace g.core g.b i x 8) with
        | .error c => g.trap c s
        | .ok places =>
          let accs := places.map fun x => ({ lane := x.1, va := x.2, size := 8 } : LaneAcc)
          let f := (g.flight s (.loc false) accs).filling d 8 8 false
          let f := { f with space := .loc, translating := false, result := List.replicate 32 [0xFFFFFFFF, 0xFFFFFFFF] }
          let b := g.b.write full { spec := a, words := 1 } fun i => [(g.val 0).w32 i - 8]
          let b := { b with busyUntil := max b.busyUntil (s.now + 4) }
          let b := (b.readyFrom { spec := a, words := 1 } (s.now + 4)).markEmpty g.active { spec := d, words := 2 }
          let (id, s) := s.fresh
          (g.finish b (s.setFlight id f)).sendNear id f

end Sys2Proof.Machine
end

