-- ==== Sys2Proof/Machine/Surface.lean ====
section
/-!
DEFINITION. Surfaces (R283): where an element lies, its components as f32 values, and their conversion and blending
(R74, R295).
-/
namespace Sys2Proof.Machine
open Sys2Proof

/-- A component of a surface format (Table 13.5). -/
inductive Comp where
  | unorm (n : Nat)
  | snorm (n : Nat)
  | float (f : Fmt)
  | int (signed : Bool)
  deriving DecidableEq, Repr

/-- Bits of a component. -/
def Comp.width : Comp → Nat
  | .unorm n => n
  | .snorm n => n
  | .float f => f.width
  | .int _ => 32

/-- The components of a format, from bit 0 up. -/
def surfaceComps (fmt : Nat) : List Comp :=
  match fmt with
  | 1 => List.replicate 4 (.unorm 8)
  | 2 => List.replicate 4 (.snorm 8)
  | 3 => [.unorm 10, .unorm 10, .unorm 10, .unorm 2]
  | 4 => List.replicate 4 (.float .f16)
  | 5 => List.replicate 4 (.float .bf16)
  | 6 => [.float .f32]
  | 7 => List.replicate 4 (.float .f32)
  | 8 => [.int false]
  | 9 => [.int true]
  | _ => []

/-- First bit of component c. -/
def compOffset (fmt c : Nat) : Nat := (((surfaceComps fmt).take c).map Comp.width).sum

/-- Bytes of an element. -/
def surfaceBytes (fmt : Nat) : Nat := compOffset fmt 4 / 8

/-- Is it an integer format? -/
def surfaceInt (fmt : Nat) : Bool := fmt == 8 || fmt == 9

/-- Row pitch of a surface Wd elements wide. -/
def surfacePitch (wd bytes : Nat) : Nat := ceilDiv (wd * bytes) 256 * 256

/-- Address of element (x, y). -/
def surfaceAt (base wd bytes x y : Nat) : Nat := base + y * surfacePitch wd bytes + x * bytes

/-- An integer over another, rounded to f32. -/
def f32Ratio (a : Int) (b : Nat) : Exact := f32Step .rn (Exact.div (Exact.ofInt a) (Exact.ofInt b))

/-- A stored component as an f32 value (R74). -/
def Comp.decode (k : Comp) (code : Nat) : Exact :=
  match k with
  | .unorm n => f32Ratio code (2 ^ n - 1)
  | .snorm n => (f32Ratio (intOf true n code) (2 ^ (n - 1) - 1)).max (.mag true 1 0 false)
  | .float .f32 => Fmt.f32.value code
  | .float f => f32Step .rn (f.value code)
  | .int signed => Exact.ofInt (intOf signed 32 code)

/-- A value clamped between two values; a NaN is left to the caller. -/
def Exact.clamp (x lo hi : Exact) : Exact := if x.lt lo then lo else if hi.lt x then hi else x

/-- 1. -/
def exactOne : Exact := .mag false 1 0 false

/-- A value converted into a component (R74). -/
def Comp.encode (k : Comp) (x : Exact) : Nat :=
  match k with
  | .unorm n =>
    if x.isNan then 0
    else (roundInt .rn (Exact.mul (x.clamp (.zero false) exactOne) (Exact.ofInt (2 ^ n - 1 : Nat)))).1.toNat
  | .snorm n =>
    if x.isNan then 0
    else codeOf n (roundInt .rn (Exact.mul (x.clamp exactOne.neg exactOne) (Exact.ofInt (2 ^ (n - 1) - 1 : Nat)))).1
  | .float f => (round f .rn {} x).code
  | .int signed => codeOf 32 (toInteger .rn (intLo signed 32) (intHi signed 32) x).1

/-- Component c of an element as an f32 value: a missing one is 0, a missing fourth 1 (R283). -/
def surfaceComp (fmt element c : Nat) : Exact :=
  match (surfaceComps fmt)[c]? with
  | some k => k.decode (field element (compOffset fmt c) k.width)
  | none => if c = 3 then exactOne else .zero false

/-- The blended value of a component (R295). -/
def blendValue (blend : Nat) (x q a : Exact) : Exact :=
  match blend with
  | 0 => x
  | 1 => Exact.add .rn (Exact.mul x a) (Exact.mul q (exactOne.sub a))
  | 2 => Exact.add .rn x q
  | _ => Exact.add .rn x (Exact.mul q (exactOne.sub a))

/-- An element after an export: the components of the write mask are replaced (R294, R295). -/
def blendElement (fmt mask blend old : Nat) (exported : List Word) : Nat :=
  (List.range (surfaceComps fmt).length).foldl (fun acc c =>
    match (surfaceComps fmt)[c]? with
    | some k =>
      let o := compOffset fmt c
      let code := match k with
        | .int _ => (exported.getD c 0).toNat
        | _ => k.encode (blendValue blend (f32Of (exported.getD c 0)) (k.decode (field old o k.width)) (f32Of (exported.getD 3 0)))
      if mask.testBit c then acc - field acc o k.width * 2 ^ o + code % 2 ^ k.width * 2 ^ o else acc
    | none => acc) old

end Sys2Proof.Machine
end

