-- ==== Sys2Proof/Machine/Raster.lean ====
section
/-!
DEFINITION. Draws (R282 to R298): exports and setup, the reorder windows, the rasteriser, ray-space bins, pixel barges,
early depth, retirement, and the words VEXPORT, PEXPORT, ATTR and ZQUERY.
-/
namespace Sys2Proof.Machine
open Sys2Proof

/-! ## Fields of a draw (Table 13.4) -/

/-- Width of the screen. -/
def Draw.wd (d : Draw) : Nat := drawField d.desc 0 24 14 + 1
/-- Height of the screen. -/
def Draw.hd (d : Draw) : Nat := drawField d.desc 0 38 14 + 1
/-- PCOUNT: primitives − 1. -/
def Draw.last (d : Draw) : Nat := drawField d.desc 8 0 20
/-- EARLYZ. -/
def Draw.early (d : Draw) : Bool := drawField d.desc 0 12 1 == 1
/-- First address of the depth target, 0 for none. -/
def Draw.zbase (d : Draw) : Nat := drawField d.desc 3 8 48 * 256
/-- First sequence number. -/
def Draw.first (d : Draw) : Nat := d.number * 2 ^ 20
/-- Bin descriptor, 0 for none. -/
def Draw.bins (d : Draw) : Nat := drawField d.desc 9 0 56

/-- Owner of a tile (R285). -/
def tileTower (tx ty : Nat) : Nat := (tx + 2 * ty) % 4

/-- How blender, bins and depth tests reach memory: under the draw's tag (R298). -/
def Draw.agent (d : Draw) (tower : Nat) : Agent :=
  { core := 48 * tower, ctx := d.ctx, label := d.label, rank := some towerRank }

/-! ## Setup (R284) -/

/-- A primitive that setup has not discarded: snapped vertices in 1/256 pixel, depths, area in 1/65536 pixel. -/
structure Setup where
  xs : List Int
  ys : List Int
  zs : List Exact
  ws : List Word
  area : Int

/-- Set up three clip-space vertices; none where the primitive is discarded. -/
def setupPrim (d : Draw) (verts : List Word) : Option Setup :=
  let at_ (j k : Nat) : Exact := f32Of (verts.getD (4 * j + k) 0)
  let js := [0, 1, 2]
  let bad := js.any fun j => ((List.range 4).any fun k => (at_ j k).isNan) || (at_ j 3).le (.zero false)
  let proj (j k : Nat) : Exact := f32Step .rn (Exact.div (at_ j k) (at_ j 3))
  let badProj := js.any fun j => [0, 1, 2].any fun k => (proj j k).isNan
  let snap (x : Exact) (size : Nat) : Exact := Exact.mul x (.mag false size 7 false)
  let sx (j : Nat) : Exact := snap (Exact.add .rn (proj j 0) exactOne) d.wd
  let sy (j : Nat) : Exact := snap (exactOne.sub (proj j 1)) d.hd
  let limit : Int := 2 ^ 23
  let far (x : Exact) : Bool := x.isInf || x.isNan || decide (limit < (roundInt .rn x).1.natAbs)
  if bad || badProj || js.any (fun j => far (sx j) || far (sy j)) then none
  else
    let xs := js.map fun j => (roundInt .rn (sx j)).1
    let ys := js.map fun j => (roundInt .rn (sy j)).1
    let x (j : Nat) : Int := xs.getD j 0
    let y (j : Nat) : Int := ys.getD j 0
    let area := (x 1 - x 0) * (y 2 - y 0) - (x 2 - x 0) * (y 1 - y 0)
    let cull := drawField d.desc 0 17 2
    if area = 0 || (decide (area < 0) && cull = 1) || (decide (0 < area) && cull = 2) then none
    else some { xs, ys, area, ws := js.map fun j => verts.getD (4 * j + 3) 0
                zs := js.map fun j => (proj j 2).clamp (.zero false) exactOne }

/-- The pixels of a snapped bounding box on an axis, clipped to the screen: first and one past the last. -/
def spanOf (vs : List Int) (size : Nat) : Nat × Nat :=
  let lo := vs.foldl min (vs.headD 0)
  let hi := vs.foldl max (vs.headD 0)
  if hi < 0 then (0, 0) else ((lo / 256).toNat, min size ((hi / 256).toNat + 1))

/-- The tiles that a primitive's bounding box overlaps. -/
def Setup.tiles (p : Setup) (d : Draw) : List (Nat × Nat) :=
  let (x0, x1) := spanOf p.xs d.wd
  let (y0, y1) := spanOf p.ys d.hd
  if x1 ≤ x0 || y1 ≤ y0 then []
  else ((List.range ((y1 - 1) / 64 + 1 - y0 / 64)).map fun j =>
    (List.range ((x1 - 1) / 64 + 1 - x0 / 64)).map fun i => (x0 / 64 + i, y0 / 64 + j)).flatten

/-- F of the edge opposite each vertex at a pixel centre, by vertex number. -/
def Setup.weights (p : Setup) (px py : Nat) : List Int :=
  let cx : Int := 256 * px + 128
  let cy : Int := 256 * py + 128
  let f (a b : Nat) : Int :=
    (p.xs.getD b 0 - p.xs.getD a 0) * (cy - p.ys.getD a 0) - (p.ys.getD b 0 - p.ys.getD a 0) * (cx - p.xs.getD a 0)
  if 0 < p.area then [f 1 2, f 2 0, f 0 1] else [f 2 1, f 0 2, f 1 0]

/-- Is a pixel covered (R284)? -/
def Setup.covers (p : Setup) (px py : Nat) : Bool :=
  let edge (a b : Nat) (v : Int) : Bool :=
    decide (0 < v) || (v = 0 && (decide (p.ys.getD b 0 < p.ys.getD a 0)
      || (p.ys.getD a 0 = p.ys.getD b 0 && decide (p.xs.getD a 0 < p.xs.getD b 0))))
  let w := p.weights px py
  if 0 < p.area then edge 1 2 (w.getD 0 0) && edge 2 0 (w.getD 1 0) && edge 0 1 (w.getD 2 0)
  else edge 2 1 (w.getD 0 0) && edge 0 2 (w.getD 1 0) && edge 1 0 (w.getD 2 0)

/-- The pixel record of a lane (R284, R291). -/
def Setup.pixel (p : Setup) (d : Draw) (seq px py : Nat) : Pixel :=
  let w := p.weights px py
  let z := Exact.div
    (Exact.sum .rn ((List.range 3).map fun j => Exact.mul (Exact.ofInt (w.getD j 0)) (p.zs.getD j (.zero false))))
    (Exact.ofInt p.area.natAbs)
  { covered := decide (px < d.wd ∧ py < d.hd) && p.covers px py, x := px, y := py, seq, prim := seq % 2 ^ 20,
    lambda := w ++ [(p.area.natAbs : Int)], invW := p.ws, depth := f32Code .rn z }

/-! ## VEXPORT (R286, R298) -/

/-- The draw that a barge belongs to. -/
def State.drawOf (s : State) (b : Barge) : Option (Nat × Draw) :=
  ((s.nodes.look b.node).bind fun n => n.draw).bind fun d => (s.draws.look d).map fun x => (d, x)

/-- Has a sequence number been released in a tower's window, or does it wait there or on its way? -/
def State.exported (s : State) (tower d : Nat) (x : Draw) (seq : Nat) : Bool :=
  let g := s.gfxTower tower
  x.towersDone.contains tower || (g.draw = some d && decide (seq < g.base)) || ((g.window.look seq).any fun e => decide (e.draw = d))
    || (g.setup.any fun e => decide (e.2.draw = d ∧ e.2.seq = seq))
    || s.flights.any fun f => f.2.kind == .vexport && decide (towerOf f.2.core = tower ∧ f.2.tag = d)
        && f.2.accs.any fun a => decide (a.va = seq)

/-- What the checks and the scoreboard see of VEXPORT (R286, R298). -/
def shapeVexport (a b : BitVec 7) (p q : BitVec 1) : Shape :=
  { noHandler := true, noReformed := true, srcs := fun _ => [regs a 12 p, reg b q] }

/-- VEXPORT (R286, R298). -/
def execVexport (a b : BitVec 7) (p q : BitVec 1) (s : State) : Host.Outcome State Fault Refusal :=
  issueWord (shapeVexport a b p q) s fun g s =>
    if g.active = 0 then g.finish g.b s
    else if !g.b.gfx || g.b.pixelProgram then g.trap { cause := 0x0E } s
    else
      match s.drawOf g.b with
      | none => g.trap { cause := 0x0E } s
      | some (d, x) =>
        let number (i : Nat) : Nat := ((g.val 1).w32 i).toNat % 2 ^ 20
        let t := towerOf g.core
        let bad := (lanesIn g.active).filter fun i =>
          decide (x.last < number i) || s.exported t d x (x.first + number i)
            || (lanesIn g.active).any fun j => decide (j < i ∧ number j = number i)
        if !bad.isEmpty then g.trap { cause := 0x0F, lanes := maskOf bad.contains } s
        else
          let accs := (lanesIn g.active).map fun i =>
            ({ lane := i, va := x.first + number i, size := 48,
               data := ((List.range 12).map fun k => leBytes 4 ((g.val 0).word i k).toNat).flatten } : LaneAcc)
          let f := { g.flight s .vexport accs with translating := false, sent := true, captured := false, tag := d }
          let (rid, s) := s.startRel { core := g.core, slot := g.slot, ctx := g.b.ctx, scope := 5,
                                       after := .post [(0, { what := .setupTake, args := [t, s.nextId + 1] })] }
          let (id, s) := s.fresh
          (g.finish g.b (s.setFlight id f)).relRun rid relFuel

/-! ## Setup and the windows (R287, R288) -/

/-- Does the front end of a draw stand, because its context's graphics are being saved (R406)? -/
def State.halted (s : State) (d : Nat) : Bool :=
  match s.draws.look d with
  | some x => s.hub.gfxHalt == some x.ctx
  | none => false

/-- May an export be sent to the windows? -/
def State.exportFits (s : State) (e : Prim) : Bool :=
  !s.halted e.draw && [0, 1, 2, 3].all fun t =>
    let g := s.gfxTower t
    g.draw = some e.draw && decide (e.seq < g.base + 4096)

/-- Cycles from setup to the window of a tower. -/
def exportTime (src dst : Nat) : Nat := if src = dst then 40 else if (src + 2) % 4 = dst then 200 else 120

/-- Setup takes an export at a cycle: a record for each tower that owns a tile of its box, a token for the others. -/
def State.takeExport (s : State) (tower at_ : Nat) (e : Prim) : State :=
  match s.draws.look e.draw with
  | none => s
  | some d =>
    let owners : List Nat := match setupPrim d e.verts with
      | some p => (p.tiles d).map fun (q : Nat × Nat) => tileTower q.1 q.2
      | none => []
    [0, 1, 2, 3].foldl (fun s t =>
      let arrive := at_ + exportTime tower t
      let g := s.gfxTower t
      (s.setGfx t { g with window := g.window.put e.seq { e with token := !owners.contains t, arrive } }).postAt arrive
        .windowRelease [t]) s

/-- A barge is held while an export of its waits at setup for a window (R288); not for one that merely stands behind four others. -/
def State.holdExporters (s : State) (tower : Nat) (keys : List (List Nat)) : State :=
  let left := (s.gfxTower tower).setup
  (keys.map fun k => (k.getD 1 0, k.getD 3 0)).eraseDups.foldl (fun s c =>
    let waits := left.any fun e => decide (e.1.getD 1 0 = c.1 ∧ e.1.getD 3 0 = c.2) && !s.exportFits e.2
    s.onBarge c.1 c.2 fun b =>
      if waits then
        if b.blocked then b else { b with blocked := true, wait := .setup, waitSince := s.now }
      else if b.wait = .setup && b.blocked then
        { b with blocked := false, wait := .none, readyAt := max b.readyAt s.now, eligibleSince := s.now }
      else b) s

/-- An export reaches setup, or setup takes those of the cycle before: the first four that fit, in their order (R287). -/
def execSetupTake (s : State) : Host.Outcome State Fault Refusal :=
  let t := s.arg 0
  let g := s.gfxTower t
  match s.args with
  | [_] =>
    if s.now < g.nextSetup then done s
    else
    let fit := (g.setup.filter fun e => decide (e.1.getD 0 0 < s.now) && s.exportFits e.2).take 4
    let s := fit.foldl (fun s e => s.takeExport t (s.now - 1) e.2) s
    let g := s.gfxTower t
    let left := g.setup.filter fun e => !fit.any fun f => decide (f.1 = e.1)
    let s := (s.setGfx t { g with setup := left, nextSetup := s.now + 1 }).holdExporters t (g.setup.map (·.1))
    done (if left.isEmpty then s else s.post 1 .setupTake [t])
  | _ =>
    match s.flights.look (s.arg 1) with
    | none => done s
    | some f =>
      let s := { s with flights := s.flights.cut (s.arg 1) }
      if ((s.draws.look f.tag).map fun (d : Draw) => d.dropped).getD true then done ((s.settle (s.arg 1)).wake f.core)
      else
        let entries := f.accs.map fun a =>
          ([s.now, f.core, quarterOf f.slot, f.slot, a.lane],
           ({ draw := f.tag, seq := a.va, tower := t,
              verts := (List.range 12).map fun k => BitVec.ofNat 32 (bytesAt a.data (4 * k) 4) } : Prim))
        let setup := (g.setup ++ entries).mergeSort fun x y => keyLess x.1 y.1
        done (((s.setGfx t { g with setup }).post 1 .setupTake [t]).wake f.core)

/-- The code of a primitive of a draw among the pixels with retires pending: rising with the sequence number (R294). -/
def pixelCode (draw seq : Nat) : Nat := seq * 2 ^ 32 + draw % 2 ^ 32

/-- The key of a pixel of a context. -/
def pixelKey (ctx x y : Nat) : Nat := (ctx * 2 ^ 14 + y) * 2 ^ 14 + x

/-- The window of a tower passes to the next draw where it serves none (R288). -/
def State.passWindow (s : State) (t : Nat) : State :=
  let g := s.gfxTower t
  match g.draw with
  | some _ => s
  | none =>
    match s.draws.find? fun d => !d.2.faulted && !d.2.dropped && !d.2.towersDone.contains t && !s.halted d.1 with
    | none => s
    | some (id, d) =>
      let s := s.setGfx t { g with draw := some id, base := d.first }
      if d.bins = 0 then s else s.post 0 .binBuild [t, id]

/-- Quads of a tile that a primitive covers, in rows. -/
def Setup.quads (p : Setup) (d : Draw) (seq tx ty : Nat) : List (List Pixel) :=
  let (x0, x1) := spanOf p.xs d.wd
  let (y0, y1) := spanOf p.ys d.hd
  let lo (a b : Nat) : Nat := max a (64 * b) / 2
  let n (a a1 b : Nat) : Nat := (min a1 (64 * b + 64) + 1) / 2 - lo a b
  ((List.range (n y0 y1 ty)).map fun j => (List.range (n x0 x1 tx)).filterMap fun i =>
    let x := 2 * (lo x0 tx + i)
    let y := 2 * (lo y0 ty + j)
    let q := [p.pixel d seq x y, p.pixel d seq (x + 1) y, p.pixel d seq x (y + 1), p.pixel d seq (x + 1) (y + 1)]
    if q.any (·.covered) then some q else none).flatten

/-- Pixels of a primitive's box in the tiles a tower owns. -/
def Setup.examined (p : Setup) (d : Draw) (t : Nat) : Nat :=
  let (x0, x1) := spanOf p.xs d.wd
  let (y0, y1) := spanOf p.ys d.hd
  (((p.tiles d).filter fun q => tileTower q.1 q.2 = t).map fun q =>
    (min x1 (64 * q.1 + 64) - max x0 (64 * q.1)) * (min y1 (64 * q.2 + 64) - max y0 (64 * q.2))).sum

/-- A released record goes through the rasteriser: its covered quads, packed in release order (R288). -/
def State.rasterise (s : State) (t : Nat) (e : Prim) : State :=
  match s.draws.look e.draw with
  | none => s
  | some d =>
    match setupPrim d e.verts with
    | none => s
    | some p =>
      let g := s.gfxTower t
      let until_ := max s.now g.rastBusy + max 1 (ceilDiv (p.examined d t) 64)
      let quads := (((p.tiles d).filter fun q => tileTower q.1 q.2 = t).map fun q => p.quads d e.seq q.1 q.2).flatten
      let pending := quads.flatten.foldl (fun (tab : Tab (List Nat)) x =>
        if x.covered then
          let k := pixelKey d.ctx x.x x.y
          tab.put k ((tab.look k).getD [] ++ [pixelCode e.draw e.seq])
        else tab) g.pendingPix
      let g := { g with rastBusy := until_, quads := g.quads ++ quads.map fun q => (until_, e.draw, q), pendingPix := pending }
      let s := s.setGfx t g
      if quads.isEmpty then s else s.postAt until_ (if d.early then .earlyZTest else .pixelBargeClose) [t]

/-- Release the entry at B, where it has arrived. -/
def State.releaseOne (s : State) (t : Nat) : Option State :=
  let g := s.gfxTower t
  match g.draw.bind fun d => (s.draws.look d).map fun x => (d, x) with
  | none => none
  | some (id, d) =>
    match g.window.look g.base with
    | none => none
    | some e =>
      if s.now < e.arrive || s.halted id then none
      else
        let s := s.setGfx t { g with window := g.window.cut g.base, base := g.base + 1 }
        let s := if e.token then s else s.rasterise t e
        if g.base = d.first + d.last then
          let s := { s with draws := s.draws.put id { d with towersDone := d.towersDone ++ [t] } }
          let s := s.setGfx t { s.gfxTower t with draw := none }
          some (s.post 0 .taskComplete [d.node])
        else some s

/-- Release up to n entries. -/
def State.releaseUpTo (s : State) (t : Nat) : Nat → State
  | 0 => s
  | n + 1 =>
    match s.releaseOne t with
    | some s => if (s.gfxTower t).draw.isNone then s else s.releaseUpTo t n
    | none => s

/-- A tower's front end releases up to four entries at B in a cycle; a window whose draw is over passes on (R288). Setup has taken
what fits as the cycle before left the windows. -/
def execWindowRelease (s : State) : Host.Outcome State Fault Refusal :=
  let t := s.arg 0
  if s.agenda.any fun e => decide (e.1 ≤ s.now ∧ e.2.args.length = 1) && e.2.what == .setupTake then
    done (s.post 0 .windowRelease [t])
  else
  let s := s.passWindow t
  let g := s.gfxTower t
  if s.now < g.nextRelease then
    done (if (s.releaseOne t).isSome then s.postAt g.nextRelease .windowRelease [t] else s)
  else
    let s := s.releaseUpTo t 4
    let s := s.setGfx t { s.gfxTower t with nextRelease := s.now + 1 }
    let s := s.passWindow t
    done (if (s.releaseOne t).isSome then s.post 1 .windowRelease [t] else s)

/-! ## Faults of a draw (R298) -/

/-- A write of the blender, or of a bin, that faults: a record without a frame, and the context is killed. -/
def State.drawFault (s : State) (d : Draw) (e : BitVec 8 × Nat) : State :=
  (s.logFault { noframe := true, kind := true, cause := e.1, ctx := d.ctx, node := d.node, frame := 0,
                va := BitVec.ofNat 64 e.2 }).post 0 .ctxKill [d.ctx, 0, e.1.toNat]

/-! ## Bins (R289, R290) -/

/-- a × b. -/
def crossProduct (a b : Nat → Exact) (k : Nat) : Exact :=
  let i := (k + 1) % 3
  let j := (k + 2) % 3
  (Exact.mul (a i) (b j)).sub (Exact.mul (a j) (b i))

/-- a · b. -/
def dotProduct (a b : Nat → Exact) : Exact :=
  Exact.add .rn (Exact.add .rn (Exact.mul (a 0) (b 0)) (Exact.mul (a 1) (b 1))) (Exact.mul (a 2) (b 2))

/-- f32 number k of some bytes. -/
def f32At (bs : List Byte) (k : Nat) : Exact := Fmt.f32.value (bytesAt bs (4 * k) 4)

/-- Does a root's box meet the inner side of each of the four planes of a tile's square? The inner side of a plane is that
of the ray through the square's centre. -/
def binHit (desc root : List Byte) (x0 x1 y0 y1 : Nat) : Bool :=
  let lo (a : Nat) : Exact := f32At root (2 + a)
  let hi (a : Nat) : Exact := f32At root (5 + a)
  let sound := [0, 1, 2].all fun a => !(lo a).isNan && !(hi a).isNan && (lo a).le (hi a)
  let dir (x y : Exact) (a : Nat) : Exact :=
    Exact.add .rn (f32At desc (3 + a)) (Exact.add .rn (Exact.mul x (f32At desc (6 + a))) (Exact.mul y (f32At desc (9 + a))))
  let n (k : Nat) : Exact := Exact.ofInt (k : Int)
  let corners := [dir (n x0) (n y0), dir (n x1) (n y0), dir (n x1) (n y1), dir (n x0) (n y1)]
  let half (a b : Nat) : Exact := (n (a + b)).scale (-1)
  let mid := dir (half x0 x1) (half y0 y1)
  let plane (k : Nat) : Bool :=
    let c0 := corners.getD k mid
    let c1 := corners.getD ((k + 1) % 4) mid
    let nrm0 := crossProduct c0 c1
    let side := dotProduct nrm0 mid
    let nrm (a : Nat) : Exact := if side.lt (.zero false) then (nrm0 a).neg else nrm0 a
    -- the box corner farthest along the normal; an axis along the plane moves nothing, whatever its bound
    let far (a : Nat) : Exact :=
      if (nrm a).isZero then .zero false else ((if (nrm a).lt (.zero false) then lo a else hi a)).sub (f32At desc a)
    (Exact.zero false).le (dotProduct nrm far)
  sound && [0, 1, 2, 3].all plane

/-- The bitmap of a tile: bit i is root i. -/
def binBitmap (d : Draw) (desc roots : List Byte) (tx ty : Nat) : List Byte :=
  let n := field (dwordAt desc 6) 56 8 + 1
  leBytes 32 ((List.range n).foldl (fun m i =>
    if binHit desc (roots.drop (32 * i)) (64 * tx) (min d.wd (64 * tx + 64)) (64 * ty) (min d.hd (64 * ty + 64)) then m + 2 ^ i
    else m) 0)

/-- The front end writes the bitmaps of a draw's tiles that a tower owns (R289, R290). -/
def execBinBuild (s : State) : Host.Outcome State Fault Refusal :=
  let t := s.arg 0
  match s.draws.look (s.arg 1) with
  | none => done s
  | some d =>
    let a := d.agent t
    let finish (s : State) : State :=
      let g := s.gfxTower t
      let s := s.setGfx t { g with bins := g.bins ++ [s.arg 1] }
      (s.post 0 .pixelBargeClose [t]).post 0 .taskComplete [d.node]
    match s.agentRead a (wide56 d.bins) 64 with
    | .error e => done (s.drawFault d e)
    | .ok desc =>
      let s := s.fetches a (wide56 d.bins) 64
      let rootsVa := wide56 (field (dwordAt desc 6) 0 56)
      match s.agentRead a rootsVa (32 * (field (dwordAt desc 6) 56 8 + 1)) with
      | .error e => done (s.drawFault d e)
      | .ok roots =>
        let s := s.fetches a rootsVa (32 * (field (dwordAt desc 6) 56 8 + 1))
        let tw := ceilDiv d.wd 64
        let tiles := ((List.range (ceilDiv d.hd 64)).map fun ty => (List.range tw).filterMap fun tx =>
          if tileTower tx ty = t then some (tx, ty) else none).flatten
        let r := tiles.foldl (fun (acc : State × Option (BitVec 8 × Nat)) q =>
          match acc.2 with
          | some _ => acc
          | none =>
            acc.1.agentWrite a (wide56 (field (dwordAt desc 7) 0 56) + (q.2 * tw + q.1) * 32) (binBitmap d desc roots q.1 q.2))
          (s, none)
        match r.2 with
        | some e => done (r.1.drawFault d e)
        | none => done (finish r.1)

/-! ## The depth target -/

/-- Address of a pixel's stored depth. -/
def Draw.depthAt (d : Draw) (x y : Nat) : Nat := wide56 (surfaceAt d.zbase d.wd 4 x y)

/-- ZFUNC: does new z pass against the stored depth? A comparison with a NaN fails, but for ≠ and always. -/
def depthPasses (func : Nat) (new old : Exact) : Bool :=
  match func with
  | 0 => false
  | 1 => new.lt old
  | 2 => new.le old && old.le new
  | 3 => new.le old
  | 4 => old.lt new
  | 5 => !(new.le old && old.le new)
  | 6 => old.le new
  | _ => true

/-- Test a depth and store it under ZWRITE: the state and whether it passed, or a fault. -/
def State.depthTest (s : State) (t : Nat) (d : Draw) (x y : Nat) (z : Word) : Except (BitVec 8 × Nat) (State × Bool) :=
  if d.zbase = 0 then .ok (s, true)
  else
    match s.agentRead (d.agent t) (d.depthAt x y) 4 with
    | .error e => .error e
    | .ok old =>
      let s := s.fetches (d.agent t) (d.depthAt x y) 4
      if !depthPasses (drawField d.desc 0 14 3) (f32Of z) (Fmt.f32.value (leNat old)) then .ok (s, false)
      else if drawField d.desc 0 13 1 = 0 then .ok (s, true)
      else
        match s.agentWrite (d.agent t) (d.depthAt x y) (leBytes 4 z.toNat) with
        | (_, some e) => .error e
        | (s, none) => .ok (s, true)

/-! ## Order at a pixel (R294, R296, R297) -/

/-- Has every lower-numbered primitive that covers a pixel retired or been rejected? -/
def State.pixelFree (s : State) (t ctx x y code : Nat) : Bool :=
  (((s.gfxTower t).pendingPix.look (pixelKey ctx x y)).getD []).all fun c => decide (code ≤ c)

/-- A primitive has retired at a pixel, or been rejected there: what waits for it goes on. -/
def State.pixelDone (s : State) (t ctx x y code : Nat) : State :=
  let g := s.gfxTower t
  let k := pixelKey ctx x y
  let left := ((g.pendingPix.look k).getD []).filter fun c => decide (c ≠ code)
  let s := s.setGfx t { g with pendingPix := if left.isEmpty then g.pendingPix.cut k else g.pendingPix.put k left }
  let s := (g.retires.filter fun r => decide (r.2.2.2.x = x ∧ r.2.2.2.y = y)).foldl (fun s r =>
    s.postAt r.2.1 .pixelRetire [t, r.1]) s
  s.post 0 .earlyZTest [t]

/-- The front end tests the depth of the quads at the head, before they are shaded (R296). -/
def execEarlyZTest (s : State) : Host.Outcome State Fault Refusal :=
  let t := s.arg 0
  let g := s.gfxTower t
  match g.quads.find? fun q => ((s.draws.look q.2.1).map Draw.early).getD false && q.2.2.any fun x => x.covered && !x.earlyDone with
  | none => done s
  | some (ready, id, quad) =>
    match s.draws.look id with
    | none => done s
    | some d =>
      let free (x : Pixel) : Bool := !x.covered || s.pixelFree t d.ctx x.x x.y (pixelCode id x.seq)
      if s.now < ready || !(quad.all free) then done s
      else
        let r := quad.foldl (fun (acc : State × List Pixel × Option (BitVec 8 × Nat)) x =>
          if !x.covered then (acc.1, acc.2.1 ++ [x], acc.2.2)
          else
            match acc.1.depthTest t d x.x x.y x.depth with
            | .error e => (acc.1, acc.2.1 ++ [x], acc.2.2.or (some e))
            | .ok (s, true) => (s, acc.2.1 ++ [{ x with earlyDone := true }], acc.2.2)
            | .ok (s, false) =>
              (s.pixelDone t d.ctx x.x x.y (pixelCode id x.seq), acc.2.1 ++ [{ x with covered := false, earlyDone := true }],
               acc.2.2)) (s, [], none)
        match r.2.2 with
        | some e => done (r.1.drawFault d e)
        | none =>
          let s := r.1
          let g := s.gfxTower t
          -- a quad of which no pixel passes is not launched
          let swap (q : Nat × Nat × List Pixel) : Option (Nat × Nat × List Pixel) :=
            if q = (ready, id, quad) then (if r.2.1.any (·.covered) then some (ready, id, r.2.1) else none) else some q
          let s := s.setGfx t { g with quads := g.quads.filterMap swap }
          done (((s.post 0 .pixelBargeClose [t]).post 0 .earlyZTest [t]).post 0 .taskComplete [d.node])

/-! ## Pixel barges (R288, R291) -/

/-- Tile of a quad. -/
def quadTile (q : List Pixel) : Nat × Nat := ((q.headD {}).x / 64, (q.headD {}).y / 64)

/-- Close the open pixel barge of a tower. -/
def GfxTower.close (g : GfxTower) : GfxTower :=
  if g.openBarge.isEmpty then g else { g with closed := g.closed ++ [(g.openDraw, g.openBarge)], openBarge := [] }

/-- Pack the quads that stand at the head into pixel barges. -/
def State.packQuads (s : State) (t : Nat) : Nat → State
  | 0 => s
  | n + 1 =>
    let g := s.gfxTower t
    match g.quads with
    | [] => s
    | (ready, id, quad) :: rest =>
      let early := ((s.draws.look id).map Draw.early).getD false
      if s.now < ready || s.halted id || (early && quad.any fun x => x.covered && !x.earlyDone) then s
      else
        let other := g.openDraw ≠ id || quadTile g.openBarge ≠ quadTile quad
        let g := if other then g.close else g
        let since := if g.openBarge.isEmpty then s.now else g.openSince
        let g := { g with quads := rest, openDraw := id, openBarge := g.openBarge ++ quad, openSince := since }
        let s := if since = s.now then s.post 32 .pixelBargeClose [t] else s
        (s.setGfx t (if 32 ≤ g.openBarge.length then g.close else g)).packQuads t n

/-- The lane of pixel k of a closed barge: quads of four pixels, in the order of R291. -/
def pixelLanes (ps : List Pixel) : List Pixel := ps ++ List.replicate (32 - ps.length) ({} : Pixel)

/-- Put a pixel barge on a core: a workgroup of one barge. Its WGID is not stated (log 34). -/
def State.putPixels (s : State) (id : Nat) (d : Draw) (n : Node) (core slot base : Nat) (ps : List Pixel) : State :=
  let k := d.pixel
  let (wg, s) := s.fresh
  let (w, s) := s.free
  let word : List Word := [w.extractLsb' 0 32, w.extractLsb' 32 32, w.extractLsb' 16 32]
  let on := maskOf fun i => decide (i < ps.length)
  let lanes := pixelLanes ps
  let v0 : Sparse 32 := ps.zipIdx.foldl (fun v p =>
    ((((v : Sparse 32).set p.2 (BitVec.ofNat 32 p.1.x)).set (32 + p.2) (BitVec.ofNat 32 p.1.y)).set (64 + p.2) p.1.depth).set
      (96 + p.2) (BitVec.ofNat 32 p.1.seq)) []
  let b : Barge :=
    { ctx := d.ctx, node := d.node, wg, number := 0, laneWg := List.replicate 32 wg, regs := k.regs, reachOk := k.reachOk,
      gfx := true, pixelProgram := true, wgid := List.replicate 32 word
      pcs := List.replicate 32 (BitVec.ofNat 64 (wide56 k.entry)), running := on, exited := ~~~on
      waitAt := List.replicate 32 0, fctl := k.fctl, tag := d.label, blocked := true, v := v0
      preds := (maskOf fun i => (lanes.getD i ({} : Pixel)).covered) :: List.replicate 7 0, pixels := lanes }
  let x : Workgroup :=
    { ctx := d.ctx, node := d.node, index := n.count, core, slots := [slot], regs := k.regs, x := 0, y := 0, z := 0,
      localBase := base, localSize := k.localSize, perf := k.perf, threads := ps.length, barriers := freshBarriers 16 1 }
  let s := (({ s with wgs := s.wgs.put wg x }).tileFor core d.ctx).setBarge core slot b
  let s := s.onNode d.node fun n => { n with cores := if n.cores.contains core then n.cores else n.cores ++ [core] }
  let _ := id
  ((s.countAuto (clusterOf core)).kickFreq (clusterOf core)).post 48 .workgroupStart [wg]

/-- Place the closed pixel barges of a tower in order, as long as a core of it has room (R288). -/
def State.placePixels (s : State) (t : Nat) : Nat → State
  | 0 => s
  | n + 1 =>
    let g := s.gfxTower t
    match g.closed with
    | [] => s
    | (id, ps) :: rest =>
      match s.draws.look id with
      | none => (s.setGfx t { g with closed := rest }).placePixels t n
      | some d =>
        if d.bins ≠ 0 && !g.bins.contains id then s
        else
          match s.autoCore d.ctx 1 d.pixel.regs d.pixel.localSize ((List.range 48).map (48 * t + ·)) with
          | none => s
          | some c =>
            match s.room c 1 d.pixel.regs d.pixel.localSize, s.nodes.look d.node with
            | some (slot :: _, base), some node =>
              ((s.setGfx t { g with closed := rest }).putPixels id d node c slot base ps).placePixels t n
            | _, _ => s

/-- Quads are packed, a pixel barge closes, and closed ones are placed; those without room wait for the next hub cycle
(R288). -/
def execPixelBargeClose (s : State) : Host.Outcome State Fault Refusal :=
  let t := s.arg 0
  let s := s.packQuads t ((s.gfxTower t).quads.length + 1)
  let g := s.gfxTower t
  let s := if !g.openBarge.isEmpty && decide (g.openSince + 32 ≤ s.now) then s.setGfx t g.close else s
  let s := s.placePixels t ((s.gfxTower t).closed.length + 1)
  let waits := (s.gfxTower t).closed
  let later := s.agenda.any fun e => e.2.what == .pixelBargeClose && decide (e.2.args = [t]) && decide (s.now < e.1)
  done (if waits.isEmpty || later then s else s.postAt (ofHubCycle (hubCycle s.now + 1)) .pixelBargeClose [t])

/-! ## Retirement (R294, R295) -/

/-- The blend of an exported pixel into one target, with its fault, of which nothing is written. -/
def State.blendTarget (s : State) (t : Nat) (d : Draw) (x : Pixel) (n : Nat) : State × Option (BitVec 8 × Nat) :=
  let (fmt, mask, base, blend) := drawTarget d.desc n
  match x.exports.look n with
  | none => (s, none)
  | some words =>
    let comps := (surfaceComps fmt).length
    if fmt = 0 || mask % 2 ^ comps = 0 then (s, none)
    else
      let bytes := surfaceBytes fmt
      let va := wide56 (surfaceAt base d.wd bytes x.x x.y)
      let whole := decide (mask % 2 ^ comps = 2 ^ comps - 1) && decide (blend = 0)
      match (if whole then .ok [] else s.agentRead (d.agent t) va bytes) with
      | .error e => (s, some e)
      | .ok old =>
        let s := if whole then s else s.fetches (d.agent t) va bytes
        s.agentWrite (d.agent t) va (leBytes bytes (blendElement fmt mask blend (leNat old) words))

/-- Bytes that the blender writes for an exported pixel (R288). -/
def Draw.blendBytes (d : Draw) (x : Pixel) : Nat :=
  ([0, 1, 2, 3].map fun n =>
    let (fmt, mask, _, _) := drawTarget d.desc n
    if (x.exports.look n).isNone || fmt = 0 || mask % 2 ^ (surfaceComps fmt).length = 0 then 0 else surfaceBytes fmt).sum

/-- A covered pixel retires in its turn: depth test, then its targets (R294). The blender writes 128 pixels of 32 bits in a
cycle; one beyond them waits for the next (R288). -/
def execPixelRetire (s : State) : Host.Outcome State Fault Refusal :=
  let t := s.arg 0
  let id := s.arg 1
  let g := s.gfxTower t
  match g.retires.look id with
  | none => done s
  | some (due, draw, x) =>
    match s.draws.look draw with
    | none => done (s.setGfx t { g with retires := g.retires.cut id })
    | some d =>
      let code := pixelCode draw x.seq
      let used := if g.blendAt = s.now then g.blended else 0
      if s.now < due || !s.pixelFree t d.ctx x.x x.y code then done s
      else
        let z := ((x.exports.look 4).map fun l => l.headD 0).getD x.depth
        let out := s.setGfx t { g with retires := g.retires.cut id }
        let retired (s : State) : State := (s.pixelDone t d.ctx x.x x.y code).post 0 .taskComplete [d.node]
        match (if d.early then .ok (out, true) else out.depthTest t d x.x x.y z) with
        | .error e => done (out.drawFault d e)
        -- a rejected pixel is not written, and takes nothing of the rate
        | .ok (s, false) => done (retired s)
        | .ok (u, true) =>
          if used ≠ 0 && decide (512 < used + d.blendBytes x) then done (s.post 1 .pixelRetire [t, id])
          else
            let s := u.setGfx t { u.gfxTower t with blendAt := u.now, blended := used + d.blendBytes x }
            -- what is written before a write that faults stays (R298)
            let r := [0, 1, 2, 3].foldl (fun (acc : State × Option (BitVec 8 × Nat)) n =>
              match acc.2 with
              | some _ => acc
              | none => acc.1.blendTarget t d x n) (s, none)
            match r.2 with
            | some e => done (r.1.drawFault d e)
            | none => done (retired r.1)

/-! ## PEXPORT, ATTR, ZQUERY (R292, R293, R297) -/

/-- What the words of a pixel barge share (R298). -/
def pixelShape : Shape := { noReformed := true }

/-- Words that PEXPORT reads for a target (R293). -/
def exportWords (t : BitVec 7) : Nat := if t = 4 then 1 else 4

/-- What the checks and the scoreboard see of PEXPORT (R293). -/
def shapePexport (t a : BitVec 7) (p : BitVec 1) : Shape :=
  { pixelShape with noHandler := true, srcs := fun _ => [regs a (exportWords t) p] }

/-- PEXPORT (R293). -/
def execPexport (t a : BitVec 7) (p : BitVec 1) (s : State) : Host.Outcome State Fault Refusal :=
  issueWord (shapePexport t a p) s fun g s =>
    if g.active = 0 then g.finish g.b s
    else if !g.b.pixelProgram then g.trap { cause := 0x0E } s
    else
      match s.drawOf g.b with
      | none => g.finish g.b s
      | some (_, d) =>
        let dropped := if t = 4 then d.early else decide ((drawTarget d.desc t.toNat).1 = 0)
        let value (i : Nat) : List Word :=
          if t = 4 then
            let x := f32Of ((g.val 0).w32 i)
            [if x.isNan then 0 else f32Code .rn (x.clamp (.zero false) exactOne)]
          else (List.range 4).map ((g.val 0).word i)
        let give (x : Pixel) (i : Nat) : Pixel :=
          if !dropped && laneOn g.active i && x.covered then { x with exports := x.exports.put t.toNat (value i) } else x
        g.finish { g.b with pixels := g.b.pixels.mapIdx fun i x => give x i } s

/-- What the checks and the scoreboard see of ATTR (R292). -/
def shapeAttr (d : BitVec 7) : Shape :=
  { pixelShape with
      mod := true, modOk := { aux := [0, 1] }, dsts := fun _ => [{ spec := d }], captured := true, holds := memHolds }

/-- ATTR (R292). -/
def execAttr (d k : BitVec 7) (s : State) : Host.Outcome State Fault Refusal :=
  issueWord (shapeAttr d) s
    fun g s =>
      if g.active = 0 then g.finish g.b s
      else if !g.b.pixelProgram then g.trap { cause := 0x0E } s
      else
        match s.drawOf g.b with
        | none => g.trap { cause := 0x0E } s
        | some (_, x) =>
          let nattr := drawField x.desc 0 19 5
          if nattr ≤ k.toNat then g.trap { cause := 0x0F } s
          else
            let flat := g.pre.aux = 1
            let base := wide56 (drawField x.desc 2 0 56)
            let accs := ((lanesIn g.active).map fun i =>
              (List.range (if flat then 1 else 3)).map fun j =>
                ({ lane := i, size := 4
                   va := (base + ((3 * (g.b.pixels.getD i {}).prim + j) * nattr + k.toNat) * 4) % 2 ^ 64 } : LaneAcc)).flatten
            g.launch (g.b.markEmpty g.active { spec := d, words := 1 })
              { g.flight s .attr accs with dst := d, words := 1 } s

/-- The interpolated attribute at a lane (R292). -/
def interpolate (x : Pixel) (a : Nat → Word) : Word :=
  let js := [0, 1, 2].filter fun j => decide (x.lambda.getD j 0 ≠ 0)
  let value (j : Nat) : Exact := f32Of (a j)
  let w (j : Nat) : Exact := f32Of (x.invW.getD j 0)
  let nans := js.any fun j => (value j).isNan
  let up := js.any fun j => (value j).isInf && !(value j).signBit
  let down := js.any fun j => (value j).isInf && (value j).signBit
  if nans || (up && down) then 0x7FC00000
  else if up then 0x7F800000
  else if down then 0xFF800000
  else
    -- each term times the product of the finite w
    let fin := js.filter fun j => (w j).finite
    let coef (j : Nat) : Exact :=
      if (w j).finite then
        (fin.filter fun i => decide (i ≠ j)).foldl (fun acc i => Exact.mul acc (w i)) (Exact.ofInt (x.lambda.getD j 0))
      else .zero false
    let sum (f : Nat → Exact) : Exact := Exact.sum .rn (js.map f)
    f32Code .rn (Exact.div (sum fun j => Exact.mul (coef j) (value j)) (sum coef))

/-- The attributes of a word have been read: the result of each lane, full 8 cycles later (R292). -/
def State.attrReady (s : State) (id : Nat) (f : Flight) : State :=
  match s.barge f.core f.slot with
  | none => { s with flights := s.flights.cut id }
  | some b =>
    let result : List (List Word) := (List.range 32).map fun i =>
      let mine := f.accs.filter fun a => decide (a.lane = i)
      let word (j : Nat) : Word := (mine[j]?.map fun a => BitVec.ofNat 32 (leNat a.bytes)).getD 0
      if mine.isEmpty then [] else if mine.length = 1 then [word 0] else [interpolate (b.pixels.getD i {}) word]
    (s.setFlight id { f with tag := 1, result }).post 8 .registerFill [id]

/-- What the checks and the scoreboard see of ZQUERY (R297). -/
def shapeZquery (d : BitVec 7) : Shape :=
  { pixelShape with dsts := fun _ => [{ spec := d }], captured := true }

/-- ZQUERY (R297). -/
def execZquery (d : BitVec 7) (s : State) : Host.Outcome State Fault Refusal :=
  issueWord (shapeZquery d) s fun g s =>
    if g.active = 0 then g.finish g.b s
    else if !g.b.pixelProgram then g.trap { cause := 0x0E } s
    else
      let (id, s) := s.fresh
      let f := { g.flight s .zquery [] with translating := false, sent := true, dst := d, words := 1 }
      (g.finish (g.b.markEmpty g.active { spec := d, words := 1 }) (s.setFlight id f)).post 40 .registerFill [id]

/-- ZQUERY's answer: the stored depths once every lower-numbered retire has been applied (R297). -/
def State.zqueryReady (s : State) (id : Nat) (f : Flight) : State :=
  match s.barge f.core f.slot with
  | none => { s with flights := s.flights.cut id }
  | some b =>
    match s.drawOf b with
    | none => { s with flights := s.flights.cut id }
    | some (k, d) =>
      let t := towerOf f.core
      let lanes := lanesIn f.entry.lanes
      let px (i : Nat) : Pixel := b.pixels.getD i {}
      if !(lanes.all fun i => s.pixelFree t d.ctx (px i).x (px i).y (pixelCode k (px i).seq)) then s.post 1 .registerFill [id]
      else
        let read (i : Nat) : Except (BitVec 8 × Nat) Word :=
          if d.zbase = 0 then .ok 0x3F800000
          else match s.agentRead (d.agent t) (d.depthAt (px i).x (px i).y) 4 with
            | .error e => .error e
            | .ok bs => .ok (BitVec.ofNat 32 (leNat bs))
        match lanes.findSome? fun i => match read i with
          | .error e => some (i, e)
          | .ok _ => none with
        | some (i, e) => s.flightTrap id f { cause := e.1, lanes := 1#32 <<< i, va := BitVec.ofNat 64 e.2 } 0
        | none =>
          let result : List (List Word) := (List.range 32).map fun i => match read i with
            | .ok w => [w]
            | .error _ => []
          (s.setFlight id { f with tag := 1, result }).post 0 .registerFill [id]

/-! ## Scan-out (R381) -/

/-- What a head that runs frames drives for a pixel of its active picture: the element of the surface presented, read at its
virtual address through the context that queued the flip, with the pitch of R283; black until a flip has been presented; none
where the element cannot be read. -/
def State.scanPixel (s : State) (h col row : Nat) : Option (List Byte) :=
  let x := (s.hub.heads.look h).getD {}
  match x.running, x.shown with
  | some (_, hact, _, _, _, fmt), some (ctx, surface) =>
    let n := surfaceBytes fmt.toNat
    (s.agentRead { core := 0, ctx, rank := some hubRank } (surfaceAt surface (hact.toNat + 1) n col row) n).toOption
  | some (_, _, _, _, _, fmt), none => some (List.replicate (surfaceBytes fmt.toNat) 0)
  | none, _ => none

end Sys2Proof.Machine
end

