-- ==== Sys2Proof/Machine/Texture.lean ====
section
/-!
DEFINITION. Textures (R299 to R302): descriptors, level of detail, wrapping, footprints and filters, and the words SAMPLE,
SAMPLEL and SAMPLEG.
-/
namespace Sys2Proof.Machine
open Sys2Proof

/-! ## Descriptors (R299) -/

/-- A texture descriptor's fields. -/
structure Texture where
  base : Nat
  fmt : Nat
  levels : Nat
  w : Nat
  h : Nat
  wrapU : Nat
  wrapV : Nat
  magLinear : Bool
  minLinear : Bool
  mip : Bool

/-- Read a descriptor. -/
def Texture.ofBytes (bs : List Byte) : Texture where
  base := field (dwordAt' bs 0) 0 56
  fmt := field (dwordAt' bs 0) 56 4
  levels := field (dwordAt' bs 0) 60 4 + 1
  w := field (dwordAt' bs 1) 0 14 + 1
  h := field (dwordAt' bs 1) 16 14 + 1
  wrapU := field (dwordAt' bs 1) 32 2
  wrapV := field (dwordAt' bs 1) 34 2
  magLinear := field (dwordAt' bs 1) 36 1 == 1
  minLinear := field (dwordAt' bs 1) 37 1 == 1
  mip := field (dwordAt' bs 1) 38 1 == 1
where
  /-- Dword k. -/
  dwordAt' (bs : List Byte) (k : Nat) : Nat := bytesAt bs (8 * k) 8

/-- Does a descriptor keep R299? -/
def textureOk (bs : List Byte) : Bool :=
  let t := Texture.ofBytes bs
  let d1 := bytesAt bs 8 8
  decide (1 ≤ t.fmt ∧ t.fmt ≤ 9) && decide (t.base % 256 = 0) && decide (field d1 14 2 = 0 ∧ field d1 30 2 = 0 ∧ field d1 39 25 = 0)
    && decide (bytesAt bs 16 8 = 0 ∧ bytesAt bs 24 8 = 0)
    && decide (t.levels - 1 ≤ (max t.w t.h).log2) && !(surfaceInt t.fmt && (t.magLinear || t.minLinear || t.mip))

/-- Width and height of a level. -/
def Texture.size (t : Texture) (l : Nat) : Nat × Nat := (max 1 (t.w / 2 ^ l), max 1 (t.h / 2 ^ l))

/-- First address of a level. -/
def Texture.levelBase (t : Texture) : Nat → Nat
  | 0 => t.base
  | l + 1 => t.levelBase l + surfacePitch (t.size l).1 (surfaceBytes t.fmt) * (t.size l).2

/-! ## Level of detail (R301), in 1/256 -/

/-- Stands for an infinite level. -/
def lodInf : Int := 2 ^ 40

/-- log₂ of the root of a positive S = m·2^e, to the nearest 1/256: S^256 decides. -/
def lodOf (m : Nat) (e : Int) : Int := ((((m ^ 256).log2 : Nat) : Int) + 256 * e + 1) / 2

/-- λ from the squared lengths of the two derivatives; a NaN counts as 0. -/
def lodSquares (a b : Exact) : Int :=
  if a.isNan || b.isNan then 0
  else
    match a.max b with
    | .mag _ m e _ => lodOf m e
    | .inf _ => lodInf
    | _ => -lodInf

/-- λ of a quad from u and v of its first three lanes. -/
def lodQuad (t : Texture) (u v : Nat → Exact) : Int :=
  let len (j : Nat) : Exact :=
    let x := Exact.mul ((u j).sub (u 0)) (Exact.ofInt (t.w : Int))
    let y := Exact.mul ((v j).sub (v 0)) (Exact.ofInt (t.h : Int))
    Exact.add .rn (Exact.mul x x) (Exact.mul y y)
  lodSquares (len 1) (len 2)

/-- λ from a register (SAMPLEL). -/
def lodExplicit (c : Exact) : Int :=
  match c with
  | .nan _ => 0
  | .inf n => if n then -lodInf else lodInf
  | x => (roundInt .rn (Exact.mul x (.mag false 1 8 false))).1

/-! ## Footprints (R300) -/

/-- floor of a finite value. -/
def Exact.floor (x : Exact) : Int := (roundInt .rm x).1

/-- Wrap a texel index; none is the zero border. -/
def wrapIndex (mode n : Nat) (i : Int) : Option Nat :=
  match mode with
  | 0 => some (i % (n : Int)).toNat
  | 1 => some (max 0 (min i (n - 1 : Int))).toNat
  | 2 =>
    let m := (i % (2 * n : Int)).toNat
    some (if m < n then m else 2 * n - 1 - m)
  | _ => if 0 ≤ i ∧ i < n then some i.toNat else none

/-- A texel of a footprint: its address, or none for the border, and its weight. -/
structure Texel where
  va : Option Nat
  weight : Nat

/-- The texel at wrapped indices of a level. -/
def Texture.texel (t : Texture) (l : Nat) (i j : Int) (weight : Nat) : Texel :=
  let (w, h) := t.size l
  match wrapIndex t.wrapU w i, wrapIndex t.wrapV h j with
  | some x, some y => { va := some (surfaceAt (t.levelBase l) w (surfaceBytes t.fmt) x y), weight }
  | _, _ => { va := none, weight }

/-- A coordinate scaled to a level. A coordinate that is not finite names no texel: `open_` takes its place. -/
def texelCoord (x open_ : Exact) (n : Nat) : Exact := Exact.mul (if x.finite then x else open_) (Exact.ofInt (n : Int))

/-- The linear footprint of a level: i0, j0 and the two fractions in 1/256. -/
def linearAt (x y : Exact) : Int × Int × Nat × Nat :=
  let half : Exact := .mag true 1 (-1) false
  let part (x : Exact) : Int × Nat :=
    let z := Exact.add .rn x half
    (z.floor, (roundInt .rn (Exact.mul (z.sub (Exact.ofInt z.floor)) (.mag false 1 8 false))).1.toNat)
  ((part x).1, (part y).1, (part x).2, (part y).2)

/-- The footprint of a level under a filter, its weights times a share of 256. -/
def Texture.footprint (t : Texture) (l : Nat) (linear : Bool) (u v ou ov : Exact) (share : Nat) : List Texel :=
  let (w, h) := t.size l
  let x := texelCoord u ou w
  let y := texelCoord v ov h
  if linear then
    let (i0, j0, fa, fb) := linearAt x y
    [t.texel l i0 j0 ((256 - fa) * (256 - fb) * share), t.texel l (i0 + 1) j0 (fa * (256 - fb) * share),
     t.texel l i0 (j0 + 1) ((256 - fa) * fb * share), t.texel l (i0 + 1) (j0 + 1) (fa * fb * share)]
  else [t.texel l x.floor y.floor (65536 * share)]

/-- λ within the levels, in 1/256. -/
def Texture.clamped (t : Texture) (lod : Int) : Nat := (max 0 (min lod (256 * (t.levels - 1 : Nat) : Int))).toNat

/-- The texels of a sample at a level of detail; weights sum to 2^24. With MIP linear the next level is always read, with the weight
0 too (R301). -/
def Texture.sample (t : Texture) (lod : Int) (u v ou ov : Exact) : List Texel :=
  let linear := if lod ≤ 0 then t.magLinear else t.minLinear
  let k := t.clamped lod
  if t.mip then
    let l := k / 256
    let f := k % 256
    t.footprint l linear u v ou ov (256 - f) ++ t.footprint (min (l + 1) (t.levels - 1)) linear u v ou ov f
  else t.footprint ((k + 128) / 256) linear u v ou ov 256

/-- The four texels of SAMPLEG in the order of d, d + 1, d + 2, d + 3. -/
def Texture.gather (t : Texture) (u v ou ov : Exact) : List Texel :=
  match t.footprint 0 true u v ou ov 256 with
  | [a, b, c, d] => [c, d, b, a]
  | l => l

/-- Components of the weighted sum of some texels, with the +0 terms of the zero border where some lie there (R60), or of one texel of
an integer format (R300). -/
def filterTexels (fmt : Nat) (border : Bool) (texels : List (Nat × Nat)) : List Word :=
  if surfaceInt fmt then
    match texels with
    | (e, _) :: _ => [BitVec.ofNat 32 e, 0, 0, 1]
    | [] => [0, 0, 0, 0]
  else
    (List.range 4).map fun c =>
      f32Code .rn (Exact.sum .rn ((if border then [.zero false] else [])
        ++ texels.map fun x => Exact.mul (.ofMag false x.2 (-24) false) (surfaceComp fmt x.1 c)))

/-- Component c of a texel as SAMPLEG returns it. -/
def gatherComp (fmt c element : Nat) : Word :=
  if surfaceInt fmt then (if c = 0 then BitVec.ofNat 32 element else if c = 3 then 1 else 0)
  else f32Code .rn (surfaceComp fmt element c)

/-! ## The words -/

/-- Lanes of the quads of a mask. -/
def quadLanes (m : Mask) : Mask := maskOf fun i => (List.range 4).any fun k => laneOn m (i / 4 * 4 + k)

/-- What the checks and the scoreboard see of the sampling words (R301, R302). -/
def shapeSampleWord (which : Nat) (d a b : BitVec 7) (p q : BitVec 1) : Shape :=
  { mod := true, extra := if which = 1 then .third else .none, needOpd := which == 1, fieldsOk := fun _ => pairOk b,
      modOk := { hint := [0, 1, 2, 3], aux := if which = 2 then [0, 1, 2, 3] else [0] },
      srcs := fun x => [regs a 2 p, regs b 2 q] ++ (if which = 1 then [thirdSrc x 1] else []),
      reads := fun _ _ active l =>
        match l with
        | h :: r => if which = 0 then { h with lanes := some (quadLanes active) } :: r else h :: r
        | [] => [],
      dsts := fun _ => [{ spec := d, words := 4 }], captured := true, holds := memHolds }

/-- λ of a lane (R301). -/
def Flight.lod (f : Flight) (i : Nat) (t : Texture) : Int :=
  let word (lane k : Nat) : Exact := f32Of ((f.entry.vectors.getD lane []).getD k 0)
  if f.order = 0 then lodQuad t (fun j => word (i / 4 * 4 + j) 0) (fun j => word (i / 4 * 4 + j) 1)
  else lodExplicit (f32Of ((f.result.getD i []).getD 0 0))

/-- The texels of a lane, from its descriptor; a coordinate that names no texel is a free value. -/
def Flight.texels (f : Flight) (i : Nat) (t : Texture) : List Texel :=
  let word (k : Nat) : Exact := f32Of ((f.entry.vectors.getD i []).getD k 0)
  let free (k : Nat) : Exact :=
    .ofMag false ((Config.freeValue (f.slots.headD 0 + 2 * i + k)).toNat % 2 ^ 32) (-16) false
  if f.order = 2 then t.gather (word 0) (word 1) (free 0) (free 1)
  else t.sample (f.lod i t) (word 0) (word 1) (free 0) (free 1)

/-- Does a lane blend two levels (DEDUCED, log 112)? -/
def Flight.blends (f : Flight) (i : Nat) (t : Texture) : Bool :=
  decide (f.order ≠ 2) && t.mip && decide (t.clamped (f.lod i t) % 256 ≠ 0)

/-- The accesses of a lane's texels. Each keeps its format, its weight and its place in the footprint (R299, R302). -/
def Flight.texelAccs (f : Flight) (i : Nat) (t : Texture) : List LaneAcc :=
  ((f.texels i t).zipIdx.filterMap fun x => x.1.va.map fun va =>
    ({ lane := i, va := wide56 va, size := surfaceBytes t.fmt, data := leBytes 4 x.1.weight
       compare := [BitVec.ofNat 8 t.fmt, BitVec.ofNat 8 x.2] } : LaneAcc))

/-- What a load of a barge would read of 32 bytes in this cycle: the core's L1 over the home; none where it cannot. -/
def State.foresee (s : State) (a : Agent) (va : Nat) : Option (List Byte) :=
  match s.agentLeaf a va 32 false with
  | .error _ => none
  | .ok l =>
    let way := ((s.core a.core).set (l1Index va)).find (l.tag va a.ctx a.label)
    let sector := (way.bind fun w => w.2.sectors[sectorOf va]?).getD {}
    let near (k : Nat) : Option Byte := if sector.serves (va % 64 + k) then sector.bytes[va % 64 + k]? else none
    some ((s.readView (l.who a.ctx a.label a.chunk) l va 32).zipIdx.map fun p => (near p.2).getD p.1)

/-- The accesses of a sampling word, lane by lane: its descriptor, and the texels that the descriptor names as it stands, so that one
load covers them all (R302; DEDUCED, log 113). A barge with a write under way reads its descriptors first. -/
def Flight.sampleAccs (f : Flight) (s : State) (descs : List LaneAcc) : List LaneAcc :=
  let a : Agent := { core := f.core, ctx := f.ctx, label := f.label, chunk := f.chunk }
  let writes := s.flights.any fun g => decide (g.2.core = f.core ∧ g.2.slot = f.slot) && g.2.isWrite
  descs.flatMap fun d =>
    match (if writes || d.va % 32 ≠ 0 then none else s.foresee a d.va) with
    | some bs => d :: if textureOk bs then f.texelAccs d.lane (Texture.ofBytes bs) else []
    | none => [d]

/-- SAMPLE (0), SAMPLEL (1) and SAMPLEG (2) (R301, R302). -/
def sampleWord (which : Nat) (d a b : BitVec 7) (p q : BitVec 1) (s : State) : Host.Outcome State Fault Refusal :=
  issueWord (shapeSampleWord which d a b p q) s
    fun g s =>
      if g.active = 0 then g.finish g.b s
      else
        let descs := (lanesIn g.active).map fun i => ({ lane := i, va := ((g.val 1).w64 i).toNat, size := 32 } : LaneAcc)
        let level : List (List Word) := (List.range 32).map fun i => if which = 1 then [(g.val 2).w32 i] else []
        let f := { g.flight s .sample [] with
          dst := d, words := 4, hint := g.pre.hint, alignTo := 32, order := which, scope := g.pre.aux, result := level
          slots := [s.freeIdx] }
        g.launch (g.b.markEmpty g.active { spec := d, words := 4 }) { f with accs := f.sampleAccs s descs }
          { s with freeIdx := s.freeIdx + 64 }

/-- SAMPLE (R301). -/
def execSample (d a b : BitVec 7) (p q : BitVec 1) (s : State) : Host.Outcome State Fault Refusal := sampleWord 0 d a b p q s
/-- SAMPLEL (R301). -/
def execSamplel (d a b : BitVec 7) (p q : BitVec 1) (s : State) : Host.Outcome State Fault Refusal := sampleWord 1 d a b p q s
/-- SAMPLEG (R301). -/
def execSampleg (d a b : BitVec 7) (p q : BitVec 1) (s : State) : Host.Outcome State Fault Refusal := sampleWord 2 d a b p q s

/-- The descriptors of a word have come: the first bad one traps SAMPLER_DESC. The texels they name have come with them, or are read
now as loads of their lanes (R299, R302). Of each lane it is kept whether texels lie in the zero border. -/
def State.readTexels (s : State) (id : Nat) (f : Flight) : State :=
  let descs := f.accs.filter fun a => a.compare.isEmpty
  match descs.filter fun a => !textureOk a.bytes with
  | a :: rest =>
    s.flightTrap id f { cause := 0x54, lanes := maskOf fun i => (a :: rest).any fun c => decide (c.lane = i),
                        va := BitVec.ofNat 64 a.va } 0
  | [] =>
    let tex (d : LaneAcc) : Texture := Texture.ofBytes d.bytes
    let want := descs.flatMap fun d => f.texelAccs d.lane (tex d)
    let have_ := f.accs.filter fun a => !a.compare.isEmpty
    let same := have_.map (fun a => (a.lane, a.va, a.size, a.data, a.compare))
      == want.map fun a => (a.lane, a.va, a.size, a.data, a.compare)
    let two := descs.any fun d => f.blends d.lane (tex d)
    let border : List (List Word) := (List.range 32).map fun i =>
      if descs.any fun d => decide (d.lane = i) && (f.texels i (tex d)).any fun x => x.va.isNone then [1] else []
    let f := { f with tag := 1, width := ceilDiv descs.length 4 * (if two then 2 else 1), result := border }
    if same then (s.setFlight id { f with accs := have_ }).post 0 .registerFill [id]
    else
      let f := { f with accs := want, translating := true, checked := false, sent := false, pending := [] }
      (s.setFlight id f).pump f.core

/-- The result of a lane from its texels. -/
def Flight.filtered (f : Flight) (i : Nat) : List Word :=
  let mine := f.accs.filter fun a => decide (a.lane = i)
  let fmt := ((mine.head?.map fun (a : LaneAcc) => a.compare.headD 0).getD 0).toNat
  if f.order = 2 then
    (List.range 4).map fun k =>
      match mine.find? fun a => decide ((a.compare.getD 1 0).toNat = k) with
      | some a => gatherComp fmt f.scope (leNat a.bytes)
      | none => 0
  else filterTexels fmt (!(f.result.getD i []).isEmpty) (mine.map fun a => (leNat a.bytes, leNat a.data))

/-- The texels of a word have come: it takes its turn in the samplers (R302). -/
def State.enterSamplers (s : State) (id : Nat) (f : Flight) : State :=
  let c := s.core f.core
  let start := max s.now c.sampleBusy
  let s := s.setCore f.core { c with sampleBusy := start + f.width }
  let result : List (List Word) := (List.range 32).map fun i => if laneOn f.entry.lanes i then f.filtered i else []
  (s.setFlight id { f with tag := 2, result }).postAt (start + f.width + 8) .registerFill [id]

end Sys2Proof.Machine
end

