-- ==== Sys2Proof/Machine/Fill.lean ====
section
/-!
DEFINITION. Write-back: the fill of an empty destination (R25, R193), with the poison, the flags and the causes that are
found there (R71, R194, R321).
-/
namespace Sys2Proof.Machine
open Sys2Proof

/-- Does a word read memory whose poison traps it (R194)? An ATOM meets its own (R321). -/
def Flight.trapsPoison (f : Flight) : Bool :=
  match f.kind with
  | .atom _ _ _ => false
  | .mma => false
  | _ => true

/-- The trap of poisoned data: the lowest lane and its own address, which in local memory counts from its workgroup's
allocation, and in the pooled scratchpad is the pooled address (R120, R194). -/
def State.poisonCause (s : State) (f : Flight) (cause : BitVec 8) : Option Cause :=
  match f.accs.filter (·.poison) with
  | [] => none
  | a :: rest =>
    let va := match f.space, placeOf a.va with
      | .loc, _ => a.va - (((s.barge f.core f.slot).bind fun b => s.localRange f.core b a.lane).map (·.1)).getD 0
      | .pooled, .aperture n o => pooledName s n o
      | _, _ => a.va
    some { cause, lanes := maskOf fun i => (a :: rest).any fun c => decide (c.lane = i), va := BitVec.ofNat 64 va }

/-- Is what a word has read still to be worked on before its destination is filled? -/
def Flight.unworked (f : Flight) : Bool :=
  match f.kind with
  | .box => f.tag == 0
  | .tri => f.tag == 0
  | .attr => f.tag == 0
  | .zquery => f.tag == 0
  | .sample => decide (f.tag < 2)
  | .mma => true
  | _ => false

/-- Does a word of a lower barge slot, whose data is ready in the same cycle, go first at the unit that both need (R280,
R302)? -/
def State.unitTaken (s : State) (id : Nat) (f : Flight) : Bool :=
  let tests : Bool := decide (f.kind = .box ∨ f.kind = .tri) || (decide (f.kind = .sample) && f.tag == 1)
  tests && s.agenda.any fun (e : Nat × Event) => decide (e.1 ≤ s.now) && e.2.what == .registerFill
    && match s.flights.look (e.2.args.headD 0) with
       | some g => decide (e.2.args ≠ [id]) && decide (g.core = f.core ∧ g.kind = f.kind ∧ g.tag = f.tag ∧ g.slot < f.slot)
       | none => false

/-- Hand a word's data to the unit that works on it. -/
def State.workOn (s : State) (id : Nat) (f : Flight) : State :=
  match f.kind with
  | .box => match f.malformed boxBad with
    | some c => s.flightTrap id f c 0
    | none => s.enterTesters id f
  | .tri => match f.malformed triBad with
    | some c => s.flightTrap id f c 0
    | none => s.enterTesters id f
  | .attr => s.attrReady id f
  | .zquery => s.zqueryReady id f
  | .sample => if f.tag = 0 then s.readTexels id f else s.enterSamplers id f
  | .mma => s.mmaFetched id f
  | _ => s

/-- The words of a lane that a fill writes. -/
def Flight.laneWords (f : Flight) (i : Nat) : List Word :=
  let computed := f.result.getD i []
  match f.kind with
  | .unit => computed
  | .csr => computed
  | .box => computed
  | .tri => computed
  | .attr => computed
  | .zquery => computed
  | .sample => computed
  | _ => match f.accs.find? fun a => decide (a.lane = i) with
    | some a => a.loaded f.words f.width f.signed
    | none => computed

/-- The destination is written and full, and the barge goes on where the word held it. -/
def State.writeBack (s : State) (id : Nat) (f : Flight) : State :=
  let d : Dst := { spec := f.dst, words := f.words }
  let s := s.onBarge f.core f.slot fun b =>
    let b := if f.words = 0 then b else (b.write f.entry.lanes d f.laneWords).markFull f.entry.lanes d
    let b := if f.flags = {} then b else { b with raised := b.raised ++ [(s.now, f.flags)] }
    let held := f.blocks || (match f.kind with
      | .atom _ _ _ => true
      | _ => false)
    let b := if held then { b with blocked := false, wait := .none, readyAt := max b.readyAt s.now, eligibleSince := s.now } else b
    { b with memWait := b.memWait.filter fun k => decide (k ≠ id) }
  let s := { s with flights := s.flights.cut id }
  let s := if f.acquire then s.l1Invalidate f.core fun t => decide (t.kind = 1) else s
  (s.settle id).wake f.core

/-- REGISTER_FILL (R25): a producer's result reaches write-back. -/
def execRegisterFill (s : State) : Host.Outcome State Fault Refusal :=
  let id := s.arg 0
  match s.flights.look id with
  | none => done s
  | some f =>
    -- of a sampling word's data, the descriptors come first (R302)
    let seen := if f.kind = .sample && f.tag = 0 then { f with accs := f.accs.filter fun a => a.compare.isEmpty } else f
    match (if f.trapsPoison && f.tag = 0 || f.kind = .sample && f.tag = 1 then s.poisonCause seen 0x4A else none) with
    | some c => done ((s.flightTrap id f c 0).wake f.core)
    | none =>
      if f.unworked && s.unitTaken id f then done (s.post 0 .registerFill [id])
      else if f.unworked then done (s.workOn id f)
      else
        match f.cause with
        | some c =>
          let s := s.onBarge f.core f.slot fun b =>
            if f.flags = {} then b else { b with raised := b.raised ++ [(s.now, f.flags)] }
          done ((s.flightTrap id f { cause := c, lanes := f.failLanes } 0).wake f.core)
        | none =>
          let s := s.writeBack id f
          match f.kind, s.poisonCause f 0x56 with
          | .atom _ _ _, some c => done (s.takeTrap f.core f.slot c f.entry.addr (some (id, { f.entry with faulted := true })))
          | _, _ => done s

end Sys2Proof.Machine
end

