-- ==== Sys2Proof/Machine/Narrow.lean ====
section
/-!
DEFINITION. Class 9: blocks across a barge, QDOT4 and DSMUL (R221 to R226).
-/
namespace Sys2Proof.Machine
open Sys2Proof

/-! ## Groups (R221) -/

/-- Geometry G of aux[1:0]. -/
def Pre.geom (p : Pre) : Nat := 8 * 2 ^ (p.aux % 4)
/-- Scale kind of aux[2]. -/
def Pre.scaleKind (p : Pre) : ScaleKind := if p.aux < 4 then .e8m0 else .e8m1
/-- Elements a lane holds in registers of a type. -/
def elemsPerLane (t : Nat) : Nat := if t = 16 || t = 17 then 2 else 1
/-- Lanes of a group. -/
def Pre.groupLanes (p : Pre) (t : Nat) : Nat := p.geom / elemsPerLane t
/-- A G of 16, 32 or 64 that fits the barge. -/
def Pre.geomOk (p : Pre) (t : Nat) : Bool := p.aux % 4 != 0 && decide (p.groupLanes t ≤ 32)
/-- The lanes of the group of lane i, n to a group. -/
def groupOf (n i : Nat) : List Nat := (List.range n).map (i / n * n + ·)

/-- The float type of the unpacked side of a block word: `.f32` by default. -/
def wideOr (t : Nat) : Nat := if t = 0 then 14 else t

/-- The shared shape of QSCALE and QPACK: T1 the element format, T2 the source type. -/
def blockModOk : ModOk := { t1 := elemTypes, t2 := [0, 14, 16, 17], aux := [1, 2, 3, 5, 6, 7] }

/-- The elements of lane i, +0 where it is inactive (R222, R223). -/
def Go.blockElems (g : Go) (v : Val) (t i : Nat) : List Exact :=
  if laneOn g.active i then laneElems t (fun _ => false) (v.w32 i)
  else List.replicate (elemsPerLane t) (.zero false)

/-- What the checks and the scoreboard see of QSCALE (R222). -/
def shapeQscale (d a : BitVec 7) (p : BitVec 1) : Shape :=
  { mod := true, needMod := true, modOk := blockModOk, payloadOk := fun x => x.geomOk x.t2,
      srcs := fun _ => [reg a p], dsts := fun _ => [{ spec := d }], unit := fun _ => some unitBlock }

/-- The scale chosen for each group (R222). -/
def execQscale (d a : BitVec 7) (p : BitVec 1) (s : State) : Host.Outcome State Fault Refusal :=
  issueWord (shapeQscale d a p) s
    fun g s => g.writeFloat { spec := d } 8 (fun i =>
      let vs := ((groupOf (g.pre.groupLanes g.pre.t2) i).map (g.blockElems (g.val 0) g.pre.t2)).flatten
      { words := [BitVec.ofNat 32 (chooseScale g.pre.scaleKind (elemType g.pre.t1) vs)],
        flags := { nv := vs.any fun v => v.isNan || v.isInf } }) s

/-- A scale code held in a register (R223). -/
def scaleCode (k : ScaleKind) (w : Word) : Nat := w.toNat % 2 ^ k.width

/-- Word r of a bit stream of codes of w bits (R59). -/
def streamWord (w r : Nat) (codes : List Nat) : Word :=
  BitVec.ofNat 32 (codes.foldr (fun c acc => acc * 2 ^ w + c % 2 ^ w) 0 / 2 ^ (32 * r) % 2 ^ 32)

/-- What the checks and the scoreboard see of QPACK (R223). -/
def shapeQpack (d a b : BitVec 7) (p q : BitVec 1) : Shape :=
  { mod := true, needMod := true, modOk := blockModOk, payloadOk := fun x => x.geomOk x.t2,
      srcs := fun _ => [reg a p, reg b q], dsts := fun _ => [{ spec := d }], unit := fun _ => some unitBlock }

/-- The packed words of each group (R223). -/
def execQpack (d a b : BitVec 7) (p q : BitVec 1) (s : State) : Host.Outcome State Fault Refusal :=
  issueWord (shapeQpack d a b p q) s
    fun g s => g.writeFloat { spec := d } 8 (fun i =>
      let el := elemType g.pre.t1
      let n := g.pre.groupLanes g.pre.t2
      let grp := groupOf n i
      let low := (grp.find? (laneOn g.active)).getD i
      let sc := scaleCode g.pre.scaleKind ((g.val 1).w32 low)
      let rs := (grp.map fun j =>
        (g.blockElems (g.val 0) g.pre.t2 j).map fun x =>
          if laneOn g.active j then encodeElement g.pre.scaleKind el sc x
          else ⟨el.zeroCode, { nv := (g.pre.scaleKind.value sc).isNone }⟩).flatten
      let r := i % n
      { words := [if r < g.pre.geom * el.width / 32 then streamWord el.width r (rs.map (·.code)) else 0],
        flags := rs.foldl (fun f x => f.or x.flags) {} }) s

/-- What the checks and the scoreboard see of QUNPACK (R224). -/
def shapeQunpack (d a b : BitVec 7) (p q : BitVec 1) : Shape :=
  { mod := true, needMod := true,
      modOk := { t1 := [0, 14, 16, 17], t2 := elemTypes, aux := [1, 2, 3, 5, 6, 7] },
      payloadOk := fun x => x.geomOk x.t1,
      srcs := fun _ => [reg a p, reg b q],
      reads := fun x _ active l =>
        let n := x.groupLanes x.t1
        let words := x.geom * (elemType x.t2).width / 32
        let m := maskOf fun j => decide (j % n < words) && (groupOf n j).any (laneOn active)
        match l with
        | h :: r => { h with lanes := some (active ||| m) } :: r
        | [] => [],
      dsts := fun _ => [{ spec := d }], unit := fun _ => some unitBlock }

/-- The decoded elements of each group (R224): the packed words are read in lanes r < D/4 of the group, active or
not. -/
def execQunpack (d a b : BitVec 7) (p q : BitVec 1) (s : State) : Host.Outcome State Fault Refusal :=
  issueWord (shapeQunpack d a b p q) s
    fun g s => g.writeFloat { spec := d } 8 (fun i =>
      let t := g.pre.t1
      let el := elemType g.pre.t2
      let n := g.pre.groupLanes t
      let k := elemsPerLane t
      let stream := ((groupOf n i).take (g.pre.geom * el.width / 32)).foldr
        (fun j acc => acc * 2 ^ 32 + ((g.val 0).w32 j).toNat) 0
      let view := if k = 1 then Fmt.f32 else packedType t
      let sc := scaleCode g.pre.scaleKind ((g.val 1).w32 i)
      let code (j : Nat) :=
        decodeElement g.pre.scaleKind el view sc (field stream ((i % n * k + j) * el.width) el.width)
      plain [BitVec.ofNat 32 (if k = 1 then code 0 else code 1 * 2 ^ 16 + code 0)]) s

/-! ## QDOT4 and DSMUL -/

/-- The pairs of types QDOT4 takes: both integer, or both float; T2 is as T1 where it is not given (R225, log 43). -/
def qdotTypes (p : Pre) : Bool :=
  if [0, 1, 5].contains p.t1 then [0, 1, 5].contains p.t2 && p.rnd == 0
  else [0, 18, 19, 23].contains p.t2 && !p.sat

/-- Is QDOT4 in its integer form? -/
def Pre.qdotInt (p : Pre) : Bool := [0, 1, 5].contains p.t1

/-- What the checks and the scoreboard see of QDOT4 (R225). -/
def shapeQdot4 (d a b : BitVec 7) (p q : BitVec 1) : Shape :=
  { imm := true, mod := true,
      modOk := { t1 := [0, 1, 5, 18, 19], t2 := [0, 1, 5, 18, 19, 23], rnd := anyRnd, sat := true },
      payloadOk := qdotTypes, srcs := fun x => [reg d p, reg a p] ++ regB x b 1 q,
      dsts := fun _ => [{ spec := d }], unit := fun _ => some unitFloat }

/-- d := d + Σ a_j·b_j over four 8-bit elements (R225). -/
def execQdot4 (d a b : BitVec 7) (p q : BitVec 1) (s : State) : Host.Outcome State Fault Refusal :=
  issueWord (shapeQdot4 d a b p q) s
    fun g s => g.writeFloat { spec := d } 4 (fun i =>
      let wa := ((g.val 1).w32 i).toNat
      let wb := ((g.opB 2 b q).w32 i).toNat
      let dw := (g.val 0).w32 i
      if g.pre.qdotInt then
        let sa := g.pre.t1 != 5
        let sb := if g.pre.t2 = 0 then sa else g.pre.t2 != 5
        let sum := [0, 1, 2, 3].foldl
          (fun acc j => acc + intOf sa 8 (field wa (8 * j) 8) * intOf sb 8 (field wb (8 * j) 8)) dw.toInt
        let c := clampInt (intLo true 32) (intHi true 32) sum
        { words := [wrapOrClamp 32 true g.pre.sat sum], flags := { sat := g.pre.sat && c.2 } }
      else
        let m := g.mode
        let sum := [0, 1, 2, 3].foldl (fun acc j =>
          Exact.add m acc (Exact.mul ((elemType g.pre.t1).value (field wa (8 * j) 8))
            ((elemType (if g.pre.t2 = 0 then g.pre.t1 else g.pre.t2)).value (field wb (8 * j) 8)))) (Fmt.f32.value dw.toNat)
        let r := round .f32 m (g.fctx false) sum
        { words := [BitVec.ofNat 32 r.code], flags := r.flags }) s

/-- What the checks and the scoreboard see of DSMUL (R226). -/
def shapeDsmul (d a b : BitVec 7) (p q : BitVec 1) : Shape :=
  { imm := true, mod := true, modOk := { t1 := [0, 14, 16, 17], rnd := anyRnd, aux := [0, 1, 2, 3] },
      payloadOk := fun x => elemsPerLane x.t1 == 1 || decide (x.aux < 2),
      srcs := fun x => reg a p :: regB x b 1 q, dsts := fun _ => [{ spec := d }], unit := fun _ => some unitFloat }

/-- d := a × the ds8 codes of b (R226). -/
def execDsmul (d a b : BitVec 7) (p q : BitVec 1) (s : State) : Host.Outcome State Fault Refusal :=
  issueWord (shapeDsmul d a b p q) s
    fun g s => g.writeFloat { spec := d } 4 (fun i =>
      let wa := (g.val 0).w32 i
      let wb := ((g.opB 1 b q).w32 i).toNat
      let mul (f : Fmt) (c byte : Nat) := round f g.mode (g.fctx false) (Exact.mul (f.value c) (ds8Value (field wb (8 * byte) 8)))
      if elemsPerLane g.pre.t1 = 1 then
        let r := mul .f32 wa.toNat g.pre.aux
        { words := [BitVec.ofNat 32 r.code], flags := r.flags }
      else
        let f := packedType g.pre.t1
        let r (k : Nat) := mul f (half wa k) (2 * g.pre.aux + k)
        { words := [BitVec.ofNat 32 ((r 1).code * 2 ^ 16 + (r 0).code)], flags := (r 0).flags.or (r 1).flags }) s

end Sys2Proof.Machine
end

