-- ==== Sys2Proof/Machine/Lane.lean ====
section
/-!
DEFINITION. Class 10: moves, votes and reductions between the lanes of a barge (R229 to R237).
-/
namespace Sys2Proof.Machine
open Sys2Proof

/-- `.b32` and `.b64`. -/
def typesB : List Nat := [0, 9, 10]
/-- Words of a `.b32` or `.b64` operand. -/
def Pre.wordsB (p : Pre) : Nat := p.wordsOf [10]

/-- The words of an operand in a lane. -/
def Val.words (v : Val) (n lane : Nat) : List Word := (List.range n).map (v.word lane)

/-- What the checks and the scoreboard see of MOV (R230). -/
def shapeMov (d a : BitVec 7) (p : BitVec 1) : Shape :=
  { mod := true, modOk := { t1 := typesB }, fieldsOk := fun x => x.wordsB == 1 || (pairOk d && pairOk a),
      srcs := fun x => [regs a x.wordsB p], dsts := fun x => [{ spec := d, words := x.wordsB }],
      unit := fun _ => some unitInt }

/-- d := a (R230). -/
def execMov (d a : BitVec 7) (p : BitVec 1) (s : State) : Host.Outcome State Fault Refusal :=
  issueWord (shapeMov d a p) s
    fun g s => g.writeChecked { spec := d, words := g.pre.wordsB } 4 (fun i => plain ((g.val 0).words g.pre.wordsB i)) s

/-- What the checks and the scoreboard see of MOVI (R230). -/
def shapeMovi (d : BitVec 7) : Shape :=
  { imm := true, immh := fun x => x.t1 == 10, mod := true, modOk := { t1 := typesB },
      fieldsOk := fun x => x.wordsB == 1 || pairOk d,
      dsts := fun x => [{ spec := d, words := x.wordsB }], unit := fun _ => some unitInt }

/-- d := imm (R230). -/
def execMovi (d : BitVec 7) (i : BitVec 8) (s : State) : Host.Outcome State Fault Refusal :=
  issueWord (shapeMovi d) s
    fun g s =>
      let x : Dword := if g.pre.ximm.isSome then g.pre.imm64 i else i.signExtend 64
      g.writeChecked { spec := d, words := g.pre.wordsB } 4
        (fun _ => plain ((pairWords x).take g.pre.wordsB)) s

/-- The b operand of a lane, as a barge holds it or as the immediate, before the operands are captured. -/
def Barge.peekB (b : Barge) (p : Pre) (x : BitVec 7) (q : BitVec 1) (lane : Nat) : Word :=
  if p.ximm.isSome then p.imm32 (lowBits x q)
  else if isScalar x then (b.sreg (x.toNat - 96)).extractLsb' 0 32
  else b.vreg x.toNat lane

/-- Read the first operand in the lanes of a mask. -/
def readIn (m : Mask) (l : List Src) : List Src :=
  match l with
  | h :: r => { h with lanes := some m } :: r
  | [] => []

/-- Latency and occupancy of the crossbar moves (Table 11.1). -/
def Pre.xbarLatency (p : Pre) : Nat := if p.wordsB = 2 then 7 else 6

/-- What the checks and the scoreboard see of MOVS (R231). -/
def shapeMovs (d a b : BitVec 7) (p q : BitVec 1) : Shape :=
  { imm := true, mod := true, modOk := { t1 := typesB },
      fieldsOk := fun x => (x.ximm.isSome || isScalar b) && (x.wordsB == 1 || pairOk a),
      srcs := fun x => regs a x.wordsB p :: regB x b 1 q,
      reads := fun x br _ l => readIn (1#32 <<< ((br.peekB x b q 0).toNat % 32)) l,
      dsts := fun x => [{ spec := d, words := x.wordsB }],
      unit := fun _ => some unitXbar, occupancy := fun x => x.wordsB }

/-- d := a in lane b mod 32 (R231). -/
def execMovs (d a b : BitVec 7) (p q : BitVec 1) (s : State) : Host.Outcome State Fault Refusal :=
  issueWord (shapeMovs d a b p q) s
    fun g s =>
      let n := ((g.opB 1 b q).w32 0).toNat % 32
      g.writeChecked { spec := d, words := g.pre.wordsB } g.pre.xbarLatency
        (fun _ => plain ((g.val 0).words g.pre.wordsB n)) s

/-- The source lane of SHFL for lane i (R232). -/
def shuffleLane (mode n i : Nat) : Nat :=
  let w := 2 ^ min (field n 8 3) 5
  let base := i / w * w
  let p := i % w
  match mode with
  | 0 => n % 32
  | 1 =>
    let t : Int := p + intOf true 6 (n % 64)
    if n.testBit 7 then (if 0 ≤ t ∧ t < w then base + t.toNat else i) else base + (t % (w : Int)).toNat
  | 2 => base + n % 32 % w
  | _ => Nat.xor i (n % 32)

/-- What the checks and the scoreboard see of SHFL (R232). -/
def shapeShfl (d a b : BitVec 7) (p q : BitVec 1) : Shape :=
  { imm := true, mod := true, modOk := { t1 := typesB, aux := [0, 1, 2, 3] },
      fieldsOk := fun x => x.wordsB == 1 || (pairOk d && pairOk a),
      srcs := fun x => regs a x.wordsB p :: regB x b 1 q,
      reads := fun x br active l => readIn (maskOf fun j =>
        (lanesIn active).any fun i => shuffleLane x.aux (br.peekB x b q i).toNat i == j) l,
      dsts := fun x => [{ spec := d, words := x.wordsB }],
      unit := fun _ => some unitXbar, occupancy := fun x => x.wordsB }

/-- d[i] := a[j], j chosen by mode and b[i] (R232). -/
def execShfl (d a b : BitVec 7) (p q : BitVec 1) (s : State) : Host.Outcome State Fault Refusal :=
  issueWord (shapeShfl d a b p q) s
    fun g s => g.writeChecked { spec := d, words := g.pre.wordsB } g.pre.xbarLatency
      (fun i => plain ((g.val 0).words g.pre.wordsB (shuffleLane g.pre.aux ((g.opB 1 b q).w32 i).toNat i))) s

/-- The lanes, active, in which a predicate holds, inverted by aux[0] (R233). -/
def Go.ballot (g : Go) (f : BitVec 3) : Mask :=
  g.active &&& (if g.pre.aux = 1 then ~~~(g.b.pred f) else g.b.pred f)

/-- What the checks and the scoreboard see of BALLOT (R233). -/
def shapeBallot (d : BitVec 7) (f : BitVec 3) : Shape :=
  { mod := true, modOk := { aux := [0, 1] }, psrcs := fun _ => [f], dsts := fun _ => [{ spec := d }],
      unit := fun _ => some unitInt }

/-- d := the active lanes in which pa is true (R233). -/
def execBallot (d : BitVec 7) (f : BitVec 3) (_p : BitVec 1) (s : State) : Host.Outcome State Fault Refusal :=
  issueWord (shapeBallot d f) s
    fun g s => g.writeChecked { spec := d } 4 (fun _ => plain [g.ballot f]) s

/-- What the checks and the scoreboard see of VOTE (R233). -/
def shapeVote (e f : BitVec 3) : Shape :=
  { mod := true, modOk := { aux := [0, 1] }, psrcs := fun _ => [f], pdsts := [e], unit := fun _ => some unitInt }

/-- pd := pa in some, every, no active lane, or uniform (R233). -/
def execVote (k : BitVec 4) (e f : BitVec 3) (_p : BitVec 1) (s : State) : Host.Outcome State Fault Refusal :=
  issueWord (shapeVote e f) s
    fun g s =>
      let m := g.ballot f
      let r := match k.toNat with
        | 0 => decide (m ≠ 0)
        | 1 => decide (m = g.active)
        | 2 => decide (m = 0)
        | _ => decide (m = g.active) || decide (m = 0)
      g.writePred e 4 (fun _ => r) s

/-- Byte k of the eight bytes of b:a (R234). -/
def bytePick (x : Nat) (k : Nat) : Nat := field x (8 * (k % 8)) 8

/-- The fill codes of BSEL.pick (R234). -/
def fillByte (f v : Nat) : Nat :=
  match f with
  | 0 => v
  | 1 => 0
  | 2 => if v.testBit 7 then 0xFF else 0
  | _ => 0xFF

/-- Byte k of the result of BSEL (R234). -/
def byteSelect (mode x c k : Nat) : Nat :=
  let n := c % 8
  match mode with
  | 0 => fillByte (field c (12 + 2 * k) 2) (bytePick x (field c (3 * k) 3))
  | 1 => bytePick x (n + k)
  | 2 => bytePick x (n + 3 - k)
  | _ =>
    let l := field c 3 2 + 1
    if k < l then bytePick x (n + k) else fillByte 2 (bytePick x (n + l - 1))

/-- What the checks and the scoreboard see of BSEL (R234). -/
def shapeBsel (d a b : BitVec 7) (p q : BitVec 1) : Shape :=
  { imm := true, mod := true, extra := .third, needOpd := true, modOk := { aux := [0, 1, 2, 3] },
      srcs := fun x => reg a p :: regB x b 1 q ++ [thirdSrc x 1], dsts := fun _ => [{ spec := d }],
      unit := fun _ => some unitInt }

/-- d := four bytes of b:a chosen by c (R234). -/
def execBsel (d a b : BitVec 7) (p q : BitVec 1) (s : State) : Host.Outcome State Fault Refusal :=
  issueWord (shapeBsel d a b p q) s
    fun g s => g.writeChecked { spec := d } 4 (fun i =>
      let x := ((g.opB 1 b q).w32 i).toNat * 2 ^ 32 + ((g.val 0).w32 i).toNat
      let c := ((g.afterB 1).w32 i).toNat
      plain [BitVec.ofNat 32 ((List.range 4).foldr (fun k acc => acc * 256 + byteSelect g.pre.aux x c k) 0)]) s

/-- One level of the tree of BRED.f32: neighbours are combined, absent positions pass the other through (R235). -/
def treeLevel (f : Nat → Nat → Rounded) : List (Option Nat × Flags) → List (Option Nat × Flags)
  | (x, fx) :: (y, fy) :: r =>
    (match x, y with
      | some a, some b => let c := f a b; (some c.code, (fx.or fy).or c.flags)
      | some a, none => (some a, fx)
      | none, o => (o, fy)) :: treeLevel f r
  | l => l

/-- The tree of BRED.f32 over the 32 positions (R235). -/
def treeReduce (f : Nat → Nat → Rounded) (l : List (Option Nat × Flags)) : Rounded :=
  match (List.range 5).foldl (fun l _ => treeLevel f l) l with
  | (some c, fl) :: _ => ⟨c, fl⟩
  | _ => ⟨0, {}⟩

/-- What the checks and the scoreboard see of BRED (R235). -/
def shapeBred (d a : BitVec 7) (p : BitVec 1) : Shape :=
  { mod := true, modOk := { t1 := [0, 3, 7, 14], sat := true, aux := [0, 1, 2, 3, 4, 5] },
      payloadOk := fun x => (x.t1 != 14 || decide (x.aux < 3)) && (!x.sat || (x.aux == 0 && x.t1 != 14)),
      srcs := fun _ => [reg a p], dsts := fun _ => [{ spec := d }],
      unit := fun _ => some unitXbar, occupancy := fun _ => 2 }

/-- d := a reduced over the active lanes (R235). -/
def execBred (d a : BitVec 7) (p : BitVec 1) (s : State) : Host.Outcome State Fault Refusal :=
  issueWord (shapeBred d a p) s
    fun g s =>
      let at_ (i : Nat) := (g.val 0).w32 i
      if g.pre.t1 = 14 then
        let ftz := g.ftz .f32
        let comb (x y : Nat) : Rounded :=
          match g.pre.aux with
          | 0 => FOp.apply .add .f32 g.mode (g.fctx ftz) x y 0
          | 1 => minMaxCode .f32 ftz false x y
          | _ => minMaxCode .f32 ftz true x y
        let r := treeReduce comb ((List.range 32).map fun i =>
          (if laneOn g.active i then some (at_ i).toNat else none, {}))
        g.writeFloat { spec := d } 14 (fun _ => { words := [BitVec.ofNat 32 r.code], flags := r.flags }) s
      else
        let sg := g.pre.signed
        let vs := (lanesIn g.active).map at_
        let ints := vs.map (intValue sg)
        let r : Word := match g.pre.aux with
          | 0 => wrapOrClamp 32 sg g.pre.sat (ints.foldl (· + ·) 0)
          | 1 => BitVec.ofInt 32 (ints.foldl min (ints.headD 0))
          | 2 => BitVec.ofInt 32 (ints.foldl max (ints.headD 0))
          | 3 => vs.foldl (· &&& ·) (~~~0)
          | 4 => vs.foldl (· ||| ·) 0
          | _ => vs.foldl (· ^^^ ·) 0
        g.writeChecked { spec := d } 8 (fun _ => plain [r]) s

/-- What the checks and the scoreboard see of ELECT (R233). -/
def shapeElect (e : BitVec 3) : Shape :=
  { mod := true, pdsts := [e], unit := fun _ => some unitInt }

/-- pd := true in the lowest active lane (R233). -/
def execElect (e : BitVec 3) (s : State) : Host.Outcome State Fault Refusal :=
  issueWord (shapeElect e) s
    fun g s => g.writePred e 4 (fun i => lowestLane g.active = some i) s

/-- What the checks and the scoreboard see of CSEL (R236). -/
def shapeCsel (d a b : BitVec 7) (p q : BitVec 1) : Shape :=
  { imm := true, mod := true, extra := .third, needOpd := true,
      modOk := { t1 := [0, 3, 7, 14], aux := [0, 1, 2, 3, 4, 5] },
      srcs := fun x => reg a p :: regB x b 1 q ++ [thirdSrc x 1], dsts := fun _ => [{ spec := d }],
      unit := fun _ => some unitInt }

/-- d := a where c compares true against zero, b elsewhere (R236). -/
def execCsel (d a b : BitVec 7) (p q : BitVec 1) (s : State) : Host.Outcome State Fault Refusal :=
  issueWord (shapeCsel d a b p q) s
    fun g s => g.writeChecked { spec := d } 4 (fun i =>
      let c := (g.afterB 1).w32 i
      let t := if g.pre.t1 = 14 then floatCond g.pre.aux (Fmt.f32.value c.toNat) (.zero false)
        else condHolds g.pre.aux (intValue g.pre.signed c)
      plain [if t then (g.val 0).w32 i else (g.opB 1 b q).w32 i]) s

/-- What the checks and the scoreboard see of MATCH (R237). -/
def shapeMatchLanes (d a : BitVec 7) (p : BitVec 1) : Shape :=
  { mod := true, modOk := { t1 := typesB }, fieldsOk := fun x => x.wordsB == 1 || pairOk a,
      srcs := fun x => [regs a x.wordsB p], dsts := fun _ => [{ spec := d }],
      unit := fun _ => some unitXbar, occupancy := fun _ => 4 }

/-- d := the active lanes whose a equals a[i] (R237). -/
def execMatchLanes (d a : BitVec 7) (p : BitVec 1) (s : State) : Host.Outcome State Fault Refusal :=
  issueWord (shapeMatchLanes d a p) s
    fun g s => g.writeChecked { spec := d } 8 (fun i => plain [maskOf fun j =>
      laneOn g.active j && decide ((g.val 0).words g.pre.wordsB j = (g.val 0).words g.pre.wordsB i)]) s

/-- The lanes LANEMASK names for lane i (R233). -/
def laneMaskOf (kind : Nat) (active : Mask) (a i : Nat) : Mask :=
  let l := min a 32
  match kind with
  | 0 => maskOf fun j => decide (j < l)
  | 1 => maskOf fun j => decide (j ≤ l)
  | 2 => maskOf fun j => decide (l < j)
  | 3 => maskOf fun j => decide (l ≤ j)
  | 4 => maskOf fun j => decide (j = l)
  | 5 =>
    let w := 2 ^ min (a % 8) 5
    maskOf fun j => decide (j / w = i / w)
  | _ => active

/-- What the checks and the scoreboard see of LANEMASK (R233). -/
def shapeLanemask (d a : BitVec 7) (p : BitVec 1) : Shape :=
  { mod := true, modOk := { aux := [0, 1, 2, 3, 4, 5, 6] }, payloadOk := fun x => x.aux != 6 || decide (a = 0),
      srcs := fun x => if x.aux = 6 then [] else [reg a p], dsts := fun _ => [{ spec := d }],
      unit := fun _ => some unitInt }

/-- d := a set of lanes (R233). -/
def execLanemask (d a : BitVec 7) (p : BitVec 1) (s : State) : Host.Outcome State Fault Refusal :=
  issueWord (shapeLanemask d a p) s
    fun g s => g.writeChecked { spec := d } 4
      (fun i => plain [laneMaskOf g.pre.aux g.active ((g.val 0).w32 i).toNat i]) s

end Sys2Proof.Machine
end

