-- ==== Sys2Proof/Machine/Trap.lean ====
section
/-!
DEFINITION. Trap frames (R386 to R390), unrecoverable faults (R397 to R399), and TRAP, BRK and RETT (R392, R393).
-/
namespace Sys2Proof.Machine
open Sys2Proof

/-! ## The frame (Tables 18.3 and 18.4) -/

/-- Run state of a thread: 0 running, 1 waiting, 2 exited. -/
def Barge.runState (b : Barge) (i : Nat) : Nat := if laneOn b.exited i then 2 else if laneOn b.running i then 0 else 1

/-- A number that has bit i where a predicate holds, in fields of w bits given by a function. -/
def packFields (n w : Nat) (f : Nat → Nat) : Nat := (List.range n).foldl (fun acc i => acc + f i * 2 ^ (w * i)) 0

/-- Place bytes at offsets of a zeroed block of 4 KiB. -/
def frameBlock (parts : List (Nat × List Byte)) : List Byte :=
  patch (List.replicate 4096 0) ((parts.map fun p => p.2.zipIdx.map fun q => (p.1 + q.2, q.1)).flatten)

/-- The header's 8 bytes at 0x018: context, core, slot, workgroup index. -/
def State.placeWord (s : State) (core slot : Nat) (b : Barge) : Nat :=
  b.ctx % 256 + core * 2 ^ 8 + slot * 2 ^ 16 + (((s.wgs.look b.wg).map (·.index)).getD 0) * 2 ^ 32

/-- The frame header of a barge, with the words that a trap gives it: those at 0x000, 0x008, 0x010, 0x018 and 0x288, and
FCTL (Table 18.3). -/
def Barge.frameHeader (b : Barge) (w0 va first place semFault : Nat) (fctl : Fctl) : List Byte :=
  let q (x : Nat) : List Byte := leBytes 8 x
  frameBlock
    ([(0x000, q w0), (0x008, q va), (0x010, q first), (0x018, q place), (0x020, q fctl.toDword.toNat),
      (0x028, q b.tag.toNat), (0x030, q b.yieldMarks.toNat), (0x038, q (packFields 32 2 b.runState)),
      (0x040, ((List.range 32).map fun i => q ((b.pcs.getD i 0).toNat)).flatten),
      (0x140, (List.range 32).map fun i =>
        BitVec.ofNat 8 (packFields 8 1 fun j => if laneOn (b.preds.getD j 0) i then 1 else 0)),
      (0x160, (List.range 32).map fun i => BitVec.ofNat 8 (b.waitAt.getD i 0)),
      (0x280, q b.joins.length), (0x288, q semFault)]
      ++ b.joins.zipIdx.map fun p => (0x180 + 16 * p.2, q p.1.addr.toNat ++ leBytes 4 p.1.mask.toNat))

/-- A replay entry (Table 18.4). -/
def Entry.block (e : Entry) : List Byte :=
  frameBlock
    ([(0x000, (e.words.map fun w => leBytes 4 w.toNat).flatten),
      (0x010, [BitVec.ofNat 8 e.words.length]), (0x011, [if e.faulted then 1 else 0]),
      (0x014, leBytes 4 e.lanes.toNat), (0x018, leBytes 8 e.addr.toNat), (0x020, leBytes 8 e.progress),
      (0x030, (e.scalars.map fun x => leBytes 8 x.toNat).flatten)]
      ++ (List.range 32).map fun i =>
        (0x100 + 112 * i, ((e.vectors.getD i []).map fun w => leBytes 4 w.toNat).flatten))

/-- The frame of a trap. -/
def State.frameOf (s : State) (core slot : Nat) (b : Barge) (r : TrapRec) : List Byte :=
  let es := (r.entries.map (·.2)).take 24
  let w0 := r.cause.toNat + r.code.toNat * 2 ^ 8 + es.length * 2 ^ 16 + r.lanes.toNat * 2 ^ 32
  b.frameHeader w0 r.va.toNat r.first.toNat (s.placeWord core slot b) r.semFault.toNat (b.fctlAt r.cycle)
    ++ (es.map Entry.block).flatten

/-- First address of a frame slot (Table 18.2). -/
def Context.frameVa (c : Context) (k : Nat) : Nat := wide56 (c.framesBase.toNat * 2 ^ 17 + k * 2 ^ 17)

/-- The lowest free frame slot (R386). -/
def Context.freeFrame (c : Context) : Option Nat :=
  (List.range (min c.framesSlots.toNat (c.framesUsed.length + 1))).find? fun k =>
    decide (k < 65536) && !c.framesUsed.contains k

/-- 256-B units of a frame of E entries (R390). -/
def frameUnits (e : Nat) : Nat := 16 + 16 * e

/-- May the frame of a barge be written: has every word that finishes done so (R384, R390)? -/
def State.trapSettled (s : State) (core slot : Nat) (r : TrapRec) : Bool :=
  decide (r.notBefore ≤ s.now)
    && !(s.flights.any fun f => decide (f.2.core = core ∧ f.2.slot = slot))
    && !((s.core core).mmas.any fun m => decide (m.barge = slot) && decide ((s.barge core slot).map (fun (b : Barge) => b.wg) = some m.wg))

/-- The barge in handler mode (R389): its first word issues at a cycle. Every register counts as full from then on, and those that
captured words have left empty are so again after RETT where the handler has not written them (R384); those that the handler's own
words empty fill as always (log 42). -/
def Barge.enterHandler (b : Barge) (r : TrapRec) (entry : BitVec 56) (frame slot first now : Nat) : Barge :=
  let live := ~~~b.exited
  { b.settleFlags now with
    pcs := (List.range 32).map fun i => if laneOn live i then entry.signExtend 64 else b.pcs.getD i 0
    running := live
    yieldMarks := b.yieldMarks &&& b.exited
    joins := []
    waitAt := []
    fctl := (b.settleFlags now).fctl.forHandler
    handler := true
    frameTag := b.tag
    frameEnd := none
    trapCode := r.code
    trapCause := r.cause
    trapFrame := BitVec.ofNat 56 frame
    frameSlot := some slot
    heldV := b.vEmpty
    heldS := b.sEmpty
    vEmpty := []
    sEmpty := 0
    trap := none
    chain := none
    follow := none
    blocked := false
    wait := .none
    readyAt := first
    eligibleSince := first }

/-- A trap takes the lowest free frame slot of its context as it is taken, those of one cycle in ascending core and slot, or waits for
one (R386); its frame is written once its barge's words have finished, and the barge enters handler mode (R384, R387, R389,
R390). -/
def execHandlerEntry (s : State) : Host.Outcome State Fault Refusal :=
  let core := s.arg 0
  let slot := s.arg 1
  match s.barge core slot with
  | none => done s
  | some b =>
    match b.trap with
    | none => done s
    | some r =>
      let c := s.ctx b.ctx
      match r.frame with
      | none =>
        let lower := s.agenda.any fun e => decide (e.1 ≤ s.now) && e.2.what == .handlerEntry
          && decide (bargeKey (e.2.args.getD 0 0) (e.2.args.getD 1 0) < bargeKey core slot)
          && ((s.barge (e.2.args.getD 0 0) (e.2.args.getD 1 0)).bind (·.trap)).any fun q => q.frame.isNone
        if lower then done (s.post 0 .handlerEntry s.args)
        else
          match c.freeFrame with
          | none =>
            let b := { b with wait := .frame, waitSince := if b.wait = .frame then b.waitSince else s.now }
            done ((s.setBarge core slot b).post 1 .handlerEntry s.args)
          | some k =>
            let s := s.setCtx b.ctx { c with framesUsed := c.framesUsed ++ [k] }
            done ((s.setBarge core slot { b with wait := .other, frameSlot := some k, trap := some { r with frame := some k } }).post 0 .handlerEntry s.args)
      | some k =>
        if !s.trapSettled core slot r then done (s.postAt (max (s.now + 1) r.notBefore) .handlerEntry s.args)
        else
          let va := c.frameVa k
          let a : Agent := { core, ctx := b.ctx }
          let e := min 24 r.entries.length
          match s.agentWrite a va (s.frameOf core slot b r) with
          | (s, some f) => done (s.post 0 .unrecoverableFault [core, slot, 0xB4, f.2])
          | (s, none) =>
            let first := s.now + 40 + busGap (frameUnits e) + s.agentAck a va
            done (s.setBarge core slot (b.enterHandler r (c.trapEntry.extractLsb' 2 54 ++ 0#2) va k first s.now))

/-! ## Unrecoverable faults -/

/-- A page fault of a chunked task aborts it: its slot is dead, its workgroups stop without frames, a record is logged and
the node stays held (R397). -/
def State.chunkAbort (s : State) (b : Barge) (sl : Nat) (cause : BitVec 8) (va : Nat) : State :=
  let s := (s.stopTask b.node).killSlot b.ctx sl
  let s := s.onNode b.node fun n => { n with state := .faulted, chunkSlot := none, nextUnit := 0, again := [] }
  s.logFault { noframe := true, kind := false, cause, ctx := b.ctx, node := b.node, frame := 0, va := BitVec.ofNat 64 va }

/-- An unrecoverable fault: its frame goes into a free slot, a record is logged, and its relaunch unit ends (R397 to R399).
A fault in handler mode leaves the frame of the original trap as it is (R389). -/
def execUnrecoverableFault (s : State) : Host.Outcome State Fault Refusal :=
  let core := s.arg 0
  let slot := s.arg 1
  let cause := BitVec.ofNat 8 (s.arg 2)
  let va := s.arg 3
  match s.barge core slot with
  | none =>
    match (ghostWg slot).bind s.wgs.look with
    | none => done s
    | some w =>
      let s := s.logFault { noframe := true, kind := true, cause, ctx := w.ctx, node := w.node, frame := 0,
                            va := BitVec.ofNat 64 va }
      done (s.endUnit ((ghostWg slot).getD 0) cause)
  | some b =>
    let r : TrapRec := b.trap.getD { cause, va := BitVec.ofNat 64 va, cycle := s.now, notBefore := s.now }
    match b.chunkSlot, b.handler, decide (cause = 0x40 ∨ cause = 0x43) with
    | some sl, false, true =>
      -- the weir's step in the same cycle comes first (R391)
      if s.agenda.any fun e => decide (e.1 ≤ s.now) && e.2.what == .chunkCommitRequest && decide (e.2.args.length = 2) then
        done (s.post 0 .unrecoverableFault s.args)
      else done (s.chunkAbort b sl cause va)
    | _, _, _ =>
      if !b.handler && cause ≠ 0xB4 && !s.trapSettled core slot r then
        done ((s.onBarge core slot fun b => { b with blocked := true }).postAt (max (s.now + 1) r.notBefore)
          .unrecoverableFault s.args)
      else
        let c := s.ctx b.ctx
        let (frame, s) : Option Nat × State :=
          match b.handler, b.frameSlot with
          | true, some k => (some k, s.onBarge core slot fun b => { b with frameSlot := none })
          | _, _ =>
            if cause = 0xB4 then (none, s)
            else
              match r.frame.or c.freeFrame with
              | none => (none, s)
              | some k =>
                match s.agentWrite { core, ctx := b.ctx } (c.frameVa k) (s.frameOf core slot b r) with
                | (s, some _) => (none, s)
                | (s, none) =>
                  let s := s.onBarge core slot fun b => { b with frameSlot := none }
                  (some k, s.setCtx b.ctx { s.ctx b.ctx with framesUsed := ((s.ctx b.ctx).framesUsed ++ [k]).eraseDups })
        let s := s.logFault { noframe := frame.isNone, kind := true, cause, ctx := b.ctx, node := b.node,
                              frame := frame.getD 0, va := BitVec.ofNat 64 va }
        done (s.endUnit b.wg cause)


/-! ## TRAP and BRK -/

/-- TRAP n (R392). -/
def execTrap (n : BitVec 8) (s : State) : Host.Outcome State Fault Refusal :=
  issueWord bareShape s fun g s =>
    let s := g.finish g.b s
    if g.active = 0 then s else s.takeTrap g.core g.slot { cause := 0x10, code := n } g.first none

/-- BRK n: the group's PCs stay at its chain's first word (R392). -/
def execBrk (n : BitVec 8) (s : State) : Host.Outcome State Fault Refusal :=
  issueWord bareShape s fun g s =>
    let s := g.finish g.b s
    if g.active = 0 then s
    else
      let s := s.onBarge g.core g.slot fun b => { b with
        pcs := (List.range 32).map fun i => if laneOn g.group i then g.first else g.b.pcs.getD i 0 }
      s.takeTrap g.core g.slot { cause := 0x11, code := n } g.first none

/-! ## RETT -/

/-- A dword of a frame block. -/
def blockDword (bs : List Byte) (o : Nat) : Nat := leNat ((bs.drop o).take 8)

/-- A replay entry read back (Table 18.4): its chain, flags, lanes and operands, the vector words as many as its
chain's operands take. -/
def Entry.ofBlock (bs : List Byte) : Entry :=
  let len := field (bs.getD 0x10 0).toNat 0 3
  { words := (List.range len).map fun k => BitVec.ofNat 32 (leNat ((bs.drop (4 * k)).take 4))
    faulted := (bs.getD 0x11 0).getLsbD 0
    skip := (bs.getD 0x10 0).getLsbD 7
    lanes := BitVec.ofNat 32 (leNat ((bs.drop 0x14).take 4))
    addr := BitVec.ofNat 64 (blockDword bs 0x18)
    progress := blockDword bs 0x20
    scalars := (List.range 4).map fun k => BitVec.ofNat 64 (blockDword bs (0x30 + 8 * k))
    vectors := (List.range 32).map fun i => (List.range 28).map fun k =>
      BitVec.ofNat 32 (leNat ((bs.drop (0x100 + 112 * i + 4 * k)).take 4)) }

/-- The barge as its frame header restores it (R393). -/
def Barge.restoreHeader (b : Barge) (h : List Byte) : Barge :=
  let runs := blockDword h 0x38
  let depth := field (blockDword h 0x280) 0 5
  { b with
    fctl := b.fctl.restore (BitVec.ofNat 64 (blockDword h 0x20))
    tag := BitVec.ofNat 3 (blockDword h 0x28)
    yieldMarks := BitVec.ofNat 32 (blockDword h 0x30)
    running := maskOf fun i => field runs (2 * i) 2 == 0
    exited := maskOf fun i => field runs (2 * i) 2 == 2
    pcs := (List.range 32).map fun i => BitVec.ofNat 64 (blockDword h (0x40 + 8 * i) / 4 * 4)
    preds := (List.range 8).map fun j => maskOf fun i => (h.getD (0x140 + i) 0).getLsbD j
    waitAt := (List.range 32).map fun i => (h.getD (0x160 + i) 0).toNat
    joins := (List.range (min depth 16)).map fun j =>
      { addr := BitVec.ofNat 64 (blockDword h (0x180 + 16 * j)), mask := BitVec.ofNat 32 (blockDword h (0x188 + 16 * j)) } }

/-- The tag that a frame gives back, as the commit and squash points since the trap leave it: a committed label's barge is
the base's, a squashed label's traps at its next issue (R146, R149). A handler that wrote another label into the frame gets
that label as it now stands. -/
def Barge.meetFate (b : Barge) (c : Context) : Barge :=
  let state := ((c.labels.look b.tag.toNat).getD {}).state
  let gone := if b.tag = b.frameTag then b.frameEnd
    else match state with
      | .committed => some true
      | .dead => some false
      | _ => none
  if b.tag = 0 then b
  else match gone with
    | some true => { b with tag := 0 }
    | some false => { b with dead := true }
    | none => b

/-- Registers that captured words left empty, and that the handler has not written, are empty again: a re-executed entry fills them
(R384, R389, R393). -/
def Barge.regainEmpty (b : Barge) : Barge :=
  { b with
    vEmpty := b.heldV.foldl (fun t p => if p.2 = 0 then t else t.put p.1 ((t.look p.1).getD 0 ||| p.2)) b.vEmpty
    sEmpty := b.sEmpty ||| b.heldS
    heldV := []
    heldS := 0 }

/-- Does a frame break R393: too many entries, a chain length out of range, a reserved run state? -/
def frameBad (h : List Byte) (es : List (List Byte)) : Bool :=
  decide (24 < field (blockDword h 0) 16 8)
    || (es.any fun e => let n := field (e.getD 0x10 0).toNat 0 3; decide (n = 0 ∨ 4 < n))
    || ((List.range 32).any fun i => field (blockDword h 0x38) (2 * i) 2 == 3)

/-- Threads that a restored frame has exited or brought back count so in their workgroups, and a barge without a thread
left ends. -/
def State.recount (s : State) (core slot : Nat) (old : Barge) : State :=
  match s.barge core slot with
  | none => s
  | some b =>
    let s := (lanesIn (old.exited &&& ~~~b.exited)).foldl (fun s i =>
      match s.wgs.look (b.laneWg.getD i b.wg) with
      | some w => { s with wgs := s.wgs.put (b.laneWg.getD i b.wg) { w with threads := w.threads + 1 } }
      | none => s) s
    let s := s.retireLanes core b (b.exited &&& ~~~old.exited)
    let s := if b.exited = BitVec.allOnes 32 then s.endBarge core slot else s
    s.threadsExit b (b.exited &&& ~~~old.exited)

/-- RETT waits for the barge's own writes to be performed (R393). -/
def writesOut (s : State) (core slot : Nat) : Wait :=
  if s.flights.any fun f => decide (f.2.core = core ∧ f.2.slot = slot) && f.2.isWrite then .other else .none

/-- What the checks and the scoreboard see of RETT. -/
def rettShape : Shape := { holds := writesOut }

/-- RETT: the barge leaves handler mode with the state its frame holds; the chains to be re-executed issue first
(R393). -/
def execRett (s : State) : Host.Outcome State Fault Refusal :=
  issueWord rettShape s fun g s =>
    if g.active = 0 then g.finish g.b s
    else if !g.b.handler then g.trap { cause := 0xB2 } s
    else
      let va := wide56 g.b.trapFrame.toNat
      let a : Agent := { core := g.core, ctx := g.b.ctx }
      let bad (cause : Nat) (at_ : Nat) : State :=
        (g.finish { g.b with blocked := true } s).post 0 .unrecoverableFault [g.core, g.slot, cause, at_]
      match s.agentRead a va 4096 with
      | .error e => bad 0xB3 e.2
      | .ok h =>
        let n := min 24 (field (blockDword h 0) 16 8)
        match s.agentRead a (va + 4096) (4096 * n) with
        | .error e => bad 0xB3 e.2
        | .ok body =>
          let blocks := (List.range n).map fun k => (body.drop (4096 * k)).take 4096
          if frameBad h blocks then bad 0xB4 0
          else
            let es := (blocks.map Entry.ofBlock).filter fun e => !e.skip
            let t := s.now + 60 + s.agentLatency a va + busGap (frameUnits n)
            let t := if es.isEmpty then t + 4 else t
            let s := (g.finish g.b (s.fetches a va (4096 * (n + 1)))).onBarge g.core g.slot fun b =>
              let b := (((b.restoreHeader h).settleJoins).meetFate (s.ctx b.ctx)).regainEmpty
              { b with
                handler := false, frameSlot := none, reinject := es, chain := none, follow := none, readyAt := t,
                eligibleSince := t }
            let s := match g.b.frameSlot with
              | some k => s.freeFrame g.b.ctx k
              | none => s
            s.recount g.core g.slot g.b

end Sys2Proof.Machine
end

