-- ==== Sys2Proof/Machine/Preempt.lean ====
section
/-!
DEFINITION. Pre-emption: vacating cores (R403), the save records (R404), restoration (R405), and graphics (R406).
-/
namespace Sys2Proof.Machine
open Sys2Proof

/-! ## What a command saves -/

/-- The barges that hold a thread of some workgroups. -/
def State.bargesIn (s : State) (wgs : List Nat) : Tab Barge :=
  s.barges.filter fun b => wgs.contains b.2.wg || b.2.laneWg.any wgs.contains

/-- Workgroups that are saved with some others: the rest of their gang, of their task where it is placed whole, and of the
barges that reforms have mixed (R354, R403). -/
def State.savedWith (s : State) (wgs : List Nat) : List Nat :=
  let with' (w : Nat × Workgroup) : Bool :=
    wgs.contains w.1 || wgs.any fun k =>
      match s.wgs.look k with
      | some v =>
        (decide (v.node = w.2.node) && ((s.nodes.look v.node).map (·.coloc)).getD false)
          || (v.gang.isSome && v.gang == w.2.gang)
      | none => false
  let mixed := ((s.bargesIn wgs).map fun b => if b.2.reformed then b.2.laneWg else []).flatten
  (s.wgs.filter fun w => !w.2.ended && (with' w || mixed.contains w.1)).map (·.1)

/-- Those, and those saved with them in turn. -/
def State.closeOver (s : State) (wgs : List Nat) : Nat → List Nat
  | 0 => wgs
  | n + 1 =>
    let more := s.savedWith wgs
    if more.length = wgs.length then more else s.closeOver more n

/-- Workgroups of a context that run, on some cores. -/
def State.workOf (s : State) (ctx : Nat) (cores : Nat → Bool) : List Nat :=
  (s.wgs.filter fun w => decide (w.2.ctx = ctx) && !w.2.ended && cores w.2.core).map (·.1)

/-- Cores that hold a workgroup of a context, or a barge of one, rising. -/
def State.coresOf (s : State) (ctx : Nat) : List Nat :=
  (List.range 192).filter fun c =>
    (s.wgs.any fun w => decide (w.2.ctx = ctx ∧ w.2.core = c) && !w.2.ended)
      || s.barges.any fun b => decide (b.2.ctx = ctx ∧ b.1 / 512 = c)

/-- The workgroups a command saves: on the cores being vacated, or the graphics workgroups of the context. -/
def State.victims (s : State) (ctx : Nat) (gfx : Bool) : List Nat :=
  let first :=
    if gfx then
      (s.wgs.filter fun w => decide (w.2.ctx = ctx) && !w.2.ended && ((s.nodes.look w.2.node).map (·.gfx)).getD false).map (·.1)
    else
      let v := (s.ctx ctx).vacated
      let standing := (s.barges.filter fun b => decide (b.2.ctx = ctx) && v.contains (b.1 / 512)).map fun b => b.2.wg
      (s.workOf ctx v.contains ++ standing).eraseDups
  s.closeOver first s.wgs.length

/-! ## Stopping a barge (R403, R384, R271) -/

/-- MMAs that a barge has had accepted and that have not started. -/
def State.waitingMmas (s : State) (core slot : Nat) (b : Barge) : List MmaOp :=
  (s.core core).mmas.filter fun m => !m.started && decide (m.barge = slot ∧ m.wg = b.wg)

/-- A barge stops as at a trap: captured words and MMAs that have not started become entries, in issue order, and its
reduction entries drain; an MMA that the engine still checks or holds goes with them. A pending trap is taken, and a RETT re-injects its entries, before that (R391). -/
def State.stopForSave (s : State) (core slot : Nat) : State :=
  match s.barge core slot with
  | none => s
  | some b =>
    if b.stop.isSome || b.trap.isSome || !b.reinject.isEmpty then s
    else
      let caps := capturedFlights s core slot
      let ms := s.waitingMmas core slot b
      let gone := caps.map (·.1) ++ ms.map (·.id)
      let entries : Tab Entry := ms.foldl (fun t m => Tab.put t m.id m.entry) (caps.map fun f => (f.1, f.2.entry))
      let s := { s with flights := s.flights.filter fun (f : Nat × Flight) => !gone.contains f.1 }
      let c := s.core core
      let s := s.setCore core { c with mmas := c.mmas.filter fun (m : MmaOp) => !gone.contains m.id }
      let checking := caps.any fun (f : Nat × Flight) => f.2.isMma
      let s := s.setBarge core slot { b with
        blocked := b.blocked && !checking
        stop := some entries, chain := none, memWait := b.memWait.filter fun k => !gone.contains k }
      let s := (s.drainWhere core none fun (e : RedEntry) => decide (e.barge = slot)).2
      if ms.isEmpty then s else s.kickMma core

/-- Do exports of a barge wait at setup? -/
def State.exportsWait (s : State) (core slot : Nat) : Bool :=
  s.gfx.any fun g => g.2.setup.any fun e => decide (e.1.getD 1 0 = core ∧ e.1.getD 3 0 = slot)

/-- Nothing of a stopped barge is under way: no word that has still to write back (R199), and no acquire (R249, R333). -/
def State.quiet (s : State) (core slot : Nat) (b : Barge) : Bool :=
  let key := bargeKey core slot
  let idle := !b.blocked || b.waitBar.isSome || b.semWait.isSome || b.wfi || s.exportsWait core slot
    || s.walks.any fun w => w.2.fetchers.contains key
  let written := b.raised.all (fun r => decide (r.1 ≤ s.now)) && decide (b.busyUntil ≤ s.now ∧ b.flagUntil ≤ s.now)
  b.stop.isSome && b.trap.isNone && b.reinject.isEmpty && idle && written && b.memWait.isEmpty && decide (b.memHold ≤ s.now)
    && !(s.flights.any fun f => decide (f.2.core = core ∧ f.2.slot = slot))
    && !(s.rels.any fun r => decide (r.2.core = core ∧ r.2.slot = slot))
    && !(s.txns.any fun t => decide (t.2.core = core ∧ t.2.barge = some slot))
    && !((s.cluster (clusterOf core)).sluice.map (·.2)).contains key
    && !((s.core core).mmas.any fun m => m.slots.contains slot && decide (m.wg = b.wg))
    && !((s.core core).basins.any fun n => decide (n.2.core = core ∧ n.2.slot = slot))
    && !((s.cluster (clusterOf core)).basins.any fun n => decide (n.2.core = core ∧ n.2.slot = slot))

/-- Is a barrier of a workgroup, its gang or its task about to open? -/
def State.opening (s : State) (id : Nat) (w : Workgroup) : Bool :=
  let holds (level holder : Nat) : Bool :=
    match level with
    | 0 => decide (holder = id)
    | 1 => w.gang == some holder
    | _ => decide (holder = w.node)
  let pulls (level holder : Nat) : Bool :=
    (s.txns.any fun t => match t.2.barrier with
      | some (l, h, _) => decide (l = level ∧ h = holder)
      | none => false)
  pulls 0 id || pulls 2 w.node || (match w.gang with
    | some g => pulls 1 g
    | none => false)
    || s.agenda.any fun (e : Nat × Event) => e.2.what == Instr.barrierOpen && holds (e.2.args.getD 1 0) (e.2.args.getD 0 0)

/-- Every barge of some workgroups is quiet, each has started, none waits at a barrier that opens, and no card that its
barges have posted uses its local range. -/
def State.allQuiet (s : State) (wgs : List Nat) : Bool :=
  (s.bargesIn wgs).all (fun b => s.quiet (b.1 / 512) (b.1 % 512) b.2)
    && wgs.all fun k =>
      match s.wgs.look k with
      | some w =>
        w.started && !s.opening k w
          && !(s.cards.any fun c => decide (c.2.core = w.core ∧ c.2.localBase = w.localBase ∧ c.2.localSize ≠ 0))
      | none => true

/-! ## The records (R404) -/

/-- The place that stands for a saved barge in barriers and at setup: no core has this number. -/
def savedCore (wg : Nat) : Nat := 1000000 + wg

/-- Bytes that the barges of a record take before a barge. -/
def bargeBytes (b : Barge) : Nat := 4096 + 4096 * (b.stop.getD []).length + 128 * b.regs + 256

/-- Bytes of a record: header, barges, local range. -/
def recordBytes (bs : Tab Barge) (localSize : Nat) : Nat := 256 + (bs.map fun b => bargeBytes b.2).sum + localSize

/-- A barge's part of a record: its frame header, which also tells handler mode, its entries, its registers. -/
def State.bargeRecord (s : State) (core slot : Nat) (b : Barge) : List Byte :=
  let es := (b.stop.getD []).map (·.2)
  let place := s.placeWord core slot b + bit b.handler 25
  b.frameHeader (es.length * 2 ^ 16) 0 0 place 0 (b.fctlAt s.now) ++ (es.map Entry.block).flatten
    ++ ((List.range b.regs).map fun r => ((List.range 32).map fun i => leBytes 4 (b.vreg r i).toNat).flatten).flatten
    ++ ((List.range 32).map fun n => leBytes 8 (b.sreg n).toNat).flatten

/-- The 256 bytes that head a record, whose layout the spec does not give: free values. -/
def State.recordHeader (s : State) : List Byte × State :=
  (List.range 32).foldl (fun (acc : List Byte × State) _ =>
    let (x, s) := acc.2.free
    (acc.1 ++ leBytes 8 x.toNat, s)) ([], s)

/-- The virtual address of an offset of a context's save area. -/
def Context.saveVa (c : Context) (o : Nat) : Nat := wide56 (c.saveBase.toNat * 4096 + o)

/-- What the writing of the records has reached: the state, the next offset, a fault, and the cycle by which the units of
each core are acknowledged. -/
structure Saving where
  s : State
  off : Nat := 0
  bad : Bool := false
  last : Nat := 0
  units : Tab Nat := []

/-- Write bytes of a core at the next offset. -/
def Saving.write (x : Saving) (ctx core : Nat) (bs : List Byte) : Saving :=
  if x.bad then x
  else
    let va := (x.s.ctx ctx).saveVa x.off
    let n := (x.units.look core).getD 0 + ceilDiv bs.length 256
    let ack := x.s.agentAck { core, ctx } va
    match x.s.agentWrite { core, ctx } va bs with
    | (s, some _) => { x with s, bad := true }
    | (s, none) =>
      { s, off := (x.off + bs.length + 4095) / 4096 * 4096, units := x.units.put core n,
        last := max x.last (s.now + busGap n + ack) }

/-- Save one workgroup. -/
def Saving.workgroup (x : Saving) (ctx : Nat) (gfx : Bool) (id : Nat) : Saving :=
  match x.s.wgs.look id with
  | none => x
  | some w =>
    let bs := (x.s.barges.filter fun b => decide (b.2.wg = id)).mergeSort fun a b => decide (a.2.number ≤ b.2.number)
    let c := x.s.core w.core
    let (head, s) := x.s.recordHeader
    let body := (bs.map fun b => s.bargeRecord (b.1 / 512) (b.1 % 512) b.2).flatten
    let loc := (List.range w.localSize).map fun k => Sparse.get c.localMem (w.localBase + k)
    let r : SaveRec :=
      { ctx, core := w.core, id, wg := w, barges := bs, base := (s.ctx ctx).saveVa x.off, gfx
        localPoison := (c.localPoison.filter fun a => decide (w.localBase ≤ 4 * a ∧ 4 * a < w.localBase + w.localSize)).map
          fun a => a - w.localBase / 4
        gang := w.gang.bind fun g => (s.gangs.look g).map fun x => (g, x) }
    let y := { x with s }.write ctx w.core (head ++ body ++ loc)
    { y with s := { y.s with saves := y.s.saves ++ [r] } }

/-- Save the tile store of a core. -/
def Saving.tile (x : Saving) (ctx core : Nat) : Saving :=
  let t := (x.s.core core).tile
  let base := (x.s.ctx ctx).saveVa x.off
  let y := x.write ctx core ((List.range 524288).map fun k => Sparse.get t k)
  { y with s := { y.s with saveTiles := y.s.saveTiles ++ [{ ctx, core, base }] } }

/-- Rename barges in a barrier. -/
def Barrier.rename (x : Barrier) (f : Nat → Nat) : Barrier :=
  { x with arrivals := x.arrivals.map fun (a : Nat × Nat) => (a.1, f a.2), sent := x.sent.map f, waiters := x.waiters.map f }

/-- Rename barges in the barriers of a context, those saved included. -/
def State.renameBarges (s : State) (ctx : Nat) (f : Nat → Nat) : State :=
  let bars (t : Tab Barrier) : Tab Barrier := t.mapVals fun (x : Barrier) => x.rename f
  let wg (w : Workgroup) : Workgroup := if w.ctx = ctx then { w with barriers := bars w.barriers } else w
  let gang (g : Gang) : Gang := { g with barriers := bars g.barriers }
  let node (n : Node) : Node := if n.ctx = ctx then { n with barriers := bars n.barriers } else n
  let rec' (r : SaveRec) : SaveRec :=
    { r with wg := wg r.wg, gang := r.gang.map fun (g : Nat × Gang) => (g.1, gang g.2) }
  let mine (g : Nat × Gang) : Nat × Gang :=
    if ((s.nodes.look g.2.node).map fun (n : Node) => n.ctx) = some ctx then (g.1, gang g.2) else g
  { s with
    wgs := s.wgs.mapVals wg, gangs := s.gangs.map mine, nodes := s.nodes.mapVals node
    saves := s.saves.map fun (r : SaveRec) => if r.ctx = ctx then rec' r else r }

/-- Rename a barge where it stands in the order of setup. -/
def GfxTower.renameBarge (g : GfxTower) (core slot core' slot' : Nat) : GfxTower :=
  let one (k : List Nat) : List Nat :=
    if k.getD 1 0 = core ∧ k.getD 3 0 = slot then [k.getD 0 0, core', k.getD 2 0, slot', k.getD 4 0] else k
  { g with setup := g.setup.map fun (e : List Nat × Prim) => (one e.1, e.2) }

/-- Rename a barge in both. -/
def State.renameBarge (s : State) (ctx core slot core' slot' : Nat) : State :=
  let s := s.renameBarges ctx fun k => if k = bargeKey core slot then bargeKey core' slot' else k
  let towers (t : Tab GfxTower) : Tab GfxTower := t.mapVals fun (g : GfxTower) => g.renameBarge core slot core' slot'
  { s with gfx := towers s.gfx
           saveGfx := s.saveGfx.map fun (g : SaveGfx) => if g.ctx = ctx then { g with towers := towers g.towers } else g }

/-- Saved workgroups leave their cores: their barges keep their frame slots, and their nodes stay (R403). -/
def State.vacate (s : State) (wgs : List Nat) : State :=
  let s := (s.bargesIn wgs).foldl (fun s b =>
    let core := b.1 / 512
    let slot := b.1 % 512
    let s := s.renameBarge b.2.ctx core slot (savedCore b.2.wg) b.2.number
    (s.onBarge core slot fun b => { b with frameSlot := none }).freeSlot core slot) s
  wgs.foldl (fun s k =>
    match s.wgs.look k with
    | none => s
    | some w =>
      let s := { s with wgs := s.wgs.cut k }
      let s := match w.gang with
        | some g => { s with gangs := s.gangs.cut g }
        | none => s
      let s := if (s.running w.node).any fun v => decide (v.2.core = w.core) then s else s.leaveCore w.core w.node
      s.kickFreq (clusterOf w.core)) s

/-! ## Graphics (R406, Table 18.10) -/

/-- Draws of a context. -/
def State.drawsOf (s : State) (ctx : Nat) : Tab Draw := s.draws.filter fun d => decide (d.2.ctx = ctx)

/-- A tower's unit split in what belongs to some draws of a context and what stays. -/
def GfxTower.part (g : GfxTower) (ctx : Nat) (mine : Nat → Bool) (own : Bool) : GfxTower :=
  let keep (d : Nat) : Bool := mine d == own
  let serves := (g.draw.map mine).getD false
  { g with
    setup := g.setup.filter fun (e : List Nat × Prim) => keep e.2.draw
    base := if serves == own then g.base else 0
    draw := if serves == own then g.draw else none
    window := g.window.filter fun (e : Nat × Prim) => keep e.2.draw
    quads := g.quads.filter fun (q : Nat × Nat × List Pixel) => keep q.2.1
    openBarge := if keep g.openDraw then g.openBarge else []
    closed := g.closed.filter fun (q : Nat × List Pixel) => keep q.1
    pendingPix := g.pendingPix.filter fun (p : Nat × List Nat) => decide (p.1 / 2 ^ 28 = ctx) == own
    retires := g.retires.filter fun (r : Nat × Nat × Nat × Pixel) => keep r.2.2.1
    bins := g.bins.filter keep }

/-- A tower's unit with what was saved of it. -/
def GfxTower.join (g h : GfxTower) : GfxTower :=
  { g with
    setup := (g.setup ++ h.setup).mergeSort fun x y => keyLess x.1 y.1
    base := if h.draw.isSome then h.base else g.base
    draw := h.draw.or g.draw
    window := h.window.foldl (fun (t : Tab Prim) e => t.put e.1 e.2) g.window
    quads := h.quads ++ g.quads
    pendingPix := h.pendingPix.foldl (fun (t : Tab (List Nat)) e => t.put e.1 e.2) g.pendingPix
    retires := h.retires.foldl (fun (t : Tab (Nat × Nat × Pixel)) e => t.put e.1 e.2) g.retires
    bins := h.bins ++ g.bins }

/-- Save the draws of a context and what each tower holds of them. -/
def State.saveFrontEnd (s : State) (ctx : Nat) : State :=
  let ds := s.drawsOf ctx
  let mine (d : Nat) : Bool := (ds.look d).isSome
  let part (own : Bool) : Tab GfxTower :=
    ([0, 1, 2, 3] : List Nat).map fun t => (t, (s.gfxTower t).part ctx mine own)
  let saved : SaveGfx := { ctx, draws := ds, towers := part true }
  let s' : State := { s with
    draws := s.draws.filter fun (d : Nat × Draw) => !mine d.1, gfx := part false, saveGfx := s.saveGfx ++ [saved] }
  [0, 1, 2, 3].foldl (fun s t => s.post 0 .windowRelease [t]) (s'.setHub { s'.hub with gfxHalt := none })

/-- Have the pixel barges that were closed for the save been launched? -/
def State.pixelsLaunched (s : State) (ctx : Nat) : Bool :=
  s.gfx.all fun g =>
    !(g.2.closed.any fun q => decide (((s.draws.look q.1).map fun (d : Draw) => d.ctx) = some ctx))
      && (g.2.openBarge.isEmpty || decide (((s.draws.look g.2.openDraw).map fun (d : Draw) => d.ctx) ≠ some ctx))

/-! ## The commands (R402, R403, R406) -/

/-- The end of a command: DONE at a cycle. -/
def State.commandEnds (s : State) (at_ : Nat) : State := s.postAt at_ .preemptDone

/-- Once every barge is quiet the records are written, in ascending core and then in order of placement, with the tile
stores of the vacated cores after them; a write that faults kills the context (R404). -/
def State.saveAll (s : State) (ctx : Nat) (gfx : Bool) (wgs : List Nat) : State :=
  let order := (List.range 192).map fun c =>
    (s.wgs.filter fun w => wgs.contains w.1 && decide (w.2.core = c)).map (·.1)
  let v := (s.ctx ctx).vacated
  let held := v.filter fun c => !gfx && (s.wgs.any fun w => wgs.contains w.1 && decide (w.2.core = c))
  let s := if gfx then s.saveFrontEnd ctx else s
  let x := order.flatten.foldl (fun (x : Saving) k => x.workgroup ctx gfx k) ({ s } : Saving)
  let x := held.foldl (fun (x : Saving) c => x.tile ctx c) x
  if x.bad then (x.s.post 0 .ctxKill [ctx, 0, 0xB4]).commandEnds (x.s.now + 1)
  else
    let s := (x.s.vacate wgs).askDispatch
    let s := if gfx then s else s.postAt s.nextHub .savedWorkgroupRestore [ctx]
    s.commandEnds (max s.now x.last + 64)

/-- A command that saves waits, cycle by cycle, until what it saves has stopped. -/
def State.saveStep (s : State) (ctx : Nat) (gfx : Bool) (again : Instr) : State :=
  if (s.ctx ctx).killBusy then (s.setHub { s.hub with gfxHalt := none }).commandEnds (s.now + 1)
  else
    let wgs := s.victims ctx gfx
    let s := (s.bargesIn wgs).foldl (fun s b => s.stopForSave (b.1 / 512) (b.1 % 512)) s
    if s.allQuiet wgs && (!gfx || s.pixelsLaunched ctx) then s.saveAll ctx gfx wgs else s.post 1 again [ctx]

/-- PREEMPT_VACATE (R403): V is the K highest cores that hold a workgroup of the context. -/
def execPreemptVacate (s : State) : Host.Outcome State Fault Refusal :=
  let ctx := s.arg 0
  match s.args with
  | [_, k] =>
    let cores := s.coresOf ctx
    let v := cores.drop (cores.length - min k 192)
    let c := s.ctx ctx
    let s := s.setCtx ctx { c with vacated := (List.range 192).filter fun n => c.vacated.contains n || v.contains n }
    let s := s.setHub { s.hub with preemptBusy := true, preemptCount := BitVec.ofNat 8 v.length }
    done (s.post 0 .preemptVacate [ctx])
  | _ => done (s.saveStep ctx false .preemptVacate)

/-- SAVE_GRAPHICS (R406): the front end of the context stands, and the open pixel barges are closed and launched. -/
def execPreemptSaveGraphics (s : State) : Host.Outcome State Fault Refusal :=
  let ctx := s.arg 0
  if s.hub.preemptBusy then done (s.saveStep ctx true .preemptSaveGraphics)
  else
    let close (g : GfxTower) : GfxTower :=
      if ((s.draws.look g.openDraw).map fun (d : Draw) => d.ctx) = some ctx then g.close else g
    let s' := { s with gfx := s.gfx.mapVals close }
    let s' := s'.setHub { s'.hub with preemptBusy := true, gfxHalt := some ctx }
    let s' := [0, 1, 2, 3].foldl (fun s t => s.post 0 .pixelBargeClose [t]) s'
    done (s'.post 1 .preemptSaveGraphics [ctx])

/-- PREEMPT_DONE (R402). -/
def execPreemptDone (s : State) : Host.Outcome State Fault Refusal :=
  done (s.setHub { s.hub with preemptBusy := false, preemptDone := true })

/-- RELEASE (R403, R405): the cores are the context's again; what is not yet restored returns to its own core. -/
def execPreemptRelease (s : State) : Host.Outcome State Fault Refusal :=
  let ctx := s.arg 0
  let s := s.setCtx ctx { s.ctx ctx with vacated := [] }
  done ((s.setHub { s.hub with preemptBusy := true }).askDispatch.commandEnds (s.now + 1))

/-! ## Restoration (R405) -/

/-- A barge as its record gives it back: registers first, then what RETT restores, with the entries to be re-injected
(R393, R405); none where its frame is bad. -/
def restoredBarge (b : Barge) (bytes : List Byte) : Option Barge :=
  let n := (b.stop.getD []).length
  let h := bytes.take 4096
  let blocks := (List.range n).map fun k => (bytes.drop (4096 + 4096 * k)).take 4096
  if frameBad h blocks then none
  else
    let regs := bytes.drop (4096 + 4096 * n)
    let v : Sparse 32 := (List.range (32 * b.regs)).foldl (fun (m : Sparse 32) k =>
      m.set k (BitVec.ofNat 32 (leNat ((regs.drop (4 * k)).take 4)))) []
    let sr : Sparse 64 := (List.range 32).foldl (fun (m : Sparse 64) k =>
      m.set k (BitVec.ofNat 64 (leNat ((regs.drop (128 * b.regs + 8 * k)).take 8)))) []
    -- a point since the save has met the barge's tag, not its area's (R146, R149)
    let b := { b.restoreHeader h with v, s := sr, tag := b.tag }
    some { b.settleJoins with
      reinject := (blocks.map Entry.ofBlock).filter fun e => !e.skip
      stop := none, chain := none, follow := none, memWait := [], score := [], raised := [] }

/-- A slot for a barge: its place in the room found for its workgroup, or any slot of the core for a reformed one. -/
def State.slotOf (s : State) (core : Nat) (slots : List Nat) (b : Barge) : Option Nat :=
  if b.reformed then s.basinSlot core b.regs else slots[b.number]?

/-- Put a restored barge in its slot: what it waited for it waits for again, unless that has come. -/
def State.placeSaved (s : State) (r : SaveRec) (core slot at_ : Nat) (old b : Barge) : State :=
  let s := s.renameBarge r.ctx (savedCore r.id) old.number core slot
  let open' := match b.waitBar with
    | some f => match s.holderOf b f.level with
      | some h => decide ((s.barrier f.level h f.number).phase ≠ f.phase)
      | none => true
    | none => false
  let sem := b.semWait.map fun (w : SemWait) => if w.file = 0 then { w with unit := core } else w
  let holds := b.waitBar.isSome || sem.isSome || b.wfi || s.exportsWait core slot
  let b := { b with
    semWait := sem, blocked := holds, wait := if holds then b.wait else .none, waitSince := s.now, readyAt := at_
    eligibleSince := at_ }
  let s := (s.setBarge core slot b).recount core slot old
  let s := match b.chunkSlot with
    | some k => s.setCore core { s.core core with sigCtx := (s.core core).sigCtx.put k r.ctx }
    | none => s
  let s := if open' then
      let f := b.waitBar.getD { level := 0, number := 0, phase := 0 }
      s.toSluice f.level ((s.holderOf b f.level).getD 0) f.number [bargeKey core slot]
    else s
  match sem with
  | some w => s.semUpdated w.file w.unit w.number
  | none => s

/-- Restore one record onto a core: none where the core has no room for it; a record that cannot be read or is bad kills
the context (R393, R404). -/
def State.restoreOn (s : State) (core : Nat) (r : SaveRec) : Option State :=
  match s.room core r.wg.slots.length r.wg.regs r.wg.localSize with
  | none => none
  | some (slots, base) =>
    -- a cluster holds one gang (R344)
    let other := r.gang.isSome && s.gangs.any fun g => decide (g.2.cluster = clusterOf core) && r.gang.map (·.1) != some g.1
    if other || r.barges.any fun b => (s.slotOf core slots b.2).isNone then none
    else
      let s := { s with saves := s.saves.filter fun (q : SaveRec) => decide (q.id ≠ r.id) }
      let size := recordBytes r.barges r.wg.localSize
      let kill : State := s.post 0 .ctxKill [r.ctx, 0, 0xB4]
      match s.agentRead { core, ctx := r.ctx } r.base size with
      | .error _ => some kill
      | .ok bytes =>
        let s := s.fetches { core, ctx := r.ctx } r.base size
        let parts := r.barges.foldl (fun (acc : Nat × List (Barge × Option Barge)) b =>
          (acc.1 + bargeBytes b.2, acc.2 ++ [(b.2, restoredBarge b.2 (bytes.drop acc.1))])) (256, [])
        if parts.2.any fun p => p.2.isNone then some (s.post 0 .ctxKill [r.ctx, 0, 0xB4])
        else
          let w := { r.wg with core, slots, localBase := base }
          let at_ := s.now + 60 + s.agentLatency { core, ctx := r.ctx } r.base + busGap (ceilDiv size 256)
          let loc := (bytes.drop (size - r.wg.localSize)).zipIdx
          let c := s.core core
          let s := s.setCore core { c with
            localMem := loc.foldl (fun (m : Sparse 8) p => m.set (base + p.2) p.1) c.localMem
            localPoison := c.localPoison ++ r.localPoison.map fun a => a + base / 4 }
          let s := s.tileFor core r.ctx
          let s := { s with wgs := s.wgs.put r.id w }
          let s := match r.gang with
            | some (g, x) => if (s.gangs.look g).isNone then { s with gangs := s.gangs.put g { x with cluster := clusterOf core } } else s
            | none => s
          let s := s.onNode w.node fun n => { n with cores := if n.cores.contains core then n.cores else n.cores ++ [core] }
          let s := parts.2.foldl (fun s p =>
            match p.2, s.slotOf core slots p.1 with
            | some b, some slot => s.placeSaved r core slot at_ p.1 b
            | _, _ => s) s
          some (s.kickFreq (clusterOf core))

/-- Restore some records together onto a core, all or none. -/
def State.restoreAll (s : State) (core : Nat) : List SaveRec → Option State
  | [] => some s
  | r :: rest =>
    match s.restoreOn core r with
    | none => none
    | some s => s.restoreAll core rest

/-- Where the records of a vacated core go: to a core of the task that is not vacated, by their place in V; to their own
core after a release, or where there is none. -/
def State.restoreTo (s : State) (ctx core : Nat) (rs : List SaveRec) : Nat :=
  let v := (s.ctx ctx).vacated
  let held := (rs.map fun r => ((s.nodes.look r.wg.node).map (·.cores)).getD []).flatten
  let rest := (List.range 192).filter fun c => held.contains c && !v.contains c
  match v.idxOf? core with
  | some j => if rest.isEmpty then core else rest.getD (j % rest.length) core
  | none => core

/-- Restore what one core's records wait for. -/
def State.restoreCore (s : State) (ctx core : Nat) : State :=
  let rs := s.saves.filter fun r => decide (r.ctx = ctx ∧ r.core = core) && !r.gfx
  let target := s.restoreTo ctx core rs
  match s.saveTiles.find? fun t => decide (t.ctx = ctx ∧ t.core = core) with
  | none => if rs.isEmpty then s else (s.restoreAll core rs).getD s
  | some t =>
    if s.wgs.any fun w => decide (w.2.ctx = ctx ∧ w.2.core = target) && !w.2.ended then s
    else
      match s.agentRead { core := target, ctx } t.base 524288 with
      | .error _ => s.post 0 .ctxKill [ctx, 0, 0xB4]
      | .ok bytes =>
        let c := s.core target
        let tile := bytes.zipIdx.foldl (fun (m : Sparse 8) (p : Byte × Nat) => m.set p.2 p.1) []
        let s' := (s.fetches { core := target, ctx } t.base 524288).setCore target { c with tile, tileCtx := some ctx }
        let s' := { s' with saveTiles := s'.saveTiles.filter fun (q : SaveTile) => !decide (q.ctx = ctx ∧ q.core = core) }
        (s'.restoreAll target rs).getD s

/-- SAVED_WORKGROUP_RESTORE (R405): in each hub cycle, until every record of the context is restored. -/
def execSavedWorkgroupRestore (s : State) : Host.Outcome State Fault Refusal :=
  let ctx := s.arg 0
  if (s.ctx ctx).killBusy then done s
  else
    let s := (List.range 192).foldl (fun s c => s.restoreCore ctx c) s
    if s.saves.any fun r => decide (r.ctx = ctx) && !r.gfx then
      done (if s.agenda.any fun (e : Nat × Event) => e.2.what == Instr.savedWorkgroupRestore && e.2.args == [ctx] then s
        else s.postAt s.nextHub .savedWorkgroupRestore [ctx])
    else done s.askDispatch

/-- Put the saved front end back, where the windows of the four towers serve no draw. -/
def State.restoreFrontEnd (s : State) (ctx : Nat) : State :=
  match s.saveGfx.find? fun g => decide (g.ctx = ctx) with
  | none => s
  | some x =>
    if [0, 1, 2, 3].any fun t => (s.gfxTower t).draw.isSome then s
    else
      let s := { s with
        draws := x.draws.foldl (fun (t : Tab Draw) d => t.put d.1 d.2) s.draws
        gfx := ([0, 1, 2, 3] : List Nat).map fun t => (t, (s.gfxTower t).join ((x.towers.look t).getD {}))
        saveGfx := s.saveGfx.filter fun (g : SaveGfx) => decide (g.ctx ≠ ctx) }
      [0, 1, 2, 3].foldl (fun s t =>
        let g := s.gfxTower t
        let s := (((s.post 0 .windowRelease [t]).post 0 .earlyZTest [t]).post 0 .pixelBargeClose [t]).post 1 .setupTake [t]
        g.retires.foldl (fun s r => s.postAt r.2.1 .pixelRetire [t, r.1]) s) s

/-- RESTORE_GRAPHICS (R406): the towers' units, then each workgroup on a core of its tower by AUTO. -/
def execPreemptRestoreGraphics (s : State) : Host.Outcome State Fault Refusal :=
  let ctx := s.arg 0
  let s := s.setHub { s.hub with preemptBusy := true }
  let s := s.restoreFrontEnd ctx
  if s.saveGfx.any fun g => decide (g.ctx = ctx) then done (s.postAt s.nextHub .preemptRestoreGraphics [ctx])
  else
    let s := (s.saves.filter fun r => decide (r.ctx = ctx) && r.gfx).foldl (fun s r =>
      let t := towerOf r.core
      match s.autoCore ctx r.wg.slots.length r.wg.regs r.wg.localSize ((List.range 48).map (48 * t + ·)) with
      | some c => (s.restoreOn c r).getD s
      | none => s) s
    if (s.saves.any fun r => decide (r.ctx = ctx) && r.gfx) && !(s.ctx ctx).killBusy then
      done (s.postAt s.nextHub .preemptRestoreGraphics [ctx])
    else done (s.askDispatch.commandEnds (s.now + 1))

end Sys2Proof.Machine
end

