-- ==== Sys2Proof/Machine/Dispatch.lean ====
section
/-!
DEFINITION. The meaning of every step: one arm per constructor of Instr, each one call of that step's own
meaning.
-/
namespace Sys2Proof.Machine
open Sys2Proof

def exec (i : Instr) (s : State) : Host.Outcome State Fault Refusal :=
  match i with
  | .ximm x => Sys2Proof.Machine.execXimm x s
  | .ximmh x => Sys2Proof.Machine.execXimmh x s
  | .xmod x => Sys2Proof.Machine.execXmod x s
  | .xpred n e => Sys2Proof.Machine.execXpred n e s
  | .xopd p c q e z => Sys2Proof.Machine.execXopd p c q e z s
  | .xsch y sc => Sys2Proof.Machine.execXsch y sc s
  | .iadd d a b p q => Sys2Proof.Machine.execIadd d a b p q s
  | .isub d a b p q => Sys2Proof.Machine.execIsub d a b p q s
  | .imul d a b p q => Sys2Proof.Machine.execImul d a b p q s
  | .imulh d a b p q => Sys2Proof.Machine.execImulh d a b p q s
  | .imad d a b p q => Sys2Proof.Machine.execImad d a b p q s
  | .imin d a b p q => Sys2Proof.Machine.execImin d a b p q s
  | .imax d a b p q => Sys2Proof.Machine.execImax d a b p q s
  | .iabs d a p => Sys2Proof.Machine.execIabs d a p s
  | .ishl d a b p q => Sys2Proof.Machine.execIshl d a b p q s
  | .ishr d a b p q => Sys2Proof.Machine.execIshr d a b p q s
  | .lshr d a b p q => Sys2Proof.Machine.execLshr d a b p q s
  | .popc d a p => Sys2Proof.Machine.execPopc d a p s
  | .clz d a p => Sys2Proof.Machine.execClz d a p s
  | .brev d a p => Sys2Proof.Machine.execBrev d a p s
  | .iaddImm d a p n => Sys2Proof.Machine.execIaddImm d a p n s
  | .imulImm d a p n => Sys2Proof.Machine.execImulImm d a p n s
  | .iminImm d a p n => Sys2Proof.Machine.execIminImm d a p n s
  | .imaxImm d a p n => Sys2Proof.Machine.execImaxImm d a p n s
  | .ishlImm d a p n => Sys2Proof.Machine.execIshlImm d a p n s
  | .ishrImm d a p n => Sys2Proof.Machine.execIshrImm d a p n s
  | .lshrImm d a p n => Sys2Proof.Machine.execLshrImm d a p n s
  | .logic3 d a p t => Sys2Proof.Machine.execLogic3 d a p t s
  | .bfe d a b p q => Sys2Proof.Machine.execBfe d a b p q s
  | .bfi d a b p q => Sys2Proof.Machine.execBfi d a b p q s
  | .lea d a b p q => Sys2Proof.Machine.execLea d a b p q s
  | .shf d a b p q => Sys2Proof.Machine.execShf d a b p q s
  | .iadd64 d a b p q => Sys2Proof.Machine.execIadd64 d a b p q s
  | .isub64 d a b p q => Sys2Proof.Machine.execIsub64 d a b p q s
  | .imul64 d a b p q => Sys2Proof.Machine.execImul64 d a b p q s
  | .imad64 d a b p q => Sys2Proof.Machine.execImad64 d a b p q s
  | .icmp k e a b p q => Sys2Proof.Machine.execIcmp k e a b p q s
  | .fcmp k e a b p q => Sys2Proof.Machine.execFcmp k e a b p q s
  | .fclass e a m p => Sys2Proof.Machine.execFclass e a m p s
  | .sel d a b p q => Sys2Proof.Machine.execSel d a b p q s
  | .pand e f g => Sys2Proof.Machine.execPand e f g s
  | .por e f g => Sys2Proof.Machine.execPor e f g s
  | .pxor e f g => Sys2Proof.Machine.execPxor e f g s
  | .pnot e f => Sys2Proof.Machine.execPnot e f s
  | .fadd d a b p q => Sys2Proof.Machine.execFadd d a b p q s
  | .fsub d a b p q => Sys2Proof.Machine.execFsub d a b p q s
  | .fmul d a b p q => Sys2Proof.Machine.execFmul d a b p q s
  | .ffma d a b p q => Sys2Proof.Machine.execFfma d a b p q s
  | .fmin d a b p q => Sys2Proof.Machine.execFmin d a b p q s
  | .fmax d a b p q => Sys2Proof.Machine.execFmax d a b p q s
  | .frnd d a p => Sys2Proof.Machine.execFrnd d a p s
  | .fabs d a p => Sys2Proof.Machine.execFabs d a p s
  | .fneg d a p => Sys2Proof.Machine.execFneg d a p s
  | .fscale d a b p q => Sys2Proof.Machine.execFscale d a b p q s
  | .faddPacked d a b p q => Sys2Proof.Machine.execFaddPacked d a b p q s
  | .fsubPacked d a b p q => Sys2Proof.Machine.execFsubPacked d a b p q s
  | .fmulPacked d a b p q => Sys2Proof.Machine.execFmulPacked d a b p q s
  | .ffmaPacked d a b p q => Sys2Proof.Machine.execFfmaPacked d a b p q s
  | .fminPacked d a b p q => Sys2Proof.Machine.execFminPacked d a b p q s
  | .fmaxPacked d a b p q => Sys2Proof.Machine.execFmaxPacked d a b p q s
  | .frndPacked d a p => Sys2Proof.Machine.execFrndPacked d a p s
  | .fabsPacked d a p => Sys2Proof.Machine.execFabsPacked d a p s
  | .fnegPacked d a p => Sys2Proof.Machine.execFnegPacked d a p s
  | .fscalePacked d a b p q => Sys2Proof.Machine.execFscalePacked d a b p q s
  | .faddImm d a p n => Sys2Proof.Machine.execFaddImm d a p n s
  | .fmulImm d a p n => Sys2Proof.Machine.execFmulImm d a p n s
  | .ffmaImm d a p n => Sys2Proof.Machine.execFfmaImm d a p n s
  | .fminImm d a p n => Sys2Proof.Machine.execFminImm d a p n s
  | .rcp d a p => Sys2Proof.Machine.execRcp d a p s
  | .rsq d a p => Sys2Proof.Machine.execRsq d a p s
  | .sqrt d a p => Sys2Proof.Machine.execSqrt d a p s
  | .exp2 d a p => Sys2Proof.Machine.execExp2 d a p s
  | .log2 d a p => Sys2Proof.Machine.execLog2 d a p s
  | .sinpi d a p => Sys2Proof.Machine.execSinpi d a p s
  | .cospi d a p => Sys2Proof.Machine.execCospi d a p s
  | .tanh d a p => Sys2Proof.Machine.execTanh d a p s
  | .divf d a b p q => Sys2Proof.Machine.execDivf d a b p q s
  | .fcvt d a p => Sys2Proof.Machine.execFcvt d a p s
  | .icvt d a p => Sys2Proof.Machine.execIcvt d a p s
  | .ftoi d a p => Sys2Proof.Machine.execFtoi d a p s
  | .itof d a p => Sys2Proof.Machine.execItof d a p s
  | .npack d a b p q => Sys2Proof.Machine.execNpack d a b p q s
  | .nunpack d a p => Sys2Proof.Machine.execNunpack d a p s
  | .qscale d a p => Sys2Proof.Machine.execQscale d a p s
  | .qpack d a b p q => Sys2Proof.Machine.execQpack d a b p q s
  | .qunpack d a b p q => Sys2Proof.Machine.execQunpack d a b p q s
  | .qdot4 d a b p q => Sys2Proof.Machine.execQdot4 d a b p q s
  | .dsmul d a b p q => Sys2Proof.Machine.execDsmul d a b p q s
  | .mov d a p => Sys2Proof.Machine.execMov d a p s
  | .movi d n => Sys2Proof.Machine.execMovi d n s
  | .movs d a b p q => Sys2Proof.Machine.execMovs d a b p q s
  | .shfl d a b p q => Sys2Proof.Machine.execShfl d a b p q s
  | .ballot d e p => Sys2Proof.Machine.execBallot d e p s
  | .vote k e f p => Sys2Proof.Machine.execVote k e f p s
  | .bsel d a b p q => Sys2Proof.Machine.execBsel d a b p q s
  | .bred d a p => Sys2Proof.Machine.execBred d a p s
  | .elect e => Sys2Proof.Machine.execElect e s
  | .csel d a b p q => Sys2Proof.Machine.execCsel d a b p q s
  | .matchLanes d a p => Sys2Proof.Machine.execMatchLanes d a p s
  | .lanemask d a p => Sys2Proof.Machine.execLanemask d a p s
  | .bra c e o => Sys2Proof.Machine.execBra c e o s
  | .jmp a p => Sys2Proof.Machine.execJmp a p s
  | .call d n => Sys2Proof.Machine.execCall d n s
  | .calli d a p => Sys2Proof.Machine.execCalli d a p s
  | .ret a p => Sys2Proof.Machine.execRet a p s
  | .mark n => Sys2Proof.Machine.execMark n s
  | .join => Sys2Proof.Machine.execJoin s
  | .reform d a p n => Sys2Proof.Machine.execReform d a p n s
  | .exit => Sys2Proof.Machine.execExit s
  | .nop => Sys2Proof.Machine.execNop s
  | .sleep n => Sys2Proof.Machine.execSleep n s
  | .yield => Sys2Proof.Machine.execYield s
  | .ldB32 d b o p => Sys2Proof.Machine.execLdB32 d b o p s
  | .ldB64 d b o p => Sys2Proof.Machine.execLdB64 d b o p s
  | .ldB128 d b o p => Sys2Proof.Machine.execLdB128 d b o p s
  | .ldbB32 d b o p => Sys2Proof.Machine.execLdbB32 d b o p s
  | .ldbB64 d b o p => Sys2Proof.Machine.execLdbB64 d b o p s
  | .ldbB128 d b o p => Sys2Proof.Machine.execLdbB128 d b o p s
  | .ldlB32 d b o p => Sys2Proof.Machine.execLdlB32 d b o p s
  | .ldlB64 d b o p => Sys2Proof.Machine.execLdlB64 d b o p s
  | .ldlB128 d b o p => Sys2Proof.Machine.execLdlB128 d b o p s
  | .ldpB32 d b o p => Sys2Proof.Machine.execLdpB32 d b o p s
  | .ldpB64 d b o p => Sys2Proof.Machine.execLdpB64 d b o p s
  | .ldpB128 d b o p => Sys2Proof.Machine.execLdpB128 d b o p s
  | .ldvB32 d b o p => Sys2Proof.Machine.execLdvB32 d b o p s
  | .ldvB128 d b o p => Sys2Proof.Machine.execLdvB128 d b o p s
  | .prefetch b o p => Sys2Proof.Machine.execPrefetch b o p s
  | .invl1 => Sys2Proof.Machine.execInvl1 s
  | .stB32 d b o p => Sys2Proof.Machine.execStB32 d b o p s
  | .stB64 d b o p => Sys2Proof.Machine.execStB64 d b o p s
  | .stB128 d b o p => Sys2Proof.Machine.execStB128 d b o p s
  | .stlB32 d b o p => Sys2Proof.Machine.execStlB32 d b o p s
  | .stlB64 d b o p => Sys2Proof.Machine.execStlB64 d b o p s
  | .stlB128 d b o p => Sys2Proof.Machine.execStlB128 d b o p s
  | .stpB32 d b o p => Sys2Proof.Machine.execStpB32 d b o p s
  | .stpB64 d b o p => Sys2Proof.Machine.execStpB64 d b o p s
  | .stpB128 d b o p => Sys2Proof.Machine.execStpB128 d b o p s
  | .cstoreB32 d b o p => Sys2Proof.Machine.execCstoreB32 d b o p s
  | .cstoreB64 d b o p => Sys2Proof.Machine.execCstoreB64 d b o p s
  | .atomAdd d b sc r t p => Sys2Proof.Machine.execAtomAdd d b sc r t p s
  | .atomMin d b sc r t p => Sys2Proof.Machine.execAtomMin d b sc r t p s
  | .atomMax d b sc r t p => Sys2Proof.Machine.execAtomMax d b sc r t p s
  | .atomAnd d b sc r t p => Sys2Proof.Machine.execAtomAnd d b sc r t p s
  | .atomOr d b sc r t p => Sys2Proof.Machine.execAtomOr d b sc r t p s
  | .atomXor d b sc r t p => Sys2Proof.Machine.execAtomXor d b sc r t p s
  | .atomExch d b sc r t p => Sys2Proof.Machine.execAtomExch d b sc r t p s
  | .atomCas d b sc r t p => Sys2Proof.Machine.execAtomCas d b sc r t p s
  | .redAdd d b sc r t p => Sys2Proof.Machine.execRedAdd d b sc r t p s
  | .redMin d b sc r t p => Sys2Proof.Machine.execRedMin d b sc r t p s
  | .redMax d b sc r t p => Sys2Proof.Machine.execRedMax d b sc r t p s
  | .redAnd d b sc r t p => Sys2Proof.Machine.execRedAnd d b sc r t p s
  | .redOr d b sc r t p => Sys2Proof.Machine.execRedOr d b sc r t p s
  | .redXor d b sc r t p => Sys2Proof.Machine.execRedXor d b sc r t p s
  | .redflush => Sys2Proof.Machine.execRedflush s
  | .mxacc d b sc r k p => Sys2Proof.Machine.execMxacc d b sc r k p s
  | .syncLd d b sc r w p => Sys2Proof.Machine.execSyncLd d b sc r w p s
  | .syncLdb d b sc r w p => Sys2Proof.Machine.execSyncLdb d b sc r w p s
  | .syncSt d b sc r w p => Sys2Proof.Machine.execSyncSt d b sc r w p s
  | .fence sc r => Sys2Proof.Machine.execFence sc r s
  | .fenceLayer sc r => Sys2Proof.Machine.execFenceLayer sc r s
  | .bar l n => Sys2Proof.Machine.execBar l n s
  | .bararr l n => Sys2Proof.Machine.execBararr l n s
  | .bsync a p => Sys2Proof.Machine.execBsync a p s
  | .semwait f a p n => Sys2Proof.Machine.execSemwait f a p n s
  | .semsig f a p n => Sys2Proof.Machine.execSemsig f a p n s
  | .semset f a p n => Sys2Proof.Machine.execSemset f a p n s
  | .mma d a b p q => Sys2Proof.Machine.execMma d a b p q s
  | .tld d a b p q => Sys2Proof.Machine.execTld d a b p q s
  | .tst d a b p q => Sys2Proof.Machine.execTst d a b p q s
  | .tcopy d a b p q => Sys2Proof.Machine.execTcopy d a b p q s
  | .tclr d a p => Sys2Proof.Machine.execTclr d a p s
  | .job d a p => Sys2Proof.Machine.execJob d a p s
  | .jobq d a p => Sys2Proof.Machine.execJobq d a p s
  | .boxt d a b p q => Sys2Proof.Machine.execBoxt d a b p q s
  | .trit d a b p q => Sys2Proof.Machine.execTrit d a b p q s
  | .tspush d a b p q => Sys2Proof.Machine.execTspush d a b p q s
  | .tspop d a b p q => Sys2Proof.Machine.execTspop d a b p q s
  | .rayinit d p => Sys2Proof.Machine.execRayinit d p s
  | .vexport a b p q => Sys2Proof.Machine.execVexport a b p q s
  | .pexport t a p => Sys2Proof.Machine.execPexport t a p s
  | .sample d a b p q => Sys2Proof.Machine.execSample d a b p q s
  | .samplel d a b p q => Sys2Proof.Machine.execSamplel d a b p q s
  | .sampleg d a b p q => Sys2Proof.Machine.execSampleg d a b p q s
  | .attr d k => Sys2Proof.Machine.execAttr d k s
  | .zquery d => Sys2Proof.Machine.execZquery d s
  | .launch d a b p q => Sys2Proof.Machine.execLaunch d a b p q s
  | .signal a b p q => Sys2Proof.Machine.execSignal a b p q s
  | .perfcl n => Sys2Proof.Machine.execPerfcl n s
  | .flip d a b p q => Sys2Proof.Machine.execFlip d a b p q s
  | .fork d a b p q => Sys2Proof.Machine.execFork d a b p q s
  | .reach k => Sys2Proof.Machine.execReach k s
  | .commit d k => Sys2Proof.Machine.execCommit d k s
  | .commitReg d a p => Sys2Proof.Machine.execCommitReg d a p s
  | .squash d m => Sys2Proof.Machine.execSquash d m s
  | .squashReg d a p => Sys2Proof.Machine.execSquashReg d a p s
  | .rquery d a p => Sys2Proof.Machine.execRquery d a p s
  | .trap n => Sys2Proof.Machine.execTrap n s
  | .brk n => Sys2Proof.Machine.execBrk n s
  | .rett => Sys2Proof.Machine.execRett s
  | .csrr d c => Sys2Proof.Machine.execCsrr d c s
  | .csrw a p c => Sys2Proof.Machine.execCsrw a p c s
  | .csrs d a p c => Sys2Proof.Machine.execCsrs d a p c s
  | .wfi => Sys2Proof.Machine.execWfi s
  | .registerFill => Sys2Proof.Machine.execRegisterFill s
  | .sleepEnd => Sys2Proof.Machine.execSleepEnd s
  | .wfiWake => Sys2Proof.Machine.execWfiWake s
  | .l1Fill => Sys2Proof.Machine.execL1Fill s
  | .writeAcknowledge => Sys2Proof.Machine.execWriteAcknowledge s
  | .homeRead => Sys2Proof.Machine.execHomeRead s
  | .homeWrite => Sys2Proof.Machine.execHomeWrite s
  | .homeAtomic => Sys2Proof.Machine.execHomeAtomic s
  | .redDrainEntry => Sys2Proof.Machine.execRedDrainEntry s
  | .mxaccAtHome => Sys2Proof.Machine.execMxaccAtHome s
  | .pull => Sys2Proof.Machine.execPull s
  | .pullReply => Sys2Proof.Machine.execPullReply s
  | .walkRequest => Sys2Proof.Machine.execWalkRequest s
  | .walkComplete => Sys2Proof.Machine.execWalkComplete s
  | .hostSnoop => Sys2Proof.Machine.execHostSnoop s
  | .hostMemRead => Sys2Proof.Machine.execHostMemRead s
  | .refreshWindow => Sys2Proof.Machine.execRefreshWindow s
  | .memTempSample => Sys2Proof.Machine.execMemTempSample s
  | .hotStateChange => Sys2Proof.Machine.execHotStateChange s
  | .layerTempSample => Sys2Proof.Machine.execLayerTempSample s
  | .powerSample => Sys2Proof.Machine.execPowerSample s
  | .freqStep => Sys2Proof.Machine.execFreqStep s
  | .thermalPeriodStart => Sys2Proof.Machine.execThermalPeriodStart s
  | .watchdog => Sys2Proof.Machine.execWatchdog s
  | .basinClose => Sys2Proof.Machine.execBasinClose s
  | .barrierOpen => Sys2Proof.Machine.execBarrierOpen s
  | .sluiceWave => Sys2Proof.Machine.execSluiceWave s
  | .handlerEntry => Sys2Proof.Machine.execHandlerEntry s
  | .unrecoverableFault => Sys2Proof.Machine.execUnrecoverableFault s
  | .chunkCommitRequest => Sys2Proof.Machine.execChunkCommitRequest s
  | .forkGrant => Sys2Proof.Machine.execForkGrant s
  | .commitPoint => Sys2Proof.Machine.execCommitPoint s
  | .squashPoint => Sys2Proof.Machine.execSquashPoint s
  | .reachStarved => Sys2Proof.Machine.execReachStarved s
  | .settlingComplete => Sys2Proof.Machine.execSettlingComplete s
  | .cardStart => Sys2Proof.Machine.execCardStart s
  | .cardComplete => Sys2Proof.Machine.execCardComplete s
  | .cardFault => Sys2Proof.Machine.execCardFault s
  | .mmaStart => Sys2Proof.Machine.execMmaStart s
  | .mmaGroupFull => Sys2Proof.Machine.execMmaGroupFull s
  | .setupTake => Sys2Proof.Machine.execSetupTake s
  | .windowRelease => Sys2Proof.Machine.execWindowRelease s
  | .pixelBargeClose => Sys2Proof.Machine.execPixelBargeClose s
  | .earlyZTest => Sys2Proof.Machine.execEarlyZTest s
  | .pixelRetire => Sys2Proof.Machine.execPixelRetire s
  | .binBuild => Sys2Proof.Machine.execBinBuild s
  | .verticalBlank => Sys2Proof.Machine.execVerticalBlank s
  | .frameStart => Sys2Proof.Machine.execFrameStart s
  | .queueSlotWrite => Sys2Proof.Machine.execQueueSlotWrite s
  | .wharfTake => Sys2Proof.Machine.execWharfTake s
  | .wharfDispatch => Sys2Proof.Machine.execWharfDispatch s
  | .workgroupStart => Sys2Proof.Machine.execWorkgroupStart s
  | .taskComplete => Sys2Proof.Machine.execTaskComplete s
  | .ctxTeardown => Sys2Proof.Machine.execCtxTeardown s
  | .ctxKill => Sys2Proof.Machine.execCtxKill s
  | .ctxKillDone => Sys2Proof.Machine.execCtxKillDone s
  | .deviceFatal => Sys2Proof.Machine.execDeviceFatal s
  | .tlbiGo => Sys2Proof.Machine.execTlbiGo s
  | .tlbiDone => Sys2Proof.Machine.execTlbiDone s
  | .migLock => Sys2Proof.Machine.execMigLock s
  | .migLocked => Sys2Proof.Machine.execMigLocked s
  | .migSwitch => Sys2Proof.Machine.execMigSwitch s
  | .migRelease => Sys2Proof.Machine.execMigRelease s
  | .colSplitRequest => Sys2Proof.Machine.execColSplitRequest s
  | .colSplitApply => Sys2Proof.Machine.execColSplitApply s
  | .vbusTestGo => Sys2Proof.Machine.execVbusTestGo s
  | .vbusCaptDone => Sys2Proof.Machine.execVbusCaptDone s
  | .vbusLock => Sys2Proof.Machine.execVbusLock s
  | .vbusRetire => Sys2Proof.Machine.execVbusRetire s
  | .mtxLayerLock => Sys2Proof.Machine.execMtxLayerLock s
  | .inputPublish => Sys2Proof.Machine.execInputPublish s
  | .semValWrite => Sys2Proof.Machine.execSemValWrite s
  | .faultLogRead => Sys2Proof.Machine.execFaultLogRead s
  | .faultResume => Sys2Proof.Machine.execFaultResume s
  | .preemptVacate => Sys2Proof.Machine.execPreemptVacate s
  | .preemptSaveGraphics => Sys2Proof.Machine.execPreemptSaveGraphics s
  | .preemptRestoreGraphics => Sys2Proof.Machine.execPreemptRestoreGraphics s
  | .preemptRelease => Sys2Proof.Machine.execPreemptRelease s
  | .preemptDone => Sys2Proof.Machine.execPreemptDone s
  | .savedWorkgroupRestore => Sys2Proof.Machine.execSavedWorkgroupRestore s
  | .powerUp => Sys2Proof.Machine.execPowerUp s
  | .bootVerify => Sys2Proof.Machine.execBootVerify s
  | .bootVerifyComplete => Sys2Proof.Machine.execBootVerifyComplete s
  | .attestExtend => Sys2Proof.Machine.execAttestExtend s
  | .quoteStart => Sys2Proof.Machine.execQuoteStart s
  | .quoteDone => Sys2Proof.Machine.execQuoteDone s
  | .bootKernelGo => Sys2Proof.Machine.execBootKernelGo s
  | .registerWrite => Sys2Proof.Machine.execRegisterWrite s
  | .illegalEncoding => Sys2Proof.Machine.execIllegalEncoding s
  | .powerOff => Sys2Proof.Machine.execPowerOff s
  | .hostMemWrite => Sys2Proof.Machine.execHostMemWrite s
  | .backInvalidateResponse => Sys2Proof.Machine.execBackInvalidateResponse s
  | .hostDataArrival => Sys2Proof.Machine.execHostDataArrival s
  | .semaphoreUpdate => Sys2Proof.Machine.execSemaphoreUpdate s
  | .writeBufferArrival => Sys2Proof.Machine.execWriteBufferArrival s
  | .writeBufferCommit => Sys2Proof.Machine.execWriteBufferCommit s
  | .tileStoreAccess => Sys2Proof.Machine.execTileStoreAccess s
  | .localMemoryAccess => Sys2Proof.Machine.execLocalMemoryAccess s

end Sys2Proof.Machine
end

