-- ==== Sys2Proof/Machine/Shapes.lean ====
section
/-!
DEFINITION. What the checks of R47 and the scoreboard see of each word, in one table: the shape that the word's own
meaning is checked against. An event has no shape of its own.
-/
namespace Sys2Proof.Machine
open Sys2Proof

/-- The shape of a word. -/
def shapeOf (i : Instr) : Shape :=
  match i with
  | .ximm _ => bareShape
  | .ximmh _ => bareShape
  | .xmod _ => bareShape
  | .xpred _ _ => bareShape
  | .xopd _ _ _ _ _ => bareShape
  | .xsch _ _ => bareShape
  | .iadd d a b p q => intShape d a b p q types32 true false
  | .isub d a b p q => intShape d a b p q types32 true false
  | .imul d a b p q => intShape d a b p q types32 true false
  | .imulh d a b p q => intShape d a b p q types32 false false
  | .imad d a b p q => intShape d a b p q types32 true true
  | .imin d a b p q => intShape d a b p q types32 false false
  | .imax d a b p q => intShape d a b p q types32 false false
  | .iabs d a p => intShape1 d a p typesI32 true
  | .ishl d a b p q => intShape d a b p q typesDefault false false
  | .ishr d a b p q => intShape d a b p q typesDefault false false
  | .lshr d a b p q => intShape d a b p q typesDefault false false
  | .popc d a p => intShape1 d a p typesDefault false
  | .clz d a p => intShape1 d a p typesDefault false
  | .brev d a p => intShape1 d a p typesDefault false
  | .iaddImm d a p _ => intShapeI d a p types32 true
  | .imulImm d a p _ => intShapeI d a p types32 true
  | .iminImm d a p _ => intShapeI d a p types32 false
  | .imaxImm d a p _ => intShapeI d a p types32 false
  | .ishlImm d a p _ => intShapeI d a p typesDefault false
  | .ishrImm d a p _ => intShapeI d a p typesDefault false
  | .lshrImm d a p _ => intShapeI d a p typesDefault false
  | .logic3 d a p _ => shapeLogic3 d a p
  | .bfe d a b p q => bitfShape d a b p q { t1 := [0, 3, 4, 7, 8] } false false unitInt 1
  | .bfi d a b p q => bitfShape d a b p q { t1 := [0, 3, 4, 7, 8] } true false unitInt 1
  | .lea d a b p q => bitfShape d a b p q { t1 := types64, aux := [0, 1, 2, 3, 4, 5, 6, 7] } false false unitInt 1
  | .shf d a b p q => bitfShape d a b p q { t1 := types64, aux := [0, 1, 2] } false false unitInt 1
  | .iadd64 d a b p q => bitfShape d a b p q { t1 := types64, sat := true } false false unitInt 1
  | .isub64 d a b p q => bitfShape d a b p q { t1 := types64, sat := true } false false unitInt 1
  | .imul64 d a b p q => bitfShape d a b p q { t1 := types64, sat := true } false false unitMul64 2
  | .imad64 d a b p q => bitfShape d a b p q { t1 := types64, sat := true } false true unitMul64 2
  | .icmp _ e a b p q => cmpShape e a b p q [0, 3, 4, 7, 8] [4, 8]
  | .fcmp _ e a b p q => cmpShape e a b p q [0, 14, 15] [15]
  | .fclass e a _ p => shapeFclass e a p
  | .sel d a b p q => shapeSel d a b p q
  | .pand e f h => predShape e [f, h] [0, 1, 2, 3]
  | .por e f h => predShape e [f, h] [0, 1, 2, 3]
  | .pxor e f h => predShape e [f, h] [0, 1, 2, 3]
  | .pnot e f => predShape e [f] [0, 1]
  | .fadd d a b p q => falu32Shape .add d a b p q
  | .fsub d a b p q => falu32Shape .sub d a b p q
  | .fmul d a b p q => falu32Shape .mul d a b p q
  | .ffma d a b p q => falu32Shape .fma d a b p q
  | .fmin d a b p q => falu32Shape .min d a b p q
  | .fmax d a b p q => falu32Shape .max d a b p q
  | .frnd d a p => falu32Shape .rnd d a 0 p 0
  | .fabs d a p => falu32Shape .abs d a 0 p 0
  | .fneg d a p => falu32Shape .neg d a 0 p 0
  | .fscale d a b p q => falu32Shape .scale d a b p q
  | .faddPacked d a b p q => falu16Shape .add d a b p q
  | .fsubPacked d a b p q => falu16Shape .sub d a b p q
  | .fmulPacked d a b p q => falu16Shape .mul d a b p q
  | .ffmaPacked d a b p q => falu16Shape .fma d a b p q
  | .fminPacked d a b p q => falu16Shape .min d a b p q
  | .fmaxPacked d a b p q => falu16Shape .max d a b p q
  | .frndPacked d a p => falu16Shape .rnd d a 0 p 0
  | .fabsPacked d a p => falu16Shape .abs d a 0 p 0
  | .fnegPacked d a p => falu16Shape .neg d a 0 p 0
  | .fscalePacked d a b p q => falu16Shape .scale d a b p q
  | .faddImm d a p _ => shapeFaluImm .add d a p
  | .fmulImm d a p _ => shapeFaluImm .mul d a p
  | .ffmaImm d a p _ => shapeFaluImm .fma d a p
  | .fminImm d a p _ => shapeFaluImm .min d a p
  | .rcp d a p => shapeSfu .rcp d a 0 p 0
  | .rsq d a p => shapeSfu .rsq d a 0 p 0
  | .sqrt d a p => shapeSfu .sqrt d a 0 p 0
  | .exp2 d a p => shapeSfu .exp2 d a 0 p 0
  | .log2 d a p => shapeSfu .log2 d a 0 p 0
  | .sinpi d a p => shapeSfu .sinpi d a 0 p 0
  | .cospi d a p => shapeSfu .cospi d a 0 p 0
  | .tanh d a p => shapeSfu .tanh d a 0 p 0
  | .divf d a b p q => shapeSfu .divf d a b p q
  | .fcvt d a p => cvtShape d a p { t1 := floatTypes, t2 := floatTypes, rnd := anyRnd, sat := true } fun x => x.t1 != x.t2
  | .icvt d a p => cvtShape d a p { t1 := intTypes, t2 := intTypes, sat := true } fun _ => true
  | .ftoi d a p => cvtShape d a p { t1 := intTypes, t2 := floatTypes, rnd := anyRnd, sat := true } fun _ => true
  | .itof d a p => cvtShape d a p { t1 := floatTypes, t2 := intTypes, rnd := anyRnd, sat := true } fun _ => true
  | .npack d a b p q => shapeNpack d a b p q
  | .nunpack d a p => shapeNunpack d a p
  | .qscale d a p => shapeQscale d a p
  | .qpack d a b p q => shapeQpack d a b p q
  | .qunpack d a b p q => shapeQunpack d a b p q
  | .qdot4 d a b p q => shapeQdot4 d a b p q
  | .dsmul d a b p q => shapeDsmul d a b p q
  | .mov d a p => shapeMov d a p
  | .movi d _ => shapeMovi d
  | .movs d a b p q => shapeMovs d a b p q
  | .shfl d a b p q => shapeShfl d a b p q
  | .ballot d f _ => shapeBallot d f
  | .vote _ e f _ => shapeVote e f
  | .bsel d a b p q => shapeBsel d a b p q
  | .bred d a p => shapeBred d a p
  | .elect e => shapeElect e
  | .csel d a b p q => shapeCsel d a b p q
  | .matchLanes d a p => shapeMatchLanes d a p
  | .lanemask d a p => shapeLanemask d a p
  | .bra c e _ => shapeBra c e
  | .jmp a p => shapeJmp a p
  | .call d _ => shapeCall d
  | .calli d a p => shapeCalli d a p
  | .ret a p => shapeRet a p
  | .mark _ => immShape
  | .join => bareShape
  | .reform d a p i => shapeReform d a p i
  | .exit => shapeExit
  | .nop => bareShape
  | .sleep _ => immShape
  | .yield => bareShape
  | .ldB32 d b o p => shapeGlobalLoad .load 4 d b o p
  | .ldB64 d b o p => shapeGlobalLoad .load 8 d b o p
  | .ldB128 d b o p => shapeGlobalLoad .load 16 d b o p
  | .ldbB32 d b o p => shapeGlobalLoad (.homeLoad false) 4 d b o p
  | .ldbB64 d b o p => shapeGlobalLoad (.homeLoad false) 8 d b o p
  | .ldbB128 d b o p => shapeGlobalLoad (.homeLoad false) 16 d b o p
  | .ldlB32 d b _ p => shapeNearLoad 4 d b p
  | .ldlB64 d b _ p => shapeNearLoad 8 d b p
  | .ldlB128 d b _ p => shapeNearLoad 16 d b p
  | .ldpB32 d b _ p => shapeNearLoad 4 d b p
  | .ldpB64 d b _ p => shapeNearLoad 8 d b p
  | .ldpB128 d b _ p => shapeNearLoad 16 d b p
  | .ldvB32 d b o p => shapeGlobalLoad (.homeLoad true) 4 d b o p
  | .ldvB128 d b o p => shapeGlobalLoad (.homeLoad true) 16 d b o p
  | .prefetch b _ p => shapePrefetch b p
  | .invl1 => memShape
  | .stB32 d b _ p => shapeGlobalStore 4 d b p
  | .stB64 d b _ p => shapeGlobalStore 8 d b p
  | .stB128 d b _ p => shapeGlobalStore 16 d b p
  | .stlB32 d b _ p => shapeNearStore 4 d b p
  | .stlB64 d b _ p => shapeNearStore 8 d b p
  | .stlB128 d b _ p => shapeNearStore 16 d b p
  | .stpB32 d b _ p => shapeNearStore 4 d b p
  | .stpB64 d b _ p => shapeNearStore 8 d b p
  | .stpB128 d b _ p => shapeNearStore 16 d b p
  | .cstoreB32 d b _ p => shapeCompactStore 4 d b p
  | .cstoreB64 d b _ p => shapeCompactStore 8 d b p
  | .atomAdd d b _ _ t p => shapeAtomic .add false (atomType t).bytes d b p
  | .atomMin d b _ _ t p => shapeAtomic .min false (atomType t).bytes d b p
  | .atomMax d b _ _ t p => shapeAtomic .max false (atomType t).bytes d b p
  | .atomAnd d b _ _ t p => shapeAtomic .and false (atomType t).bytes d b p
  | .atomOr d b _ _ t p => shapeAtomic .or false (atomType t).bytes d b p
  | .atomXor d b _ _ t p => shapeAtomic .xor false (atomType t).bytes d b p
  | .atomExch d b _ _ t p => shapeAtomic .exch false (atomType t).bytes d b p
  | .atomCas d b _ _ t p => shapeAtomic .cas false (atomType t).bytes d b p
  | .redAdd d b _ _ t p => shapeAtomic .add true (atomType t).bytes d b p
  | .redMin d b _ _ t p => shapeAtomic .min true (atomType t).bytes d b p
  | .redMax d b _ _ t p => shapeAtomic .max true (atomType t).bytes d b p
  | .redAnd d b _ _ t p => shapeAtomic .and true (atomType t).bytes d b p
  | .redOr d b _ _ t p => shapeAtomic .or true (atomType t).bytes d b p
  | .redXor d b _ _ t p => shapeAtomic .xor true (atomType t).bytes d b p
  | .redflush => shapeRedflush
  | .mxacc d b _ _ _ p => shapeMxacc d b p
  | .syncLd d b _ _ w p => syncShape d b w p false
  | .syncLdb d b _ _ w p => syncShape d b w p false
  | .syncSt d b _ _ w p => syncShape d b w p true
  | .fence _ _ => memShape
  | .fenceLayer _ _ => shapeFenceLayer
  | .bar _ _ => shapeBar
  | .bararr _ _ => shapeBararr
  | .bsync a p => shapeBsync a p
  | .semwait _ a p _ => shapeSemwait a p
  | .semsig f a p _ => semShape a p (if f = 0 then [0] else [0, 4, 5, 6, 7]) fun _ => true
  | .semset f a p _ => semShape a p (if f = 0 then [0] else [0, 4, 5, 6, 7]) fun _ => true
  | .mma d a b p q => shapeMma d a b p q
  | .tld d a b p q => shapeTileWord false d a b p q
  | .tst d a b p q => shapeTileWord true d a b p q
  | .tcopy d a b p q => shapeRectangleWord true d a b p q
  | .tclr d a p => shapeRectangleWord false d a 0 p 0
  | .job d a p => shapeJobWord d a p
  | .jobq d a p => shapeJobWord d a p
  | .boxt d a b p q => shapeTestWord 2 d a b p q
  | .trit d a b p q => shapeTestWord 4 d a b p q
  | .tspush d a b p q => shapeTspush d a b p q
  | .tspop d a b p q => shapeTspop d a b p q
  | .rayinit d p => shapeRayinit d p
  | .vexport a b p q => shapeVexport a b p q
  | .pexport t a p => shapePexport t a p
  | .sample d a b p q => shapeSampleWord 0 d a b p q
  | .samplel d a b p q => shapeSampleWord 1 d a b p q
  | .sampleg d a b p q => shapeSampleWord 2 d a b p q
  | .attr d _ => shapeAttr d
  | .zquery d => shapeZquery d
  | .launch d a b p q => shapeLaunch d a b p q
  | .signal a b p q => shapeSignal a b p q
  | .perfcl _ => bareShape
  | .flip d a b p q => shapeFlip d a b p q
  | .fork d a b p q => shapeFork d a b p q
  | .reach _ => shapeReach
  | .commit d _ => shapeVersionWord d []
  | .commitReg d a p => shapeVersionWord d [reg a p]
  | .squash d _ => shapeVersionWord d []
  | .squashReg d a p => shapeVersionWord d [reg a p]
  | .rquery d a p => shapeRquery d a p
  | .trap _ => bareShape
  | .brk _ => bareShape
  | .rett => rettShape
  | .csrr d c => csrShape true d [] c
  | .csrw a p c => csrShape false 0 [reg a p] c
  | .csrs d a p c => csrShape true d [reg a p] c
  | .wfi => bareShape
  | .registerFill => bareShape
  | .sleepEnd => bareShape
  | .wfiWake => bareShape
  | .l1Fill => bareShape
  | .writeAcknowledge => bareShape
  | .homeRead => bareShape
  | .homeWrite => bareShape
  | .homeAtomic => bareShape
  | .redDrainEntry => bareShape
  | .mxaccAtHome => bareShape
  | .pull => bareShape
  | .pullReply => bareShape
  | .walkRequest => bareShape
  | .walkComplete => bareShape
  | .hostSnoop => bareShape
  | .hostMemRead => bareShape
  | .refreshWindow => bareShape
  | .memTempSample => bareShape
  | .hotStateChange => bareShape
  | .layerTempSample => bareShape
  | .powerSample => bareShape
  | .freqStep => bareShape
  | .thermalPeriodStart => bareShape
  | .watchdog => bareShape
  | .basinClose => bareShape
  | .barrierOpen => bareShape
  | .sluiceWave => bareShape
  | .handlerEntry => bareShape
  | .unrecoverableFault => bareShape
  | .chunkCommitRequest => bareShape
  | .forkGrant => bareShape
  | .commitPoint => bareShape
  | .squashPoint => bareShape
  | .reachStarved => bareShape
  | .settlingComplete => bareShape
  | .cardStart => bareShape
  | .cardComplete => bareShape
  | .cardFault => bareShape
  | .mmaStart => bareShape
  | .mmaGroupFull => bareShape
  | .setupTake => bareShape
  | .windowRelease => bareShape
  | .pixelBargeClose => bareShape
  | .earlyZTest => bareShape
  | .pixelRetire => bareShape
  | .binBuild => bareShape
  | .verticalBlank => bareShape
  | .frameStart => bareShape
  | .queueSlotWrite => bareShape
  | .wharfTake => bareShape
  | .wharfDispatch => bareShape
  | .workgroupStart => bareShape
  | .taskComplete => bareShape
  | .ctxTeardown => bareShape
  | .ctxKill => bareShape
  | .ctxKillDone => bareShape
  | .deviceFatal => bareShape
  | .tlbiGo => bareShape
  | .tlbiDone => bareShape
  | .migLock => bareShape
  | .migLocked => bareShape
  | .migSwitch => bareShape
  | .migRelease => bareShape
  | .colSplitRequest => bareShape
  | .colSplitApply => bareShape
  | .vbusTestGo => bareShape
  | .vbusCaptDone => bareShape
  | .vbusLock => bareShape
  | .vbusRetire => bareShape
  | .mtxLayerLock => bareShape
  | .inputPublish => bareShape
  | .semValWrite => bareShape
  | .faultLogRead => bareShape
  | .faultResume => bareShape
  | .preemptVacate => bareShape
  | .preemptSaveGraphics => bareShape
  | .preemptRestoreGraphics => bareShape
  | .preemptRelease => bareShape
  | .preemptDone => bareShape
  | .savedWorkgroupRestore => bareShape
  | .powerUp => bareShape
  | .bootVerify => bareShape
  | .bootVerifyComplete => bareShape
  | .attestExtend => bareShape
  | .quoteStart => bareShape
  | .quoteDone => bareShape
  | .bootKernelGo => bareShape
  | .registerWrite => bareShape
  | .illegalEncoding => bareShape
  | .powerOff => bareShape
  | .hostMemWrite => bareShape
  | .backInvalidateResponse => bareShape
  | .hostDataArrival => bareShape
  | .semaphoreUpdate => bareShape
  | .writeBufferArrival => bareShape
  | .writeBufferCommit => bareShape
  | .tileStoreAccess => bareShape
  | .localMemoryAccess => bareShape

end Sys2Proof.Machine
end

