-- ==== Sys2Proof/Machine/Issue.lean ====
section
/-!
DEFINITION. How a barge comes to issue: when it may (R227, R228, R375), the fetch of its next word (R80, R96), and what it
issues (R31, R393); how time passes while nothing is due, with the watchdog's counters (R356).
-/
namespace Sys2Proof.Machine
open Sys2Proof

/-! ## Which barge issues (R227, R228, R375) -/

/-- Does a barge wait for something that re-injection does not disturb? -/
def Barge.standing (b : Barge) : Bool := b.waitBar.isSome || b.semWait.isSome || b.wfi

/-- The cycle from which a barge may issue; none while it waits for an event or has no running thread. -/
def Barge.readyFromCycle (b : Barge) : Option Nat :=
  if b.stop.isSome || b.trap.isSome then none
  else if !b.reinject.isEmpty then if b.blocked && !b.standing then none else some b.readyAt
  else if b.blocked || b.running = 0 then none
  else
    match b.follow with
    | some a => some (if a = b.next.1 then b.readyAt else max b.readyAt (b.lastIssue + 4))
    | none => some b.readyAt

/-- May a barge issue now? -/
def Barge.eligibleNow (b : Barge) (now : Nat) : Bool :=
  match b.readyFromCycle with
  | some t => decide (t ≤ now)
  | none => false

/-- Has a quarter of a core issued in this cycle? -/
def State.quarterIssued (s : State) (core q : Nat) : Bool := decide ((s.core core).lastIssue.look q = some s.now)

/-- The barges that may issue now, in quarters that have not issued. -/
def State.eligibleBarges (s : State) : Tab Barge :=
  s.barges.filter fun p => p.2.eligibleNow s.now && !s.quarterIssued (p.1 / 512) (quarterOf (p.1 % 512))

/-- R375's choice within a quarter: the lowest that has waited 1,024 cycles; else none yielding before yielding, urgent
before not, and the lowest slot. -/
def State.chooseFrom (s : State) (es : Tab Barge) : Option (Nat × Barge) :=
  match es.find? fun p => decide (p.2.eligibleSince + 1024 ≤ s.now) with
  | some p => some p
  | none =>
    let rank (p : Nat × Barge) : Nat :=
      (if p.2.yieldPending then 2 else 0) + (if s.urgent (p.1 / 512) (p.1 % 512) then 0 else 1)
    es.foldl (fun (m : Option (Nat × Barge)) p =>
      match m with
      | none => some p
      | some q => if rank p < rank q then some p else some q) none

/-- The barge that issues next: of the lowest core and quarter that has one. -/
def State.pick (s : State) : Option (Nat × Barge) :=
  match s.eligibleBarges with
  | [] => none
  | p :: r =>
    s.chooseFrom ((p :: r).filter fun q =>
      decide (q.1 / 512 = p.1 / 512 ∧ quarterOf (q.1 % 512) = quarterOf (p.1 % 512)))

/-! ## Fetching (R18, R80, R89, R96) -/

/-- What a fetch finds. -/
inductive Fetched where
  | word (w : Word) (s : State)
  /-- The barge waits for its translation. -/
  | wait (s : State)
  | trap (cause : BitVec 8)

/-- The cause of a fetch from a page, in the order of R96. -/
def State.fetchCause (s : State) (l : Leaf) (va : Nat) : Option (BitVec 8) :=
  let cells := l.physical va 4
  if cells.any fun pa => !populated s pa then some 0x48
  else if (cells.any fun pa => inAperture (lineOf pa)) && (decide (l.fmt ≠ 0) || l.ver) then some 0x4D
  else if !l.x then some 0x44
  else if (l.lines va 4).any (s.poisoned (l.who 0 0 none)) then some 0x59
  else none

/-- Fetch the word at an address for a barge: through the core's TLB, or once a walk has answered. -/
def State.fetch (s : State) (core slot : Nat) (b : Barge) (addr : Dword) : Fetched :=
  let va := addr.toNat
  if !canonical va then .trap 0x41
  else
    match s.lookupPage core b.ctx (vpnOf va) with
    | none =>
      .wait ((s.setBarge core slot { b with blocked := true, wait := .other }).requestWalk core b.ctx (vpnOf va)
        (some (bargeKey core slot)) none 12)
    | some (l, cost, t) =>
      if cost ≠ 0 then
        .wait (t.setBarge core slot { b with readyAt := s.now + cost, eligibleSince := s.now + cost, wait := .other })
      else
        match s.fetchCause l va with
        | some c => .trap c
        | none => .word (BitVec.ofNat 32 (leNat (s.readView (l.who b.ctx 0 none) l va 4))) t

/-! ## Issuing -/

/-- The cause of a word that is no instruction (R46). -/
def causeCode : DecodeError → Nat
  | .illClass => 0
  | .illOp => 1
  | .illField => 2
  | .illOrder => 4
  | .badPrefix => 2

/-- The cause of an order code that a word does not take: ILL_FIELD where its base is no pair though its space is the global
one (step 3 of R47), for the space depends on the chain; else ILL_ORDER (step 4). -/
def orderCause (s : State) (iss : Issue) : Nat :=
  if pairOk (wordA iss.word) || (Pre.ofWords (chainWords s iss)).aux ≠ 0 then 4 else 2

/-- Run one word: its instruction, or the trap of a word that is none. A prefix with a bad payload stays in its chain, whose
other checks come first (R47). -/
def runWord (s : State) (iss : Issue) : Host.Outcome State Fault Refusal :=
  let s := { s with issue := some iss, args := [] }
  match decode iss.word with
  | .ok i => exec i s
  | .error .badPrefix => prefixWord s
  | .error .illOrder => exec .illegalEncoding { s with args := [orderCause s iss] }
  | .error e => exec .illegalEncoding { s with args := [causeCode e] }

/-- Issue the next word of a barge's program. -/
def State.issueFetched (s : State) (core slot : Nat) (b : Barge) : Host.Outcome State Fault Refusal :=
  let (addr, group, marks, start) := b.next
  let b := { b with yieldMarks := marks }
  let s := s.setBarge core slot b
  match s.fetch core slot b addr with
  | .wait t => done t
  | .trap c => done (s.trapAt core slot { cause := c, va := addr } start)
  | .word w t => runWord t { core, slot, addr, group, chainStart := start, word := w }

/-- The end of a re-injection: an entry that was held stays at the head; ordinary issue resumes four cycles after the
last (R393). -/
def State.afterEntry (s : State) (core slot : Nat) (e : Entry) (rest : List Entry) : State :=
  if s.quarterIssued core (quarterOf slot) then
    if ((s.barge core slot).map fun b => b.reinject.isEmpty).getD true then
      s.onBarge core slot fun b => { b with readyAt := max b.readyAt (s.now + 4), eligibleSince := max b.readyAt (s.now + 4) }
    else s
  else s.onBarge core slot fun b => { b with reinject := e :: rest }

/-- Re-inject the chain of an entry as one unit, with its lanes and operands (R393). -/
def State.issueEntry (s : State) (core slot : Nat) (b : Barge) (e : Entry) (rest : List Entry) :
    Host.Outcome State Fault Refusal :=
  let s := s.setBarge core slot { b with reinject := rest }
  match runWord s { core, slot, addr := e.addr + BitVec.ofNat 64 (4 * (e.words.length - 1)), group := e.lanes,
                    chainStart := e.addr, word := e.words.getLast?.getD 0, replay := some e } with
  | .next t => .next (t.afterEntry core slot e rest)
  | .fault f => .fault f
  | .refused r => .refused r

/-- Does an instruction only join the chain in front of another (R30)? -/
def Instr.isPrefix : Instr → Bool
  | .ximm _ => true
  | .ximmh _ => true
  | .xmod _ => true
  | .xpred _ _ => true
  | .xopd _ _ _ _ _ => true
  | .xsch _ _ => true
  | _ => false

/-- Would this word be held at issue, but for its unit? -/
def State.wordWaits (s : State) (iss : Issue) (b : Barge) : Bool :=
  match decode iss.word with
  | .error _ => false
  | .ok i =>
    let g := goOf (shapeOf i) s iss b
    let w := g.holdReason (shapeOf i) s
    !Instr.isPrefix i && (g.checkCause (shapeOf i) s).isNone && w != .none && w != .unit

/-- Does a barge whose turn it could be wait for something in this cycle, its unit aside: its word's translation, or what holds the
word (R26, R27, R197)? -/
def State.waits (s : State) (core slot : Nat) (b : Barge) : Bool :=
  if b.dead || b.delivered.isSome then false
  else
    match b.reinject with
    | e :: _ =>
      s.wordWaits { core, slot, addr := e.addr, group := e.lanes, chainStart := e.addr, word := e.words.getLast?.getD 0,
                    replay := some e } b
    | [] =>
      let (addr, group, _, start) := b.next
      if !canonical addr.toNat then false
      else
        match (s.core core).tlb.find? fun e => e.covers b.ctx (vpnOf addr.toNat) with
        | none => true
        | some e =>
          if (s.fetchCause e.leaf addr.toNat).isSome then false
          else
            let w := BitVec.ofNat 32 (leNat (s.readView (e.leaf.who b.ctx 0 none) e.leaf addr.toNat 4))
            s.wordWaits { core, slot, addr, group, chainStart := start, word := w } b

/-- The barges of a quarter that wait while one of it has the turn are not eligible in this cycle, and their 1,024 cycles begin
again (R375). -/
def State.passOver (s : State) (k : Nat) : State :=
  let core := k / 512
  let others := s.eligibleBarges.filter fun p =>
    p.1 != k && decide (p.1 / 512 = core ∧ quarterOf (p.1 % 512) = quarterOf (k % 512)) && s.waits core (p.1 % 512) p.2
  others.foldl (fun t p => t.onBarge core (p.1 % 512) fun b => { b with eligibleSince := s.now + 1 }) s

/-- What a barge does at its next issue: a delivered cause traps in place of the word (R149, R270, R321, R384). -/
def State.issueFrom (s : State) (core slot : Nat) (b : Barge) : Host.Outcome State Fault Refusal :=
  if b.dead then done (s.takeTrap core slot { cause := 0x93 } b.next.2.2.2 none)
  else
    match b.delivered with
    | some c =>
      let t := s.setBarge core slot { b with delivered := none, deliveredEntry := none }
      done (t.takeTrap core slot { cause := c, va := b.deliveredVa } b.next.2.2.2 (b.deliveredEntry.map fun e => (0, e)))
    | none =>
      match b.reinject with
      | e :: rest => s.issueEntry core slot b e rest
      | [] => s.issueFetched core slot b

/-! ## Events -/

/-- The words whose second half, at the hub or an engine, is an event of the same name. -/
def Instr.hasHubHalf : Instr → Bool
  | .signal _ _ _ _ => true
  | .flip _ _ _ _ _ => true
  | .mma _ _ _ _ _ => true
  | .rquery _ _ _ => true
  | .csrr _ _ => true
  | .csrw _ _ _ => true
  | .csrs _ _ _ _ => true
  | _ => false

/-- Is it an event: a row with no encoding, or the second half of a word, with what it acts on? Nothing else ever stands in
an agenda. -/
def Event.legal (e : Event) : Bool :=
  if e.what.isWord then Instr.hasHubHalf e.what && !e.args.isEmpty else e.what != .illegalEncoding

/-- Take the event that heads the agenda. An unpowered part takes only its power-up (R413). -/
def State.runEvent (s : State) (e : Event) (rest : List (Nat × Event)) : Host.Outcome State Fault Refusal :=
  let s := { s with agenda := rest, args := e.args, issue := none }
  if e.legal && (s.powered || e.what == .powerUp) then exec e.what s else done s

/-! ## Time -/

/-- The least of some cycles. -/
def leastOf (l : List Nat) : Option Nat := l.foldl (fun m t => some (min (m.getD t) t)) none

/-- The next cycle in which something may happen: an event, or a barge that may issue; the next one where nothing is
known. -/
def State.nextCycle (s : State) : Nat :=
  let events := (s.agenda.head?.map (·.1)).toList
  let barges := s.barges.filterMap fun p => p.2.readyFromCycle
  max (s.now + 1) ((leastOf (events ++ barges)).getD (s.now + 1))

/-- Counted waiters of a context, by the hub cycle in which the wait began (R356). -/
def State.countedSince (s : State) (ctx : Nat) : Option Nat :=
  leastOf ((s.countedBarges ctx).map fun p => hubCycle p.2.waitSince)

/-- Hub cycles from one to before another that count for a context: those with a counted waiter, in which it retired
nothing (R356). -/
def State.countedCycles (s : State) (ctx lo hi : Nat) : Nat :=
  match s.countedSince ctx with
  | none => 0
  | some w =>
    let a := max lo w
    let r := (s.ctx ctx).retired
    (hi - a) - (if a ≤ r ∧ r < hi then 1 else 0)

/-- The counter of a context after time has passed; at LIMIT the watchdog fires (R357). -/
def State.countWatchdog (s : State) (lo hi ctx : Nat) : State :=
  let n := s.countedCycles ctx lo hi
  if n = 0 then s
  else
    let c := s.ctx ctx
    let total := c.watchdog + n
    let limit := s.hub.watchdogLimit.toNat
    let s := s.setCtx ctx { c with watchdog := total }
    if limit ≠ 0 && decide (limit ≤ total) then s.postNext .watchdog [ctx] else s

/-- Cycles until some counter may reach LIMIT. -/
def State.watchdogBound (s : State) : Option Nat :=
  let limit := s.hub.watchdogLimit.toNat
  if limit = 0 then none
  else
    leastOf ((s.ctxs.filter fun c => (s.countedSince c.1).isSome).map fun c =>
      ofHubCycle (hubCycle s.now + max 1 (limit - c.2.watchdog)))

/-- Nothing is due in this cycle: time passes to the next that may matter. -/
def State.advance (s : State) : State :=
  let t := match s.watchdogBound with
    | some w => min s.nextCycle (max (s.now + 1) w)
    | none => s.nextCycle
  (s.ctxs.map (·.1)).foldl (fun s' c => s'.countWatchdog (hubCycle s.now) (hubCycle t) c) { s with now := t }

end Sys2Proof.Machine
end

