-- ==== Sys2Proof/Machine/Step.lean ====
section
/-!
DEFINITION. One step of the machine: an event that is due, or one word of one barge, or the passing of time; and the
host's way of placing a word where the next step fetches it.
-/
namespace Sys2Proof.Machine
open Sys2Proof

/-- What happens next: the event at the head of the agenda where it is due (equal cycles in the order posted, log 5), else
the word that R375 chooses, else time passes. -/
def State.turn (s : State) : Host.Outcome State Fault Refusal :=
  match s.agenda with
  | (t, e) :: rest =>
    if t ≤ s.now then s.runEvent e rest
    else
      match (if s.powered then s.pick else none) with
      | some (k, b) => (s.passOver k).issueFrom (k / 512) (k % 512) b
      | none => .next s.advance
  | [] =>
    match (if s.powered then s.pick else none) with
    | some (k, b) => (s.passOver k).issueFrom (k / 512) (k % 512) b
    | none => .next s.advance

/-- One step: what happens next, and its writes to memory. -/
def step (s : State) : Host.Outcome State Fault Refusal :=
  match s.turn with
  | .next t => .next (t.land s.mem)
  | .fault f => .fault f
  | .refused r => .refused r

/-- Virtual address at which withFetchWord places its word. -/
def probeVa : Nat := 0x10000

/-- Physical address of that page. -/
def probePa : Nat := 0x100000

/-- A barge that is about to issue the word there with all its threads; it keeps the registers of the barge it replaces. -/
def probeBarge (b : Barge) : Barge :=
  { ctx := 1, node := b.node, wg := b.wg, number := b.number, laneWg := b.laneWg, regs := b.regs, wgid := b.wgid,
    pcs := List.replicate 32 (BitVec.ofNat 64 probeVa), running := BitVec.allOnes 32, waitAt := List.replicate 32 0,
    preds := b.preds, v := b.v, s := b.s, fctl := b.fctl }

/-- The machine about to fetch and run a word (log 2): a resident barge of a valid context with the page of the word in its
core's TLB, and no event due. It stands for the loading of a program, which the host does through a queue (R360). -/
def State.withFetchWord (s : State) (nbits w : Nat) : State :=
  let v := w % 2 ^ nbits
  let leaf : Leaf := { frame := BitVec.ofNat 40 (probePa / 4096), kind := 1, x := true, w := true }
  let b := probeBarge ((s.barge 0 0).getD { regs := 96 })
  let c := s.core 0
  { s with
    powered := true, agenda := [], args := [], issue := none, pending := []
    mem := s.mem.writeAll ((List.range 4).map fun k => (probePa + k, BitVec.ofNat 8 (v / 2 ^ (8 * k))))
    lines := s.lines.cut (probePa / 128), versions := []
    hub := { s.hub with migs := [] }
    ctxs := s.ctxs.put 1 { s.ctx 1 with valid := true }
    cores := s.cores.put 0 { c with tlb := [{ ctx := 1, vpn := vpnOf probeVa, leaf }], lastIssue := [] }
    barges := [(0, b)] }

end Sys2Proof.Machine
end

