-- ==== Sys2Proof/Safety.lean ====
section
/-!
DEFINITION. What the statements call safe: a run that never stops, the invariant of the machine's memory, and when a
word meets none of the checks and waits of R47.
-/
namespace Sys2Proof.Machine
open Sys2Proof

/-! ## Runs -/

/-- The machine takes a step and does not stop. -/
def State.goesOn (s : State) : Prop := ∃ t, step s = .next t

/-- A run of n steps that does not stop. -/
def State.safeFor (n : Nat) (s : State) : Prop := ∃ t, Host.Core.run Sys2Proof.core n s = .next t

/-- Between steps memory has its canonical form, no write waits to land, and no word or event is under way. -/
structure State.Inv (s : State) : Prop where
  mem : s.mem.wf = true
  landed : s.pending = []
  quiet : s.issue = none ∧ s.args = []

/-! ## Words that issue -/

/-- A word is about to issue as `g`: a barge issues it, and `g` holds what it would run with. -/
def Issues (i : Instr) (s : State) (g : Go) : Prop :=
  ∃ iss b, s.issue = some iss ∧ s.barge iss.core iss.slot = some b ∧ g = goOf (shapeOf i) s iss b

/-- A word is about to issue and meets none of the checks of R47 from step 3 to step 10, and nothing holds it: its
fields, prefixes and operands are legal, its operands are full and off the scoreboard, its unit is free, its own waits are
over, and the label it acts under is live. -/
structure Clear (i : Instr) (s : State) (g : Go) : Prop where
  issues : Issues i s g
  checked : g.checkCause (shapeOf i) s = none
  unheld : g.holdReason (shapeOf i) s = .none
  reachable : g.reachCause (shapeOf i) s = none

/-- A word is about to issue, has passed the checks of R47 before step 9, and nothing holds it. -/
structure Ready (i : Instr) (s : State) (g : Go) : Prop where
  issues : Issues i s g
  checked : g.checkCause (shapeOf i) s = none
  unheld : g.holdReason (shapeOf i) s = .none

/-! ## What a word leaves -/

/-- Destination `d` of a barge holds these words in a lane: the words of a vector register, or the value of a scalar
register, which every lane shares (R20, R21). -/
def Barge.holds (b : Barge) (d : Dst) (lane : Nat) (ws : List Word) : Prop :=
  if isScalar d.spec then
    b.sreg (d.spec.toNat - 96) = if d.words = 1 then (ws.getD 0 0).setWidth 64 else ws.getD 1 0 ++ ws.getD 0 0
  else ∀ k, k < d.words → b.vreg (d.spec.toNat + k) lane = ws.getD k 0

/-- Is word k of lane i of this destination's result the register r of lane i? -/
def Dst.covers (d : Dst) (r : Nat) : Prop := isScalar d.spec = false ∧ d.spec.toNat ≤ r ∧ r < d.spec.toNat + d.words

/-- The registers outside a destination are as before: every v register and lane that it does not cover, or whose lane is
not active, and every s register but itself. -/
structure KeepsRegisters (b b' : Barge) (active : Mask) (d : Dst) : Prop where
  v : ∀ r i, i < 32 → (¬ d.covers r ∨ laneOn active i = false) → b'.vreg r i = b.vreg r i
  s : ∀ n, (isScalar d.spec = false ∨ n ≠ d.spec.toNat - 96) → b'.sreg n = b.sreg n

/-- The predicates, FCTL, the reach tag, the registers of a trap, the join stack and the states of the threads are as
before. -/
structure KeepsControl (b b' : Barge) : Prop where
  preds : b'.preds = b.preds
  fctl : b'.fctl = b.fctl
  tag : b'.tag = b.tag
  handler : b'.handler = b.handler
  trap : b'.trap = b.trap
  trapCode : b'.trapCode = b.trapCode
  trapCause : b'.trapCause = b.trapCause
  trapFrame : b'.trapFrame = b.trapFrame
  joins : b'.joins = b.joins
  running : b'.running = b.running
  exited : b'.exited = b.exited

/-- The threads of the issuing group stand at the next word, the others where they were; a re-injected word moves none
(R18, R393). -/
def PassedWord (g : Go) (b' : Barge) : Prop :=
  ∀ i, i < 32 → b'.pcs.getD i 0 = if !g.replay && laneOn g.group i then g.addr + 4 else g.b.pcs.getD i 0

/-- Outside the barge nothing that a program sees has changed: the other barges, every byte of memory, local memory and
the tile store of every core, the hub's registers, the work in flight. -/
structure KeepsMachine (g : Go) (s t : State) : Prop where
  barges : ∀ k m, 512 * k + m ≠ 512 * g.core + g.slot → t.barge k m = s.barge k m
  memory : ∀ a, t.byteAt a = s.byteAt a
  localMem : ∀ k, (t.core k).localMem = (s.core k).localMem
  tile : ∀ k, (t.core k).tile = (s.core k).tile
  lines : t.lines = s.lines
  versions : t.versions = s.versions
  hub : t.hub = s.hub
  towers : t.towers = s.towers
  clusters : t.clusters = s.clusters
  wgs : t.wgs = s.wgs
  flights : t.flights = s.flights
  agenda : t.agenda = s.agenda

/-- A word has retired with a result in its destination and no other effect on what a program sees. -/
structure Retired (g : Go) (s t : State) (d : Dst) (f : Nat → List Word) : Prop where
  machine : KeepsMachine g s t
  barge : ∃ b', t.barge g.core g.slot = some b' ∧ (∀ i, i < 32 → laneOn g.active i = true → b'.holds d i (f i))
    ∧ KeepsRegisters g.b b' g.active d ∧ KeepsControl g.b b' ∧ PassedWord g b'

/-- A word has retired with a predicate written in its active lanes and no other effect on what a program sees. -/
structure RetiredPred (g : Go) (s t : State) (e : BitVec 3) (f : Nat → Bool) : Prop where
  machine : KeepsMachine g s t
  barge : ∃ b', t.barge g.core g.slot = some b'
    ∧ (∀ i, i < 32 → laneOn (b'.pred e) i = if laneOn g.active i then f i else laneOn (g.b.pred e) i)
    ∧ (∀ p, p ≠ e → b'.pred p = g.b.pred p)
    ∧ b'.v = g.b.v ∧ b'.s = g.b.s ∧ KeepsControl { g.b with preds := b'.preds } b' ∧ PassedWord g b'

/-- A word has retired with no effect at all: it took its issue slot. -/
structure RetiredNone (g : Go) (s t : State) : Prop where
  machine : KeepsMachine g s t
  barge : ∃ b', t.barge g.core g.slot = some b' ∧ b'.v = g.b.v ∧ b'.s = g.b.s ∧ KeepsControl g.b b' ∧ PassedWord g b'

/-- A transfer has retired: its active lanes stand at their targets, the other threads of its group at the next word
(R227, R239). -/
structure Jumped (g : Go) (s t : State) (target : Nat → Dword) (b' : Barge) : Prop where
  machine : KeepsMachine g s t
  barge : t.barge g.core g.slot = some b'
  control : KeepsControl g.b b'
  pcs : ∀ i, i < 32 → b'.pcs.getD i 0 =
    if laneOn g.active i then target i else if !g.replay && laneOn g.group i then g.addr + 4 else g.b.pcs.getD i 0

/-- Every word of a destination is marked empty in every lane of a mask (R25). -/
def Barge.marked (b : Barge) (active : Mask) (d : Dst) : Prop :=
  if isScalar d.spec then b.sEmpty.getLsbD (d.spec.toNat - 96) = true
  else ∀ k, k < d.words → active &&& ~~~(b.emptyLanes (d.spec.toNat + k)) = 0

/-- A word has issued whose result is due at a cycle: its destination is empty in its active lanes, the registers hold what
they held, and its work in flight will fill the destination (R25). -/
structure Awaits (g : Go) (s t : State) (d : Dst) (due : Nat) (fl : Flight) : Prop where
  machine : KeepsMachine g { s with flights := t.flights, agenda := t.agenda } t
  flights : t.flights = s.flights.put s.nextId fl
  agenda : t.agenda = agendaInsert due { what := .registerFill, args := [s.nextId] } s.agenda
  barge : ∃ b', t.barge g.core g.slot = some b' ∧ b'.v = g.b.v ∧ b'.s = g.b.s ∧ KeepsControl g.b b' ∧ PassedWord g b'
    ∧ b'.marked g.active d

end Sys2Proof.Machine
end

