-- ==== Sys2Proof/Certificates/Slice0/Obligations.lean ====
section
/-!
DEFINITION. The statements for the provers, each from the numbered rules of the spec that its docstring names. The
namespace Claims holds the spec's own arithmetic in which results are stated.
-/
namespace Sys2Proof.Claims
open Sys2Proof Sys2Proof.Machine

/-! ## What a statement says of a word -/

/-- A clear word completes with a result in its destination. -/
def Writes (i : Instr) (s : State) (g : Go) (d : Dst) (f : Nat → List Word) : Prop :=
  ∃ t, exec i s = .next t ∧ Retired g s t d f

/-- A clear word completes with a predicate written. -/
def WritesPred (i : Instr) (s : State) (g : Go) (e : BitVec 3) (f : Nat → Bool) : Prop :=
  ∃ t, exec i s = .next t ∧ RetiredPred g s t e f

/-- A word that has issued traps with a cause at its own position, and does nothing else. -/
def Traps (i : Instr) (s : State) (g : Go) (x : Cause) : Prop := exec i s = done (g.trap x s)

/-- A word or an event completes: exec answers a next state, in which nothing is under way. -/
def Completes (i : Instr) (s t : State) : Prop := exec i s = .next t.rest

/-- A word takes its issue slot and has no other effect (R34). -/
def TakesSlot (i : Instr) (s : State) (g : Go) : Prop := Completes i s (g.finish g.b s)

/-- The results of the active lanes raise no flag that FCTL enables, so R71 takes no trap. -/
def Untrapped (g : Go) (f : Nat → LaneResult) : Prop := enabledCause g.b.fctl.enable (raisedFlags g.active f) = none

/-- A word that can raise flags completes: its result is in its destination, and the flags its active lanes raise reach
FCTL when it writes back (R71). -/
def WritesFloat (i : Instr) (s : State) (g : Go) (d : Dst) (latency : Nat) (f : Nat → LaneResult) : Prop :=
  ∃ t, exec i s = .next t ∧ Retired g s t d (fun l => (f l).words) ∧
    ∀ b', t.barge g.core g.slot = some b' → b'.raised =
      if raisedFlags g.active f = {} then g.b.raised else g.b.raised ++ [(s.now + latency, raisedFlags g.active f)]

/-- A word whose result falls due later completes its issue: the destination is empty, and the work in flight holds the
result of each lane (R25). -/
def Fills (i : Instr) (s : State) (g : Go) (d : Dst) (latency : Nat) (f : Nat → LaneResult) : Prop :=
  ∃ t fl, exec i s = .next t ∧ Awaits g s t d (s.now + latency) fl ∧ fl.kind = .unit ∧ fl.dst = d.spec
    ∧ fl.words = d.words ∧ fl.flags = raisedFlags g.active f ∧ fl.cause = enabledCause g.b.fctl.enable fl.flags
    ∧ ∀ l, l < 32 → laneOn g.active l = true → fl.laneWords l = (f l).words

end Sys2Proof.Claims

namespace Sys2Proof.Claims
open Sys2Proof Sys2Proof.Machine

/-! ## Classes 0 to 3 in the spec's arithmetic (R200 to R210) -/

/-- A 32-bit operand of a lane as the integer that T1 makes it (R200). -/
def num32 (g : Go) (v : Val) (l : Nat) : Int := if g.pre.signed then (v.w32 l).toInt else ((v.w32 l).toNat : Int)

/-- A 64-bit operand of a lane as the integer that T1 makes it (R204). -/
def num64 (g : Go) (v : Val) (l : Nat) : Int := if g.pre.signed then (v.w64 l).toInt else ((v.w64 l).toNat : Int)

/-- An exact result as it is written: mod 2^w, or clamped to the type's range with `.sat` (R56, R200). -/
def written (w : Nat) (signed sat : Bool) (x : Int) : BitVec w :=
  if sat then
    if signed then BitVec.ofInt w (max (-2 ^ (w - 1)) (min x (2 ^ (w - 1) - 1)))
    else BitVec.ofInt w (max 0 (min x (2 ^ w - 1)))
  else BitVec.ofInt w x

/-- A 32-bit result of the word. -/
def word32 (g : Go) (x : Int) : List Word := [written 32 g.pre.signed g.pre.sat x]

/-- A 64-bit result of the word, low word first (R6, R21). -/
def word64 (g : Go) (x : Int) : List Word := pairWords (written 64 g.pre.signed g.pre.sat x)

/-- The immediate of class 1 as an integer: the value of R28 with XIMM; else imm8 sign-extended under `.i32` and
zero-extended under `.n32` (R202). -/
def imm1 (g : Go) (i : BitVec 8) : Int :=
  if g.pre.ximm.isSome then (if g.pre.signed then (g.pre.imm32 i).toInt else ((g.pre.imm32 i).toNat : Int))
  else if g.pre.signed then i.toInt else (i.toNat : Int)

/-- The immediate of the shifts of class 1 (R202). -/
def shift1 (g : Go) (i : BitVec 8) : Nat := if g.pre.ximm.isSome then (g.pre.imm32 i).toNat else i.toNat

/-- The shifts of R201: left and logical right give 0 from n = w on; arithmetic right fills with the top bit. -/
def shifted {w : Nat} (kind : Nat) (a : BitVec w) (n : Nat) : BitVec w :=
  match kind with
  | 0 => if n < w then BitVec.ofNat w (a.toNat * 2 ^ n) else 0
  | 1 => if n < w then BitVec.ofNat w (a.toNat / 2 ^ n) else 0
  | _ => BitVec.ofInt w (a.toInt / 2 ^ min n (w - 1))

/-- A word with bit k set where a predicate holds. -/
def bits (p : Nat → Bool) : Word := BitVec.ofNat 32 (((List.range 32).map fun k => if p k then 2 ^ k else 0).sum)

/-- The 1 bits of a word. -/
def ones (a : Word) : Nat := ((List.range 32).filter fun k => a.getLsbD k).length

/-- Exact arithmetic of classes 0 and 1: the destination, and each lane's result (R200, R202). -/
def arithmetic (i : Instr) (g : Go) : Option (BitVec 7 × (Nat → List Word)) :=
  let a (l : Nat) : Int := num32 g (g.val 0) l
  match i with
  | .iadd d _ b _ q => some (d, fun l => word32 g (a l + num32 g (g.opB 1 b q) l))
  | .isub d _ b _ q => some (d, fun l => word32 g (a l - num32 g (g.opB 1 b q) l))
  | .imul d _ b _ q => some (d, fun l => word32 g (a l * num32 g (g.opB 1 b q) l))
  | .imulh d _ b _ q => some (d, fun l => word32 g (a l * num32 g (g.opB 1 b q) l / 2 ^ 32))
  | .imad d _ b _ q => some (d, fun l => word32 g (a l * num32 g (g.opB 1 b q) l + num32 g (g.afterB 1) l))
  | .imin d _ b _ q => some (d, fun l => word32 g (min (a l) (num32 g (g.opB 1 b q) l)))
  | .imax d _ b _ q => some (d, fun l => word32 g (max (a l) (num32 g (g.opB 1 b q) l)))
  | .iabs d _ _ => some (d, fun l => word32 g |a l|)
  | .iaddImm d _ _ k => some (d, fun l => word32 g (a l + imm1 g k))
  | .imulImm d _ _ k => some (d, fun l => word32 g (a l * imm1 g k))
  | .iminImm d _ _ k => some (d, fun l => word32 g (min (a l) (imm1 g k)))
  | .imaxImm d _ _ k => some (d, fun l => word32 g (max (a l) (imm1 g k)))
  | _ => none

/-- The shifts of classes 0 and 1 (R201, R202). -/
def shifts (i : Instr) (g : Go) : Option (BitVec 7 × (Nat → List Word)) :=
  let a (l : Nat) : Word := (g.val 0).w32 l
  match i with
  | .ishl d _ b _ q => some (d, fun l => [shifted 0 (a l) ((g.opB 1 b q).w32 l).toNat])
  | .lshr d _ b _ q => some (d, fun l => [shifted 1 (a l) ((g.opB 1 b q).w32 l).toNat])
  | .ishr d _ b _ q => some (d, fun l => [shifted 2 (a l) ((g.opB 1 b q).w32 l).toNat])
  | .ishlImm d _ _ k => some (d, fun l => [shifted 0 (a l) (shift1 g k)])
  | .lshrImm d _ _ k => some (d, fun l => [shifted 1 (a l) (shift1 g k)])
  | .ishrImm d _ _ k => some (d, fun l => [shifted 2 (a l) (shift1 g k)])
  | _ => none

/-- The bit counts and the bitwise words of classes 0 and 1 (R200, R203). -/
def bitwise (i : Instr) (g : Go) : Option (BitVec 7 × (Nat → List Word)) :=
  let a (l : Nat) : Word := (g.val 0).w32 l
  match i with
  | .popc d _ _ => some (d, fun l => [BitVec.ofNat 32 (ones (a l))])
  | .clz d _ _ => some (d, fun l => [BitVec.ofNat 32 (if a l = 0 then 32 else 31 - (a l).toNat.log2)])
  | .brev d _ _ => some (d, fun l => [bits fun k => (a l).getLsbD (31 - k)])
  | .logic3 d _ _ tt => some (d, fun l => [bits fun k =>
      tt.getLsbD (((a l).getLsbD k).toNat + 2 * (((g.val 1).w32 l).getLsbD k).toNat + 4 * (((g.val 2).w32 l).getLsbD k).toNat)])
  | _ => none

/-- BFE of R205 on a w-bit operand. -/
def extracted {w : Nat} (signed : Bool) (a : BitVec w) (c : Word) : BitVec w :=
  let p := min (c.toNat % 256) w
  let len := min (c.toNat / 256 % 256) (w - p)
  let f := a.toNat / 2 ^ p % 2 ^ len
  if len = 0 then 0
  else if signed && f.testBit (len - 1) then BitVec.ofInt w ((f : Int) - 2 ^ len) else BitVec.ofNat w f

/-- BFI of R205 on w-bit operands: the field of d that b names is replaced by the low bits of a. -/
def inserted {w : Nat} (d a : BitVec w) (c : Word) : BitVec w :=
  let p := min (c.toNat % 256) w
  let len := min (c.toNat / 256 % 256) (w - p)
  BitVec.ofNat w (d.toNat / 2 ^ (p + len) * 2 ^ (p + len) + a.toNat % 2 ^ len * 2 ^ p + d.toNat % 2 ^ p)

/-- Class 2 (R204, R205, R206): the destination and each lane's result. -/
def wide (i : Instr) (g : Go) : Option (Dst × (Nat → List Word)) :=
  let a (l : Nat) : Int := num64 g (g.val 0) l
  let narrow := decide (g.pre.t1 = 3 ∨ g.pre.t1 = 7)
  match i with
  | .bfe d _ b _ q =>
    some ({ spec := d, words := if narrow then 1 else 2 }, fun l =>
      if narrow then [extracted g.pre.signed ((g.val 0).w32 l) ((g.opB 1 b q).w32 l)]
      else pairWords (extracted g.pre.signed ((g.val 0).w64 l) ((g.opB 1 b q).w32 l)))
  | .bfi d _ b _ q =>
    some ({ spec := d, words := if narrow then 1 else 2 }, fun l =>
      if narrow then [inserted ((g.val 0).w32 l) ((g.val 1).w32 l) ((g.opB 2 b q).w32 l)]
      else pairWords (inserted ((g.val 0).w64 l) ((g.val 1).w64 l) ((g.opB 2 b q).w32 l)))
  | .lea d _ b _ q => some ({ spec := d, words := 2 }, fun l =>
      pairWords (BitVec.ofNat 64 (((g.val 0).w64 l).toNat + ((g.opB 1 b q).w64 l).toNat * 2 ^ g.pre.aux)))
  | .shf d _ b _ q => some ({ spec := d, words := 2 }, fun l =>
      pairWords (shifted g.pre.aux ((g.val 0).w64 l) ((g.opB 1 b q).w32 l).toNat))
  | .iadd64 d _ b _ q => some ({ spec := d, words := 2 }, fun l => word64 g (a l + num64 g (g.opB 1 b q) l))
  | .isub64 d _ b _ q => some ({ spec := d, words := 2 }, fun l => word64 g (a l - num64 g (g.opB 1 b q) l))
  | .imul64 d _ b _ q => some ({ spec := d, words := 2 }, fun l => word64 g (a l * num64 g (g.opB 1 b q) l))
  | .imad64 d _ b _ q => some ({ spec := d, words := 2 }, fun l =>
      word64 g (a l * num64 g (g.opB 1 b q) l + num64 g (g.afterB 1) l))
  | _ => none

/-- The integer conditions of R39 on a and b. -/
def holdsInt (k : Nat) (a b : Int) : Bool :=
  match k with
  | 0 => a == b
  | 1 => a != b
  | 2 => decide (a < b)
  | 3 => decide (a ≤ b)
  | 4 => decide (b < a)
  | _ => decide (b ≤ a)

/-- The float conditions of R39 and R207: 0 eq, 1 ne, 2 lt, 3 le, 4 gt, 5 ge, 6 un, 7 ord; a NaN operand makes ne and un
true and the others false, and zeros of either sign are equal. -/
def holdsFloat (k : Nat) (a b : Exact) : Bool :=
  if a.isNan || b.isNan then k == 1 || k == 6
  else
    match k with
    | 0 => Exact.cmp a b == 0
    | 1 => Exact.cmp a b != 0
    | 2 => decide (Exact.cmp a b < 0)
    | 3 => decide (Exact.cmp a b ≤ 0)
    | 4 => decide (0 < Exact.cmp a b)
    | 6 => false
    | 7 => true
    | _ => decide (0 ≤ Exact.cmp a b)

/-- An operand of FCMP or FCLASS: f64 with T1 15, else f32. -/
def float3 (g : Go) (v : Val) (l : Nat) : Exact :=
  if g.pre.t1 = 15 then Fmt.f64.value (v.w64 l).toNat else Fmt.f32.value (v.w32 l).toNat

/-- The mask bit of an f32 or f64 code (R208). -/
def classOf (f : Fmt) (c : Nat) : Nat :=
  let e := c / 2 ^ f.frac % 2 ^ (f.width - 1 - f.frac)
  let m := c % 2 ^ f.frac
  let negative := decide (2 ^ (f.width - 1) ≤ c)
  if e = 2 ^ (f.width - 1 - f.frac) - 1 then (if m = 0 then 1 else 0)
  else if e = 0 then (if m = 0 then 4 else if negative then 3 else 5)
  else if negative then 2 else 6

/-- Is the type of an ICMP one of 64 bits? -/
def wideCompare (g : Go) : Bool := g.pre.t1 == 4 || g.pre.t1 == 8

/-- The words that write a predicate: which, and its value in each lane (R39, R207, R208, R210, R233). -/
def predicates (i : Instr) (g : Go) : Option (BitVec 3 × (Nat → Bool)) :=
  let held (f : BitVec 3) (l : Nat) : Bool := laneOn (g.b.pred f) l
  let vote (f : BitVec 3) (l : Nat) : Bool := held f l != (g.pre.aux == 1)
  let someLane (f : BitVec 3) : Bool := (lanesIn g.active).any (vote f)
  let allLanes (f : BitVec 3) : Bool := (lanesIn g.active).all (vote f)
  match i with
  | .icmp k e _ b _ q => some (e, fun l =>
      if wideCompare g then holdsInt k.toNat (num64 g (g.val 0) l) (num64 g (g.opB 1 b q) l)
      else holdsInt k.toNat (num32 g (g.val 0) l) (num32 g (g.opB 1 b q) l))
  | .fcmp k e _ b _ q => some (e, fun l => holdsFloat k.toNat (float3 g (g.val 0) l) (float3 g (g.opB 1 b q) l))
  | .fclass e _ m _ => some (e, fun l =>
      m.getLsbD (if g.pre.t1 = 15 then classOf .f64 ((g.val 0).w64 l).toNat else classOf .f32 ((g.val 0).w32 l).toNat))
  | .pand e f h => some (e, fun l => (held f l != g.pre.aux.testBit 0) && (held h l != g.pre.aux.testBit 1))
  | .por e f h => some (e, fun l => (held f l != g.pre.aux.testBit 0) || (held h l != g.pre.aux.testBit 1))
  | .pxor e f h => some (e, fun l => (held f l != g.pre.aux.testBit 0) != (held h l != g.pre.aux.testBit 1))
  | .pnot e f => some (e, fun l => !(held f l != g.pre.aux.testBit 0))
  | .vote k e f _ => some (e, fun _ =>
      match k.toNat with
      | 0 => someLane f
      | 1 => allLanes f
      | 2 => !someLane f
      | _ => allLanes f || !someLane f)
  | .elect e => some (e, fun l => (lanesIn g.active).head? == some l)
  | _ => none

end Sys2Proof.Claims

open Sys2Proof Sys2Proof.Machine Sys2Proof.Claims

/-- R200, R202 and R203: each word of classes 0 and 1 that computes an exact integer writes it mod 2^32, or clamped to the
type's range with `.sat`; POPC, CLZ, BREV and LOGIC3 write their bits; nothing else changes. -/
def Obligations.IntegerArithmetic : Prop :=
  ∀ i s g d f, (arithmetic i g = some (d, f) ∨ bitwise i g = some (d, f)) → Clear i s g →
    nonUniform g.active { spec := d } f = false → Writes i s g { spec := d } f

/-- R201, with R202 for the immediate forms: the shifts, whose amount never wraps. -/
def Obligations.Shifts : Prop :=
  ∀ i s g d f, shifts i g = some (d, f) → Clear i s g → nonUniform g.active { spec := d } f = false →
    Writes i s g { spec := d } f

/-- R204 to R206: class 2, bit fields, addresses and 64-bit integers. -/
def Obligations.WideIntegers : Prop :=
  ∀ i s g d f, wide i g = some (d, f) → Clear i s g → nonUniform g.active d f = false → Writes i s g d f

/-- R39, R207, R208, R210 and R233: every word that writes a predicate writes it in its active lanes and nothing else. -/
def Obligations.Predicates : Prop :=
  ∀ i s g e f, predicates i g = some (e, f) → Clear i s g → WritesPred i s g e f

namespace Sys2Proof.Claims
open Sys2Proof Sys2Proof.Machine

/-! ## Classes 4 to 10 (R211 to R237) -/

/-- The element format of a class 4 word, and how many words hold one (R211). -/
def format4 (g : Go) : Fmt := if g.pre.t1 = 15 then .f64 else .f32
/-- Words of a class 4 operand. -/
def words4 (g : Go) : Nat := if g.pre.t1 = 15 then 2 else 1
/-- Latency of a class 4 word (R197). -/
def latency4 (g : Go) : Nat := if g.pre.t1 = 15 then 20 else 4
/-- The code of a class 4 operand in a lane. -/
def code4 (g : Go) (v : Val) (l : Nat) : Nat := if g.pre.t1 = 15 then (v.w64 l).toNat else (v.w32 l).toNat
/-- The value of an operand code, flushed as R63 says. -/
def value4 (g : Go) (f : Fmt) (c : Nat) : Exact := f.operand (g.ftz f) c
/-- A code of 32 or 64 bits as result words, low word first. -/
def asWords (n c : Nat) : List Word := if n = 2 then pairWords (BitVec.ofNat 64 c) else [BitVec.ofNat 32 c]
/-- round(x, F, mode) of R60 to R64 in a float word. -/
def rounded (g : Go) (f : Fmt) (x : Exact) : Rounded := Machine.round f g.mode (g.fctx (g.ftz f)) x
/-- An f32 code of a lane, or f64 code, with its flags. -/
def lane4 (n : Nat) (r : Rounded) : LaneResult := { words := asWords n r.code, flags := r.flags }

/-- One element of the ops of Table 10.3 from its operand codes, by op number (R211, R212). -/
def table103 (g : Go) (f : Fmt) (op : Nat) (a b c : Nat) : Rounded :=
  let x := value4 g f a
  let y := value4 g f b
  match op with
  | 0 => rounded g f (Exact.add g.mode x y)
  | 1 => rounded g f (Exact.add g.mode x y.neg)
  | 2 => rounded g f (Exact.mul x y)
  | 3 => rounded g f (Exact.add g.mode (Exact.mul x y) (value4 g f c))
  | 4 => minMaxCode f (g.ftz f) false a b
  | 5 => minMaxCode f (g.ftz f) true a b
  | 6 => roundIntegral f g.mode (g.fctx (g.ftz f)) x
  | 7 => ⟨a % 2 ^ (f.width - 1), {}⟩
  | 8 => ⟨(a + 2 ^ (f.width - 1)) % 2 ^ f.width, {}⟩
  | _ => rounded g f (x.scale (if b < 2 ^ (f.width - 1) then (b : Int) else (b : Int) - 2 ^ f.width))

/-- The words of class 4: the destination, the op number, and the operands (R211). -/
def class4 (i : Instr) (g : Go) : Option (BitVec 7 × Nat × Val × Val × Val) :=
  match i with
  | .fadd d _ b _ q => some (d, 0, g.val 0, g.opB 1 b q, .scalar 0)
  | .fsub d _ b _ q => some (d, 1, g.val 0, g.opB 1 b q, .scalar 0)
  | .fmul d _ b _ q => some (d, 2, g.val 0, g.opB 1 b q, .scalar 0)
  | .ffma d _ b _ q => some (d, 3, g.val 0, g.opB 1 b q, g.afterB 1)
  | .fmin d _ b _ q => some (d, 4, g.val 0, g.opB 1 b q, .scalar 0)
  | .fmax d _ b _ q => some (d, 5, g.val 0, g.opB 1 b q, .scalar 0)
  | .frnd d _ _ => some (d, 6, g.val 0, .scalar 0, .scalar 0)
  | .fabs d _ _ => some (d, 7, g.val 0, .scalar 0, .scalar 0)
  | .fneg d _ _ => some (d, 8, g.val 0, .scalar 0, .scalar 0)
  | .fscale d _ b _ q => some (d, 9, g.val 0, g.opB 1 b q, .scalar 0)
  | _ => none

/-- The words of class 5, likewise (R213). -/
def class5 (i : Instr) (g : Go) : Option (BitVec 7 × Nat × Val × Val × Val) :=
  match i with
  | .faddPacked d _ b _ q => some (d, 0, g.val 0, g.opB 1 b q, .scalar 0)
  | .fsubPacked d _ b _ q => some (d, 1, g.val 0, g.opB 1 b q, .scalar 0)
  | .fmulPacked d _ b _ q => some (d, 2, g.val 0, g.opB 1 b q, .scalar 0)
  | .ffmaPacked d _ b _ q => some (d, 3, g.val 0, g.opB 1 b q, g.afterB 1)
  | .fminPacked d _ b _ q => some (d, 4, g.val 0, g.opB 1 b q, .scalar 0)
  | .fmaxPacked d _ b _ q => some (d, 5, g.val 0, g.opB 1 b q, .scalar 0)
  | .frndPacked d _ _ => some (d, 6, g.val 0, .scalar 0, .scalar 0)
  | .fabsPacked d _ _ => some (d, 7, g.val 0, .scalar 0, .scalar 0)
  | .fnegPacked d _ _ => some (d, 8, g.val 0, .scalar 0, .scalar 0)
  | .fscalePacked d _ b _ q => some (d, 9, g.val 0, g.opB 1 b q, .scalar 0)
  | _ => none

/-- The words of class 6: the destination, the op number, the operand, imm8 and the addend (R214). -/
def class6 (i : Instr) (g : Go) : Option (BitVec 7 × Nat × Val × BitVec 8 × Val) :=
  match i with
  | .faddImm d _ _ k => some (d, 0, g.val 0, k, .scalar 0)
  | .fmulImm d _ _ k => some (d, 2, g.val 0, k, .scalar 0)
  | .ffmaImm d _ _ k => some (d, 3, g.val 1, k, g.val 0)
  | .fminImm d _ _ k => some (d, 4, g.val 0, k, .scalar 0)
  | _ => none

/-- The immediate of class 6 as an f32 code: an e4m3 imm8, a NaN of which is the canonical one, or the pattern of XIMM
(R28, R214). -/
def imm6 (g : Go) (k : BitVec 8) : Nat :=
  if g.pre.ximm.isSome then (g.pre.imm32 k).toNat
  else if k.toNat % 128 = 127 then 0x7FC00000
  else if k.toNat % 128 < 8 then
    -- a subnormal or zero of e4m3: F · 2^−9
    (Machine.round .f32 .rn {} (.ofMag (decide (128 ≤ k.toNat)) (k.toNat % 8) (-9) false)).code
  else k.toNat / 128 * 2 ^ 31 + (k.toNat / 8 % 16 + 120) * 2 ^ 23 + k.toNat % 8 * 2 ^ 20

/-- The half of a packed word. -/
def half5 (v : Val) (l k : Nat) : Nat := (v.w32 l).toNat / 2 ^ (16 * k) % 2 ^ 16

/-- The ops of class 7, one operand each but DIVF: the exact function and its division by zero (R215, R216). -/
def class7 (i : Instr) (g : Go) : Option (BitVec 7 × Nat × (Exact → Exact → Exact × Bool) × Val) :=
  let divides (x : Exact) : Bool := match x with
    | .zero _ => true
    | _ => false
  match i with
  | .rcp d _ _ => some (d, 12, fun a _ => (sfuRcp a, divides a), .scalar 0)
  | .rsq d _ _ => some (d, 12, fun a _ => (sfuRsq a, divides a), .scalar 0)
  | .sqrt d _ _ => some (d, 12, fun a _ => (sfuSqrt a, false), .scalar 0)
  | .exp2 d _ _ => some (d, 12, fun a _ => (sfuExp2 a, false), .scalar 0)
  | .log2 d _ _ => some (d, 12, fun a _ => (sfuLog2 a, divides a), .scalar 0)
  | .sinpi d _ _ => some (d, 12, fun a _ => (sfuSinPi a, false), .scalar 0)
  | .cospi d _ _ => some (d, 12, fun a _ => (sfuCosPi a, false), .scalar 0)
  | .tanh d _ _ => some (d, 12, fun a _ => (sfuTanh a, false), .scalar 0)
  | .divf d _ b _ q => some (d, 20, fun a b => (Exact.div a b, isDivZero a b), g.opB 1 b q)
  | _ => none

/-- The integer that an operand of an integer type holds in its low bits (R217). -/
def int8 (t : Nat) (v : Val) (l : Nat) : Int :=
  let (signed, w) := intType t
  let c := (if t = 4 ∨ t = 8 then (v.w64 l).toNat else (v.w32 l).toNat) % 2 ^ w
  if signed ∧ 2 ^ (w - 1) ≤ c then (c : Int) - 2 ^ w else c

/-- The value that an operand of a float type holds in its low bits (R63, R217). -/
def float8 (g : Go) (t : Nat) (v : Val) (l : Nat) : Exact :=
  let f := floatType t
  f.operand (g.ftz f) ((if t = 15 then (v.w64 l).toNat else (v.w32 l).toNat) % 2 ^ f.width)

/-- A value of an integer type as result words: 8 and 16 bits are extended to 32 by the type's sign (R217). -/
def intResult (t : Nat) (x : Int) : List Word :=
  let (signed, w) := intType t
  if w = 64 then pairWords (BitVec.ofInt 64 x)
  else
    let c := x % 2 ^ w
    [BitVec.ofInt 32 (if signed ∧ 2 ^ (w - 1) ≤ c then c - 2 ^ w else c)]

/-- Conversions between float and integer types: the destination's type code and each lane's result (R65, R218). -/
def conversions (i : Instr) (g : Go) : Option (BitVec 7 × (Nat → LaneResult)) :=
  let t1 := g.pre.t1
  let t2 := g.pre.t2
  let lo := intLo (intType t1).1 (intType t1).2
  let hi := intHi (intType t1).1 (intType t1).2
  match i with
  | .fcvt d _ _ => some (d, fun l => lane4 (typeWords t1) (rounded g (floatType t1) (float8 g t2 (g.val 0) l)))
  | .itof d _ _ => some (d, fun l => lane4 (typeWords t1) (rounded g (floatType t1) (Exact.ofInt (int8 t2 (g.val 0) l))))
  | .icvt d _ _ => some (d, fun l =>
      let x := int8 t2 (g.val 0) l
      if g.pre.sat then { words := intResult t1 (max lo (min x hi)), flags := { sat := decide (x < lo ∨ hi < x) } }
      else { words := intResult t1 x })
  | .ftoi d _ _ => some (d, fun l =>
      let r := toInteger (g.modeOr .rz) lo hi (float8 g t2 (g.val 0) l)
      { words := intResult t1 r.1, flags := r.2 })
  | _ => none

/-- The elements of a lane, one f32 or a packed pair, flushed as R63 says. -/
def elems (g : Go) (t : Nat) (w : Word) : List Exact :=
  if t = 16 then [Fmt.f16.operand (g.ftz .f16) (w.toNat % 2 ^ 16), Fmt.f16.operand (g.ftz .f16) (w.toNat / 2 ^ 16)]
  else if t = 17 then [Fmt.bf16.operand (g.ftz .bf16) (w.toNat % 2 ^ 16), Fmt.bf16.operand (g.ftz .bf16) (w.toNat / 2 ^ 16)]
  else [Fmt.f32.operand (g.ftz .f32) w.toNat]

/-- The flags of some results together. -/
def allFlags (rs : List Rounded) : Flags := rs.foldl (fun f r => f.or r.flags) {}

/-- One word, or two halves, from element codes of a wide type. -/
def packWide (t : Nat) (code : Nat → Nat) : Word :=
  if t = 16 ∨ t = 17 then BitVec.ofNat 32 (code 1 * 2 ^ 16 + code 0) else BitVec.ofNat 32 (code 0)

/-- NPACK, NUNPACK, the block words, QDOT4 and DSMUL: the latency and each lane's result (R219 to R226). -/
def narrow (i : Instr) (g : Go) : Option (BitVec 7 × Nat × (Nat → LaneResult)) :=
  let t1 := g.pre.t1
  let t2 := g.pre.t2
  match i with
  | .npack d _ b _ q => some (d, 4, fun l =>
      let rs := (elems g t2 ((g.val 1).w32 l) ++ elems g t2 ((g.opB 2 b q).w32 l)).map
        ((elemType t1).round (g.modeOr .rn) (g.fctx false))
      let w := (elemType t1).width
      { words := [BitVec.ofNat 32 (putFields ((g.val 0).w32 l).toNat w (g.pre.aux * rs.length * w) (rs.map (·.code)))],
        flags := allFlags rs })
  | .nunpack d _ _ => some (d, 4, fun l =>
      let el := elemType t2
      let k := if t1 = 14 then 1 else 2
      let view := if t1 = 14 then Fmt.f32 else packedType t1
      { words := [packWide (if t1 = 14 then 14 else 16) fun j => (Machine.round view .rn {}
          (el.value (((g.val 0).w32 l).toNat / 2 ^ ((g.pre.aux * k + j) * el.width) % 2 ^ el.width))).code] })
  | .qscale d _ _ => some (d, 8, fun l =>
      let vs := ((groupOf (g.pre.groupLanes t2) l).map (g.blockElems (g.val 0) t2)).flatten
      { words := [BitVec.ofNat 32 (chooseScale g.pre.scaleKind (elemType t1) vs)],
        flags := { nv := vs.any fun v => v.isNan || v.isInf } })
  | .qpack d _ _ _ _ => some (d, 8, fun l =>
      let el := elemType t1
      let n := g.pre.groupLanes t2
      let lanes := groupOf n l
      let s := scaleCode g.pre.scaleKind ((g.val 1).w32 ((lanes.find? (laneOn g.active)).getD l))
      let rs := (lanes.map fun j => (g.blockElems (g.val 0) t2 j).map fun x =>
        if laneOn g.active j then encodeElement g.pre.scaleKind el s x
        else ⟨el.zeroCode, { nv := (g.pre.scaleKind.value s).isNone }⟩).flatten
      { words := [if l % n < g.pre.geom * el.width / 32 then streamWord el.width (l % n) (rs.map (·.code)) else 0],
        flags := allFlags rs })
  | .qunpack d _ _ _ _ => some (d, 8, fun l =>
      let el := elemType t2
      let n := g.pre.groupLanes t1
      let k := elemsPerLane t1
      let stream := ((groupOf n l).take (g.pre.geom * el.width / 32)).foldr
        (fun j acc => acc * 2 ^ 32 + ((g.val 0).w32 j).toNat) 0
      { words := [packWide (if k = 1 then 14 else 16) fun j => decodeElement g.pre.scaleKind el
          (if k = 1 then .f32 else packedType t1) (scaleCode g.pre.scaleKind ((g.val 1).w32 l))
          (field stream ((l % n * k + j) * el.width) el.width)] })
  | .qdot4 d _ b _ q => some (d, 4, fun l =>
      let a (j : Nat) : Nat := ((g.val 1).w32 l).toNat / 2 ^ (8 * j) % 256
      let b (j : Nat) : Nat := ((g.opB 2 b q).w32 l).toNat / 2 ^ (8 * j) % 256
      let byte (signed : Bool) (c : Nat) : Int := if signed ∧ 128 ≤ c then (c : Int) - 256 else c
      if t1 = 0 ∨ t1 = 1 ∨ t1 = 5 then
        let sb := if t2 = 0 then t1 ≠ 5 else t2 ≠ 5
        let x : Int := ((g.val 0).w32 l).toInt + byte (t1 ≠ 5) (a 0) * byte sb (b 0) + byte (t1 ≠ 5) (a 1) * byte sb (b 1)
          + byte (t1 ≠ 5) (a 2) * byte sb (b 2) + byte (t1 ≠ 5) (a 3) * byte sb (b 3)
        { words := [written 32 true g.pre.sat x],
          flags := { sat := g.pre.sat && decide (x < -2 ^ 31 ∨ 2 ^ 31 ≤ x) } }
      else
        let term (j : Nat) : Exact := Exact.mul ((elemType t1).value (a j)) ((elemType t2).value (b j))
        lane4 1 (Machine.round .f32 g.mode (g.fctx false) (Exact.add g.mode (Exact.add g.mode (Exact.add g.mode
          (Exact.add g.mode (Fmt.f32.value ((g.val 0).w32 l).toNat) (term 0)) (term 1)) (term 2)) (term 3))))
  | .dsmul d _ b _ q => some (d, 4, fun l =>
      let ds (n : Nat) : Exact := ds8Value (((g.opB 1 b q).w32 l).toNat / 2 ^ (8 * n) % 256)
      let times (f : Fmt) (c n : Nat) : Rounded := Machine.round f g.mode (g.fctx false) (Exact.mul (f.value c) (ds n))
      if t1 = 16 ∨ t1 = 17 then
        let f := packedType t1
        let r (k : Nat) : Rounded := times f (half5 (g.val 0) l k) (2 * g.pre.aux + k)
        { words := [BitVec.ofNat 32 ((r 1).code * 2 ^ 16 + (r 0).code)], flags := allFlags [r 0, r 1] }
      else lane4 1 (times .f32 ((g.val 0).w32 l).toNat g.pre.aux))
  | _ => none

/-- The words of an operand in a lane. -/
def wordsAt (v : Val) (n l : Nat) : List Word := if n = 2 then [v.word l 0, v.word l 1] else [v.word l 0]

/-- The source lane of SHFL for lane l, by mode, from n (R232). -/
def source232 (mode n l : Nat) : Nat :=
  let w := 2 ^ min (n / 256 % 8) 5
  let s : Int := if n % 64 < 32 then (n % 64 : Nat) else (n % 64 : Nat) - 64
  let p : Int := (l % w : Nat)
  match mode with
  | 0 => n % 32
  | 1 =>
    if n / 128 % 2 = 0 then l - l % w + ((p + s) % w).toNat
    else if p + s < 0 ∨ (w : Int) ≤ p + s then l else l - l % w + (p + s).toNat
  | 2 => l - l % w + n % 32 % w
  | _ => l ^^^ (n % 32)

/-- Byte k of eight. -/
def byteOf (x k : Nat) : Nat := x / 2 ^ (8 * (k % 8)) % 256

/-- Byte k of the result of BSEL (R234). -/
def select234 (mode x c k : Nat) : Nat :=
  let n := c % 8
  let sign (v : Nat) : Nat := if 128 ≤ v then 255 else 0
  match mode with
  | 0 =>
    let v := byteOf x (c / 2 ^ (3 * k) % 8)
    match c / 2 ^ (12 + 2 * k) % 4 with
    | 0 => v
    | 1 => 0
    | 2 => sign v
    | _ => 255
  | 1 => byteOf x (n + k)
  | 2 => byteOf x (n + 3 - k)
  | _ => if k < c / 8 % 4 + 1 then byteOf x (n + k) else sign (byteOf x (n + c / 8 % 4))

/-- Does c compare true against zero for CSEL (R236)? -/
def csel236 (g : Go) (c : Word) : Bool :=
  if g.pre.t1 = 14 then holdsFloat g.pre.aux (Fmt.f32.value c.toNat) (.zero false)
  else holdsInt g.pre.aux (if g.pre.signed then c.toInt else (c.toNat : Int)) 0

/-- The lanes that LANEMASK names for lane l, with the bound L = min(a, 32) (R233). -/
def lanes233 (kind : Nat) (active : Mask) (a : Word) (l : Nat) : Word :=
  let bound := min a.toNat 32
  let w := 2 ^ min (a.toNat % 8) 5
  match kind with
  | 0 => bits fun j => decide (j < bound)
  | 1 => bits fun j => decide (j ≤ bound)
  | 2 => bits fun j => decide (bound < j)
  | 3 => bits fun j => decide (bound ≤ j)
  | 4 => bits fun j => decide (j = bound)
  | 5 => bits fun j => decide (j / w = l / w)
  | _ => bits fun j => laneOn active j

/-- The integer reductions of BRED over the values of the active lanes (R235). -/
def reduced (g : Go) (op : Nat) (vs : List Word) : Word :=
  let num (x : Word) : Int := if g.pre.signed then x.toInt else (x.toNat : Int)
  match op with
  | 0 => written 32 g.pre.signed g.pre.sat (vs.map num).sum
  | 1 => ((vs.map num).min?.map (BitVec.ofInt 32)).getD 0
  | 2 => ((vs.map num).max?.map (BitVec.ofInt 32)).getD 0
  | 3 => vs.foldr (· &&& ·) (BitVec.allOnes 32)
  | 4 => vs.foldr (· ||| ·) 0
  | _ => vs.foldr (· ^^^ ·) 0

/-- Position m of the tree of BRED.f32 after k levels: neighbours are combined, an absent one passes the other through
(R235). -/
def tree235 (combine : Nat → Nat → Rounded) (leaf : Nat → Option Nat × Flags) : Nat → Nat → Option Nat × Flags
  | 0, m => leaf m
  | k + 1, m =>
    let x := tree235 combine leaf k (2 * m)
    let y := tree235 combine leaf k (2 * m + 1)
    match x.1, y.1 with
    | some a, some b => (some (combine a b).code, (x.2.or y.2).or (combine a b).flags)
    | some a, none => (some a, x.2)
    | none, o => (o, y.2)

/-- Class 10 and SEL, the words of register destinations that raise no flag: the destination and each lane's result (R209,
R230 to R237). -/
def between (i : Instr) (g : Go) : Option (Dst × (Nat → List Word)) :=
  let n := if g.pre.t1 = 10 then 2 else 1
  match i with
  | .sel d _ b _ q =>
    let p := g.b.pred ((g.pre.xopd.getD 0).extractLsb' 16 3)
    some ({ spec := d, words := n }, fun l => if laneOn p l != (g.pre.aux == 1) then wordsAt (g.val 0) n l else wordsAt (g.opB 1 b q) n l)
  | .mov d _ _ => some ({ spec := d, words := n }, fun l => wordsAt (g.val 0) n l)
  | .movi d k => some ({ spec := d, words := n }, fun _ =>
      wordsAt (.scalar (if g.pre.ximm.isSome then g.pre.imm64 k else k.signExtend 64)) n 0)
  | .movs d _ b _ q => some ({ spec := d, words := n }, fun _ => wordsAt (g.val 0) n (((g.opB 1 b q).w32 0).toNat % 32))
  | .shfl d _ b _ q => some ({ spec := d, words := n }, fun l =>
      wordsAt (g.val 0) n (source232 g.pre.aux ((g.opB 1 b q).w32 l).toNat l))
  | .ballot d f _ => some ({ spec := d }, fun _ => [bits fun j => laneOn g.active j && (laneOn (g.b.pred f) j != (g.pre.aux == 1))])
  | .bsel d _ b _ q => some ({ spec := d }, fun l =>
      let x := ((g.opB 1 b q).w32 l).toNat * 2 ^ 32 + ((g.val 0).w32 l).toNat
      let k (j : Nat) : Nat := select234 g.pre.aux x ((g.afterB 1).w32 l).toNat j
      [BitVec.ofNat 32 (k 0 + k 1 * 2 ^ 8 + k 2 * 2 ^ 16 + k 3 * 2 ^ 24)])
  | .csel d _ b _ q => some ({ spec := d }, fun l =>
      [if csel236 g ((g.afterB 1).w32 l) then (g.val 0).w32 l else (g.opB 1 b q).w32 l])
  | .lanemask d _ _ => some ({ spec := d }, fun l => [lanes233 g.pre.aux g.active ((g.val 0).w32 l) l])
  | .bred d _ _ =>
    if g.pre.t1 = 14 then none
    else some ({ spec := d }, fun _ => [reduced g g.pre.aux ((lanesIn g.active).map fun j => (g.val 0).w32 j)])
  | _ => none

end Sys2Proof.Claims

open Sys2Proof Sys2Proof.Machine Sys2Proof.Claims

/-- R211 to R214: class 4 in f32 and f64, class 5 on each half of a packed pair, and class 6 with an immediate b: each result is
rounded once, with the flags that it raises. -/
def Obligations.FloatWords : Prop :=
  (∀ i s g d op a b c, class4 i g = some (d, op, a, b, c) → Clear i s g →
    let f (l : Nat) : LaneResult := lane4 (words4 g) (table103 g (format4 g) op (code4 g a l) (code4 g b l) (code4 g c l))
    nonUniform g.active { spec := d, words := words4 g } (fun l => (f l).words) = false → Untrapped g f →
      WritesFloat i s g { spec := d, words := words4 g } (latency4 g) f) ∧
  (∀ i s g d op a b c, class5 i g = some (d, op, a, b, c) → Clear i s g →
    let fmt : Fmt := if g.pre.t1 = 17 then .bf16 else .f16
    let r (l k : Nat) : Rounded := table103 g fmt op (half5 a l k) (half5 b l k) (half5 c l k)
    let f (l : Nat) : LaneResult :=
      { words := [BitVec.ofNat 32 ((r l 1).code * 2 ^ 16 + (r l 0).code)], flags := allFlags [r l 0, r l 1] }
    nonUniform g.active { spec := d } (fun l => (f l).words) = false → Untrapped g f → WritesFloat i s g { spec := d } 4 f) ∧
  (∀ i s g d op a k c, class6 i g = some (d, op, a, k, c) → Clear i s g →
    let f (l : Nat) : LaneResult := lane4 1 (table103 g .f32 op (a.w32 l).toNat (imm6 g k) (c.w32 l).toNat)
    nonUniform g.active { spec := d } (fun l => (f l).words) = false → Untrapped g f → WritesFloat i s g { spec := d } 4 f)

/-- R215 and R25: class 7, the exact function of each lane rounded once; the destination is empty until write-back. -/
def Obligations.SpecialFunctions : Prop :=
  ∀ i s g d latency f b, class7 i g = some (d, latency, f, b) → Clear i s g → g.active ≠ 0 →
    let value (v : Val) (l : Nat) : Exact := Fmt.f32.operand g.b.fctl.ftz32 (v.w32 l).toNat
    let r (l : Nat) : LaneResult :=
      let x := f (value (g.val 0) l) (value b l)
      let y := Machine.round .f32 (g.modeOr .rn) (g.fctx g.b.fctl.ftz32) x.1
      { words := [BitVec.ofNat 32 y.code], flags := y.flags.or { dz := x.2 } }
    nonUniform g.active { spec := d } (fun l => (r l).words) = false → Fills i s g { spec := d } latency r

/-- R217 and R218, with R65: FCVT, ICVT, FTOI and ITOF between every pair of types they take. -/
def Obligations.Conversions : Prop :=
  ∀ i s g d f, conversions i g = some (d, f) → Clear i s g →
    let dst : Dst := { spec := d, words := typeWords g.pre.t1 }
    nonUniform g.active dst (fun l => (f l).words) = false → Untrapped g f →
      WritesFloat i s g dst (if g.pre.t1 = 15 ∨ g.pre.t2 = 15 then 20 else 4) f

/-- R219 to R226: packing and unpacking of narrow elements, block scales and blocks across a barge, QDOT4 and DSMUL. -/
def Obligations.NarrowFormats : Prop :=
  ∀ i s g d latency f, narrow i g = some (d, latency, f) → Clear i s g →
    nonUniform g.active { spec := d } (fun l => (f l).words) = false → Untrapped g f → WritesFloat i s g { spec := d } latency f

/-- R209 and R230 to R236: selections and moves, in one lane and between lanes. -/
def Obligations.MovesAndSelections : Prop :=
  ∀ i s g d f, between i g = some (d, f) → Clear i s g → nonUniform g.active d f = false → Writes i s g d f

/-- R237: MATCH writes in each active lane the set of active lanes whose a is equal bit for bit, both words under `.b64`;
inactive lanes take no part. -/
def Obligations.MatchLanes : Prop :=
  ∀ (d a : BitVec 7) (p : BitVec 1) (s : State) (g : Go), Clear (.matchLanes d a p) s g →
    let same (l j : Nat) : Bool := decide ((g.val 0).word l 0 = (g.val 0).word j 0)
      && (g.pre.t1 != 10 || decide ((g.val 0).word l 1 = (g.val 0).word j 1))
    let f (l : Nat) : List Word := [bits fun j => laneOn g.active j && same l j]
    nonUniform g.active { spec := d } f = false → Writes (.matchLanes d a p) s g { spec := d } f

/-- R235 for `.f32`: the positions are combined in the fixed tree, and the flags of every combination are raised. -/
def Obligations.FloatReduction : Prop :=
  ∀ (d a : BitVec 7) (p : BitVec 1) (s : State) (g : Go), Clear (.bred d a p) s g → g.pre.t1 = 14 →
    let op := if g.pre.aux = 0 then 0 else if g.pre.aux = 1 then 4 else 5
    let leaf (l : Nat) : Option Nat × Flags := (if laneOn g.active l then some ((g.val 0).w32 l).toNat else none, {})
    let root := tree235 (fun x y => table103 g .f32 op x y 0) leaf 5 0
    let f (_ : Nat) : LaneResult := { words := [BitVec.ofNat 32 (root.1.getD 0)], flags := root.2 }
    g.active ≠ 0 → Untrapped g f → WritesFloat (.bred d a p) s g { spec := d } 14 f

namespace Sys2Proof.Claims
open Sys2Proof Sys2Proof.Machine

/-! ## The machine -/

/-- The end of a step: its writes are in memory. -/
def landed (s : State) (o : Host.Outcome State Fault Refusal) : Host.Outcome State Fault Refusal :=
  match o with
  | .next t => .next (t.land s.mem)
  | .fault f => .fault f
  | .refused r => .refused r

/-- No event is due. -/
def nothingDue (s : State) : Prop := ∀ p, s.agenda.head? = some p → s.now < p.1

/-- A word that a barge issues in its ordinary course. -/
def issueOf (k : Nat) (b : Barge) (w : Word) : Issue :=
  { core := k / 512, slot := k % 512, addr := b.next.1, group := b.next.2.1, chainStart := b.next.2.2.2, word := w }

/-- The threads among which a barge selects: the running ones without a yield mark, or all that run (R227). -/
def selectable (b : Barge) (i : Nat) : Bool :=
  laneOn b.running i && (!laneOn b.yieldMarks i || (List.range 32).all fun j => !laneOn b.running j || laneOn b.yieldMarks j)

/-- Is it a prefix word? -/
def isPrefix (i : Instr) : Bool := Instr.isPrefix i

/-- Is it a barrier word or MMA? In a reformed barge these trap whatever their lanes (R259, R353). -/
def isBarrier : Instr → Bool
  | .bar _ _ => true
  | .bararr _ _ => true
  | .bsync _ _ => true
  | .mma _ _ _ _ _ => true
  | _ => false

/-- A barge has taken a trap: its registers stand, it issues nothing, and its record holds the cause and the chain's first
word (R384, R387). -/
structure TrapsAs (g : Go) (x : Cause) (b' : Barge) : Prop where
  v : b'.v = g.b.v
  s : b'.s = g.b.s
  preds : b'.preds = g.b.preds
  fctl : b'.fctl = g.b.fctl
  tag : b'.tag = g.b.tag
  joins : b'.joins = g.b.joins
  running : b'.running = g.b.running
  exited : b'.exited = g.b.exited
  stopped : b'.blocked = true
  record : ∃ r, b'.trap = some r ∧ r.cause = x.cause ∧ r.code = x.code ∧ r.lanes = x.lanes ∧ r.va = x.va ∧ r.first = g.first

/-- Guarded off, a word leaves nothing but the move past it (R34). -/
structure Idle (g : Go) (s t : State) : Prop where
  machine : KeepsMachine g s t
  barge : ∃ b', t.barge g.core g.slot = some b' ∧ b'.v = g.b.v ∧ b'.s = g.b.s
    ∧ (∀ p i, i < 32 → laneOn (b'.pred p) i = laneOn (g.b.pred p) i)
    ∧ KeepsControl { g.b with preds := b'.preds } b' ∧ PassedWord g b'

end Sys2Proof.Claims

open Sys2Proof Sys2Proof.Machine Sys2Proof.Claims

/-- What the spec gives for reset, and the model's own choices beside it (log 1, log 2): the part is at cycle 0 with no
barge, no context valid, no packet taken, every queue off and memory that reads 0. -/
def Obligations.ResetState : Prop :=
  State.reset.now = 0 ∧ State.reset.barges = [] ∧ State.reset.agenda = [] ∧ State.reset.hub.launched = false
    ∧ (∀ a, State.reset.byteAt a = 0) ∧ (∀ c, (State.reset.ctx c).valid = false) ∧ (∀ q, (State.reset.queue q).en = false)
    ∧ (∀ f u n, State.reset.sem f u n = {}) ∧ (∀ k, (State.reset.core k).seq = 0) ∧ State.reset.hub.attestLog = 0

/-- The invariant holds after reset. -/
def Obligations.ResetInvariant : Prop := State.reset.Inv

/-- Every step keeps the invariant, from any state: memory has its canonical form, every write has landed, and no word or
event is left half done. -/
def Obligations.StepKeepsInvariant : Prop := ∀ s t, s.Inv → step s = .next t → t.Inv

/-- No step stops the machine, from any state: every word and every event has its effect, its trap or its wait. -/
def Obligations.StepNeverStops : Prop := ∀ s, ∃ t, step s = .next t

/-- Where nothing is due and a barge is picked that has no cause, no trap and no entry to re-inject, a step fetches at the
address of R227 and R31 and runs the instruction that the word decodes to; the barges of the quarter that wait begin their 1,024
cycles again (R375). -/
def Obligations.StepRunsDecoded : Prop :=
  ∀ s t k b w i, s.powered = true → nothingDue s → s.pick = some (k, b) → b.dead = false → b.delivered = none →
    b.reinject = [] →
    ((s.passOver k).setBarge (k / 512) (k % 512) { b with yieldMarks := b.next.2.2.1 }).fetch (k / 512) (k % 512)
      { b with yieldMarks := b.next.2.2.1 } b.next.1 = .word w t →
    decode w = .ok i → step s = landed s (exec i { t with issue := some (issueOf k b w), args := [] })

/-- A fetch through a page that the core's TLB holds, and that passes the checks of R96, gives the four bytes at the
address, lowest first (R3, R18); the machine otherwise only notes the use of the page. -/
def Obligations.FetchReadsWord : Prop :=
  ∀ (s : State) (core slot : Nat) (b : Barge) (addr : Dword) (l : Leaf) (t : State), canonical addr.toNat = true → s.lookupPage core b.ctx (vpnOf addr.toNat) = some (l, 0, t) →
    s.fetchCause l addr.toNat = none →
    s.fetch core slot b addr = .word (BitVec.ofNat 32 (leNat (s.readView (l.who b.ctx 0 none) l addr.toNat 4))) t

/-- R227: a barge selects the lowest address among its running threads without a yield mark (all that run, where every one
has it), and the group is exactly the threads that stand there. -/
def Obligations.SelectsLowestAddress : Prop :=
  ∀ b : Barge, b.chain = none → (∃ i, i < 32 ∧ selectable b i = true) →
    (∃ i, i < 32 ∧ selectable b i = true ∧ b.pcs.getD i 0 = b.next.1) ∧
    (∀ i, i < 32 → selectable b i = true → b.next.1.toNat ≤ (b.pcs.getD i 0).toNat) ∧
    (∀ i, i < 32 → laneOn b.next.2.1 i = (selectable b i && (b.pcs.getD i 0 == b.next.1)))

/-- An event that is due comes first, and is taken with what it acts on. -/
def Obligations.StepTakesEvent : Prop :=
  ∀ s t e r, s.agenda = (t, e) :: r → t ≤ s.now → e.legal = true → (s.powered = true ∨ e.what = .powerUp) →
    step s = landed s (exec e.what { s with agenda := r, args := e.args, issue := none })

/-- Every event completes, whatever the state in which it falls due, and leaves nothing under way. -/
def Obligations.EventsComplete : Prop :=
  ∀ i s, i.isWord = false → i ≠ .illegalEncoding → ∃ t, exec i s = .next t ∧ t.issue = none ∧ t.args = []

/-- Time passes only where nothing is due and no barge may issue: to no later than the next event and the next cycle in
which a barge may issue, with memory and the barges as they were. -/
def Obligations.TimePasses : Prop :=
  ∀ s, s.Inv → nothingDue s → (s.powered = true → s.pick = none) →
    ∃ t, step s = .next t ∧ s.now < t.now ∧ t.barges = s.barges ∧ (∀ a, t.byteAt a = s.byteAt a)
      ∧ (∀ p, s.agenda.head? = some p → t.now ≤ p.1)
      ∧ (∀ k b c, s.barges.look k = some b → b.readyFromCycle = some c → t.now ≤ max (s.now + 1) c)

/-- Encoding and decoding agree: a well-formed instruction that has a word is what its word decodes to, with every operand. -/
def Obligations.DecodeEncode : Prop := ∀ i w, i.wellFormed = true → encode i = some w → decode w = .ok i

/-- A word that decodes is the word of the well-formed instruction it gives: no bit of it is dropped, and no reserved bit
is let through. -/
def Obligations.EncodeDecode : Prop := ∀ i w, decode w = .ok i → i.wellFormed = true ∧ encode i = some w

/-- Words that the spec writes out. -/
def Obligations.WordsDecode : Prop :=
  decode 0x088204FD = .ok (.imulImm 2 2 0 0xFD) ∧ decode 0x19020860 = .ok (.fclass 2 4 0x18 0)
    ∧ decode 0x51631390 = .ok (.movs 99 9 100 0 0) ∧ decode 0x5A200003 = .ok (.bra 2 1 3)
    ∧ decode 0x6180E800 = .ok (.ret 116 0) ∧ decode 0xC0000007 = .ok (.trap 7) ∧ decode 0xC1E30001 = .ok (.csrr 99 1)
    ∧ decode 0 = .ok (.iadd 0 0 0 0 0) ∧ decode 0xFFFFFFFF = .error .badPrefix

/-- R46: a word that is no instruction traps with the cause of its table and has no other effect; in handler mode with
HANDLER_FAULT (R389). An order code that its word does not take is ILL_FIELD instead where the base is no pair and no prefix names
a near space, for that is step 3 of R47. -/
def Obligations.IllegalWordsTrap : Prop :=
  ∀ s iss b e, decode iss.word = .error e → e ≠ .badPrefix → s.barge iss.core iss.slot = some b →
    let code := if e = .illOrder then orderCause s iss else causeCode e
    ∃ (g : Go) (t : State), g.core = iss.core ∧ g.slot = iss.slot ∧ g.b = b ∧ g.first = iss.chainStart ∧ g.group = iss.group
      ∧ exec .illegalEncoding { s with issue := some iss, args := [code] } = .next t ∧ runWord s iss = .next t
      ∧ t = (g.trap { cause := if b.handler then 0xB3 else BitVec.ofNat 8 code } { s with issue := some iss, args := [code] }).rest

/-- R30 and R31: a prefix takes an issue slot and joins the chain in front of its word, as far as three, and nothing that a
program sees changes; a fourth consecutive prefix traps ILL_PREFIX at its chain's first word, when its chain is re-injected
too (R393). -/
def Obligations.PrefixChains : Prop :=
  (∀ i s iss b, isPrefix i = true → s.issue = some iss → s.barge iss.core iss.slot = some b → iss.replay = none →
    (∀ c, b.chain = some c → c.words.length < 3) →
    ∃ t b', exec i s = .next t ∧ t.barge iss.core iss.slot = some b'
      ∧ b'.chain = some { b.chain.getD { start := iss.addr, words := [], group := iss.group } with
          words := (b.chain.map (·.words)).getD [] ++ [iss.word] }
      ∧ b'.v = b.v ∧ b'.s = b.s ∧ b'.pcs = b.pcs ∧ KeepsControl b b' ∧ b'.readyAt = s.now + 1
      ∧ (∀ k m, 512 * k + m ≠ 512 * iss.core + iss.slot → t.barge k m = s.barge k m) ∧ (∀ a, t.byteAt a = s.byteAt a)
      ∧ t.flights = s.flights ∧ t.agenda = s.agenda ∧ t.hub = s.hub) ∧
  (∀ i s iss b c, isPrefix i = true → s.issue = some iss → s.barge iss.core iss.slot = some b → iss.replay = none → b.chain = some c →
    3 ≤ c.words.length →
    ∃ g : Go, g.core = iss.core ∧ g.slot = iss.slot ∧ g.b = b ∧ g.first = c.start ∧ g.replay = false
      ∧ exec i s = done (g.trap { cause := 0x03 } s)) ∧
  (∀ i s iss b e, isPrefix i = true → s.issue = some iss → s.barge iss.core iss.slot = some b → iss.replay = some e →
    4 ≤ e.words.length →
    ∃ g : Go, g.core = iss.core ∧ g.slot = iss.slot ∧ g.b = b ∧ g.first = e.addr ∧ g.replay = true
      ∧ exec i s = done (g.trap { cause := 0x03 } s))

/-- R47: at issue a word traps with the first check it fails, then waits for what holds it, then meets the check of its
label; in each case without its effect. -/
def Obligations.IssueChecks : Prop :=
  ∀ i s g, i.isWord = true → isPrefix i = false → Issues i s g →
    (∀ c, g.checkCause (shapeOf i) s = some c → exec i s = done (g.trap { cause := c } s)) ∧
    (g.checkCause (shapeOf i) s = none → g.holdReason (shapeOf i) s ≠ .none →
      exec i s = done (s.hold g.core g.slot (g.holdReason (shapeOf i) s))) ∧
    (∀ c, g.checkCause (shapeOf i) s = none → g.holdReason (shapeOf i) s = .none → g.reachCause (shapeOf i) s = some c →
      exec i s = done (g.trap { cause := c } s))

/-- R34: a word that no lane executes takes its issue slot and has no effect; but that JOIN tests the join stack (R241), and a
barrier word and MMA their barge (R259, R353), before the lanes. -/
def Obligations.GuardedOffWords : Prop :=
  ∀ i s g, i.isWord = true → isPrefix i = false → Clear i s g → g.active = 0 → (isBarrier i = true → g.b.reformed = false) →
    (i = .join → g.b.joins ≠ []) → ∃ t, exec i s = .next t ∧ Idle g s t

/-- R384, with R354: a word's trap leaves its barge's registers as they stand, stops the barge with the cause recorded and the
chain listed for re-execution, and asks for the handler (for R397's outcome where there is none, or the cause is of kind U). A
barge that waits at a barrier asks for it when it is released, but for the watchdog's cause. -/
def Obligations.TrapsArePrecise : Prop :=
  ∀ (g : Go) (x : Cause) s, s.barge g.core g.slot = some g.b → g.b.trap = none →
    ∃ b' r, (g.trap x s).barge g.core g.slot = some b' ∧ TrapsAs g x b' ∧ b'.trap = some r
      ∧ r.entries.look s.nextId = some (g.entry true) ∧ PassedWord g b'
      ∧ (∀ a, (g.trap x s).byteAt a = s.byteAt a)
      ∧ (g.b.waitBar.isSome = true → x.cause ≠ 0x70 → (g.trap x s).agenda = s.agenda)
      ∧ (g.b.waitBar = none ∨ x.cause = 0x70 → (g.trap x s).agenda = agendaInsert s.now
          (if g.b.handler then { what := .unrecoverableFault, args := [g.core, g.slot, 0xB3, 0] }
           else if unrecoverableCause x.cause = true ∨ (s.ctx g.b.ctx).trapEntry = 0
              ∨ (g.b.chunkSlot.isSome = true ∧ (x.cause = 0x40 ∨ x.cause = 0x43)) then
             { what := .unrecoverableFault, args := [g.core, g.slot, x.cause.toNat, x.va.toNat] }
           else { what := .handlerEntry, args := [g.core, g.slot] }) s.agenda)

namespace Sys2Proof.Claims
open Sys2Proof Sys2Proof.Machine

/-! ## Control words (R227, R238 to R244) -/

/-- Does an active lane take a branch (R40, R238)? -/
def branches (g : Go) (c e : BitVec 3) (l : Nat) : Bool :=
  let holds (j : Nat) : Bool := laneOn (g.b.pred e) j
  match c.toNat with
  | 0 => true
  | 1 => holds l
  | 2 => !holds l
  | 3 => (lanesIn g.active).any holds
  | 4 => (lanesIn g.active).all holds
  | _ => !(lanesIn g.active).any holds

/-- A register target: its low two bits count as zero (R18). -/
def aligned (x : Dword) : Dword := BitVec.ofNat 64 (x.toNat / 4 * 4)

/-- The target of R41: the address of the word plus four times the signed offset. -/
def relative (g : Go) (offset : Int) : Dword := BitVec.ofInt 64 ((g.addr.toNat : Int) + 4 * offset)

/-- The offset of an immediate-format control word (R28, R41). -/
def offset41 (g : Go) (k : BitVec 8) : Int := if g.pre.ximm.isSome then (g.pre.imm32 k).toInt else k.toInt

/-- The transfers: each active lane's target, and the register that takes the return address (R238, R239). -/
def transfer (i : Instr) (g : Go) : Option ((Nat → Dword) × Option (BitVec 7)) :=
  match i with
  | .bra c e o => some (fun l => if branches g c e l then relative g o.toInt
      else if g.replay then g.b.pcs.getD l 0 else g.addr + 4, none)
  | .jmp _ _ => some (fun l => aligned ((g.val 0).w64 l), none)
  | .ret _ _ => some (fun l => aligned ((g.val 0).w64 l), none)
  | .call d k => some (fun _ => relative g (offset41 g k), some d)
  | .calli d _ _ => some (fun l => aligned ((g.val 0).w64 l), some d)
  | _ => none

/-- The topmost join-stack entry of a lane at an address, counted from the bottom (R241). -/
def entryAt (b : Barge) (a : Dword) (l : Nat) : Option Nat :=
  ((List.range b.joins.length).filter fun k => (b.joins[k]?).any fun e => e.addr == a && laneOn e.mask l).getLast?

end Sys2Proof.Claims

open Sys2Proof Sys2Proof.Machine Sys2Proof.Claims

/-- R238 and R239: a transfer moves each active lane to its target, the group's other threads to the next word, and no other
thread; CALL and CALLI write the return address and nothing else, the others no register. -/
def Obligations.Transfers : Prop :=
  ∀ i s g target link, transfer i g = some (target, link) → Clear i s g →
    ∃ t b', exec i s = .next t ∧ Jumped g s t target b' ∧
      match link with
      | none => b'.v = g.b.v ∧ b'.s = g.b.s
      | some d => (∀ l, l < 32 → laneOn g.active l = true → b'.holds { spec := d, words := 2 } l (pairWords (g.addr + 4)))
          ∧ KeepsRegisters g.b b' g.active { spec := d, words := 2 }

/-- R240 and R241: MARK with an active lane pushes the target and the mask of its active lanes, and traps JOIN_OVERFLOW where 16
entries stand already. JOIN traps JOIN_EMPTY on an empty stack, whatever lanes are active, and JOIN_MISMATCH for the active lanes without an entry at its
address; else its active lanes wait at their entries, and what is satisfied is popped. -/
def Obligations.DivergentRegions : Prop :=
  (∀ k s g, Clear (.mark k) s g → g.active ≠ 0 →
    (16 ≤ g.b.joins.length → Traps (.mark k) s g { cause := 0x07 }) ∧
    (g.b.joins.length < 16 → Completes (.mark k) s (g.finish { g.b with joins := g.b.joins ++ [{ addr := relative g (offset41 g k), mask := g.active }] } s))) ∧
  (∀ s g, Clear .join s g → g.b.joins = [] → Traps .join s g { cause := 0x08 }) ∧
  (∀ s g, Clear .join s g → g.active ≠ 0 →
    let fail := maskOf fun l => laneOn g.active l && (entryAt g.b g.addr l).isNone
    (g.b.joins ≠ [] → fail ≠ 0 → Traps .join s g { cause := 0x09, lanes := fail }) ∧
    (g.b.joins ≠ [] → fail = 0 → Completes .join s ((g.finish g.b s).onBarge g.core g.slot fun b =>
      { b with
        running := b.running &&& ~~~g.active
        waitAt := (List.range 32).map fun l =>
          if laneOn g.active l then (entryAt g.b g.addr l).getD 0 else g.b.waitAt.getD l 0 }.settleJoins)))

/-- R241: what popping leaves. Entries leave from the top while every lane of the mask waits there or has exited; the lanes
that waited at one run at its address + 4, and no other thread changes. -/
def Obligations.JoinsSettle : Prop :=
  ∀ b : Barge, b.joins.length ≤ 16 → b.pcs.length = 32 →
    let c := b.settleJoins
    let woken (l : Nat) : Bool := !laneOn b.running l && !laneOn b.exited l
      && decide (c.joins.length ≤ b.waitAt.getD l 0 ∧ b.waitAt.getD l 0 < b.joins.length)
    c.joins = b.joins.take c.joins.length ∧
    (∀ e, c.joins.getLast? = some e → ∃ l, l < 32 ∧ laneOn e.mask l = true ∧ laneOn c.exited l = false ∧
      (laneOn c.running l = true ∨ c.waitAt.getD l 0 ≠ c.joins.length - 1)) ∧
    (∀ l, l < 32 → laneOn c.running l = (laneOn b.running l || woken l)) ∧
    (∀ l, l < 32 → c.pcs.getD l 0 =
      if woken l then ((b.joins[b.waitAt.getD l 0]?).map fun e => e.addr + 4).getD 0 else b.pcs.getD l 0)

/-- R242: EXIT exits the active lanes for good; satisfied entries are popped, a barge without a thread left ends, and each
thread counts in its workgroup. -/
def Obligations.ExitEndsThreads : Prop :=
  ∀ s g, Clear .exit s g → g.active ≠ 0 →
    let lanes := g.active &&& ~~~g.b.exited
    let u := ((g.finish g.b s).onBarge g.core g.slot fun b =>
      { b with running := b.running &&& ~~~g.active, exited := b.exited ||| g.active }.settleJoins).retireLanes g.core g.b lanes
    Completes .exit s (((if g.b.exited ||| g.active = BitVec.allOnes 32 then u.endBarge g.core g.slot else u)).threadsExit g.b lanes)

/-- R36, R243 and R376: NOP takes its issue slot and has no effect; another word of its barge follows after the stall count of its
prefix, and its XSCH yield request is pending from then, or none is. -/
def Obligations.NopAndStalls : Prop :=
  (∀ s g, Clear .nop s g → ∃ t, exec .nop s = .next t ∧ RetiredNone g s t) ∧
  (∀ s g, Clear .nop s g → ∃ t b', exec .nop s = .next t ∧ t.barge g.core g.slot = some b'
    ∧ b'.readyAt = s.now + 1 + g.pre.stall ∧ b'.yieldPending = g.pre.yield)

/-- R36, R243 and R376: SLEEP 0 is a NOP; SLEEP n, with an active lane, keeps its barge from issuing for n cycles after it, or for
the stall count of its prefix where that is more. YIELD sets the yield mark of every thread of its group, and its barge's yield
pending. -/
def Obligations.SleepAndYield : Prop :=
  (∀ k s g, Clear (.sleep k) s g → g.active ≠ 0 →
    let n := if g.pre.ximm.isSome then (g.pre.imm32 k).toNat else k.toNat
    (n = 0 → TakesSlot (.sleep k) s g) ∧
    (n ≠ 0 → Completes (.sleep k) s ((g.finish { g.b with blocked := true } s).postAt (s.now + 1 + max n g.pre.stall)
      .sleepEnd [g.core, g.slot]))) ∧
  (∀ s g, Clear .yield s g → g.active ≠ 0 →
    ∃ t b', exec .yield s = .next t ∧ KeepsMachine g s t ∧ t.barge g.core g.slot = some b'
      ∧ (∀ l, l < 32 → laneOn b'.yieldMarks l = (laneOn g.b.yieldMarks l || laneOn g.group l)) ∧ b'.yieldPending = true
      ∧ b'.v = g.b.v ∧ b'.s = g.b.s ∧ KeepsControl g.b b' ∧ PassedWord g b')

/-- R244 and R245: REFORM with an empty join stack takes the lanes that find a basin out of its barge, whose other threads
and registers stay; it traps REFORM_JOIN otherwise, and waits where no lane finds one. -/
def Obligations.ReformLeaves : Prop :=
  ∀ (d a : BitVec 7) (p : BitVec 1) (k : BitVec 8) (s : State) (g : Go), Clear (.reform d a p k) s g → g.active ≠ 0 →
    let i : Instr := .reform d a p k
    let target (l : Nat) : Dword := if g.pre.xopd.isSome then aligned ((g.val 1).w64 l) else relative g (offset41 g k)
    let place := if g.pre.aux = 1 then clusterPlace (clusterOf g.core) else g.core
    let first : Filing := { s, net := max (s.now + 4) (s.core g.core).netBusy }
    let x := (lanesIn g.active).foldl (fun (x : Filing) l =>
      x.lane g.b (g.b.fctlAt s.now) place (8 * d.toNat) (max 1 d.toNat) l (target l) ((g.val 0).w32 l)) first
    let left := maskOf fun l => x.left.contains l
    (g.b.joins ≠ [] → Traps i s g { cause := 0x0A }) ∧
    (g.b.joins = [] → x.moves = [] → exec i s = done (s.hold g.core g.slot .other)) ∧
    (g.b.joins = [] → x.moves ≠ [] → ∃ (u : State) (rid : Nat) (b' : Barge), Completes i s ((u.relRun rid relFuel).pump g.core) ∧
      u.barge g.core g.slot = some b' ∧ b'.running = g.b.running &&& ~~~(g.active &&& ~~~left) ∧
      b'.exited = g.b.exited ||| (g.active &&& ~~~left) ∧ b'.v = g.b.v ∧ b'.s = g.b.s ∧ b'.preds = g.b.preds)

namespace Sys2Proof.Claims
open Sys2Proof Sys2Proof.Machine

/-! ## Memory words (R29, R43, R190 to R196, R303 to R320, R328 to R333) -/

/-- The offset of R28 and R29: the 32-bit immediate as it stands, or the 8-bit one times the size of the access. -/
def offset29 (g : Go) (o : BitVec 8) (n : Nat) : Int := if g.pre.ximm.isSome then (g.pre.imm32 o).toInt else o.toInt * n

/-- The address of a lane (R29), of 64 bits in global memory and 32 bits in a near one: the base, which is operand k, the
index of XOPD, which follows it, and the offset. -/
def address29 (g : Go) (k : Nat) (wide : Bool) (offset : Int) (l : Nat) : Nat :=
  let index : Nat := if g.pre.xopd.isSome then ((g.val (k + 1)).w32 l).toNat else 0
  if wide then (((((g.val k).w64 l).toNat : Int) + index + offset) % 2 ^ 64).toNat
  else (((((g.val k).w32 l).toNat : Int) + index + offset) % 2 ^ 32).toNat

/-- Bytes of an access, which T1 narrows (R43). -/
def bytes43 (g : Go) (n : Nat) : Nat :=
  if g.pre.t1 = 1 ∨ g.pre.t1 = 5 then 1 else if g.pre.t1 = 2 ∨ g.pre.t1 = 6 then 2 else n

/-- Bytes of an operand in a lane, lowest first (R3, R6). -/
def bytesOf (v : Val) (l n : Nat) : List Byte := (List.range n).map fun k => (v.word l (k / 4)).extractLsb' (8 * (k % 4)) 8

/-- One access for each active lane. -/
def perLane (g : Go) (f : Nat → LaneAcc) : List LaneAcc := (lanesIn g.active).map f

/-- Do all active lanes form one address? -/
def oneAddress (g : Go) (f : Nat → Nat) : Bool := (lanesIn g.active).all fun l => (lanesIn g.active).all fun j => f l == f j

/-- A word of global memory: the destination it empties, its access, and whether its addresses are ones it may form. -/
structure Access where
  dst : Option Dst := none
  flight : Flight
  /-- May its result go where it is to go: one address, or one lane, for a scalar destination (R22)? -/
  uniform : Bool := true
  legal : Bool := true
  /-- Its trap where they are not. -/
  cause : Cause := { cause := 0 }

/-- A load of n bytes, of which T1 may narrow the read (R43, R190). -/
def loading (g : Go) (s : State) (kind : MemKind) (n : Nat) (d : BitVec 7) (o : BitVec 8) : Access :=
  let w := bytes43 g n
  let address := address29 g 0 true (offset29 g o w)
  { dst := some { spec := d, words := n / 4 }, uniform := !isScalar d || oneAddress g address
    flight := { g.flight s kind (perLane g fun l => { lane := l, va := address l, size := w }) with
      dst := d, words := n / 4, width := w, signed := decide (g.pre.t1 = 1 ∨ g.pre.t1 = 2), hint := g.pre.hint
      alignTo := if n = 4 then 1 else 4 } }

/-- LDV: the version of a label that is 0 or live (R152). -/
def loadingVersion (g : Go) (s : State) (n : Nat) (d : BitVec 7) (o : BitVec 8) : Access :=
  let w := bytes43 g n
  let address := address29 g 0 true (offset29 g o w)
  { dst := some { spec := d, words := n / 4 }, uniform := !isScalar d || oneAddress g address
    legal := decide (g.label = 0) || ((((s.ctx g.b.ctx).labels.look g.label.toNat).getD {}).state == .live)
    cause := { cause := 0x92 }
    flight := { g.flight s (.homeLoad true) (perLane g fun l => { lane := l, va := address l, size := w }) with
      dst := d, words := n / 4, width := w, signed := decide (g.pre.t1 = 1 ∨ g.pre.t1 = 2), alignTo := if n = 4 then 1 else 4 } }

/-- A store of n bytes (R303, R304). -/
def storing (g : Go) (s : State) (n : Nat) (o : BitVec 8) : Access :=
  let w := bytes43 g n
  { flight := { g.flight s (.store false) (perLane g fun l =>
      { lane := l, va := address29 g 1 true (offset29 g o w) l, size := w, data := bytesOf (g.val 0) l w }) with
      hint := g.pre.hint, write := true, captured := false, alignTo := if n = 4 then 1 else 4 } }

/-- CSTORE: the active lanes' data to consecutive elements from the base, less those its progress count passes over
(R308, R309). -/
def compacting (g : Go) (s : State) (n : Nat) (o : BitVec 8) : Access :=
  let base := address29 g 1 true (offset29 g o n) 0
  { legal := decide (base % n = 0), cause := { cause := 0x52, lanes := g.active, va := BitVec.ofNat 64 base }
    flight := { g.flight s .cstore (((lanesIn g.active).mapIdx fun j l =>
      { lane := l, va := (base + n * j) % 2 ^ 64, size := n, data := bytesOf (g.val 0) l n }).drop g.progress) with
      hint := g.pre.hint, write := true, captured := false, width := n } }

/-- ATOM and RED on global memory without a release (R310, R312, R315): the third and fourth sources are CAS's compare value
and index, else the third is the index. -/
def atomically (g : Go) (s : State) (op : AtomOp) (red : Bool) (d : BitVec 7) (sc : BitVec 3) (r : BitVec 2) (t : BitVec 3) :
    Access :=
  let ty := atomType t
  let n := ty.bytes
  let indexed := if op = .cas then (g.pre.xopd.getD 0).getLsbD 0 else g.pre.xopd.isSome
  let index (l : Nat) : Nat := if indexed then ((g.val (if op = .cas then 3 else 2)).w32 l).toNat else 0
  let accs := perLane g fun l =>
    { lane := l, va := (((g.val 1).w64 l).toNat + index l) % 2 ^ 64, size := n, data := bytesOf (g.val 0) l n
      compare := if op = .cas then bytesOf (g.val 2) l n else [] }
  let f : Flight := { g.flight s (if red && r.toNat == 0 then .red op ty else .atom op ty !red) accs with
    write := true, captured := false, alignTo := n, acquire := decide (r.toNat % 2 = 1) && decide (3 ≤ sc.toNat), dst := d
    words := if red then 0 else n / 4, width := n
    recording := decide (3 ≤ sc.toNat) && (!red || decide (2 ≤ r.toNat)), record := some (g.core, (s.core g.core).seq.toNat) }
  { dst := if red then none else some { spec := d, words := n / 4 }, flight := f
    uniform := red || !isScalar d || decide ((lanesIn g.active).length ≤ 1) }

/-- Bytes of the widths of class 16 (R44). -/
def width44 (w : BitVec 3) : Nat := if w = 0 then 4 else if w = 1 then 8 else if w = 2 then 16 else if w = 3 then 1 else 2

/-- A class 16 load from global memory (R329, R333): at package and system scope it is made at the home. -/
def loadingAt (g : Go) (s : State) (home : Bool) (d : BitVec 7) (sc : BitVec 3) (r : BitVec 2) (w : BitVec 3) : Access :=
  let n := width44 w
  let address := address29 g 0 true 0
  let far := decide (3 ≤ sc.toNat)
  { dst := some { spec := d, words := max 1 (n / 4) }, uniform := !isScalar d || oneAddress g address
    flight := { g.flight s (if home || far then .homeLoad false else .load)
        (perLane g fun l => { lane := l, va := address l, size := n }) with
      dst := d, words := max 1 (n / 4), width := n, alignTo := n, acquire := far && r == 1, collect := far && r == 0 } }

/-- A class 16 store to global memory (R329). -/
def storingAt (g : Go) (s : State) (sc : BitVec 3) (w : BitVec 3) : Access :=
  let n := width44 w
  { flight := { g.flight s (.store true) (perLane g fun l =>
      { lane := l, va := address29 g 1 true 0 l, size := n, data := bytesOf (g.val 0) l n }) with
      write := true, captured := false, alignTo := n, recording := decide (3 ≤ sc.toNat)
      record := some (g.core, (s.core g.core).seq.toNat) } }

/-- MXACC: one f32 of each active lane to the one block that all name (R320). -/
def blockAdding (g : Go) (s : State) (sc : BitVec 3) (k : BitVec 3) : Access :=
  let address := address29 g 1 true 0
  let w := if k.toNat % 3 = 2 then 4 else 8
  { legal := oneAddress g address, cause := { cause := 0x57 }
    flight := { g.flight s (.mxacc k.toNat) (perLane g fun l =>
      { lane := l, va := address l, size := 32 * w / 8 + 2, data := bytesOf (g.val 0) l 4 }) with
      write := true, captured := false, recording := decide (3 ≤ sc.toNat)
      record := some (g.core, (s.core g.core).seq.toNat) } }

/-- The global accesses that go out without a release before them. -/
def globalAccess (i : Instr) (g : Go) (s : State) : Option Access :=
  match i with
  | .ldB32 d _ o _ => some (loading g s .load 4 d o)
  | .ldB64 d _ o _ => some (loading g s .load 8 d o)
  | .ldB128 d _ o _ => some (loading g s .load 16 d o)
  | .ldbB32 d _ o _ => some (loading g s (.homeLoad false) 4 d o)
  | .ldbB64 d _ o _ => some (loading g s (.homeLoad false) 8 d o)
  | .ldbB128 d _ o _ => some (loading g s (.homeLoad false) 16 d o)
  | .ldvB32 d _ o _ => some (loadingVersion g s 4 d o)
  | .ldvB128 d _ o _ => some (loadingVersion g s 16 d o)
  | .prefetch _ o _ => some { flight := { g.flight s .prefetch (perLane g fun l =>
      { lane := l, va := address29 g 0 true (offset29 g o 4) l, size := 1 }) with hint := g.pre.hint, captured := false } }
  | .stB32 _ _ o _ => some (storing g s 4 o)
  | .stB64 _ _ o _ => some (storing g s 8 o)
  | .stB128 _ _ o _ => some (storing g s 16 o)
  | .cstoreB32 _ _ o _ => some (compacting g s 4 o)
  | .cstoreB64 _ _ o _ => some (compacting g s 8 o)
  | .syncLd d _ sc r w _ => if g.pre.aux = 0 then some (loadingAt g s false d sc r w) else none
  | .syncLdb d _ sc r w _ => if g.pre.aux = 0 then some (loadingAt g s true d sc r w) else none
  | .syncSt _ _ sc r w _ => if g.pre.aux = 0 ∧ r ≠ 2 then some (storingAt g s sc w) else none
  | .mxacc _ _ sc r k _ => if r ≠ 2 then some (blockAdding g s sc k) else none
  | _ => none

/-- The operation of an atomic word, whether it returns nothing, its destination, scope, order and type. -/
def atomicWord (i : Instr) : Option (AtomOp × Bool × BitVec 7 × BitVec 3 × BitVec 2 × BitVec 3) :=
  match i with
  | .atomAdd d _ sc r t _ => some (.add, false, d, sc, r, t)
  | .atomMin d _ sc r t _ => some (.min, false, d, sc, r, t)
  | .atomMax d _ sc r t _ => some (.max, false, d, sc, r, t)
  | .atomAnd d _ sc r t _ => some (.and, false, d, sc, r, t)
  | .atomOr d _ sc r t _ => some (.or, false, d, sc, r, t)
  | .atomXor d _ sc r t _ => some (.xor, false, d, sc, r, t)
  | .atomExch d _ sc r t _ => some (.exch, false, d, sc, r, t)
  | .atomCas d _ sc r t _ => some (.cas, false, d, sc, r, t)
  | .redAdd d _ sc r t _ => some (.add, true, d, sc, r, t)
  | .redMin d _ sc r t _ => some (.min, true, d, sc, r, t)
  | .redMax d _ sc r t _ => some (.max, true, d, sc, r, t)
  | .redAnd d _ sc r t _ => some (.and, true, d, sc, r, t)
  | .redOr d _ sc r t _ => some (.or, true, d, sc, r, t)
  | .redXor d _ sc r t _ => some (.xor, true, d, sc, r, t)
  | _ => none

/-- An access that a release comes before (R331): its scope, and whether it writes UO pages back. -/
def releasedAccess (i : Instr) (g : Go) (s : State) : Option (Access × Nat × Bool) :=
  match i with
  | .syncSt _ _ sc r w _ => if g.pre.aux = 0 ∧ r = 2 then some (storingAt g s sc w, sc.toNat, false) else none
  | .mxacc _ _ sc r k _ => if r = 2 then some (blockAdding g s sc k, sc.toNat, false) else none
  | .signal _ _ _ _ => some ({ flight := { g.flight s (.store true)
      [{ lane := (lowestLane g.active).getD 0, va := (g.val 0).dword.toNat, size := 8
         data := (List.range 8).map fun k => (g.val 1).dword.extractLsb' (8 * k) 8 }] with
      write := true, captured := false, alignTo := 8, recording := true, hint := signalHint
      record := some (g.core, (s.core g.core).seq.toNat) } }, 5, true)
  | i =>
    match atomicWord i with
    | some (op, red, d, sc, r, t) =>
      if 2 ≤ r.toNat ∧ g.pre.aux % 2 = 0 then some (atomically g s op red d sc r t, sc.toNat, false) else none
    | none => none

/-- An access to a near memory, local memory or the pooled scratchpad: of each active lane an address and the bytes it
brings. -/
structure Near where
  dst : Option Dst := none
  flight : Flight
  address : Nat → Nat
  /-- Bytes of one access. -/
  bytes : Nat
  data : Nat → List Byte := fun _ => []
  compare : Nat → List Byte := fun _ => []
  /-- May the word form these addresses? -/
  legal : Bool := true

/-- The kind of a near access. -/
def nearKind (space : Space) (store : Bool) : MemKind := if space = .loc then .loc store else .pool store

/-- A near load of n bytes (R122, R189, R190). -/
def loadingNear (g : Go) (s : State) (space : Space) (n : Nat) (d : BitVec 7) (o : BitVec 8) : Near :=
  let w := bytes43 g n
  let address := address29 g 0 false (offset29 g o w)
  { dst := some { spec := d, words := n / 4 }, address, bytes := w, legal := !isScalar d || oneAddress g address
    flight := { g.flight s (nearKind space false) [] with
      dst := d, words := n / 4, width := w, signed := decide (g.pre.t1 = 1 ∨ g.pre.t1 = 2), space, translating := false } }

/-- A near store of n bytes (R122, R189, R304). -/
def storingNear (g : Go) (s : State) (space : Space) (n : Nat) (o : BitVec 8) : Near :=
  let w := bytes43 g n
  { address := address29 g 1 false (offset29 g o w), bytes := w, data := fun l => bytesOf (g.val 0) l w
    flight := { g.flight s (nearKind space true) [] with space, translating := false, captured := false } }

/-- The near space of a class 16 word whose aux names one (R328). -/
def space328 (g : Go) : Space := if g.pre.aux = 1 then .loc else .pooled

/-- A class 16 load from a near space (R328, R329). -/
def loadingNearAt (g : Go) (s : State) (d : BitVec 7) (w : BitVec 3) : Near :=
  let n := width44 w
  let address := address29 g 0 false 0
  { dst := some { spec := d, words := max 1 (n / 4) }, address, bytes := n, legal := !isScalar d || oneAddress g address
    flight := { g.flight s (nearKind (space328 g) false) [] with
      dst := d, words := max 1 (n / 4), width := n, space := space328 g, translating := false } }

/-- A class 16 store to a near space (R328, R329). -/
def storingNearAt (g : Go) (s : State) (w : BitVec 3) : Near :=
  let n := width44 w
  { address := address29 g 1 false 0, bytes := n, data := fun l => bytesOf (g.val 0) l n
    flight := { g.flight s (nearKind (space328 g) true) [] with space := space328 g, translating := false, captured := false } }

/-- ATOM and RED on local memory (R310). -/
def atomicallyNear (g : Go) (s : State) (op : AtomOp) (red : Bool) (d : BitVec 7) (t : BitVec 3) : Near :=
  let ty := atomType t
  let n := ty.bytes
  let indexed := if op = .cas then (g.pre.xopd.getD 0).getLsbD 0 else g.pre.xopd.isSome
  let index (l : Nat) : Nat := if indexed then ((g.val (if op = .cas then 3 else 2)).w32 l).toNat else 0
  { dst := if red then none else some { spec := d, words := n / 4 }
    address := fun l => (((g.val 1).w32 l).toNat + index l) % 2 ^ 32, bytes := n, data := fun l => bytesOf (g.val 0) l n
    compare := fun l => if op = .cas then bytesOf (g.val 2) l n else []
    legal := red || !isScalar d || decide ((lanesIn g.active).length ≤ 1)
    flight := { g.flight s (.atom op ty !red) [] with
      write := true, captured := false, alignTo := n, dst := d, words := if red then 0 else n / 4, width := n, space := .loc
      translating := false, record := some (g.core, (s.core g.core).seq.toNat) } }

/-- The near accesses that no release comes before. -/
def nearAccess (i : Instr) (g : Go) (s : State) : Option Near :=
  match i with
  | .ldlB32 d _ o _ => some (loadingNear g s .loc 4 d o)
  | .ldlB64 d _ o _ => some (loadingNear g s .loc 8 d o)
  | .ldlB128 d _ o _ => some (loadingNear g s .loc 16 d o)
  | .ldpB32 d _ o _ => some (loadingNear g s .pooled 4 d o)
  | .ldpB64 d _ o _ => some (loadingNear g s .pooled 8 d o)
  | .ldpB128 d _ o _ => some (loadingNear g s .pooled 16 d o)
  | .stlB32 _ _ o _ => some (storingNear g s .loc 4 o)
  | .stlB64 _ _ o _ => some (storingNear g s .loc 8 o)
  | .stlB128 _ _ o _ => some (storingNear g s .loc 16 o)
  | .stpB32 _ _ o _ => some (storingNear g s .pooled 4 o)
  | .stpB64 _ _ o _ => some (storingNear g s .pooled 8 o)
  | .stpB128 _ _ o _ => some (storingNear g s .pooled 16 o)
  | .syncLd d _ _ _ w _ => if g.pre.aux = 0 then none else some (loadingNearAt g s d w)
  | .syncLdb d _ _ _ w _ => if g.pre.aux = 0 then none else some (loadingNearAt g s d w)
  | .syncSt _ _ _ r w _ => if g.pre.aux = 0 ∨ r = 2 then none else some (storingNearAt g s w)
  | i =>
    match atomicWord i with
    | some (op, red, d, _, r, t) =>
      if g.pre.aux % 2 = 1 ∧ r.toNat < 2 then some (atomicallyNear g s op red d t) else none
    | none => none

/-- The near accesses that a release comes before, at a scope no wider than the core's (R310, R328, R331). -/
def releasedNear (i : Instr) (g : Go) (s : State) : Option (Near × Nat) :=
  match i with
  | .syncSt _ _ sc r w _ => if g.pre.aux ≠ 0 ∧ r = 2 then some (storingNearAt g s w, min 2 sc.toNat) else none
  | i =>
    match atomicWord i with
    | some (op, red, d, sc, r, t) =>
      if g.pre.aux % 2 = 1 ∧ 2 ≤ r.toNat then some (atomicallyNear g s op red d t, min 2 sc.toNat) else none
    | none => none

/-- The access of a lane at its place. -/
def Near.at (a : Near) (places : List (Nat × Nat)) : List LaneAcc :=
  places.map fun q => { lane := q.1, va := q.2, size := a.bytes, data := a.data q.1, compare := a.compare q.1 }

/-- The places of the active lanes, or the trap of the lowest lane that has none. -/
def Near.places (a : Near) (g : Go) (s : State) : Except Cause (List (Nat × Nat)) :=
  placeLanes g.active a.address (s.nearPlace g a.flight.space a.bytes)

/-- A word's access has entered the machine: its work is in flight under the number `id`, its registers stand as they were,
and its threads are past it. -/
structure Leaves (g : Go) (s u : State) (id : Nat) (fl : Flight) (dst : Option Dst) (b' : Barge) : Prop where
  machine : KeepsMachine g { s with flights := u.flights } u
  flights : u.flights = s.flights.put id fl
  barge : u.barge g.core g.slot = some b'
  v : b'.v = g.b.v
  s : b'.s = g.b.s
  control : KeepsControl g.b b'
  passed : PassedWord g b'
  empty : match dst with
    | some d => b'.marked g.active d
    | none => b'.vEmpty = g.b.vEmpty ∧ b'.sEmpty = g.b.sEmpty

/-- A clear word's access goes out, and the memory words of its core go on (R181). -/
def GoesOut (i : Instr) (s : State) (g : Go) (a : Access) : Prop :=
  ∃ u b', Completes i s (u.pump g.core) ∧ Leaves g s u s.nextId a.flight a.dst b'

/-- A clear word's release begins, and its access waits for it (R331). -/
def GoesOutReleased (i : Instr) (s : State) (g : Go) (a : Access) (scope : Nat) (uo : Bool) : Prop :=
  ∃ u b', Completes i s ((u.relRun s.nextId relFuel).pump g.core)
    ∧ Leaves g s u (s.nextId + 1) { a.flight with release := some s.nextId } a.dst b'
    ∧ u.rels = s.rels.put s.nextId { core := g.core, slot := g.slot, ctx := g.b.ctx, scope, uo, after := .sendFlight (s.nextId + 1) }

/-- A clear word's access goes to its near memory, at the places of its lanes (R188, R189, R120, R121). -/
def GoesNear (i : Instr) (s : State) (g : Go) (a : Near) (accs : List LaneAcc) : Prop :=
  ∃ u b', Completes i s (u.sendNear s.nextId { a.flight with accs }) ∧ Leaves g s u s.nextId { a.flight with accs } a.dst b'

end Sys2Proof.Claims

open Sys2Proof Sys2Proof.Machine Sys2Proof.Claims

/-- R331: a store, atomic, MXACC or SIGNAL with a release is sent once its release is complete. -/
def Obligations.ReleasedAccessesGoOut : Prop :=
  ∀ i s g a scope uo, releasedAccess i g s = some (a, scope, uo) → Clear i s g → g.active ≠ 0 → a.legal = true →
    GoesOutReleased i s g a scope uo

/-- R22, R152, R308, R312 and R320, with steps 9 and 10 of R47: a word whose lanes do not form addresses it may form traps, and
nothing goes out. A scalar load of several addresses, or a scalar atomic of several lanes, that has passed the checks before
step 9 traps SCALAR_NONUNIFORM, whatever its label; then a dead label's version, a misaligned CSTORE, and an MXACC of several
blocks. -/
def Obligations.AccessesThatTrap : Prop :=
  ∀ i s g, g.active ≠ 0 →
    (Ready i s g →
      (∀ a, globalAccess i g s = some a → a.uniform = false → Traps i s g { cause := 0x06 }) ∧
      (∀ op red d sc r t, atomicWord i = some (op, red, d, sc, r, t) → red = false → isScalar d = true →
        1 < (lanesIn g.active).length → Traps i s g { cause := 0x06 }) ∧
      (∀ a, nearAccess i g s = some a → a.legal = false → Traps i s g { cause := 0x06 })) ∧
    (Clear i s g →
      (∀ a, globalAccess i g s = some a → a.legal = false → Traps i s g a.cause) ∧
      (∀ a scope uo, releasedAccess i g s = some (a, scope, uo) → a.legal = false → Traps i s g a.cause))

/-- R120, R122, R188, R189, R304, R310 and R328: a near access whose active lanes have legal places goes there; else the word traps
with the cause of the lowest failing lane. A place in local memory is in the workgroup's range, after the checks of alignment
and of range in that order. -/
def Obligations.NearAccessesGo : Prop :=
  (∀ i s g, Clear i s g → g.active ≠ 0 →
    (∀ a, nearAccess i g s = some a → a.legal = true →
      (∀ x, a.places g s = .error x → Traps i s g x) ∧
      (∀ places, a.places g s = .ok places → GoesNear i s g a (a.at places))) ∧
    (∀ a scope, releasedNear i g s = some (a, scope) → a.legal = true →
      (∀ x, a.places g s = .error x → Traps i s g x) ∧
      (∀ places, a.places g s = .ok places →
        GoesOutReleased i s g { dst := a.dst, flight := { a.flight with accs := a.at places } } scope false))) ∧
  (∀ (s : State) (g : Go) (l a n base size : Nat), s.localRange g.core g.b l = some (base, size) →
    s.nearPlace g .loc n l a =
      if a % n ≠ 0 then .error 0x51 else if size < a + n then .error 0x50 else .ok (base + a))

/-- R125, R196, R318, R328, R331 and R333: INVL1 reaches the tag stage 4 cycles later, and there drops every clean sector of its
context from the core's L1; REDFLUSH drains the
reduction entries of its barge, which goes on in the cycle after the last is acknowledged; a fence releases, then acquires, at
its scope, and no memory access of the barge issues before it is complete. A fence of order 0 with the layer flag only waits
for the barge's stores to arrive, which its issue does. -/
def Obligations.OrderingWords : Prop :=
  (∀ s g, Clear .invl1 s g → g.active ≠ 0 → Completes .invl1 s (g.finish g.b (s.post 4 .l1Fill [g.core, g.b.ctx, 0, 0]))) ∧
  (∀ s core ctx x y, s.args = [core, ctx, x, y] →
    Completes .l1Fill s (s.l1Invalidate core fun t => decide (t.ctx = ctx))) ∧
  (∀ s g, Clear .redflush s g → g.active ≠ 0 →
    let drained := s.drainWhere g.core none fun e => decide (e.barge = g.slot)
    let rel : Rel := { core := g.core, slot := g.slot, ctx := g.b.ctx, scope := 0, release := false, step := 9,
                       waitFor := drained.1, after := .post [(1, { what := .sleepEnd, args := [g.core, g.slot] })] }
    Completes .redflush s (if drained.1 = [] then g.finish g.b drained.2
      else g.finish { g.b with blocked := true }
        { drained.2 with nextId := drained.2.nextId + 1, rels := drained.2.rels.put drained.2.nextId rel })) ∧
  (∀ s g, g.active ≠ 0 →
    let rel (sc : BitVec 3) (r : BitVec 2) : Rel :=
      { core := g.core, slot := g.slot, ctx := g.b.ctx, scope := sc.toNat, release := decide (2 ≤ r.toNat)
        acquire := decide (r.toNat % 2 = 1), uo := true
        pulls := if r.toNat % 2 = 1 ∧ 3 ≤ sc.toNat then g.b.pulls.map fun p => (p.1, p.2, pullTime g.core p.1) else []
        after := .resume 2 }
    let fenced (sc : BitVec 3) (r : BitVec 2) : State :=
      (((g.finish { g.b with memWait := g.b.memWait ++ [s.nextId], pulls := if r.toNat % 2 = 1 ∧ 3 ≤ sc.toNat then [] else g.b.pulls }
        { s with nextId := s.nextId + 1, rels := s.rels.put s.nextId (rel sc r) }).relRun s.nextId relFuel).pump g.core)
    (∀ sc r, Clear (.fence sc r) s g → Completes (.fence sc r) s (fenced sc r)) ∧
    (∀ sc r, Clear (.fenceLayer sc r) s g → r ≠ 0 → Completes (.fenceLayer sc r) s (fenced sc r)) ∧
    (∀ sc, Clear (.fenceLayer sc 0) s g → TakesSlot (.fenceLayer sc 0) s g))

/-- R311: the new value of a location of an integer type, from its old value, the operand and the compare value. -/
def Obligations.AtomicIntegers : Prop :=
  ∀ (op : AtomOp) (ty : AtomTy) (o v c : Nat), (ty = .n32 ∨ ty = .i32 ∨ ty = .n64 ∨ ty = .i64) →
    o < 2 ^ (8 * ty.bytes) → v < 2 ^ (8 * ty.bytes) → c < 2 ^ (8 * ty.bytes) →
    let w := 8 * ty.bytes
    let num (x : Nat) : Int := if (ty = .i32 ∨ ty = .i64) ∧ 2 ^ (w - 1) ≤ x then (x : Int) - 2 ^ w else x
    atomNew op ty o v c = match op with
      | .add => (o + v) % 2 ^ w
      | .min => if num v < num o then v else o
      | .max => if num o < num v then v else o
      | .and => o &&& v
      | .or => o ||| v
      | .xor => o ^^^ v
      | .exch => v
      | .cas => if o = c then v else o

namespace Sys2Proof.Claims
open Sys2Proof Sys2Proof.Machine

/-! ## Synchronisation, engines, rays, pixels, launches and reaches -/

/-- The barge's flags without the one at a barrier (R353). -/
def otherFlags (b : Barge) (level number : Nat) : List BarFlag :=
  b.flags.filter fun f => !(f.level == level && f.number == number)

/-- The phase recorded in the barge's flag at a barrier, where it is set (R353). -/
def flagPhase (b : Barge) (level number : Nat) : Option Nat :=
  (b.flags.find? fun f => f.level == level && f.number == number).map (·.phase)

/-- A barrier word: its level and number, whether it arrives, and whether it waits (R352). -/
def barrierWord (i : Instr) (g : Go) : Option (Nat × Nat × Bool × Bool) :=
  match i with
  | .bar l n => some (l.toNat, n.toNat, true, true)
  | .bararr l n => some (l.toNat, n.toNat, true, false)
  | .bsync _ _ => some ((g.val 0).dword.toNat / 64 % 4, (g.val 0).dword.toNat % 64, false, true)
  | _ => none

/-- How many barriers a level has (R42). -/
def barriersAt (level : Nat) : Nat := if level = 0 then 16 else if level = 1 then 8 else if level = 2 then 4 else 0

/-- The scope of a barrier's release and acquire (R346). -/
def scope346 (level : Nat) : Nat := if level = 0 then 2 else if level = 1 then 3 else 5

/-- A new release record stands. -/
def withRel (s : State) (r : Rel) : State := { s with nextId := s.nextId + 1, rels := s.rels.put s.nextId r }

/-- The release of an arrival at a barrier, and what follows it (R331, R350, R353). -/
def arrival (g : Go) (level holder number : Nat) : Rel :=
  { core := g.core, slot := g.slot, ctx := g.b.ctx, scope := scope346 level, uo := true, barrier := some (level, holder, number)
    after := .arrive level holder number }

/-- A barge waits at a barrier with this flag. -/
def waitsAt (g : Go) (b : Barge) (level holder number : Nat) (f : BarFlag) (s : State) : State :=
  let x := s.barrier level holder number
  ((g.finish { b with blocked := true, waitBar := some f } s).setBarrier level holder number
    { x with waiters := x.waiters ++ [512 * g.core + g.slot] }).onBarge g.core g.slot
      fun b => { b with wait := .barrier, waitSince := s.now }

/-- The work in flight of a word whose barge issues nothing further until its scalar d is written (R25). -/
def awaiting (g : Go) (s : State) (d : BitVec 7) : Flight :=
  { g.flight s .unit [] with translating := false, sent := true, captured := false, blocks := true, dst := d, words := 2 }

/-- The word has issued and its barge waits so. -/
def awaited (g : Go) (s : State) (d : BitVec 7) : State :=
  g.finish { g.b with blocked := true } { s with nextId := s.nextId + 1, flights := s.flights.put s.nextId (awaiting g s d) }

/-- The accesses of the testers and of the samplers (R276, R301, R302): a sampling word reads each lane's descriptor and the texels
that it names as it stands in that cycle (log 113). -/
def unitAccess (i : Instr) (g : Go) (s : State) : Option Access :=
  let test (kind : MemKind) (d : BitVec 7) (words size align : Nat) : Access :=
    { dst := some { spec := d, words }
      flight := { g.flight s kind (perLane g fun l => { lane := l, va := ((g.val 1).w64 l).toNat, size }) with
        dst := d, words, hint := g.pre.hint, alignTo := align } }
  let sample (which : Nat) (d : BitVec 7) : Access :=
    { dst := some { spec := d, words := 4 }
      flight :=
        let fl : Flight := { g.flight s .sample [] with
          dst := d, words := 4, hint := g.pre.hint, alignTo := 32, order := which, scope := g.pre.aux, slots := [s.freeIdx]
          result := (List.range 32).map fun l => if which = 1 then [(g.val 2).w32 l] else [] }
        { fl with accs := fl.sampleAccs s (perLane g fun l => { lane := l, va := ((g.val 1).w64 l).toNat, size := 32 }) } }
  match i with
  | .boxt d _ _ _ _ => some (test .box d 2 64 128)
  | .trit d _ _ _ _ => some (test .tri d 4 48 16)
  | .sample d _ _ _ _ => some (sample 0 d)
  | .samplel d _ _ _ _ => some (sample 1 d)
  | .sampleg d _ _ _ _ => some (sample 2 d)
  | _ => none

/-- A word that only a reach's opener may execute without a tag, with the step at the hub that it asks for (R145, R148). -/
def versionAt (i : Instr) (g : Go) : Option (BitVec 7 × Instr × Nat) :=
  match i with
  | .commit d k => some (d, .commitPoint, k.toNat)
  | .commitReg d _ _ => some (d, .commitPoint, (g.val 0).dword.toNat % 8)
  | .squash d m => some (d, .squashPoint, 2 * m.toNat)
  | .squashReg d _ _ => some (d, .squashPoint, (g.val 0).dword.toNat % 256 / 2 * 2)
  | _ => none

end Sys2Proof.Claims

open Sys2Proof Sys2Proof.Machine Sys2Proof.Claims

/-- R353: what a barrier word does, in the order of the rule: its traps; BAR and BARARR arrive with a release, BAR waits for
the phase; BSYNC waits where the phase it arrived at is still open, and acquires at once otherwise. -/
def Obligations.Barriers : Prop :=
  ∀ i s g level number arrives waits, barrierWord i g = some (level, number, arrives, waits) → Clear i s g →
    (g.b.reformed = true → Traps i s g { cause := 0x0B }) ∧
    (g.b.reformed = false → g.active ≠ 0 →
      (barriersAt level ≤ number ∨ s.holderOf g.b level = none → Traps i s g { cause := 0x71 }) ∧
      (∀ h, number < barriersAt level → s.holderOf g.b level = some h →
        let x := s.barrier level h number
        let f : BarFlag := { level, number, phase := x.phase }
        let arrived : Barge := { g.b with flags := otherFlags g.b level number ++ [f] }
        (~~~g.b.exited &&& ~~~g.group ≠ 0 → Traps i s g { cause := 0x72 }) ∧
        (~~~g.b.exited &&& ~~~g.group = 0 →
          (arrives = true → flagPhase g.b level number = some x.phase → Traps i s g { cause := 0x73 }) ∧
          (arrives = true → flagPhase g.b level number ≠ some x.phase →
            let u := if waits then waitsAt g arrived level h number f s else g.finish arrived s
            Completes i s ((withRel u (arrival g level h number)).relRun u.nextId relFuel)) ∧
          (arrives = false → ∀ q, flagPhase g.b level number = some q → q = x.phase →
            Completes i s (waitsAt g g.b level h number f s)) ∧
          (arrives = false → flagPhase g.b level number ≠ some x.phase →
            Completes i s ((g.finish { g.b with flags := otherFlags g.b level number } s).acquireFence g.core g.slot
              (scope346 level) true 2)))))

/-- R170 and R173: SEMWAIT traps SEM_ERR on a semaphore with ERR, goes on and acquires where the value has reached the
threshold, and waits otherwise; the comparison is modulo 2^32. -/
def Obligations.SemaphoreWaits : Prop :=
  ∀ (f : BitVec 1) (a : BitVec 7) (p : BitVec 1) (n : BitVec 8) (s : State) (g : Go), Clear (.semwait f a p n) s g → g.active ≠ 0 →
    let i : Instr := .semwait f a p n
    let unit := if f = 0 then g.core else towerOf g.core
    let x := s.sem f.toNat unit n.toNat
    let t := (g.val 0).w32 0
    let met := (x.value.toNat + 2 ^ 32 - t.toNat) % 2 ^ 32 < 2 ^ 31
    let later := max (s.now + 1 + g.pre.stall) (s.now + if f = 0 then 6 else 18)
    (x.err = true → Traps i s g { cause := 0x7A, semFault := x.fault }) ∧
    (x.err = false → met → Completes i s (((g.finish g.b s).onBarge g.core g.slot fun b =>
      { b with readyAt := later, eligibleSince := later }).acquireFrom g.core g.slot 5 false
        (semPulls g.core f.toNat unit x) 0)) ∧
    (x.err = false → ¬ met → Completes i s ((g.finish { g.b with
        blocked := true
        semWait := some { file := f.toNat, unit, number := n.toNat, threshold := t, entry := g.entry false } } s).onBarge
      g.core g.slot fun b => { b with wait := .sem x.ext, waitSince := s.now }))

/-- R170 to R172: SEMSIG and SEMSET release at device scope; the update, an increment or a new value, reaches the sync unit
after the release. -/
def Obligations.SemaphoreUpdates : Prop :=
  ∀ (f : BitVec 1) (a : BitVec 7) (p : BitVec 1) (n : BitVec 8) (set : Bool) (s : State) (g : Go),
    let i : Instr := if set then .semset f a p n else .semsig f a p n
    Clear i s g → g.active ≠ 0 →
    let own := towerOf g.core
    let unit := if f = 0 then g.core else if g.pre.aux < 4 then own else g.pre.aux - 4
    let delay := if f = 0 then 4 else if unit = own then 16 else 160
    let step : Event := { what := .semaphoreUpdate, args := [f.toNat, unit, n.toNat, if set then 1 else 0,
      ((g.val 0).w32 0).toNat, 3 + (512 * g.core + g.slot)] }
    let rel : Rel := { core := g.core, slot := g.slot, ctx := g.b.ctx, scope := 5, after := .post [(delay, step)] }
    Completes i s ((g.finish g.b (withRel s rel)).relRun s.nextId relFuel)

/-- R170 and R172: an update that no other of its cycle goes before changes the value, and the record of the last releaser where
it has one: that of a barge or a SEMSET, which the update of an engine leaves. A test of the waits follows the last update of the
cycle, and wakes those that what they have left satisfies. -/
def Obligations.SemaphoreValues : Prop :=
  (∀ (s : State) (file unit number kind value rank : Nat) (rel : Option (Nat × Nat)),
    s.args = [file, unit, number, kind, value, rank] ++ (rel.map fun r => [r.1, r.2]).getD [] →
    s.earlierUpdate file unit number rank = false → kind < 2 →
    let u := if s.testDue file unit number = true then s else s.post 0 .semaphoreUpdate [file, unit, number]
    let x := s.sem file unit number
    let v := BitVec.ofNat 32 (if kind = 0 then x.value.toNat + value else value)
    Completes .semaphoreUpdate s (u.setSem file unit number
      { x with value := v, record := (if kind = 1 ∨ 3 ≤ rank then rel.or x.record else x.record) })) ∧
  (∀ (s : State) (file unit number : Nat), s.args = [file, unit, number] →
    s.earlierUpdate file unit number (2 * 10 ^ 9) = false →
    Completes .semaphoreUpdate s (s.semUpdated file unit number))

/-- R176 to R178: TLD and TST trap on an address outside the tile store or misaligned, with the failing lanes; else the access is
under way, and a load's destination is empty. TCOPY and TCLR trap on a rectangle that is not legal; else the copy or the
clearing is under way. Each comes to the tile store 6 cycles after its issue. -/
def Obligations.TileStore : Prop :=
  (∀ (d a b : BitVec 7) (p q : BitVec 1) (store : Bool) (s : State) (g : Go),
    let i : Instr := if store then .tst d a b p q else .tld d a b p q
    Clear i s g → g.active ≠ 0 →
    let k := if store then 1 else 0
    let words := if g.pre.t1 = 10 then 2 else if g.pre.t1 = 11 then 4 else 1
    let address (l : Nat) : Nat := (((g.val k).w32 l).toNat + ((g.opB (k + 1) b q).w32 l).toNat) % 2 ^ 32
    let bad (l : Nat) : Bool := decide (524288 ≤ address l ∨ address l % (4 * words) ≠ 0)
    let accs := perLane g fun l =>
      { lane := l, va := address l, size := 4 * words, data := if store then bytesOf (g.val 0) l (4 * words) else [] }
    (∀ l, (lanesIn g.active).find? bad = some l → Traps i s g
      { cause := 0x4F, lanes := maskOf fun j => laneOn g.active j && bad j, va := BitVec.ofNat 64 (address l) }) ∧
    ((lanesIn g.active).any bad = false → ∃ (u : State) (b' : Barge) (fl : Flight), Completes i s u ∧ u.barge g.core g.slot = some b' ∧
      u.flights = s.flights.put s.nextId fl ∧ u.agenda = agendaInsert (s.now + 6) { what := .tileStoreAccess, args := [s.nextId] } s.agenda ∧
      fl.kind = .tile ∧ fl.accs = accs ∧ fl.dst = d ∧ fl.words = (if store then 0 else words) ∧
      (∀ k, (u.core k).tile = (s.core k).tile) ∧ (∀ a, u.byteAt a = s.byteAt a) ∧ b'.v = g.b.v ∧ b'.s = g.b.s ∧
      KeepsControl g.b b' ∧ PassedWord g b' ∧ (store = false → b'.marked g.active { spec := d, words }))) ∧
  (∀ (d a b : BitVec 7) (p q : BitVec 1) (copy : Bool) (s : State) (g : Go),
    let i : Instr := if copy then .tcopy d a b p q else .tclr d a p
    Clear i s g → g.active ≠ 0 →
    let shape := (g.val 0).dword.toNat
    let rows := shape % 512 + 1
    let width := shape / 2 ^ 16 % 1024 + 1
    let from_ := ((g.val 1).w32 0).toNat
    let to_ := if copy then ((g.opB 2 b q).w32 0).toNat else from_
    let legal (o : Nat) : Prop := o < 524288 ∧ o % 4 = 0 ∧ width % 4 = 0 ∧ o / 1024 + rows ≤ 512 ∧ o % 1024 + width ≤ 1024
    (¬ (legal from_ ∧ legal to_) → Traps i s g { cause := 0x4F }) ∧
    (legal from_ → legal to_ →
      let fl : Flight := { g.flight s .tile [] with
        translating := false, sent := true, captured := false, hint := 1, scope := if copy then 1 else 0, issued := from_
        extra := to_, order := rows, width }
      Completes i s (g.finish g.b ({ s with nextId := s.nextId + 1, flights := s.flights.put s.nextId fl }.post 6
        .tileStoreAccess [s.nextId]))))

/-- R156 to R160: JOB and JOBQ trap JOB_BAD on a card that is not there or not legal; of any other card the word completes: the
card has been read, the barge waits for its number, and the post follows a release at device scope. Of the post: 8 cycles after
the card has come to its scheduler it takes a place in its queue and its number there is the word's scalar; JOBQ is refused, with
the scalar 0, by a queue without room. -/
def Obligations.JobsPost : Prop :=
  (∀ (d a : BitVec 7) (p : BitVec 1) (jobq : Bool) (s : State) (g : Go),
    let i : Instr := if jobq then .jobq d a p else .job d a p
    Clear i s g → g.active ≠ 0 →
    let a := ((g.val 0).w32 0).toNat
    (s.localRange g.core g.b 0 = none → Traps i s g { cause := 0x78 }) ∧
    (∀ base size, s.localRange g.core g.b 0 = some (base, size) → (a % 64 ≠ 0 ∨ size < a + 64) → Traps i s g { cause := 0x78 }) ∧
    (∀ base size, s.localRange g.core g.b 0 = some (base, size) → a % 64 = 0 → a + 64 ≤ size →
      let bytes := s.localBytes g.core g.slot (base + a) 64
      let blank : Card :=
        { engine := s.engineOf g.core (leNat (bytes.take 8) % 16), seq := 0, ctx := g.b.ctx, tag := g.b.tag, core := g.core
          node := g.b.node, chunk := g.b.chunkSlot, localBase := base, localSize := size, subop := 0, nr := 0, nw := 0
          semf := false, sem := 0, inc := 0, pa := 0, pb := 0, regions := [], jobq }
      (blank.parse bytes = none → Traps i s g { cause := 0x78 }) ∧
      (∀ c, blank.parse bytes = some c →
        let u := awaited g s d
        let rel : Rel := { core := g.core, slot := g.slot, ctx := g.b.ctx, scope := 5, uo := true
                           after := .post [(20, { what := .cardStart, args := [u.nextId] })] }
        Completes i s ((withRel { u with nextId := u.nextId + 1
                                         cards := u.cards.put u.nextId { c with flight := some s.nextId } } rel).relRun
          (u.nextId + 1) relFuel)))) ∧
  (∀ (u : State) (id : Nat) (c : Card) (fid : Nat) (r : Option (Nat × Nat)), u.args = id :: (r.map fun p => [p.1, p.2]).getD [] →
    u.cards.look id = some c → c.flight = some fid →
    let room := (u.queueOf c.engine).length < c.engine.capacity
    let refused (u : State) : State := { u.fillScalar fid 0 4 with cards := (u.fillScalar fid 0 4).cards.cut id }
    (c.jobq = true → ¬ room → c.stage = 0 → Completes .cardStart u (refused u)) ∧
    (c.jobq = false ∨ room → c.stage = 0 →
      Completes .cardStart u
        ({ u with cards := u.cards.put id { c with stage := 1, record := r, due := u.now + 8 } }.post 8 .cardStart [id])) ∧
    (c.stage = 1 → c.due ≤ u.now → u.lowerPost c = false → c.jobq = true → ¬ room → Completes .cardStart u (refused u)) ∧
    (∀ f, u.flights.look fid = some f → c.stage = 1 → c.due ≤ u.now → u.lowerPost c = false → room →
      Completes .cardStart u ((u.onBarge f.core f.slot fun b => { b with wait := .none }).postCard id c c.record)))

/-- R258, R259 and R261: an MMA of a reformed barge traps REFORMED, and one of more than one active lane MMA_SHAPE; of one, its barge waits for the check of its parameter
block, 3 cycles later. An element of an integer product is the exact sum, wrapped to 32 bits or clamped, and wrapping is
reported. -/
def Obligations.MatrixWords : Prop :=
  (∀ (d a b : BitVec 7) (p q : BitVec 1) (s : State) (g : Go), Clear (.mma d a b p q) s g →
    (g.b.reformed = true → Traps (.mma d a b p q) s g { cause := 0x0B }) ∧
    (g.b.reformed = false → 1 < (lanesIn g.active).length → Traps (.mma d a b p q) s g { cause := 0x0C }) ∧
    (g.b.reformed = false → (lanesIn g.active).length = 1 →
      let fl : Flight := { g.flight s .unit [] with translating := false, dst := d, mma := true, tag := if g.replay then 1 else 0 }
      Completes (.mma d a b p q) s ((g.finish { g.b with blocked := true }
        { s with nextId := s.nextId + 1, flights := s.flights.put s.nextId fl }).post 3 (.mma 0 0 0 0 0) [s.nextId]))) ∧
  (∀ (a b : List Int) (c : Int) (clamp : Bool),
    let x := c + ((a.zip b).map fun p => p.1 * p.2).sum
    mmaInteger a b c clamp = ((written 32 true clamp x).toNat, decide (x < -2 ^ 31 ∨ 2 ^ 31 ≤ x)))

/-- R29, R43, R190 to R195, R276, R301 to R315, R320 and R329: each word of global memory, of the testers and of the samplers, and
each atomic without a release, whose lanes form addresses that it may form, sends one access of each active lane, and its
destination is empty in the active lanes. -/
def Obligations.GlobalAccessesGoOut : Prop :=
  (∀ i s g a, globalAccess i g s = some a → Clear i s g → g.active ≠ 0 → a.legal = true → GoesOut i s g a) ∧
  (∀ i s g op red d sc r t, atomicWord i = some (op, red, d, sc, r, t) → Clear i s g → g.active ≠ 0 → g.pre.aux % 2 = 0 →
    r.toNat < 2 → GoesOut i s g (atomically g s op red d sc r t)) ∧
  (∀ i s g a, unitAccess i g s = some a → Clear i s g → g.active ≠ 0 → GoesOut i s g a)

/-- R275 and R281: RAYINIT writes the eight registers above its own with the precomputed half of the ray's record, 16 cycles
later. TSPUSH stores its entry at the lane's stack pointer and advances it, and traps TSTACK_OVERFLOW in the lanes whose stack
has no room; TSPOP takes the pointer back where the stack holds an entry. -/
def Obligations.RaysAndStacks : Prop :=
  (∀ (d : BitVec 7) (p : BitVec 1) (s : State) (g : Go), Clear (.rayinit d p) s g → g.active ≠ 0 → isScalar (d + 8) = false →
    Fills (.rayinit d p) s g { spec := d + 8, words := 8 } 16 fun l =>
      { words := rayInit ((List.range 8).map ((g.val 0).word l)) (Config.freeValue (s.freeIdx + l)).toNat }) ∧
  ((∀ (d a b : BitVec 7) (p q : BitVec 1) (s : State) (g : Go), Clear (.tspush d a b p q) s g → g.active ≠ 0 →
    let i : Instr := .tspush d a b p q
    let sp (l : Nat) : Nat := ((g.val 0).w32 l).toNat
    let fails (l : Nat) : Bool := decide (((g.val 2).w32 l).toNat < sp l + 8)
    (∀ l, (lanesIn g.active).find? fails = some l → Traps i s g
      { cause := 0x53, lanes := maskOf fun j => laneOn g.active j && fails j, va := BitVec.ofNat 64 (sp l) }) ∧
    ((lanesIn g.active).any fails = false →
      (∀ x, placeLanes g.active sp (s.nearPlace g .loc 8) = .error x → Traps i s g x) ∧
      (∀ places, placeLanes g.active sp (s.nearPlace g .loc 8) = .ok places → isScalar d = false →
        ∃ (u : State) (b' : Barge) (fl : Flight), Completes i s (u.sendNear s.nextId fl) ∧ u.barge g.core g.slot = some b' ∧ fl.kind = .loc true ∧
          fl.accs = (places.filter fun x => !laneOn g.b.helpers x.1).map (fun x =>
            { lane := x.1, va := x.2, size := 8, data := bytesOf (g.val 1) x.1 8 }) ∧
          (∀ l, l < 32 → laneOn g.active l = true → b'.vreg d.toNat l = (g.val 0).w32 l + 8) ∧
          KeepsRegisters g.b b' g.active { spec := d } ∧ KeepsControl g.b b' ∧ PassedWord g b'))) ∧
  (∀ (d a b : BitVec 7) (p q : BitVec 1) (s : State) (g : Go), Clear (.tspop d a b p q) s g → g.active ≠ 0 →
    let i : Instr := .tspop d a b p q
    let sp (l : Nat) : Nat := ((g.val 0).w32 l).toNat
    let full := maskOf fun l => laneOn g.active l && decide (((g.val 1).w32 l).toNat + 8 ≤ sp l)
    (∀ x, placeLanes full (fun l => sp l - 8) (s.nearPlace g .loc 8) = .error x → Traps i s g x) ∧
    (∀ places, placeLanes full (fun l => sp l - 8) (s.nearPlace g .loc 8) = .ok places → isScalar a = false →
      ∃ (u : State) (b' : Barge) (fl : Flight), Completes i s (u.sendNear s.nextId fl) ∧ u.barge g.core g.slot = some b' ∧ fl.kind = .loc false ∧
        fl.dst = d ∧ fl.words = 2 ∧ fl.accs = places.map (fun x => { lane := x.1, va := x.2, size := 8 }) ∧
        (∀ l, l < 32 → fl.result.getD l [] = [0xFFFFFFFF, 0xFFFFFFFF]) ∧
        (∀ l, l < 32 → laneOn full l = true → b'.vreg a.toNat l = (g.val 0).w32 l - 8) ∧
        KeepsRegisters g.b b' full { spec := a } ∧ KeepsControl g.b b' ∧ PassedWord g b' ∧ b'.marked g.active { spec := d, words := 2 })))

namespace Sys2Proof.Claims
open Sys2Proof Sys2Proof.Machine

/-! ## Graphics, tasks, reaches and the system words -/

/-- A word has issued with a result still to come, and the machine also has an event due (R25). -/
def GoesOutUntil (i : Instr) (s : State) (g : Go) (a : Access) (delay : Nat) (what : Instr) : Prop :=
  ∃ (u : State) (b' : Barge), Completes i s (u.post delay what [s.nextId]) ∧ Leaves g s u s.nextId a.flight a.dst b'

/-- The packet of a LAUNCH as it is posted: its reach field takes the barge's tag, and FULL is set (R377). -/
def posted (bytes : List Byte) (tag : BitVec 3) : List Byte :=
  (List.range 64).map fun k =>
    let b := bytes.getD k 0
    if k = 15 ∧ tag ≠ 0 then BitVec.ofNat 8 (b.toNat / 8 * 8 + tag.toNat)
    else if k = 63 then BitVec.ofNat 8 (b.toNat % 128 + 128)
    else b

/-- Table 18.5: the value of a barge register in a lane. -/
def register185 (s : State) (g : Go) (n l : Nat) : Dword :=
  let wgid (k : Nat) : Dword := ((g.b.wgid.getD l []).getD k 0).setWidth 64
  match n with
  | 1 => (g.b.fctlAt s.now).toDword
  | 2 => BitVec.ofNat 64 l
  | 3 => BitVec.ofNat 64 g.slot
  | 4 => wgid 0
  | 5 => wgid 1
  | 6 => wgid 2
  | 7 => BitVec.ofNat 64 g.core
  | 8 => BitVec.ofNat 64 (towerOf g.core)
  | 9 => BitVec.ofNat 64 g.b.tag.toNat
  | 10 => (s.ctx g.b.ctx).versionMap
  | 11 => BitVec.ofNat 64 g.b.ctx
  | 12 => BitVec.ofNat 64 ((if g.b.handler then 2 ^ 16 else 0) + g.b.trapCode.toNat * 2 ^ 8 + g.b.trapCause.toNat)
  | 13 => BitVec.ofNat 64 g.b.trapFrame.toNat
  | _ => BitVec.ofNat 64 s.now

/-- The register number of a register word (R394). -/
def number394 (g : Go) (c : BitVec 8) : Nat := if g.pre.ximm.isSome then (g.pre.imm32 c).toNat else c.toNat

/-- The words of a register access: its number, its destination, and whether it reads and writes (R395). -/
def registerWord (i : Instr) (g : Go) : Option (Nat × BitVec 7 × Bool × Bool) :=
  match i with
  | .csrr d c => some (number394 g c, d, true, false)
  | .csrw _ _ c => some (number394 g c, 0, false, true)
  | .csrs d _ _ c => some (number394 g c, d, true, true)
  | _ => none

/-- The results of a word that checks a scalar destination and writes at a fixed latency, without flags (R22). -/
def checkedResult (i : Instr) (g : Go) : Option (Dst × (Nat → List Word)) :=
  match arithmetic i g, shifts i g, bitwise i g, wide i g, between i g with
  | some (d, f), _, _, _, _ => some ({ spec := d }, f)
  | _, some (d, f), _, _, _ => some ({ spec := d }, f)
  | _, _, some (d, f), _, _ => some ({ spec := d }, f)
  | _, _, _, some x, _ => some x
  | _, _, _, _, some x => some x
  | _, _, _, _, _ => none

end Sys2Proof.Claims

open Sys2Proof Sys2Proof.Machine Sys2Proof.Claims

/-- R22: a result that differs between active lanes cannot go to a scalar register: the word traps SCALAR_NONUNIFORM
instead, whatever its destination, and nothing is written. -/
def Obligations.ScalarsAreUniform : Prop :=
  ∀ i s g d f, checkedResult i g = some (d, f) → Clear i s g → isScalar d.spec = true →
    (∃ l j, l < 32 ∧ j < 32 ∧ laneOn g.active l = true ∧ laneOn g.active j = true ∧ f l ≠ f j) → Traps i s g { cause := 0x06 }

/-- R71: a class 4 word that raises an enabled flag writes nothing at issue; its flags reach FCTL when it writes back, and so
does its trap, with the first enabled flag in the order of the rule and the lanes that raised it. -/
def Obligations.EnabledFlagsTrap : Prop :=
  ∀ i s g d op a b c x, class4 i g = some (d, op, a, b, c) → Clear i s g →
    let f (l : Nat) : LaneResult := lane4 (words4 g) (table103 g (format4 g) op (code4 g a l) (code4 g b l) (code4 g c l))
    let raised := raisedFlags g.active f
    nonUniform g.active { spec := d, words := words4 g } (fun l => (f l).words) = false →
    enabledCause g.b.fctl.enable raised = some x →
      ∃ (t : State) (b' : Barge) (fl : Flight), exec i s = .next t ∧ t.barge g.core g.slot = some b' ∧ b'.v = g.b.v ∧ b'.s = g.b.s
        ∧ KeepsControl g.b b' ∧ PassedWord g b' ∧ b'.raised = g.b.raised ++ [(s.now + latency4 g, raised)]
        ∧ KeepsMachine g { s with flights := t.flights, agenda := t.agenda } t
        ∧ t.agenda = agendaInsert (s.now + latency4 g) { what := .registerFill, args := [s.nextId] } s.agenda
        ∧ t.flights = s.flights.put s.nextId fl ∧ fl.cause = some x ∧ fl.words = 0
        ∧ (∀ l, l < 32 → laneOn fl.failLanes l = (laneOn g.active l && (f l).flags.raisedFor x))

/-- R25: at write-back a result without a trap is in its destination in the lanes that executed the word, which is full
there; the word is no longer in flight, and a barge that it held may issue again. What its end lets go on follows. A scalar that a
LAUNCH, a JOB, a FLIP or a word of class 23 waits for comes so too. -/
def Obligations.ResultsFill : Prop :=
  (∀ (s : State) (id : Nat) (f : Flight) (b : Barge), s.args = [id] → s.flights.look id = some f → s.barge f.core f.slot = some b →
    f.kind = .unit → f.accs = [] → f.cause = none → f.acquire = false → f.words ≠ 0 → isScalar f.dst = false →
    f.dst.toNat + f.words ≤ 96 → (∀ l, l < 32 → (f.result.getD l []).length = f.words) →
    ∃ (u : State) (b' : Barge), Completes .registerFill s ((u.settle id).wake f.core) ∧ u.flights = s.flights.cut id ∧
      u.barge f.core f.slot = some b' ∧
      (∀ l, l < 32 → laneOn f.entry.lanes l = true → ∀ k, k < f.words →
        b'.vreg (f.dst.toNat + k) l = (f.result.getD l []).getD k 0 ∧ laneOn (b'.emptyLanes (f.dst.toNat + k)) l = false) ∧
      KeepsRegisters b b' f.entry.lanes { spec := f.dst, words := f.words } ∧ KeepsControl b b' ∧ b'.pcs = b.pcs ∧
      (∀ k m, 512 * k + m ≠ 512 * f.core + f.slot → u.barge k m = s.barge k m) ∧ (∀ a, u.byteAt a = s.byteAt a)) ∧
  (∀ (s : State) (id : Nat) (f : Flight) (b : Barge) (x : Dword), s.args = [id] → s.flights.look id = some f →
    s.barge f.core f.slot = some b → f.kind = .unit → f.accs = [] → f.cause = none → f.acquire = false → f.words = 2 →
    isScalar f.dst = true → f.entry.lanes ≠ 0 → f.result = List.replicate 32 (pairWords x) →
    ∃ (u : State) (b' : Barge), Completes .registerFill s ((u.settle id).wake f.core) ∧ u.flights = s.flights.cut id ∧
      u.barge f.core f.slot = some b' ∧ b'.sreg (f.dst.toNat - 96) = x ∧ b'.sEmpty.getLsbD (f.dst.toNat - 96) = false ∧
      (f.blocks = true → b'.blocked = false) ∧
      KeepsRegisters b b' f.entry.lanes { spec := f.dst, words := 2 } ∧ KeepsControl b b' ∧ b'.pcs = b.pcs ∧
      (∀ k m, 512 * k + m ≠ 512 * f.core + f.slot → u.barge k m = s.barge k m) ∧ (∀ a, u.byteAt a = s.byteAt a))

/-- R286, R292, R293, R297 and R298: the words of graphics programs. VEXPORT traps outside a vertex program and on numbers
out of range, released before or given twice; else the primitives follow a release at device scope. PEXPORT gives its
covered lanes their export; ATTR reads its vertices' values; ZQUERY answers 40 cycles later. -/
def Obligations.GraphicsWords : Prop :=
  (∀ (a b : BitVec 7) (p q : BitVec 1) (s : State) (g : Go), Clear (.vexport a b p q) s g → g.active ≠ 0 →
    let i : Instr := .vexport a b p q
    let number (l : Nat) : Nat := ((g.val 1).w32 l).toNat % 2 ^ 20
    (g.b.gfx = false ∨ g.b.pixelProgram = true ∨ s.drawOf g.b = none → Traps i s g { cause := 0x0E }) ∧
    (∀ d x, g.b.gfx = true → g.b.pixelProgram = false → s.drawOf g.b = some (d, x) →
      let bad := maskOf fun l => laneOn g.active l && (decide (x.last < number l)
        || s.exported (towerOf g.core) d x (x.first + number l)
        || (lanesIn g.active).any fun j => decide (j < l ∧ number j = number l))
      (bad ≠ 0 → Traps i s g { cause := 0x0F, lanes := bad }) ∧
      (bad = 0 →
        let accs := perLane g fun l => { lane := l, va := x.first + number l, size := 48, data := bytesOf (g.val 0) l 48 }
        let fl : Flight := { g.flight s .vexport accs with translating := false, sent := true, captured := false, tag := d }
        let rel : Rel := { core := g.core, slot := g.slot, ctx := g.b.ctx, scope := 5
                           after := .post [(0, { what := .setupTake, args := [towerOf g.core, s.nextId + 1] })] }
        Completes i s ((g.finish g.b { withRel s rel with
          nextId := s.nextId + 2, flights := s.flights.put (s.nextId + 1) fl }).relRun s.nextId relFuel)))) ∧
  (∀ (t a : BitVec 7) (p : BitVec 1) (s : State) (g : Go), Clear (.pexport t a p) s g → g.active ≠ 0 →
    let i : Instr := .pexport t a p
    (g.b.pixelProgram = false → Traps i s g { cause := 0x0E }) ∧
    (∀ d x, g.b.pixelProgram = true → s.drawOf g.b = some (d, x) →
      let dropped := if t = 4 then x.early else decide ((drawTarget x.desc t.toNat).1 = 0)
      let value (l : Nat) : List Word :=
        if t = 4 then
          let z := Fmt.f32.value ((g.val 0).w32 l).toNat
          [if z.isNan then 0 else BitVec.ofNat 32 (Machine.round .f32 .rn {} (z.clamp (.zero false) (.mag false 1 0 false))).code]
        else [(g.val 0).word l 0, (g.val 0).word l 1, (g.val 0).word l 2, (g.val 0).word l 3]
      ∃ (u : State) (b' : Barge), exec i s = .next u ∧ KeepsMachine g s u ∧ u.barge g.core g.slot = some b' ∧ b'.v = g.b.v ∧ b'.s = g.b.s
        ∧ KeepsControl g.b b' ∧ PassedWord g b' ∧ b'.pixels.length = g.b.pixels.length
        ∧ ∀ l, l < g.b.pixels.length →
          let z := g.b.pixels.getD l {}
          b'.pixels.getD l {} = if dropped = false ∧ laneOn g.active l = true ∧ z.covered = true then
            { z with exports := z.exports.put t.toNat (value l) } else z)) ∧
  (∀ (d k : BitVec 7) (s : State) (g : Go), Clear (.attr d k) s g → g.active ≠ 0 →
    let i : Instr := .attr d k
    (g.b.pixelProgram = false ∨ s.drawOf g.b = none → Traps i s g { cause := 0x0E }) ∧
    (∀ e x, g.b.pixelProgram = true → s.drawOf g.b = some (e, x) →
      let nattr := drawField x.desc 0 19 5
      let vertices := if g.pre.aux = 1 then 1 else 3
      let accs := ((lanesIn g.active).map fun l => (List.range vertices).map fun j =>
        ({ lane := l, size := 4, va := (wide56 (drawField x.desc 2 0 56)
            + ((3 * (g.b.pixels.getD l {}).prim + j) * nattr + k.toNat) * 4) % 2 ^ 64 } : LaneAcc)).flatten
      (nattr ≤ k.toNat → Traps i s g { cause := 0x0F }) ∧
      (k.toNat < nattr → GoesOut i s g
        { dst := some { spec := d }, flight := { g.flight s .attr accs with dst := d, words := 1 } }))) ∧
  (∀ (d : BitVec 7) (s : State) (g : Go), Clear (.zquery d) s g → g.active ≠ 0 →
    (g.b.pixelProgram = false → Traps (.zquery d) s g { cause := 0x0E }) ∧
    (g.b.pixelProgram = true → GoesOutUntil (.zquery d) s g
      { dst := some { spec := d }
        flight := { g.flight s .zquery [] with translating := false, sent := true, dst := d, words := 1 } } 40 .registerFill))

/-- R377, R379 and R380, with R25. LAUNCH reads its packet and checks it and its queue; of a legal one the word completes: the
barge waits for the number of its slot while a release at device scope goes before the post, and at the queue its scalar is 1
with the slot it takes, or 2 where the slot at the tail is full. PERFCL completes: the class it names is its workgroup's 8 cycles
later. FLIP checks its surfaces; of legal ones the word completes: the barge waits, and 18 cycles later at the hub the flip is
queued with the status 1, or refused with 2 where its head holds two. -/
def Obligations.TaskWords : Prop :=
  (∀ (d a b : BitVec 7) (p q : BitVec 1) (s : State) (g : Go), Clear (.launch d a b p q) s g → g.active ≠ 0 →
    let i : Instr := .launch d a b p q
    let a := (g.val 0).dword.toNat % 2 ^ 32
    let n := (g.val 1).dword.toNat % 64
    let place := s.localRange g.core g.b ((lowestLane g.active).getD 0)
    (place = none → Traps i s g { cause := 0x0B }) ∧
    (∀ base size, place = some (base, size) →
      let bytes := s.localBytes g.core g.slot (base + a) 64
      let reach := (bytes.getD 15 0).extractLsb' 0 3
      let refused := a % 64 ≠ 0 ∨ size < a + 64 ∨ (s.queue n).en = false ∨ (s.queue n).ctx.toNat ≠ g.b.ctx
        ∨ (g.b.tag ≠ 0 ∧ reach ≠ 0 ∧ reach ≠ g.b.tag)
      (refused → Traps i s g { cause := 0x74 }) ∧
      (¬ refused →
        let rel : Rel := { core := g.core, slot := g.slot, ctx := g.b.ctx, scope := 5, uo := true
                           after := .post [(20, { what := .queueSlotWrite
                                                  args := (launchQueue + n) :: s.nextId :: (posted bytes g.b.tag).map (·.toNat) })] }
        Completes i s (((withRel (awaited g s d) rel).relRun (s.nextId + 1) relFuel).pump g.core)))) ∧
  (∀ (u : State) (n id : Nat) (packet : List Nat), u.args = (launchQueue + n) :: id :: packet →
    let x := u.queue n
    let slot := x.tail.toNat
    (x.full slot = true ∨ u.slotClaimed n slot = true → Completes .queueSlotWrite u (u.fillScalar id 2 20)) ∧
    (x.full slot = false → u.slotClaimed n slot = false → Completes .queueSlotWrite u
      (((u.setQueue n { x with tail := x.tail + 1 }).fillScalar id (BitVec.ofNat 64 (1 + 2 ^ 16 * slot)) 20).post 36 .queueSlotWrite
        (n :: slot :: 0 :: packet.take 64)))) ∧
  (∀ (n : BitVec 3) (s : State) (g : Go), Clear (.perfcl n) s g → g.active ≠ 0 →
    Completes (.perfcl n) s ((g.finish g.b s).post 8 .freqStep
      [clusterOf g.core, g.b.laneWg.getD ((lowestLane g.active).getD 0) g.b.wg, n.toNat])) ∧
  (∀ (u : State) (cluster wg n : Nat) (w : Workgroup), u.args = [cluster, wg, n] → u.wgs.look wg = some w →
    Completes .freqStep u ({ u with wgs := u.wgs.put wg { w with perf := BitVec.ofNat 3 n } }.kickFreq cluster)) ∧
  (∀ (d a b : BitVec 7) (p q : BitVec 1) (s : State) (g : Go), Clear (.flip d a b p q) s g → g.active ≠ 0 →
    let i : Instr := .flip d a b p q
    let x := (g.val 0).dword.toNat
    let y := (g.val 1).dword.toNat
    (x % 256 ≠ 0 ∨ y % 256 ≠ 0 → Traps i s g { cause := 0x76 }) ∧
    (x % 256 = 0 → y % 256 = 0 → Completes i s ((awaited g s d).post 18 (.flip 0 0 0 0 0)
      [s.nextId, g.b.ctx, x, y, g.b.tag.toNat, g.pre.aux]))) ∧
  (∀ (u : State) (id ctx x y tag h : Nat), u.args = [id, ctx, x, y, tag, h] → u.issue = none →
    let l := ((u.ctx ctx).labels.look (tag % 8)).getD {}
    let flip : Flip :=
      { ctx, surface := x, fallback := y, tag := BitVec.ofNat 3 tag, queuedAt := hubCycle u.now
        squashed := decide (l.state = .dead ∨ l.state = .free), committedAt := if l.state = .committed then some 0 else none }
    (2 ≤ (u.head h).flips.length → Completes (.flip 0 0 0 0 0) u (u.fillScalar id 2 18)) ∧
    ((u.head h).flips.length < 2 → Completes (.flip 0 0 0 0 0) u
      ((u.setHead h { u.head h with flips := (u.head h).flips ++ [flip] }).fillScalar id 1 18)))

/-- R143 to R145, R147, R148 and R151. FORK, COMMIT and SQUASH trap REACH_CONTROL under a tag; without one the word completes: the barge
waits for its status while the hub is asked, FORK's release at system scope going before. At the hub a FORK is granted the free
labels of its mask that have a pool; a COMMIT of a label that is not live has status 1, and one while another commit settles
status 2; a SQUASH of no live label has status 0. Any other holds the labels that it ends, every live one for a COMMIT; at the end
of its drain the label of a COMMIT is committed, the others it holds are squashed, and the status follows. REACH traps where its kernel may not or the label is not live, and else
completes: the barge has the tag. RQUERY completes: the barge waits for the item, which the hub reads 36 cycles later. -/
def Obligations.ReachWords : Prop :=
  (∀ (d a b : BitVec 7) (p q : BitVec 1) (s : State) (g : Go), Clear (.fork d a b p q) s g → g.active ≠ 0 →
    let i : Instr := .fork d a b p q
    (g.b.tag ≠ 0 → Traps i s g { cause := 0x94 }) ∧
    (g.b.tag = 0 →
      let rel : Rel :=
        { core := g.core, slot := g.slot, ctx := g.b.ctx, scope := 6
          after := .post [(36, { what := .forkGrant
                                 args := [g.b.ctx, g.core, g.slot, s.nextId, (g.val 0).dword.toNat % 256 / 2 * 2,
                                          (g.opB 1 b q).dword.toNat % 2 ^ 24] })] }
      Completes i s (((withRel (awaited g s d) rel).relRun (s.nextId + 1) relFuel).pump g.core))) ∧
  (∀ (k : BitVec 3) (s : State) (g : Go), Clear (.reach k) s g → g.active ≠ 0 →
    let live := k = 0 ∨ (((s.ctx g.b.ctx).labels.look k.toNat).getD {}).state = .live
    (k ≠ 0 → g.b.reachOk = false → Traps (.reach k) s g { cause := 0x94 }) ∧
    (k = 0 ∨ g.b.reachOk = true → ¬ live → Traps (.reach k) s g { cause := 0x92 }) ∧
    (k = 0 ∨ g.b.reachOk = true → live → Completes (.reach k) s (g.finish { g.b with tag := k } s))) ∧
  (∀ i s g d row n, versionAt i g = some (d, row, n) → Clear i s g → g.active ≠ 0 →
    (g.b.tag ≠ 0 → Traps i s g { cause := 0x94 }) ∧
    (g.b.tag = 0 → Completes i s ((awaited g s d).post 36 row [g.b.ctx, g.core, g.slot, s.nextId, n]))) ∧
  (∀ (u : State) (ctx core slot fid mask quota : Nat) (r : List Nat), u.args = ctx :: core :: slot :: fid :: mask :: quota :: r →
    Completes .forkGrant u (u.versionArrives ctx (8 + 512 * core + slot) (.fork (BitVec.ofNat 8 mask) (BitVec.ofNat 24 quota)) (some fid))) ∧
  (∀ (u : State) (ctx core slot fid n : Nat), u.args = [ctx, core, slot, fid, n] →
    Completes .commitPoint u (u.versionArrives ctx (8 + 512 * core + slot) (.commit (BitVec.ofNat 3 n)) (some fid)) ∧
    Completes .squashPoint u (u.versionArrives ctx (8 + 512 * core + slot) (.squash (BitVec.ofNat 8 n)) (some fid))) ∧
  (∀ (u : State) (ctx : Nat) (e : VerEvent) (r : List VerEvent), u.args = [ctx] → (u.ctx ctx).events = e :: r → e.due ≤ u.now →
    e.phase = 0 → u.now < ofHubCycle (hubCycle e.arrived + 1) →
    let state (l : BitVec 3) : LabelState := (((u.ctx ctx).labels.look l.toNat).getD {}).state
    let after (cost : Nat) : Nat := cost - (u.now - e.arrived)
    (∀ m q, e.what = .fork m q →
      (∀ l : BitVec 3, l ≠ 0 → ((u.grant ctx m q).1.getLsbD l.toNat = true ↔ m.getLsbD l.toNat = true ∧ state l = .free
        ∧ (((u.ctx ctx).labels.look l.toNat).getD {}).poolSlots ≠ 0)) ∧
      let t := (u.grant ctx m q).2
      Completes .forkGrant u ((t.versionStatus e (BitVec.ofNat 64 ((t.ctx ctx).forkSeq.toNat * 2 ^ 48 + (u.grant ctx m q).1.toNat))
        (after 60)).popEvent ctx)) ∧
    (∀ k, e.what = .commit k → k = 0 ∨ state k ≠ .live → Completes .commitPoint u ((u.versionStatus e 1 (after 84)).popEvent ctx)) ∧
    (∀ k, e.what = .commit k → k ≠ 0 → state k = .live → (u.ctx ctx).clabel ≠ 0 →
      Completes .commitPoint u ((u.versionStatus e 2 (after 84)).popEvent ctx)) ∧
    (∀ m, e.what = .squash m → (∀ l : BitVec 3, l ≠ 0 → m.getLsbD l.toNat = true → state l ≠ .live) →
      Completes .squashPoint u ((u.versionStatus e 0 (after 84)).popEvent ctx)) ∧
    let held (m : BitVec 8) : State :=
      (u.setCtx ctx { u.ctx ctx with events := { e with phase := 1, mask := m, lost := 0, due := e.arrived + 48 } :: r }).postAt
        (e.arrived + 48) e.what.row [ctx]
    (∀ k m, e.what = .commit k → k ≠ 0 → state k = .live → (u.ctx ctx).clabel = 0 →
      (∀ l : BitVec 3, m.getLsbD l.toNat = true ↔ l ≠ 0 ∧ state l = .live) → Completes .commitPoint u (held m)) ∧
    (∀ x m, e.what = .squash x →
      (∀ l : BitVec 3, m.getLsbD l.toNat = true ↔ l ≠ 0 ∧ x.getLsbD l.toNat = true ∧ state l = .live) → m ≠ 0 →
      Completes .squashPoint u (held m))) ∧
  (∀ (u : State) (ctx : Nat) (e : VerEvent) (r : List VerEvent), u.args = [ctx] → (u.ctx ctx).events = e :: r → e.due ≤ u.now →
    e.phase = 3 →
    let t := u.post 60 e.what.row [ctx, e.mask.toNat]
    let dead (m : BitVec 8) (t : State) : State := (labelsIn m).foldl (fun t l => t.squashLabel ctx e.lost l) t
    let ends (m : BitVec 8) (t : State) : State := (t.versionStatus e (BitVec.ofNat 64 (m.toNat * 2 ^ 8)) 96).popEvent ctx
    (∀ k, e.what = .commit k → e.lost.getLsbD k.toNat = false →
      let others := e.mask &&& ~~~(1#8 <<< k.toNat)
      Completes .commitPoint u (ends others (dead others (t.commitLabel ctx k)))) ∧
    (∀ m, e.what = .squash m → Completes .squashPoint u (ends e.mask (dead e.mask t)))) ∧
  (∀ (d a : BitVec 7) (p : BitVec 1) (s : State) (g : Go), Clear (.rquery d a p) s g → g.active ≠ 0 →
    let x := (g.val 0).dword.toNat
    Completes (.rquery d a p) s ((awaited g s d).post 36 (.rquery 0 0 0) [s.nextId, g.b.ctx, x % 8, x / 8 % 8])) ∧
  (∀ (u : State) (id ctx l item : Nat), u.args = [id, ctx, l, item] → u.issue = none →
    Completes (.rquery 0 0 0) u (u.fillScalar id (u.reachQuery ctx (BitVec.ofNat 3 l) item) 48))

/-- R392: TRAP n raises TRAP_SW with code n, its group's threads past it; BRK n raises BREAKPOINT with code n, its group's
threads at its chain's first word. -/
def Obligations.ProgramTraps : Prop :=
  decode 0xC0000007 = .ok (.trap 7) ∧ decode 0xC0800000 = .ok (.brk 0) ∧
  ∀ (n : BitVec 8) (brk : Bool) (s : State) (g : Go),
    let i : Instr := if brk then .brk n else .trap n
    Clear i s g → g.active ≠ 0 → g.b.trap = none →
      ∃ (t : State) (b' : Barge) (r : TrapRec), exec i s = .next t ∧ t.barge g.core g.slot = some b' ∧
        TrapsAs g { cause := if brk then 0x11 else 0x10, code := n } b' ∧ b'.trap = some r ∧ r.first = g.first ∧
        (∀ l, l < 32 → b'.pcs.getD l 0 =
          if laneOn g.group l then (if brk then g.first else if g.replay then g.b.pcs.getD l 0 else g.addr + 4)
          else g.b.pcs.getD l 0) ∧
        (∀ a, t.byteAt a = s.byteAt a)

/-- R386, R387 and R389. A trap takes the lowest free frame slot of its context as it is taken, where no other barge's of its cycle
goes first. Where its barge's words have finished, its frame is written there and the barge enters handler mode: every thread that
has not exited runs at CTX_TRAP.ENTRY, FCTL loses its enables, TRAPCAUSE and TRAPFRAME are set, every register is full and keeps
its bits. -/
def Obligations.HandlerEntry : Prop :=
  (∀ (s : State) (core slot k : Nat) (b : Barge) (r : TrapRec), s.args = [core, slot] → s.barge core slot = some b → b.trap = some r →
    r.frame = none →
    (s.agenda.any fun e => decide (e.1 ≤ s.now) && e.2.what == .handlerEntry
      && decide (bargeKey (e.2.args.getD 0 0) (e.2.args.getD 1 0) < bargeKey core slot)) = false →
    (s.ctx b.ctx).freeFrame = some k →
    ∃ (t : State) (b' : Barge), exec .handlerEntry s = .next t ∧ t.barge core slot = some b' ∧
      b'.trap = some { r with frame := some k } ∧ (t.ctx b.ctx).framesUsed = (s.ctx b.ctx).framesUsed ++ [k] ∧
      t.agenda = agendaInsert s.now { what := .handlerEntry, args := [core, slot] } s.agenda) ∧
  ∀ (s u : State) (core slot k : Nat) (b : Barge) (r : TrapRec), s.args = [core, slot] → s.barge core slot = some b → b.trap = some r →
    r.frame = some k → s.trapSettled core slot r = true →
    s.agentWrite { core, ctx := b.ctx } ((s.ctx b.ctx).frameVa k) (s.frameOf core slot b r) = (u, none) →
    ∃ (t : State) (b' : Barge), exec .handlerEntry s = .next t ∧ t.barge core slot = some b' ∧
      (∀ l, l < 32 → b'.pcs.getD l 0 =
        if laneOn b.exited l then b.pcs.getD l 0 else (BitVec.ofNat 56 ((s.ctx b.ctx).trapEntry.toNat / 4 * 4)).signExtend 64) ∧
      b'.running = ~~~b.exited ∧ b'.exited = b.exited ∧ (∀ l, l < 32 → laneOn b'.yieldMarks l = true → laneOn b.exited l = true) ∧
      b'.joins = [] ∧ b'.handler = true ∧ b'.fctl = { b.fctlAt s.now with enable := {} } ∧
      b'.trapCode = r.code ∧ b'.trapCause = r.cause ∧ b'.trapFrame = BitVec.ofNat 56 ((s.ctx b.ctx).frameVa k) ∧
      b'.trap = none ∧ b'.v = b.v ∧ b'.s = b.s ∧ b'.preds = b.preds ∧ b'.tag = b.tag ∧ b'.flags = b.flags ∧
      (∀ n, b'.emptyLanes n = 0) ∧ b'.sEmpty = 0 ∧ b'.blocked = false ∧ s.now + 40 ≤ b'.readyAt ∧
      b'.frameSlot = some k ∧ (∀ a, t.byteAt a = u.byteAt a)

/-- R394 and R395: a register word traps CSR_ABSENT on a number without a register and PRIV_CSR where its access breaks the
rule; a barge register is read at a fixed latency of 4, and a write reaches FCTL alone; an access of a hub register goes
out, in order with the barge's other strongly ordered accesses. -/
def Obligations.RegisterWords : Prop :=
  ∀ i s g n d reads writes, registerWord i g = some (n, d, reads, writes) → Clear i s g → g.active ≠ 0 →
    let words := if isScalar d then 2 else 1
    (n = 0 ∨ (14 < n ∧ n < 256) ∨ (256 ≤ n ∧ hubReg n = none) → Traps i s g { cause := 0xB1 }) ∧
    (∀ r, 256 ≤ n → hubReg n = some r → (s.ctx g.b.ctx).sys = false → (writes = true ∨ r.anyReads = false) →
      Traps i s g { cause := 0xB0 }) ∧
    let fctl := if writes = true ∧ n = 1 then (g.b.fctlAt s.now).write (g.val 0).dword else g.b.fctl
    (0 < n → n ≤ 14 → reads = true →
      let f (l : Nat) : List Word := (pairWords (register185 s g n l)).take words
      (nonUniform g.active { spec := d, words } f = true → Traps i s g { cause := 0x06 }) ∧
      (nonUniform g.active { spec := d, words } f = false → Writes i s { g with b := { g.b with fctl } } { spec := d, words } f)) ∧
    (0 < n → n ≤ 14 → reads = false → ∃ (t : State) (b' : Barge), exec i s = .next t ∧ KeepsMachine g s t ∧
      t.barge g.core g.slot = some b' ∧ b'.v = g.b.v ∧ b'.s = g.b.s ∧ PassedWord g b' ∧
      b'.fctl = fctl) ∧
    (∀ r, 256 ≤ n → hubReg n = some r → ((s.ctx g.b.ctx).sys = true ∨ (writes = false ∧ r.anyReads = true)) →
      let fl : Flight := { g.flight s .csr [] with
        translating := false, so := true, write := writes, captured := reads, dst := d, words := if reads then words else 0
        hint := if reads && writes then 2 else if writes then 1 else 0, tag := n }
      GoesOut i s g { dst := if reads then some { spec := d, words } else none, flight := fl })

/-- R396, and R393's first line with what a legal frame restores: WFI traps PRIV_CSR outside a system context and waits in
one. RETT traps RETT_NOFRAME outside handler mode, and is an unrecoverable fault where its frame cannot be read or is not legal;
else it completes: it restores from its frame's header the thread states, PCs, predicates, FCTL, join stack and tag, the tag as
the commit or squash of its label leaves it (R146, R149), leaves the registers, and re-injects the entries without SKIP. -/
def Obligations.WaitsAndReturns : Prop :=
  (∀ (s : State) (g : Go), Clear .wfi s g → g.active ≠ 0 →
    ((s.ctx g.b.ctx).sys = false → Traps .wfi s g { cause := 0xB0 }) ∧
    ((s.ctx g.b.ctx).sys = true → Completes .wfi s ((g.finish g.b s).onBarge g.core g.slot fun b =>
      { b with wfi := true, blocked := true, wait := .other, waitSince := s.now }))) ∧
  (∀ (s : State) (g : Go), Clear .rett s g → g.active ≠ 0 →
    let va := wide56 g.b.trapFrame.toNat
    let a : Agent := { core := g.core, ctx := g.b.ctx }
    let fails (cause at_ : Nat) : State :=
      (g.finish { g.b with blocked := true } s).post 0 .unrecoverableFault [g.core, g.slot, cause, at_]
    (g.b.handler = false → Traps .rett s g { cause := 0xB2 }) ∧
    (∀ e, g.b.handler = true → s.agentRead a va 4096 = .error e → exec .rett s = done (fails 0xB3 e.2)) ∧
    (∀ (h body : List Byte), g.b.handler = true → s.agentRead a va 4096 = .ok h →
      let e := h.getD 2 0
      let n := min 24 e.toNat
      let tag := BitVec.ofNat 3 (leNat ((h.drop 0x28).take 8))
      let ended : Option Bool := if tag = g.b.frameTag then g.b.frameEnd
        else match (((s.ctx g.b.ctx).labels.look tag.toNat).getD {}).state with
          | .committed => some true
          | .dead => some false
          | _ => none
      s.agentRead a (va + 4096) (4096 * n) = .ok body →
      let blocks := (List.range n).map fun k => (body.drop (4096 * k)).take 4096
      (frameBad h blocks = true → exec .rett s = done (fails 0xB4 0)) ∧
      (frameBad h blocks = false → ∃ (u : State) (c b' : Barge), Completes .rett s (u.recount g.core g.slot g.b) ∧
        u.barge g.core g.slot = some b' ∧
        (∀ l, l < 32 → laneOn c.running l = decide (leNat ((h.drop 0x38).take 8) / 4 ^ l % 4 = 0)
          ∧ laneOn c.exited l = decide (leNat ((h.drop 0x38).take 8) / 4 ^ l % 4 = 2)
          ∧ c.pcs.getD l 0 = BitVec.ofNat 64 (leNat ((h.drop (0x40 + 8 * l)).take 8) / 4 * 4)) ∧
        c.joins.length = min 16 (leNat ((h.drop 0x280).take 8) % 32) ∧
        b'.running = c.settleJoins.running ∧ b'.pcs = c.settleJoins.pcs ∧ b'.joins = c.settleJoins.joins ∧
        b'.exited = c.exited ∧ b'.handler = false ∧
        b'.tag = (if ended = some true then 0 else tag) ∧ (tag ≠ 0 → ended = some false → b'.dead = true) ∧
        b'.yieldMarks = BitVec.ofNat 32 (leNat ((h.drop 0x30).take 8)) ∧
        (∀ p l, l < 32 → laneOn (b'.pred p) l = (h.getD (0x140 + l) 0).getLsbD p.toNat) ∧
        b'.v = g.b.v ∧ b'.s = g.b.s ∧ (∀ x, u.byteAt x = (s.fetches a va (4096 * (n + 1))).byteAt x) ∧
        b'.reinject = (blocks.map Entry.ofBlock).filter fun e => !e.skip)))
end

