-- ==== Sys2Proof/Laws/State.lean ====
section
/-!
SUPPORT. What each update of the state leaves in each field, so that no proof unfolds a record update.
-/
namespace Sys2Proof.Machine
open Sys2Proof

/-! ## State.setColumn -/

@[simp] theorem State.setColumn_now (s : State) (n : Nat) (c : Column) : (s.setColumn n c).now = s.now := rfl
@[simp] theorem State.setColumn_powered (s : State) (n : Nat) (c : Column) : (s.setColumn n c).powered = s.powered := rfl
@[simp] theorem State.setColumn_agenda (s : State) (n : Nat) (c : Column) : (s.setColumn n c).agenda = s.agenda := rfl
@[simp] theorem State.setColumn_args (s : State) (n : Nat) (c : Column) : (s.setColumn n c).args = s.args := rfl
@[simp] theorem State.setColumn_nextId (s : State) (n : Nat) (c : Column) : (s.setColumn n c).nextId = s.nextId := rfl
@[simp] theorem State.setColumn_freeIdx (s : State) (n : Nat) (c : Column) : (s.setColumn n c).freeIdx = s.freeIdx := rfl
@[simp] theorem State.setColumn_issue (s : State) (n : Nat) (c : Column) : (s.setColumn n c).issue = s.issue := rfl
@[simp] theorem State.setColumn_mem (s : State) (n : Nat) (c : Column) : (s.setColumn n c).mem = s.mem := rfl
@[simp] theorem State.setColumn_pending (s : State) (n : Nat) (c : Column) : (s.setColumn n c).pending = s.pending := rfl
@[simp] theorem State.setColumn_lines (s : State) (n : Nat) (c : Column) : (s.setColumn n c).lines = s.lines := rfl
@[simp] theorem State.setColumn_versions (s : State) (n : Nat) (c : Column) : (s.setColumn n c).versions = s.versions := rfl
@[simp] theorem State.setColumn_snoop (s : State) (n : Nat) (c : Column) : (s.setColumn n c).snoop = s.snoop := rfl
@[simp] theorem State.setColumn_columns (s : State) (n : Nat) (c : Column) : (s.setColumn n c).columns = s.columns.put n c := rfl
@[simp] theorem State.setColumn_towers (s : State) (n : Nat) (c : Column) : (s.setColumn n c).towers = s.towers := rfl
@[simp] theorem State.setColumn_clusters (s : State) (n : Nat) (c : Column) : (s.setColumn n c).clusters = s.clusters := rfl
@[simp] theorem State.setColumn_cores (s : State) (n : Nat) (c : Column) : (s.setColumn n c).cores = s.cores := rfl
@[simp] theorem State.setColumn_barges (s : State) (n : Nat) (c : Column) : (s.setColumn n c).barges = s.barges := rfl
@[simp] theorem State.setColumn_wgs (s : State) (n : Nat) (c : Column) : (s.setColumn n c).wgs = s.wgs := rfl
@[simp] theorem State.setColumn_gangs (s : State) (n : Nat) (c : Column) : (s.setColumn n c).gangs = s.gangs := rfl
@[simp] theorem State.setColumn_ctxs (s : State) (n : Nat) (c : Column) : (s.setColumn n c).ctxs = s.ctxs := rfl
@[simp] theorem State.setColumn_nodes (s : State) (n : Nat) (c : Column) : (s.setColumn n c).nodes = s.nodes := rfl
@[simp] theorem State.setColumn_flights (s : State) (n : Nat) (c : Column) : (s.setColumn n c).flights = s.flights := rfl
@[simp] theorem State.setColumn_txns (s : State) (n : Nat) (c : Column) : (s.setColumn n c).txns = s.txns := rfl
@[simp] theorem State.setColumn_rels (s : State) (n : Nat) (c : Column) : (s.setColumn n c).rels = s.rels := rfl
@[simp] theorem State.setColumn_walks (s : State) (n : Nat) (c : Column) : (s.setColumn n c).walks = s.walks := rfl
@[simp] theorem State.setColumn_cards (s : State) (n : Nat) (c : Column) : (s.setColumn n c).cards = s.cards := rfl
@[simp] theorem State.setColumn_draws (s : State) (n : Nat) (c : Column) : (s.setColumn n c).draws = s.draws := rfl
@[simp] theorem State.setColumn_gfx (s : State) (n : Nat) (c : Column) : (s.setColumn n c).gfx = s.gfx := rfl
@[simp] theorem State.setColumn_saves (s : State) (n : Nat) (c : Column) : (s.setColumn n c).saves = s.saves := rfl
@[simp] theorem State.setColumn_saveTiles (s : State) (n : Nat) (c : Column) : (s.setColumn n c).saveTiles = s.saveTiles := rfl
@[simp] theorem State.setColumn_saveGfx (s : State) (n : Nat) (c : Column) : (s.setColumn n c).saveGfx = s.saveGfx := rfl
@[simp] theorem State.setColumn_hub (s : State) (n : Nat) (c : Column) : (s.setColumn n c).hub = s.hub := rfl

/-! ## State.setTower -/

@[simp] theorem State.setTower_now (s : State) (n : Nat) (c : Tower) : (s.setTower n c).now = s.now := rfl
@[simp] theorem State.setTower_powered (s : State) (n : Nat) (c : Tower) : (s.setTower n c).powered = s.powered := rfl
@[simp] theorem State.setTower_agenda (s : State) (n : Nat) (c : Tower) : (s.setTower n c).agenda = s.agenda := rfl
@[simp] theorem State.setTower_args (s : State) (n : Nat) (c : Tower) : (s.setTower n c).args = s.args := rfl
@[simp] theorem State.setTower_nextId (s : State) (n : Nat) (c : Tower) : (s.setTower n c).nextId = s.nextId := rfl
@[simp] theorem State.setTower_freeIdx (s : State) (n : Nat) (c : Tower) : (s.setTower n c).freeIdx = s.freeIdx := rfl
@[simp] theorem State.setTower_issue (s : State) (n : Nat) (c : Tower) : (s.setTower n c).issue = s.issue := rfl
@[simp] theorem State.setTower_mem (s : State) (n : Nat) (c : Tower) : (s.setTower n c).mem = s.mem := rfl
@[simp] theorem State.setTower_pending (s : State) (n : Nat) (c : Tower) : (s.setTower n c).pending = s.pending := rfl
@[simp] theorem State.setTower_lines (s : State) (n : Nat) (c : Tower) : (s.setTower n c).lines = s.lines := rfl
@[simp] theorem State.setTower_versions (s : State) (n : Nat) (c : Tower) : (s.setTower n c).versions = s.versions := rfl
@[simp] theorem State.setTower_snoop (s : State) (n : Nat) (c : Tower) : (s.setTower n c).snoop = s.snoop := rfl
@[simp] theorem State.setTower_columns (s : State) (n : Nat) (c : Tower) : (s.setTower n c).columns = s.columns := rfl
@[simp] theorem State.setTower_towers (s : State) (n : Nat) (c : Tower) : (s.setTower n c).towers = s.towers.put n c := rfl
@[simp] theorem State.setTower_clusters (s : State) (n : Nat) (c : Tower) : (s.setTower n c).clusters = s.clusters := rfl
@[simp] theorem State.setTower_cores (s : State) (n : Nat) (c : Tower) : (s.setTower n c).cores = s.cores := rfl
@[simp] theorem State.setTower_barges (s : State) (n : Nat) (c : Tower) : (s.setTower n c).barges = s.barges := rfl
@[simp] theorem State.setTower_wgs (s : State) (n : Nat) (c : Tower) : (s.setTower n c).wgs = s.wgs := rfl
@[simp] theorem State.setTower_gangs (s : State) (n : Nat) (c : Tower) : (s.setTower n c).gangs = s.gangs := rfl
@[simp] theorem State.setTower_ctxs (s : State) (n : Nat) (c : Tower) : (s.setTower n c).ctxs = s.ctxs := rfl
@[simp] theorem State.setTower_nodes (s : State) (n : Nat) (c : Tower) : (s.setTower n c).nodes = s.nodes := rfl
@[simp] theorem State.setTower_flights (s : State) (n : Nat) (c : Tower) : (s.setTower n c).flights = s.flights := rfl
@[simp] theorem State.setTower_txns (s : State) (n : Nat) (c : Tower) : (s.setTower n c).txns = s.txns := rfl
@[simp] theorem State.setTower_rels (s : State) (n : Nat) (c : Tower) : (s.setTower n c).rels = s.rels := rfl
@[simp] theorem State.setTower_walks (s : State) (n : Nat) (c : Tower) : (s.setTower n c).walks = s.walks := rfl
@[simp] theorem State.setTower_cards (s : State) (n : Nat) (c : Tower) : (s.setTower n c).cards = s.cards := rfl
@[simp] theorem State.setTower_draws (s : State) (n : Nat) (c : Tower) : (s.setTower n c).draws = s.draws := rfl
@[simp] theorem State.setTower_gfx (s : State) (n : Nat) (c : Tower) : (s.setTower n c).gfx = s.gfx := rfl
@[simp] theorem State.setTower_saves (s : State) (n : Nat) (c : Tower) : (s.setTower n c).saves = s.saves := rfl
@[simp] theorem State.setTower_saveTiles (s : State) (n : Nat) (c : Tower) : (s.setTower n c).saveTiles = s.saveTiles := rfl
@[simp] theorem State.setTower_saveGfx (s : State) (n : Nat) (c : Tower) : (s.setTower n c).saveGfx = s.saveGfx := rfl
@[simp] theorem State.setTower_hub (s : State) (n : Nat) (c : Tower) : (s.setTower n c).hub = s.hub := rfl

/-! ## State.setCluster -/

@[simp] theorem State.setCluster_now (s : State) (n : Nat) (c : Cluster) : (s.setCluster n c).now = s.now := rfl
@[simp] theorem State.setCluster_powered (s : State) (n : Nat) (c : Cluster) : (s.setCluster n c).powered = s.powered := rfl
@[simp] theorem State.setCluster_agenda (s : State) (n : Nat) (c : Cluster) : (s.setCluster n c).agenda = s.agenda := rfl
@[simp] theorem State.setCluster_args (s : State) (n : Nat) (c : Cluster) : (s.setCluster n c).args = s.args := rfl
@[simp] theorem State.setCluster_nextId (s : State) (n : Nat) (c : Cluster) : (s.setCluster n c).nextId = s.nextId := rfl
@[simp] theorem State.setCluster_freeIdx (s : State) (n : Nat) (c : Cluster) : (s.setCluster n c).freeIdx = s.freeIdx := rfl
@[simp] theorem State.setCluster_issue (s : State) (n : Nat) (c : Cluster) : (s.setCluster n c).issue = s.issue := rfl
@[simp] theorem State.setCluster_mem (s : State) (n : Nat) (c : Cluster) : (s.setCluster n c).mem = s.mem := rfl
@[simp] theorem State.setCluster_pending (s : State) (n : Nat) (c : Cluster) : (s.setCluster n c).pending = s.pending := rfl
@[simp] theorem State.setCluster_lines (s : State) (n : Nat) (c : Cluster) : (s.setCluster n c).lines = s.lines := rfl
@[simp] theorem State.setCluster_versions (s : State) (n : Nat) (c : Cluster) : (s.setCluster n c).versions = s.versions := rfl
@[simp] theorem State.setCluster_snoop (s : State) (n : Nat) (c : Cluster) : (s.setCluster n c).snoop = s.snoop := rfl
@[simp] theorem State.setCluster_columns (s : State) (n : Nat) (c : Cluster) : (s.setCluster n c).columns = s.columns := rfl
@[simp] theorem State.setCluster_towers (s : State) (n : Nat) (c : Cluster) : (s.setCluster n c).towers = s.towers := rfl
@[simp] theorem State.setCluster_clusters (s : State) (n : Nat) (c : Cluster) : (s.setCluster n c).clusters = s.clusters.put n c := rfl
@[simp] theorem State.setCluster_cores (s : State) (n : Nat) (c : Cluster) : (s.setCluster n c).cores = s.cores := rfl
@[simp] theorem State.setCluster_barges (s : State) (n : Nat) (c : Cluster) : (s.setCluster n c).barges = s.barges := rfl
@[simp] theorem State.setCluster_wgs (s : State) (n : Nat) (c : Cluster) : (s.setCluster n c).wgs = s.wgs := rfl
@[simp] theorem State.setCluster_gangs (s : State) (n : Nat) (c : Cluster) : (s.setCluster n c).gangs = s.gangs := rfl
@[simp] theorem State.setCluster_ctxs (s : State) (n : Nat) (c : Cluster) : (s.setCluster n c).ctxs = s.ctxs := rfl
@[simp] theorem State.setCluster_nodes (s : State) (n : Nat) (c : Cluster) : (s.setCluster n c).nodes = s.nodes := rfl
@[simp] theorem State.setCluster_flights (s : State) (n : Nat) (c : Cluster) : (s.setCluster n c).flights = s.flights := rfl
@[simp] theorem State.setCluster_txns (s : State) (n : Nat) (c : Cluster) : (s.setCluster n c).txns = s.txns := rfl
@[simp] theorem State.setCluster_rels (s : State) (n : Nat) (c : Cluster) : (s.setCluster n c).rels = s.rels := rfl
@[simp] theorem State.setCluster_walks (s : State) (n : Nat) (c : Cluster) : (s.setCluster n c).walks = s.walks := rfl
@[simp] theorem State.setCluster_cards (s : State) (n : Nat) (c : Cluster) : (s.setCluster n c).cards = s.cards := rfl
@[simp] theorem State.setCluster_draws (s : State) (n : Nat) (c : Cluster) : (s.setCluster n c).draws = s.draws := rfl
@[simp] theorem State.setCluster_gfx (s : State) (n : Nat) (c : Cluster) : (s.setCluster n c).gfx = s.gfx := rfl
@[simp] theorem State.setCluster_saves (s : State) (n : Nat) (c : Cluster) : (s.setCluster n c).saves = s.saves := rfl
@[simp] theorem State.setCluster_saveTiles (s : State) (n : Nat) (c : Cluster) : (s.setCluster n c).saveTiles = s.saveTiles := rfl
@[simp] theorem State.setCluster_saveGfx (s : State) (n : Nat) (c : Cluster) : (s.setCluster n c).saveGfx = s.saveGfx := rfl
@[simp] theorem State.setCluster_hub (s : State) (n : Nat) (c : Cluster) : (s.setCluster n c).hub = s.hub := rfl

/-! ## State.setCore -/

@[simp] theorem State.setCore_now (s : State) (n : Nat) (c : Core) : (s.setCore n c).now = s.now := rfl
@[simp] theorem State.setCore_powered (s : State) (n : Nat) (c : Core) : (s.setCore n c).powered = s.powered := rfl
@[simp] theorem State.setCore_agenda (s : State) (n : Nat) (c : Core) : (s.setCore n c).agenda = s.agenda := rfl
@[simp] theorem State.setCore_args (s : State) (n : Nat) (c : Core) : (s.setCore n c).args = s.args := rfl
@[simp] theorem State.setCore_nextId (s : State) (n : Nat) (c : Core) : (s.setCore n c).nextId = s.nextId := rfl
@[simp] theorem State.setCore_freeIdx (s : State) (n : Nat) (c : Core) : (s.setCore n c).freeIdx = s.freeIdx := rfl
@[simp] theorem State.setCore_issue (s : State) (n : Nat) (c : Core) : (s.setCore n c).issue = s.issue := rfl
@[simp] theorem State.setCore_mem (s : State) (n : Nat) (c : Core) : (s.setCore n c).mem = s.mem := rfl
@[simp] theorem State.setCore_pending (s : State) (n : Nat) (c : Core) : (s.setCore n c).pending = s.pending := rfl
@[simp] theorem State.setCore_lines (s : State) (n : Nat) (c : Core) : (s.setCore n c).lines = s.lines := rfl
@[simp] theorem State.setCore_versions (s : State) (n : Nat) (c : Core) : (s.setCore n c).versions = s.versions := rfl
@[simp] theorem State.setCore_snoop (s : State) (n : Nat) (c : Core) : (s.setCore n c).snoop = s.snoop := rfl
@[simp] theorem State.setCore_columns (s : State) (n : Nat) (c : Core) : (s.setCore n c).columns = s.columns := rfl
@[simp] theorem State.setCore_towers (s : State) (n : Nat) (c : Core) : (s.setCore n c).towers = s.towers := rfl
@[simp] theorem State.setCore_clusters (s : State) (n : Nat) (c : Core) : (s.setCore n c).clusters = s.clusters := rfl
@[simp] theorem State.setCore_cores (s : State) (n : Nat) (c : Core) : (s.setCore n c).cores = s.cores.put n c := rfl
@[simp] theorem State.setCore_barges (s : State) (n : Nat) (c : Core) : (s.setCore n c).barges = s.barges := rfl
@[simp] theorem State.setCore_wgs (s : State) (n : Nat) (c : Core) : (s.setCore n c).wgs = s.wgs := rfl
@[simp] theorem State.setCore_gangs (s : State) (n : Nat) (c : Core) : (s.setCore n c).gangs = s.gangs := rfl
@[simp] theorem State.setCore_ctxs (s : State) (n : Nat) (c : Core) : (s.setCore n c).ctxs = s.ctxs := rfl
@[simp] theorem State.setCore_nodes (s : State) (n : Nat) (c : Core) : (s.setCore n c).nodes = s.nodes := rfl
@[simp] theorem State.setCore_flights (s : State) (n : Nat) (c : Core) : (s.setCore n c).flights = s.flights := rfl
@[simp] theorem State.setCore_txns (s : State) (n : Nat) (c : Core) : (s.setCore n c).txns = s.txns := rfl
@[simp] theorem State.setCore_rels (s : State) (n : Nat) (c : Core) : (s.setCore n c).rels = s.rels := rfl
@[simp] theorem State.setCore_walks (s : State) (n : Nat) (c : Core) : (s.setCore n c).walks = s.walks := rfl
@[simp] theorem State.setCore_cards (s : State) (n : Nat) (c : Core) : (s.setCore n c).cards = s.cards := rfl
@[simp] theorem State.setCore_draws (s : State) (n : Nat) (c : Core) : (s.setCore n c).draws = s.draws := rfl
@[simp] theorem State.setCore_gfx (s : State) (n : Nat) (c : Core) : (s.setCore n c).gfx = s.gfx := rfl
@[simp] theorem State.setCore_saves (s : State) (n : Nat) (c : Core) : (s.setCore n c).saves = s.saves := rfl
@[simp] theorem State.setCore_saveTiles (s : State) (n : Nat) (c : Core) : (s.setCore n c).saveTiles = s.saveTiles := rfl
@[simp] theorem State.setCore_saveGfx (s : State) (n : Nat) (c : Core) : (s.setCore n c).saveGfx = s.saveGfx := rfl
@[simp] theorem State.setCore_hub (s : State) (n : Nat) (c : Core) : (s.setCore n c).hub = s.hub := rfl

/-! ## State.setCtx -/

@[simp] theorem State.setCtx_now (s : State) (n : Nat) (c : Context) : (s.setCtx n c).now = s.now := rfl
@[simp] theorem State.setCtx_powered (s : State) (n : Nat) (c : Context) : (s.setCtx n c).powered = s.powered := rfl
@[simp] theorem State.setCtx_agenda (s : State) (n : Nat) (c : Context) : (s.setCtx n c).agenda = s.agenda := rfl
@[simp] theorem State.setCtx_args (s : State) (n : Nat) (c : Context) : (s.setCtx n c).args = s.args := rfl
@[simp] theorem State.setCtx_nextId (s : State) (n : Nat) (c : Context) : (s.setCtx n c).nextId = s.nextId := rfl
@[simp] theorem State.setCtx_freeIdx (s : State) (n : Nat) (c : Context) : (s.setCtx n c).freeIdx = s.freeIdx := rfl
@[simp] theorem State.setCtx_issue (s : State) (n : Nat) (c : Context) : (s.setCtx n c).issue = s.issue := rfl
@[simp] theorem State.setCtx_mem (s : State) (n : Nat) (c : Context) : (s.setCtx n c).mem = s.mem := rfl
@[simp] theorem State.setCtx_pending (s : State) (n : Nat) (c : Context) : (s.setCtx n c).pending = s.pending := rfl
@[simp] theorem State.setCtx_lines (s : State) (n : Nat) (c : Context) : (s.setCtx n c).lines = s.lines := rfl
@[simp] theorem State.setCtx_versions (s : State) (n : Nat) (c : Context) : (s.setCtx n c).versions = s.versions := rfl
@[simp] theorem State.setCtx_snoop (s : State) (n : Nat) (c : Context) : (s.setCtx n c).snoop = s.snoop := rfl
@[simp] theorem State.setCtx_columns (s : State) (n : Nat) (c : Context) : (s.setCtx n c).columns = s.columns := rfl
@[simp] theorem State.setCtx_towers (s : State) (n : Nat) (c : Context) : (s.setCtx n c).towers = s.towers := rfl
@[simp] theorem State.setCtx_clusters (s : State) (n : Nat) (c : Context) : (s.setCtx n c).clusters = s.clusters := rfl
@[simp] theorem State.setCtx_cores (s : State) (n : Nat) (c : Context) : (s.setCtx n c).cores = s.cores := rfl
@[simp] theorem State.setCtx_barges (s : State) (n : Nat) (c : Context) : (s.setCtx n c).barges = s.barges := rfl
@[simp] theorem State.setCtx_wgs (s : State) (n : Nat) (c : Context) : (s.setCtx n c).wgs = s.wgs := rfl
@[simp] theorem State.setCtx_gangs (s : State) (n : Nat) (c : Context) : (s.setCtx n c).gangs = s.gangs := rfl
@[simp] theorem State.setCtx_ctxs (s : State) (n : Nat) (c : Context) : (s.setCtx n c).ctxs = s.ctxs.put n c := rfl
@[simp] theorem State.setCtx_nodes (s : State) (n : Nat) (c : Context) : (s.setCtx n c).nodes = s.nodes := rfl
@[simp] theorem State.setCtx_flights (s : State) (n : Nat) (c : Context) : (s.setCtx n c).flights = s.flights := rfl
@[simp] theorem State.setCtx_txns (s : State) (n : Nat) (c : Context) : (s.setCtx n c).txns = s.txns := rfl
@[simp] theorem State.setCtx_rels (s : State) (n : Nat) (c : Context) : (s.setCtx n c).rels = s.rels := rfl
@[simp] theorem State.setCtx_walks (s : State) (n : Nat) (c : Context) : (s.setCtx n c).walks = s.walks := rfl
@[simp] theorem State.setCtx_cards (s : State) (n : Nat) (c : Context) : (s.setCtx n c).cards = s.cards := rfl
@[simp] theorem State.setCtx_draws (s : State) (n : Nat) (c : Context) : (s.setCtx n c).draws = s.draws := rfl
@[simp] theorem State.setCtx_gfx (s : State) (n : Nat) (c : Context) : (s.setCtx n c).gfx = s.gfx := rfl
@[simp] theorem State.setCtx_saves (s : State) (n : Nat) (c : Context) : (s.setCtx n c).saves = s.saves := rfl
@[simp] theorem State.setCtx_saveTiles (s : State) (n : Nat) (c : Context) : (s.setCtx n c).saveTiles = s.saveTiles := rfl
@[simp] theorem State.setCtx_saveGfx (s : State) (n : Nat) (c : Context) : (s.setCtx n c).saveGfx = s.saveGfx := rfl
@[simp] theorem State.setCtx_hub (s : State) (n : Nat) (c : Context) : (s.setCtx n c).hub = s.hub := rfl

/-! ## State.setLine -/

@[simp] theorem State.setLine_now (s : State) (n : Nat) (c : LineMeta) : (s.setLine n c).now = s.now := rfl
@[simp] theorem State.setLine_powered (s : State) (n : Nat) (c : LineMeta) : (s.setLine n c).powered = s.powered := rfl
@[simp] theorem State.setLine_agenda (s : State) (n : Nat) (c : LineMeta) : (s.setLine n c).agenda = s.agenda := rfl
@[simp] theorem State.setLine_args (s : State) (n : Nat) (c : LineMeta) : (s.setLine n c).args = s.args := rfl
@[simp] theorem State.setLine_nextId (s : State) (n : Nat) (c : LineMeta) : (s.setLine n c).nextId = s.nextId := rfl
@[simp] theorem State.setLine_freeIdx (s : State) (n : Nat) (c : LineMeta) : (s.setLine n c).freeIdx = s.freeIdx := rfl
@[simp] theorem State.setLine_issue (s : State) (n : Nat) (c : LineMeta) : (s.setLine n c).issue = s.issue := rfl
@[simp] theorem State.setLine_mem (s : State) (n : Nat) (c : LineMeta) : (s.setLine n c).mem = s.mem := rfl
@[simp] theorem State.setLine_pending (s : State) (n : Nat) (c : LineMeta) : (s.setLine n c).pending = s.pending := rfl
@[simp] theorem State.setLine_lines (s : State) (n : Nat) (c : LineMeta) : (s.setLine n c).lines = s.lines.put n c := rfl
@[simp] theorem State.setLine_versions (s : State) (n : Nat) (c : LineMeta) : (s.setLine n c).versions = s.versions := rfl
@[simp] theorem State.setLine_snoop (s : State) (n : Nat) (c : LineMeta) : (s.setLine n c).snoop = s.snoop := rfl
@[simp] theorem State.setLine_columns (s : State) (n : Nat) (c : LineMeta) : (s.setLine n c).columns = s.columns := rfl
@[simp] theorem State.setLine_towers (s : State) (n : Nat) (c : LineMeta) : (s.setLine n c).towers = s.towers := rfl
@[simp] theorem State.setLine_clusters (s : State) (n : Nat) (c : LineMeta) : (s.setLine n c).clusters = s.clusters := rfl
@[simp] theorem State.setLine_cores (s : State) (n : Nat) (c : LineMeta) : (s.setLine n c).cores = s.cores := rfl
@[simp] theorem State.setLine_barges (s : State) (n : Nat) (c : LineMeta) : (s.setLine n c).barges = s.barges := rfl
@[simp] theorem State.setLine_wgs (s : State) (n : Nat) (c : LineMeta) : (s.setLine n c).wgs = s.wgs := rfl
@[simp] theorem State.setLine_gangs (s : State) (n : Nat) (c : LineMeta) : (s.setLine n c).gangs = s.gangs := rfl
@[simp] theorem State.setLine_ctxs (s : State) (n : Nat) (c : LineMeta) : (s.setLine n c).ctxs = s.ctxs := rfl
@[simp] theorem State.setLine_nodes (s : State) (n : Nat) (c : LineMeta) : (s.setLine n c).nodes = s.nodes := rfl
@[simp] theorem State.setLine_flights (s : State) (n : Nat) (c : LineMeta) : (s.setLine n c).flights = s.flights := rfl
@[simp] theorem State.setLine_txns (s : State) (n : Nat) (c : LineMeta) : (s.setLine n c).txns = s.txns := rfl
@[simp] theorem State.setLine_rels (s : State) (n : Nat) (c : LineMeta) : (s.setLine n c).rels = s.rels := rfl
@[simp] theorem State.setLine_walks (s : State) (n : Nat) (c : LineMeta) : (s.setLine n c).walks = s.walks := rfl
@[simp] theorem State.setLine_cards (s : State) (n : Nat) (c : LineMeta) : (s.setLine n c).cards = s.cards := rfl
@[simp] theorem State.setLine_draws (s : State) (n : Nat) (c : LineMeta) : (s.setLine n c).draws = s.draws := rfl
@[simp] theorem State.setLine_gfx (s : State) (n : Nat) (c : LineMeta) : (s.setLine n c).gfx = s.gfx := rfl
@[simp] theorem State.setLine_saves (s : State) (n : Nat) (c : LineMeta) : (s.setLine n c).saves = s.saves := rfl
@[simp] theorem State.setLine_saveTiles (s : State) (n : Nat) (c : LineMeta) : (s.setLine n c).saveTiles = s.saveTiles := rfl
@[simp] theorem State.setLine_saveGfx (s : State) (n : Nat) (c : LineMeta) : (s.setLine n c).saveGfx = s.saveGfx := rfl
@[simp] theorem State.setLine_hub (s : State) (n : Nat) (c : LineMeta) : (s.setLine n c).hub = s.hub := rfl

/-! ## State.setGfx -/

@[simp] theorem State.setGfx_now (s : State) (n : Nat) (c : GfxTower) : (s.setGfx n c).now = s.now := rfl
@[simp] theorem State.setGfx_powered (s : State) (n : Nat) (c : GfxTower) : (s.setGfx n c).powered = s.powered := rfl
@[simp] theorem State.setGfx_agenda (s : State) (n : Nat) (c : GfxTower) : (s.setGfx n c).agenda = s.agenda := rfl
@[simp] theorem State.setGfx_args (s : State) (n : Nat) (c : GfxTower) : (s.setGfx n c).args = s.args := rfl
@[simp] theorem State.setGfx_nextId (s : State) (n : Nat) (c : GfxTower) : (s.setGfx n c).nextId = s.nextId := rfl
@[simp] theorem State.setGfx_freeIdx (s : State) (n : Nat) (c : GfxTower) : (s.setGfx n c).freeIdx = s.freeIdx := rfl
@[simp] theorem State.setGfx_issue (s : State) (n : Nat) (c : GfxTower) : (s.setGfx n c).issue = s.issue := rfl
@[simp] theorem State.setGfx_mem (s : State) (n : Nat) (c : GfxTower) : (s.setGfx n c).mem = s.mem := rfl
@[simp] theorem State.setGfx_pending (s : State) (n : Nat) (c : GfxTower) : (s.setGfx n c).pending = s.pending := rfl
@[simp] theorem State.setGfx_lines (s : State) (n : Nat) (c : GfxTower) : (s.setGfx n c).lines = s.lines := rfl
@[simp] theorem State.setGfx_versions (s : State) (n : Nat) (c : GfxTower) : (s.setGfx n c).versions = s.versions := rfl
@[simp] theorem State.setGfx_snoop (s : State) (n : Nat) (c : GfxTower) : (s.setGfx n c).snoop = s.snoop := rfl
@[simp] theorem State.setGfx_columns (s : State) (n : Nat) (c : GfxTower) : (s.setGfx n c).columns = s.columns := rfl
@[simp] theorem State.setGfx_towers (s : State) (n : Nat) (c : GfxTower) : (s.setGfx n c).towers = s.towers := rfl
@[simp] theorem State.setGfx_clusters (s : State) (n : Nat) (c : GfxTower) : (s.setGfx n c).clusters = s.clusters := rfl
@[simp] theorem State.setGfx_cores (s : State) (n : Nat) (c : GfxTower) : (s.setGfx n c).cores = s.cores := rfl
@[simp] theorem State.setGfx_barges (s : State) (n : Nat) (c : GfxTower) : (s.setGfx n c).barges = s.barges := rfl
@[simp] theorem State.setGfx_wgs (s : State) (n : Nat) (c : GfxTower) : (s.setGfx n c).wgs = s.wgs := rfl
@[simp] theorem State.setGfx_gangs (s : State) (n : Nat) (c : GfxTower) : (s.setGfx n c).gangs = s.gangs := rfl
@[simp] theorem State.setGfx_ctxs (s : State) (n : Nat) (c : GfxTower) : (s.setGfx n c).ctxs = s.ctxs := rfl
@[simp] theorem State.setGfx_nodes (s : State) (n : Nat) (c : GfxTower) : (s.setGfx n c).nodes = s.nodes := rfl
@[simp] theorem State.setGfx_flights (s : State) (n : Nat) (c : GfxTower) : (s.setGfx n c).flights = s.flights := rfl
@[simp] theorem State.setGfx_txns (s : State) (n : Nat) (c : GfxTower) : (s.setGfx n c).txns = s.txns := rfl
@[simp] theorem State.setGfx_rels (s : State) (n : Nat) (c : GfxTower) : (s.setGfx n c).rels = s.rels := rfl
@[simp] theorem State.setGfx_walks (s : State) (n : Nat) (c : GfxTower) : (s.setGfx n c).walks = s.walks := rfl
@[simp] theorem State.setGfx_cards (s : State) (n : Nat) (c : GfxTower) : (s.setGfx n c).cards = s.cards := rfl
@[simp] theorem State.setGfx_draws (s : State) (n : Nat) (c : GfxTower) : (s.setGfx n c).draws = s.draws := rfl
@[simp] theorem State.setGfx_gfx (s : State) (n : Nat) (c : GfxTower) : (s.setGfx n c).gfx = s.gfx.put n c := rfl
@[simp] theorem State.setGfx_saves (s : State) (n : Nat) (c : GfxTower) : (s.setGfx n c).saves = s.saves := rfl
@[simp] theorem State.setGfx_saveTiles (s : State) (n : Nat) (c : GfxTower) : (s.setGfx n c).saveTiles = s.saveTiles := rfl
@[simp] theorem State.setGfx_saveGfx (s : State) (n : Nat) (c : GfxTower) : (s.setGfx n c).saveGfx = s.saveGfx := rfl
@[simp] theorem State.setGfx_hub (s : State) (n : Nat) (c : GfxTower) : (s.setGfx n c).hub = s.hub := rfl

/-! ## State.setBarge -/

@[simp] theorem State.setBarge_now (s : State) (k m : Nat) (b : Barge) : (s.setBarge k m b).now = s.now := rfl
@[simp] theorem State.setBarge_powered (s : State) (k m : Nat) (b : Barge) : (s.setBarge k m b).powered = s.powered := rfl
@[simp] theorem State.setBarge_agenda (s : State) (k m : Nat) (b : Barge) : (s.setBarge k m b).agenda = s.agenda := rfl
@[simp] theorem State.setBarge_args (s : State) (k m : Nat) (b : Barge) : (s.setBarge k m b).args = s.args := rfl
@[simp] theorem State.setBarge_nextId (s : State) (k m : Nat) (b : Barge) : (s.setBarge k m b).nextId = s.nextId := rfl
@[simp] theorem State.setBarge_freeIdx (s : State) (k m : Nat) (b : Barge) : (s.setBarge k m b).freeIdx = s.freeIdx := rfl
@[simp] theorem State.setBarge_issue (s : State) (k m : Nat) (b : Barge) : (s.setBarge k m b).issue = s.issue := rfl
@[simp] theorem State.setBarge_mem (s : State) (k m : Nat) (b : Barge) : (s.setBarge k m b).mem = s.mem := rfl
@[simp] theorem State.setBarge_pending (s : State) (k m : Nat) (b : Barge) : (s.setBarge k m b).pending = s.pending := rfl
@[simp] theorem State.setBarge_lines (s : State) (k m : Nat) (b : Barge) : (s.setBarge k m b).lines = s.lines := rfl
@[simp] theorem State.setBarge_versions (s : State) (k m : Nat) (b : Barge) : (s.setBarge k m b).versions = s.versions := rfl
@[simp] theorem State.setBarge_snoop (s : State) (k m : Nat) (b : Barge) : (s.setBarge k m b).snoop = s.snoop := rfl
@[simp] theorem State.setBarge_columns (s : State) (k m : Nat) (b : Barge) : (s.setBarge k m b).columns = s.columns := rfl
@[simp] theorem State.setBarge_towers (s : State) (k m : Nat) (b : Barge) : (s.setBarge k m b).towers = s.towers := rfl
@[simp] theorem State.setBarge_clusters (s : State) (k m : Nat) (b : Barge) : (s.setBarge k m b).clusters = s.clusters := rfl
@[simp] theorem State.setBarge_cores (s : State) (k m : Nat) (b : Barge) : (s.setBarge k m b).cores = s.cores := rfl
@[simp] theorem State.setBarge_barges (s : State) (k m : Nat) (b : Barge) : (s.setBarge k m b).barges = s.barges.put (512 * k + m) b := rfl
@[simp] theorem State.setBarge_wgs (s : State) (k m : Nat) (b : Barge) : (s.setBarge k m b).wgs = s.wgs := rfl
@[simp] theorem State.setBarge_gangs (s : State) (k m : Nat) (b : Barge) : (s.setBarge k m b).gangs = s.gangs := rfl
@[simp] theorem State.setBarge_ctxs (s : State) (k m : Nat) (b : Barge) : (s.setBarge k m b).ctxs = s.ctxs := rfl
@[simp] theorem State.setBarge_nodes (s : State) (k m : Nat) (b : Barge) : (s.setBarge k m b).nodes = s.nodes := rfl
@[simp] theorem State.setBarge_flights (s : State) (k m : Nat) (b : Barge) : (s.setBarge k m b).flights = s.flights := rfl
@[simp] theorem State.setBarge_txns (s : State) (k m : Nat) (b : Barge) : (s.setBarge k m b).txns = s.txns := rfl
@[simp] theorem State.setBarge_rels (s : State) (k m : Nat) (b : Barge) : (s.setBarge k m b).rels = s.rels := rfl
@[simp] theorem State.setBarge_walks (s : State) (k m : Nat) (b : Barge) : (s.setBarge k m b).walks = s.walks := rfl
@[simp] theorem State.setBarge_cards (s : State) (k m : Nat) (b : Barge) : (s.setBarge k m b).cards = s.cards := rfl
@[simp] theorem State.setBarge_draws (s : State) (k m : Nat) (b : Barge) : (s.setBarge k m b).draws = s.draws := rfl
@[simp] theorem State.setBarge_gfx (s : State) (k m : Nat) (b : Barge) : (s.setBarge k m b).gfx = s.gfx := rfl
@[simp] theorem State.setBarge_saves (s : State) (k m : Nat) (b : Barge) : (s.setBarge k m b).saves = s.saves := rfl
@[simp] theorem State.setBarge_saveTiles (s : State) (k m : Nat) (b : Barge) : (s.setBarge k m b).saveTiles = s.saveTiles := rfl
@[simp] theorem State.setBarge_saveGfx (s : State) (k m : Nat) (b : Barge) : (s.setBarge k m b).saveGfx = s.saveGfx := rfl
@[simp] theorem State.setBarge_hub (s : State) (k m : Nat) (b : Barge) : (s.setBarge k m b).hub = s.hub := rfl

/-! ## State.setHub -/

@[simp] theorem State.setHub_now (s : State) (h : Hub) : (s.setHub h).now = s.now := rfl
@[simp] theorem State.setHub_powered (s : State) (h : Hub) : (s.setHub h).powered = s.powered := rfl
@[simp] theorem State.setHub_agenda (s : State) (h : Hub) : (s.setHub h).agenda = s.agenda := rfl
@[simp] theorem State.setHub_args (s : State) (h : Hub) : (s.setHub h).args = s.args := rfl
@[simp] theorem State.setHub_nextId (s : State) (h : Hub) : (s.setHub h).nextId = s.nextId := rfl
@[simp] theorem State.setHub_freeIdx (s : State) (h : Hub) : (s.setHub h).freeIdx = s.freeIdx := rfl
@[simp] theorem State.setHub_issue (s : State) (h : Hub) : (s.setHub h).issue = s.issue := rfl
@[simp] theorem State.setHub_mem (s : State) (h : Hub) : (s.setHub h).mem = s.mem := rfl
@[simp] theorem State.setHub_pending (s : State) (h : Hub) : (s.setHub h).pending = s.pending := rfl
@[simp] theorem State.setHub_lines (s : State) (h : Hub) : (s.setHub h).lines = s.lines := rfl
@[simp] theorem State.setHub_versions (s : State) (h : Hub) : (s.setHub h).versions = s.versions := rfl
@[simp] theorem State.setHub_snoop (s : State) (h : Hub) : (s.setHub h).snoop = s.snoop := rfl
@[simp] theorem State.setHub_columns (s : State) (h : Hub) : (s.setHub h).columns = s.columns := rfl
@[simp] theorem State.setHub_towers (s : State) (h : Hub) : (s.setHub h).towers = s.towers := rfl
@[simp] theorem State.setHub_clusters (s : State) (h : Hub) : (s.setHub h).clusters = s.clusters := rfl
@[simp] theorem State.setHub_cores (s : State) (h : Hub) : (s.setHub h).cores = s.cores := rfl
@[simp] theorem State.setHub_barges (s : State) (h : Hub) : (s.setHub h).barges = s.barges := rfl
@[simp] theorem State.setHub_wgs (s : State) (h : Hub) : (s.setHub h).wgs = s.wgs := rfl
@[simp] theorem State.setHub_gangs (s : State) (h : Hub) : (s.setHub h).gangs = s.gangs := rfl
@[simp] theorem State.setHub_ctxs (s : State) (h : Hub) : (s.setHub h).ctxs = s.ctxs := rfl
@[simp] theorem State.setHub_nodes (s : State) (h : Hub) : (s.setHub h).nodes = s.nodes := rfl
@[simp] theorem State.setHub_flights (s : State) (h : Hub) : (s.setHub h).flights = s.flights := rfl
@[simp] theorem State.setHub_txns (s : State) (h : Hub) : (s.setHub h).txns = s.txns := rfl
@[simp] theorem State.setHub_rels (s : State) (h : Hub) : (s.setHub h).rels = s.rels := rfl
@[simp] theorem State.setHub_walks (s : State) (h : Hub) : (s.setHub h).walks = s.walks := rfl
@[simp] theorem State.setHub_cards (s : State) (h : Hub) : (s.setHub h).cards = s.cards := rfl
@[simp] theorem State.setHub_draws (s : State) (h : Hub) : (s.setHub h).draws = s.draws := rfl
@[simp] theorem State.setHub_gfx (s : State) (h : Hub) : (s.setHub h).gfx = s.gfx := rfl
@[simp] theorem State.setHub_saves (s : State) (h : Hub) : (s.setHub h).saves = s.saves := rfl
@[simp] theorem State.setHub_saveTiles (s : State) (h : Hub) : (s.setHub h).saveTiles = s.saveTiles := rfl
@[simp] theorem State.setHub_saveGfx (s : State) (h : Hub) : (s.setHub h).saveGfx = s.saveGfx := rfl
@[simp] theorem State.setHub_hub (s : State) (h : Hub) : (s.setHub h).hub = h := rfl

/-! ## State.rest -/

@[simp] theorem State.rest_now (s : State) : (s.rest).now = s.now := rfl
@[simp] theorem State.rest_powered (s : State) : (s.rest).powered = s.powered := rfl
@[simp] theorem State.rest_agenda (s : State) : (s.rest).agenda = s.agenda := rfl
@[simp] theorem State.rest_args (s : State) : (s.rest).args = [] := rfl
@[simp] theorem State.rest_nextId (s : State) : (s.rest).nextId = s.nextId := rfl
@[simp] theorem State.rest_freeIdx (s : State) : (s.rest).freeIdx = s.freeIdx := rfl
@[simp] theorem State.rest_issue (s : State) : (s.rest).issue = none := rfl
@[simp] theorem State.rest_mem (s : State) : (s.rest).mem = s.mem := rfl
@[simp] theorem State.rest_pending (s : State) : (s.rest).pending = s.pending := rfl
@[simp] theorem State.rest_lines (s : State) : (s.rest).lines = s.lines := rfl
@[simp] theorem State.rest_versions (s : State) : (s.rest).versions = s.versions := rfl
@[simp] theorem State.rest_snoop (s : State) : (s.rest).snoop = s.snoop := rfl
@[simp] theorem State.rest_columns (s : State) : (s.rest).columns = s.columns := rfl
@[simp] theorem State.rest_towers (s : State) : (s.rest).towers = s.towers := rfl
@[simp] theorem State.rest_clusters (s : State) : (s.rest).clusters = s.clusters := rfl
@[simp] theorem State.rest_cores (s : State) : (s.rest).cores = s.cores := rfl
@[simp] theorem State.rest_barges (s : State) : (s.rest).barges = s.barges := rfl
@[simp] theorem State.rest_wgs (s : State) : (s.rest).wgs = s.wgs := rfl
@[simp] theorem State.rest_gangs (s : State) : (s.rest).gangs = s.gangs := rfl
@[simp] theorem State.rest_ctxs (s : State) : (s.rest).ctxs = s.ctxs := rfl
@[simp] theorem State.rest_nodes (s : State) : (s.rest).nodes = s.nodes := rfl
@[simp] theorem State.rest_flights (s : State) : (s.rest).flights = s.flights := rfl
@[simp] theorem State.rest_txns (s : State) : (s.rest).txns = s.txns := rfl
@[simp] theorem State.rest_rels (s : State) : (s.rest).rels = s.rels := rfl
@[simp] theorem State.rest_walks (s : State) : (s.rest).walks = s.walks := rfl
@[simp] theorem State.rest_cards (s : State) : (s.rest).cards = s.cards := rfl
@[simp] theorem State.rest_draws (s : State) : (s.rest).draws = s.draws := rfl
@[simp] theorem State.rest_gfx (s : State) : (s.rest).gfx = s.gfx := rfl
@[simp] theorem State.rest_saves (s : State) : (s.rest).saves = s.saves := rfl
@[simp] theorem State.rest_saveTiles (s : State) : (s.rest).saveTiles = s.saveTiles := rfl
@[simp] theorem State.rest_saveGfx (s : State) : (s.rest).saveGfx = s.saveGfx := rfl
@[simp] theorem State.rest_hub (s : State) : (s.rest).hub = s.hub := rfl

/-! ## State.land -/

@[simp] theorem State.land_now (s : State) (m : Memory) : (State.land m s).now = s.now := rfl
@[simp] theorem State.land_powered (s : State) (m : Memory) : (State.land m s).powered = s.powered := rfl
@[simp] theorem State.land_agenda (s : State) (m : Memory) : (State.land m s).agenda = s.agenda := rfl
@[simp] theorem State.land_args (s : State) (m : Memory) : (State.land m s).args = s.args := rfl
@[simp] theorem State.land_nextId (s : State) (m : Memory) : (State.land m s).nextId = s.nextId := rfl
@[simp] theorem State.land_freeIdx (s : State) (m : Memory) : (State.land m s).freeIdx = s.freeIdx := rfl
@[simp] theorem State.land_issue (s : State) (m : Memory) : (State.land m s).issue = s.issue := rfl
@[simp] theorem State.land_mem (s : State) (m : Memory) : (State.land m s).mem = Memory.writeAll (if s.mem.isEmpty then [] else m) s.pending := rfl
@[simp] theorem State.land_pending (s : State) (m : Memory) : (State.land m s).pending = [] := rfl
@[simp] theorem State.land_lines (s : State) (m : Memory) : (State.land m s).lines = s.lines := rfl
@[simp] theorem State.land_versions (s : State) (m : Memory) : (State.land m s).versions = s.versions := rfl
@[simp] theorem State.land_snoop (s : State) (m : Memory) : (State.land m s).snoop = s.snoop := rfl
@[simp] theorem State.land_columns (s : State) (m : Memory) : (State.land m s).columns = s.columns := rfl
@[simp] theorem State.land_towers (s : State) (m : Memory) : (State.land m s).towers = s.towers := rfl
@[simp] theorem State.land_clusters (s : State) (m : Memory) : (State.land m s).clusters = s.clusters := rfl
@[simp] theorem State.land_cores (s : State) (m : Memory) : (State.land m s).cores = s.cores := rfl
@[simp] theorem State.land_barges (s : State) (m : Memory) : (State.land m s).barges = s.barges := rfl
@[simp] theorem State.land_wgs (s : State) (m : Memory) : (State.land m s).wgs = s.wgs := rfl
@[simp] theorem State.land_gangs (s : State) (m : Memory) : (State.land m s).gangs = s.gangs := rfl
@[simp] theorem State.land_ctxs (s : State) (m : Memory) : (State.land m s).ctxs = s.ctxs := rfl
@[simp] theorem State.land_nodes (s : State) (m : Memory) : (State.land m s).nodes = s.nodes := rfl
@[simp] theorem State.land_flights (s : State) (m : Memory) : (State.land m s).flights = s.flights := rfl
@[simp] theorem State.land_txns (s : State) (m : Memory) : (State.land m s).txns = s.txns := rfl
@[simp] theorem State.land_rels (s : State) (m : Memory) : (State.land m s).rels = s.rels := rfl
@[simp] theorem State.land_walks (s : State) (m : Memory) : (State.land m s).walks = s.walks := rfl
@[simp] theorem State.land_cards (s : State) (m : Memory) : (State.land m s).cards = s.cards := rfl
@[simp] theorem State.land_draws (s : State) (m : Memory) : (State.land m s).draws = s.draws := rfl
@[simp] theorem State.land_gfx (s : State) (m : Memory) : (State.land m s).gfx = s.gfx := rfl
@[simp] theorem State.land_saves (s : State) (m : Memory) : (State.land m s).saves = s.saves := rfl
@[simp] theorem State.land_saveTiles (s : State) (m : Memory) : (State.land m s).saveTiles = s.saveTiles := rfl
@[simp] theorem State.land_saveGfx (s : State) (m : Memory) : (State.land m s).saveGfx = s.saveGfx := rfl
@[simp] theorem State.land_hub (s : State) (m : Memory) : (State.land m s).hub = s.hub := rfl

/-! ## State.post -/

@[simp] theorem State.post_now (s : State) (d : Nat) (w : Instr) (a : List Nat) : (s.post d w a).now = s.now := rfl
@[simp] theorem State.post_powered (s : State) (d : Nat) (w : Instr) (a : List Nat) : (s.post d w a).powered = s.powered := rfl
@[simp] theorem State.post_agenda (s : State) (d : Nat) (w : Instr) (a : List Nat) : (s.post d w a).agenda = agendaInsert (s.now + d) { what := w, args := a } s.agenda := rfl
@[simp] theorem State.post_args (s : State) (d : Nat) (w : Instr) (a : List Nat) : (s.post d w a).args = s.args := rfl
@[simp] theorem State.post_nextId (s : State) (d : Nat) (w : Instr) (a : List Nat) : (s.post d w a).nextId = s.nextId := rfl
@[simp] theorem State.post_freeIdx (s : State) (d : Nat) (w : Instr) (a : List Nat) : (s.post d w a).freeIdx = s.freeIdx := rfl
@[simp] theorem State.post_issue (s : State) (d : Nat) (w : Instr) (a : List Nat) : (s.post d w a).issue = s.issue := rfl
@[simp] theorem State.post_mem (s : State) (d : Nat) (w : Instr) (a : List Nat) : (s.post d w a).mem = s.mem := rfl
@[simp] theorem State.post_pending (s : State) (d : Nat) (w : Instr) (a : List Nat) : (s.post d w a).pending = s.pending := rfl
@[simp] theorem State.post_lines (s : State) (d : Nat) (w : Instr) (a : List Nat) : (s.post d w a).lines = s.lines := rfl
@[simp] theorem State.post_versions (s : State) (d : Nat) (w : Instr) (a : List Nat) : (s.post d w a).versions = s.versions := rfl
@[simp] theorem State.post_snoop (s : State) (d : Nat) (w : Instr) (a : List Nat) : (s.post d w a).snoop = s.snoop := rfl
@[simp] theorem State.post_columns (s : State) (d : Nat) (w : Instr) (a : List Nat) : (s.post d w a).columns = s.columns := rfl
@[simp] theorem State.post_towers (s : State) (d : Nat) (w : Instr) (a : List Nat) : (s.post d w a).towers = s.towers := rfl
@[simp] theorem State.post_clusters (s : State) (d : Nat) (w : Instr) (a : List Nat) : (s.post d w a).clusters = s.clusters := rfl
@[simp] theorem State.post_cores (s : State) (d : Nat) (w : Instr) (a : List Nat) : (s.post d w a).cores = s.cores := rfl
@[simp] theorem State.post_barges (s : State) (d : Nat) (w : Instr) (a : List Nat) : (s.post d w a).barges = s.barges := rfl
@[simp] theorem State.post_wgs (s : State) (d : Nat) (w : Instr) (a : List Nat) : (s.post d w a).wgs = s.wgs := rfl
@[simp] theorem State.post_gangs (s : State) (d : Nat) (w : Instr) (a : List Nat) : (s.post d w a).gangs = s.gangs := rfl
@[simp] theorem State.post_ctxs (s : State) (d : Nat) (w : Instr) (a : List Nat) : (s.post d w a).ctxs = s.ctxs := rfl
@[simp] theorem State.post_nodes (s : State) (d : Nat) (w : Instr) (a : List Nat) : (s.post d w a).nodes = s.nodes := rfl
@[simp] theorem State.post_flights (s : State) (d : Nat) (w : Instr) (a : List Nat) : (s.post d w a).flights = s.flights := rfl
@[simp] theorem State.post_txns (s : State) (d : Nat) (w : Instr) (a : List Nat) : (s.post d w a).txns = s.txns := rfl
@[simp] theorem State.post_rels (s : State) (d : Nat) (w : Instr) (a : List Nat) : (s.post d w a).rels = s.rels := rfl
@[simp] theorem State.post_walks (s : State) (d : Nat) (w : Instr) (a : List Nat) : (s.post d w a).walks = s.walks := rfl
@[simp] theorem State.post_cards (s : State) (d : Nat) (w : Instr) (a : List Nat) : (s.post d w a).cards = s.cards := rfl
@[simp] theorem State.post_draws (s : State) (d : Nat) (w : Instr) (a : List Nat) : (s.post d w a).draws = s.draws := rfl
@[simp] theorem State.post_gfx (s : State) (d : Nat) (w : Instr) (a : List Nat) : (s.post d w a).gfx = s.gfx := rfl
@[simp] theorem State.post_saves (s : State) (d : Nat) (w : Instr) (a : List Nat) : (s.post d w a).saves = s.saves := rfl
@[simp] theorem State.post_saveTiles (s : State) (d : Nat) (w : Instr) (a : List Nat) : (s.post d w a).saveTiles = s.saveTiles := rfl
@[simp] theorem State.post_saveGfx (s : State) (d : Nat) (w : Instr) (a : List Nat) : (s.post d w a).saveGfx = s.saveGfx := rfl
@[simp] theorem State.post_hub (s : State) (d : Nat) (w : Instr) (a : List Nat) : (s.post d w a).hub = s.hub := rfl

/-! ## State.postAt -/

@[simp] theorem State.postAt_now (s : State) (u : Nat) (w : Instr) (a : List Nat) : (s.postAt u w a).now = s.now := rfl
@[simp] theorem State.postAt_powered (s : State) (u : Nat) (w : Instr) (a : List Nat) : (s.postAt u w a).powered = s.powered := rfl
@[simp] theorem State.postAt_agenda (s : State) (u : Nat) (w : Instr) (a : List Nat) : (s.postAt u w a).agenda = agendaInsert (max u s.now) { what := w, args := a } s.agenda := rfl
@[simp] theorem State.postAt_args (s : State) (u : Nat) (w : Instr) (a : List Nat) : (s.postAt u w a).args = s.args := rfl
@[simp] theorem State.postAt_nextId (s : State) (u : Nat) (w : Instr) (a : List Nat) : (s.postAt u w a).nextId = s.nextId := rfl
@[simp] theorem State.postAt_freeIdx (s : State) (u : Nat) (w : Instr) (a : List Nat) : (s.postAt u w a).freeIdx = s.freeIdx := rfl
@[simp] theorem State.postAt_issue (s : State) (u : Nat) (w : Instr) (a : List Nat) : (s.postAt u w a).issue = s.issue := rfl
@[simp] theorem State.postAt_mem (s : State) (u : Nat) (w : Instr) (a : List Nat) : (s.postAt u w a).mem = s.mem := rfl
@[simp] theorem State.postAt_pending (s : State) (u : Nat) (w : Instr) (a : List Nat) : (s.postAt u w a).pending = s.pending := rfl
@[simp] theorem State.postAt_lines (s : State) (u : Nat) (w : Instr) (a : List Nat) : (s.postAt u w a).lines = s.lines := rfl
@[simp] theorem State.postAt_versions (s : State) (u : Nat) (w : Instr) (a : List Nat) : (s.postAt u w a).versions = s.versions := rfl
@[simp] theorem State.postAt_snoop (s : State) (u : Nat) (w : Instr) (a : List Nat) : (s.postAt u w a).snoop = s.snoop := rfl
@[simp] theorem State.postAt_columns (s : State) (u : Nat) (w : Instr) (a : List Nat) : (s.postAt u w a).columns = s.columns := rfl
@[simp] theorem State.postAt_towers (s : State) (u : Nat) (w : Instr) (a : List Nat) : (s.postAt u w a).towers = s.towers := rfl
@[simp] theorem State.postAt_clusters (s : State) (u : Nat) (w : Instr) (a : List Nat) : (s.postAt u w a).clusters = s.clusters := rfl
@[simp] theorem State.postAt_cores (s : State) (u : Nat) (w : Instr) (a : List Nat) : (s.postAt u w a).cores = s.cores := rfl
@[simp] theorem State.postAt_barges (s : State) (u : Nat) (w : Instr) (a : List Nat) : (s.postAt u w a).barges = s.barges := rfl
@[simp] theorem State.postAt_wgs (s : State) (u : Nat) (w : Instr) (a : List Nat) : (s.postAt u w a).wgs = s.wgs := rfl
@[simp] theorem State.postAt_gangs (s : State) (u : Nat) (w : Instr) (a : List Nat) : (s.postAt u w a).gangs = s.gangs := rfl
@[simp] theorem State.postAt_ctxs (s : State) (u : Nat) (w : Instr) (a : List Nat) : (s.postAt u w a).ctxs = s.ctxs := rfl
@[simp] theorem State.postAt_nodes (s : State) (u : Nat) (w : Instr) (a : List Nat) : (s.postAt u w a).nodes = s.nodes := rfl
@[simp] theorem State.postAt_flights (s : State) (u : Nat) (w : Instr) (a : List Nat) : (s.postAt u w a).flights = s.flights := rfl
@[simp] theorem State.postAt_txns (s : State) (u : Nat) (w : Instr) (a : List Nat) : (s.postAt u w a).txns = s.txns := rfl
@[simp] theorem State.postAt_rels (s : State) (u : Nat) (w : Instr) (a : List Nat) : (s.postAt u w a).rels = s.rels := rfl
@[simp] theorem State.postAt_walks (s : State) (u : Nat) (w : Instr) (a : List Nat) : (s.postAt u w a).walks = s.walks := rfl
@[simp] theorem State.postAt_cards (s : State) (u : Nat) (w : Instr) (a : List Nat) : (s.postAt u w a).cards = s.cards := rfl
@[simp] theorem State.postAt_draws (s : State) (u : Nat) (w : Instr) (a : List Nat) : (s.postAt u w a).draws = s.draws := rfl
@[simp] theorem State.postAt_gfx (s : State) (u : Nat) (w : Instr) (a : List Nat) : (s.postAt u w a).gfx = s.gfx := rfl
@[simp] theorem State.postAt_saves (s : State) (u : Nat) (w : Instr) (a : List Nat) : (s.postAt u w a).saves = s.saves := rfl
@[simp] theorem State.postAt_saveTiles (s : State) (u : Nat) (w : Instr) (a : List Nat) : (s.postAt u w a).saveTiles = s.saveTiles := rfl
@[simp] theorem State.postAt_saveGfx (s : State) (u : Nat) (w : Instr) (a : List Nat) : (s.postAt u w a).saveGfx = s.saveGfx := rfl
@[simp] theorem State.postAt_hub (s : State) (u : Nat) (w : Instr) (a : List Nat) : (s.postAt u w a).hub = s.hub := rfl

/-! ## State.poke -/

@[simp] theorem State.poke_now (s : State) (x : Nat) (v : Byte) : (s.poke x v).now = s.now := rfl
@[simp] theorem State.poke_powered (s : State) (x : Nat) (v : Byte) : (s.poke x v).powered = s.powered := rfl
@[simp] theorem State.poke_agenda (s : State) (x : Nat) (v : Byte) : (s.poke x v).agenda = s.agenda := rfl
@[simp] theorem State.poke_args (s : State) (x : Nat) (v : Byte) : (s.poke x v).args = s.args := rfl
@[simp] theorem State.poke_nextId (s : State) (x : Nat) (v : Byte) : (s.poke x v).nextId = s.nextId := rfl
@[simp] theorem State.poke_freeIdx (s : State) (x : Nat) (v : Byte) : (s.poke x v).freeIdx = s.freeIdx := rfl
@[simp] theorem State.poke_issue (s : State) (x : Nat) (v : Byte) : (s.poke x v).issue = s.issue := rfl
@[simp] theorem State.poke_mem (s : State) (x : Nat) (v : Byte) : (s.poke x v).mem = s.mem := rfl
@[simp] theorem State.poke_pending (s : State) (x : Nat) (v : Byte) : (s.poke x v).pending = s.pending ++ [(x, v)] := rfl
@[simp] theorem State.poke_lines (s : State) (x : Nat) (v : Byte) : (s.poke x v).lines = s.lines := rfl
@[simp] theorem State.poke_versions (s : State) (x : Nat) (v : Byte) : (s.poke x v).versions = s.versions := rfl
@[simp] theorem State.poke_snoop (s : State) (x : Nat) (v : Byte) : (s.poke x v).snoop = s.snoop := rfl
@[simp] theorem State.poke_columns (s : State) (x : Nat) (v : Byte) : (s.poke x v).columns = s.columns := rfl
@[simp] theorem State.poke_towers (s : State) (x : Nat) (v : Byte) : (s.poke x v).towers = s.towers := rfl
@[simp] theorem State.poke_clusters (s : State) (x : Nat) (v : Byte) : (s.poke x v).clusters = s.clusters := rfl
@[simp] theorem State.poke_cores (s : State) (x : Nat) (v : Byte) : (s.poke x v).cores = s.cores := rfl
@[simp] theorem State.poke_barges (s : State) (x : Nat) (v : Byte) : (s.poke x v).barges = s.barges := rfl
@[simp] theorem State.poke_wgs (s : State) (x : Nat) (v : Byte) : (s.poke x v).wgs = s.wgs := rfl
@[simp] theorem State.poke_gangs (s : State) (x : Nat) (v : Byte) : (s.poke x v).gangs = s.gangs := rfl
@[simp] theorem State.poke_ctxs (s : State) (x : Nat) (v : Byte) : (s.poke x v).ctxs = s.ctxs := rfl
@[simp] theorem State.poke_nodes (s : State) (x : Nat) (v : Byte) : (s.poke x v).nodes = s.nodes := rfl
@[simp] theorem State.poke_flights (s : State) (x : Nat) (v : Byte) : (s.poke x v).flights = s.flights := rfl
@[simp] theorem State.poke_txns (s : State) (x : Nat) (v : Byte) : (s.poke x v).txns = s.txns := rfl
@[simp] theorem State.poke_rels (s : State) (x : Nat) (v : Byte) : (s.poke x v).rels = s.rels := rfl
@[simp] theorem State.poke_walks (s : State) (x : Nat) (v : Byte) : (s.poke x v).walks = s.walks := rfl
@[simp] theorem State.poke_cards (s : State) (x : Nat) (v : Byte) : (s.poke x v).cards = s.cards := rfl
@[simp] theorem State.poke_draws (s : State) (x : Nat) (v : Byte) : (s.poke x v).draws = s.draws := rfl
@[simp] theorem State.poke_gfx (s : State) (x : Nat) (v : Byte) : (s.poke x v).gfx = s.gfx := rfl
@[simp] theorem State.poke_saves (s : State) (x : Nat) (v : Byte) : (s.poke x v).saves = s.saves := rfl
@[simp] theorem State.poke_saveTiles (s : State) (x : Nat) (v : Byte) : (s.poke x v).saveTiles = s.saveTiles := rfl
@[simp] theorem State.poke_saveGfx (s : State) (x : Nat) (v : Byte) : (s.poke x v).saveGfx = s.saveGfx := rfl
@[simp] theorem State.poke_hub (s : State) (x : Nat) (v : Byte) : (s.poke x v).hub = s.hub := rfl

end Sys2Proof.Machine
end

