-- ==== Sys2Proof/Laws/Tables.lean ====
section
/-!
SUPPORT. Tables, sparse arrays and memory: reading after writing, and the canonical form.
-/
namespace Sys2Proof.Machine
open Sys2Proof

/-! ## Tables -/

theorem Tab.look_put_same {α : Type} (t : Tab α) (k : Nat) (v : α) : (Tab.put t k v).look k = some v := by
  induction t with
  | nil => simp [Tab.put, Tab.look]
  | cons p t ih =>
    obtain ⟨j, w⟩ := p
    simp only [Tab.put]
    split
    · simp [Tab.look]
    · split
      · subst_vars; simp [Tab.look]
      · simp [Tab.look, *]

theorem Tab.look_put_other {α : Type} (t : Tab α) {k x : Nat} (v : α) (h : x ≠ k) :
    (Tab.put t k v).look x = t.look x := by
  induction t with
  | nil => simp [Tab.put, Tab.look, h]
  | cons p t ih =>
    obtain ⟨j, w⟩ := p
    simp only [Tab.put]
    split
    · simp [Tab.look, h]
    · split
      · subst_vars; simp [Tab.look, h]
      · simp [Tab.look, ih]

/-! ## Sparse arrays -/

theorem Sparse.get_put_same {w : Nat} (m : Sparse w) (a : Nat) (v : BitVec w) : (Sparse.put m a v).get a = v := by
  induction m with
  | nil => simp [Sparse.put, Sparse.get]
  | cons p t ih =>
    obtain ⟨k, x⟩ := p
    simp only [Sparse.put]
    split
    · simp [Sparse.get]
    · split
      · subst_vars; simp [Sparse.get]
      · simp [Sparse.get, *]

theorem Sparse.get_put_other {w : Nat} (m : Sparse w) {a x : Nat} (v : BitVec w) (h : x ≠ a) :
    (Sparse.put m a v).get x = m.get x := by
  induction m with
  | nil => simp [Sparse.put, Sparse.get, h]
  | cons p t ih =>
    obtain ⟨k, y⟩ := p
    simp only [Sparse.put]
    split
    · simp [Sparse.get, h]
    · split
      · subst_vars; simp [Sparse.get, h]
      · simp [Sparse.get, ih]

theorem Sparse.get_cut_same {w : Nat} (m : Sparse w) (a : Nat) :
    Sparse.get (m.filter fun p => decide (p.1 ≠ a)) a = 0 := by
  induction m with
  | nil => simp [Sparse.get]
  | cons p t ih =>
    obtain ⟨k, y⟩ := p
    by_cases h : k = a
    · simpa [h] using ih
    · have h' : ¬a = k := fun e => h e.symm
      simpa [h, h', Sparse.get] using ih

theorem Sparse.get_cut_other {w : Nat} (m : Sparse w) {a x : Nat} (h : x ≠ a) :
    Sparse.get (m.filter fun p => decide (p.1 ≠ a)) x = m.get x := by
  induction m with
  | nil => simp [Sparse.get]
  | cons p t ih =>
    obtain ⟨k, y⟩ := p
    by_cases hk : k = a
    · subst hk; simpa [Sparse.get, h] using ih
    · by_cases hx : x = k
      · simp [hk, Sparse.get, hx]
      · simpa [hk, Sparse.get, hx] using ih

/-- What is stored is read. -/
theorem Sparse.get_set_same {w : Nat} (m : Sparse w) (a : Nat) (v : BitVec w) : (Sparse.set m a v).get a = v := by
  unfold Sparse.set
  split
  · next h => rw [h]; exact get_cut_same m a
  · exact get_put_same m a v

/-- A store changes one place. -/
theorem Sparse.get_set_other {w : Nat} (m : Sparse w) {a x : Nat} (v : BitVec w) (h : x ≠ a) :
    (Sparse.set m a v).get x = m.get x := by
  unfold Sparse.set
  split
  · exact get_cut_other m h
  · exact get_put_other m v h

theorem Sparse.get_set {w : Nat} (m : Sparse w) (a x : Nat) (v : BitVec w) :
    (Sparse.set m a v).get x = if x = a then v else m.get x := by
  split
  · subst_vars; exact get_set_same m _ v
  · exact get_set_other m v ‹_›

theorem Sparse.sortedFrom_mono {w : Nat} {m : Sparse w} {lo hi : Nat} (h : m.sortedFrom hi = true) (le : lo ≤ hi) :
    m.sortedFrom lo = true := by
  cases m with
  | nil => rfl
  | cons p t =>
    obtain ⟨k, y⟩ := p
    simp only [Sparse.sortedFrom, Bool.and_eq_true, decide_eq_true_eq] at h ⊢
    exact ⟨⟨by omega, h.1.2⟩, h.2⟩

theorem Sparse.sortedFrom_cut {w : Nat} (a : Nat) (m : Sparse w) :
    ∀ lo, m.sortedFrom lo = true → Sparse.sortedFrom lo (m.filter fun p => decide (p.1 ≠ a)) = true := by
  induction m with
  | nil => intro lo _; rfl
  | cons p t ih =>
    obtain ⟨k, y⟩ := p
    intro lo h
    simp only [Sparse.sortedFrom, Bool.and_eq_true, decide_eq_true_eq] at h
    by_cases hk : k = a
    · simpa [hk] using Sparse.sortedFrom_mono (ih _ h.2) (by omega)
    · simp only [hk, List.filter_cons, ne_eq, not_false_eq_true, decide_true, if_true, Sparse.sortedFrom,
        Bool.and_eq_true, decide_eq_true_eq]
      exact ⟨h.1, ih _ h.2⟩

theorem Sparse.sortedFrom_put {w : Nat} {a : Nat} {v : BitVec w} (hv : v ≠ 0) (m : Sparse w) :
    ∀ lo, lo ≤ a → m.sortedFrom lo = true → Sparse.sortedFrom lo (Sparse.put m a v) = true := by
  induction m with
  | nil => intro lo hl _; simpa [Sparse.put, Sparse.sortedFrom, hl] using hv
  | cons p t ih =>
    obtain ⟨k, y⟩ := p
    intro lo hl h
    simp only [Sparse.sortedFrom, Bool.and_eq_true, decide_eq_true_eq] at h
    simp only [Sparse.put]
    split
    · simp only [Sparse.sortedFrom, Bool.and_eq_true, decide_eq_true_eq]
      exact ⟨⟨hl, hv⟩, ⟨by omega, h.1.2⟩, h.2⟩
    · split
      · subst_vars
        simp only [Sparse.sortedFrom, Bool.and_eq_true, decide_eq_true_eq]
        exact ⟨⟨hl, hv⟩, h.2⟩
      · simp only [Sparse.sortedFrom, Bool.and_eq_true, decide_eq_true_eq]
        exact ⟨h.1, ih _ (by omega) h.2⟩

/-- A store keeps the canonical form. -/
theorem Sparse.wf_set {w : Nat} {m : Sparse w} (a : Nat) (v : BitVec w) (h : m.wf = true) :
    Sparse.wf (Sparse.set m a v) = true := by
  unfold Sparse.set Sparse.wf at *
  split
  · exact sortedFrom_cut a m 0 h
  · exact sortedFrom_put ‹_› m 0 (Nat.zero_le a) h

/-! ## Memory -/

/-- What is written is read. -/
theorem Memory.read_write_same (m : Memory) (a : Nat) (v : Byte) : (m.write a v).read a = v :=
  Sparse.get_set_same m a v

/-- A write leaves every other byte alone. -/
theorem Memory.read_write_other (m : Memory) {a x : Nat} (v : Byte) (h : x ≠ a) : (m.write a v).read x = m.read x :=
  Sparse.get_set_other m v h

/-- A write keeps the canonical form. -/
theorem Memory.wf_write {m : Memory} (a : Nat) (v : Byte) (h : m.wf = true) : (m.write a v).wf = true :=
  Sparse.wf_set a v h

/-- So does a list of writes. -/
theorem Memory.wf_writeAll (cs : List Host.Cell) : ∀ {m : Memory}, m.wf = true → (m.writeAll cs).wf = true := by
  induction cs with
  | nil => intro m h; exact h
  | cons c cs ih => intro m h; exact ih (wf_write c.1 c.2 h)

/-- A list of writes leaves every byte that none of them names. -/
theorem Memory.read_writeAll_other (cs : List Host.Cell) {x : Nat} (h : ∀ c ∈ cs, c.1 ≠ x) :
    ∀ m : Memory, (m.writeAll cs).read x = m.read x := by
  induction cs with
  | nil => intro m; rfl
  | cons c cs ih =>
    intro m
    rw [Memory.writeAll, ih (fun d hd => h d (List.mem_cons_of_mem _ hd)),
      read_write_other _ _ (fun e => h c (List.mem_cons_self ..) e.symm)]

/-- Reset memory is in the canonical form. -/
theorem State.reset_mem_wf : State.reset.mem.wf = true := rfl

/-! ## The parts of the state -/

@[simp] theorem State.barge_setBarge_same (s : State) (k m : Nat) (b : Barge) : (s.setBarge k m b).barge k m = some b :=
  Tab.look_put_same ..

theorem State.barge_setBarge_other (s : State) {k m k' m' : Nat} (b : Barge) (h : 512 * k' + m' ≠ 512 * k + m) :
    (s.setBarge k m b).barge k' m' = s.barge k' m' := Tab.look_put_other _ _ h

@[simp] theorem State.core_setCore_same (s : State) (n : Nat) (c : Core) : (s.setCore n c).core n = c := by
  simp [State.core, State.setCore, Tab.look_put_same]

theorem State.core_setCore_other (s : State) {n m : Nat} (c : Core) (h : m ≠ n) : (s.setCore n c).core m = s.core m := by
  simp [State.core, State.setCore, Tab.look_put_other _ _ h]

@[simp] theorem State.ctx_setCtx_same (s : State) (n : Nat) (c : Context) : (s.setCtx n c).ctx n = c := by
  simp [State.ctx, State.setCtx, Tab.look_put_same]

theorem State.ctx_setCtx_other (s : State) {n m : Nat} (c : Context) (h : m ≠ n) : (s.setCtx n c).ctx m = s.ctx m := by
  simp [State.ctx, State.setCtx, Tab.look_put_other _ _ h]

@[simp] theorem State.barge_setCore (s : State) (n k m : Nat) (c : Core) : (s.setCore n c).barge k m = s.barge k m := rfl
@[simp] theorem State.barge_setCtx (s : State) (n k m : Nat) (c : Context) : (s.setCtx n c).barge k m = s.barge k m := rfl
@[simp] theorem State.core_setBarge (s : State) (n k m : Nat) (b : Barge) : (s.setBarge k m b).core n = s.core n := rfl
@[simp] theorem State.ctx_setBarge (s : State) (n k m : Nat) (b : Barge) : (s.setBarge k m b).ctx n = s.ctx n := rfl
@[simp] theorem State.ctx_setCore (s : State) (n m : Nat) (c : Core) : (s.setCore n c).ctx m = s.ctx m := rfl
@[simp] theorem State.core_setCtx (s : State) (n m : Nat) (c : Context) : (s.setCtx n c).core m = s.core m := rfl
@[simp] theorem State.barge_rest (s : State) (k m : Nat) : s.rest.barge k m = s.barge k m := rfl
@[simp] theorem State.core_rest (s : State) (n : Nat) : s.rest.core n = s.core n := rfl
@[simp] theorem State.ctx_rest (s : State) (n : Nat) : s.rest.ctx n = s.ctx n := rfl
@[simp] theorem State.barge_post (s : State) (d : Nat) (w : Instr) (a : List Nat) (k m : Nat) :
    (s.post d w a).barge k m = s.barge k m := rfl
@[simp] theorem State.barge_postAt (s : State) (u : Nat) (w : Instr) (a : List Nat) (k m : Nat) :
    (s.postAt u w a).barge k m = s.barge k m := rfl
@[simp] theorem State.core_post (s : State) (d : Nat) (w : Instr) (a : List Nat) (n : Nat) :
    (s.post d w a).core n = s.core n := rfl
@[simp] theorem State.ctx_post (s : State) (d : Nat) (w : Instr) (a : List Nat) (n : Nat) :
    (s.post d w a).ctx n = s.ctx n := rfl

end Sys2Proof.Machine
end

