-- ==== Sys2Proof/Laws/Barge.lean ====
section
/-!
SUPPORT. The registers of a barge: what a write leaves in each register and lane, and what it leaves alone.
-/
namespace Sys2Proof.Machine
open Sys2Proof

/-! ## Single registers -/

theorem Barge.vreg_setV (b : Barge) (r r' : Nat) {i i' : Nat} (w : Word) (h : i < 32) (h' : i' < 32) :
    (b.setV r i w).vreg r' i' = if r' = r ∧ i' = i then w else b.vreg r' i' := by
  unfold Barge.vreg Barge.setV
  simp only [Sparse.get_set]
  by_cases e : r' = r ∧ i' = i
  · simp [e]
  · rw [if_neg e, if_neg (by omega)]

@[simp] theorem Barge.sreg_setV (b : Barge) (r i n : Nat) (w : Word) : (b.setV r i w).sreg n = b.sreg n := rfl
@[simp] theorem Barge.vreg_setS (b : Barge) (n r i : Nat) (x : Dword) : (b.setS n x).vreg r i = b.vreg r i := rfl

theorem Barge.sreg_setS (b : Barge) (n m : Nat) (x : Dword) :
    (b.setS n x).sreg m = if m = n then x else b.sreg m := by
  simp [Barge.sreg, Barge.setS, Sparse.get_set]

theorem Barge.setV_eq (b : Barge) (r i : Nat) (w : Word) : b.setV r i w = { b with v := (b.setV r i w).v } := rfl

/-! ## A lane's words -/

/-- Writing words k below n of one lane. -/
theorem Barge.vreg_words (f : Nat → Word) (r0 : Nat) {i r i' : Nat} (h : i < 32) (h' : i' < 32) :
    ∀ (n : Nat) (b : Barge), ((List.range n).foldl (fun (b : Barge) k => b.setV (r0 + k) i (f k)) b).vreg r i' =
      if i' = i ∧ r0 ≤ r ∧ r < r0 + n then f (r - r0) else b.vreg r i' := by
  intro n
  induction n with
  | zero => intro b; simp
  | succ n ih =>
    intro b
    rw [List.range_succ, List.foldl_append]
    simp only [List.foldl_cons, List.foldl_nil, Barge.vreg_setV _ _ _ _ h h', ih]
    by_cases e : r = r0 + n ∧ i' = i
    · obtain ⟨rfl, rfl⟩ := e
      simp
    · rw [if_neg e]
      by_cases c : i' = i ∧ r0 ≤ r ∧ r < r0 + n
      · rw [if_pos c, if_pos (by omega)]
      · rw [if_neg c, if_neg (by omega)]

/-- Such a fold changes the v registers alone. -/
theorem Barge.words_eq (f : Nat → Word) (r0 i : Nat) : ∀ (ks : List Nat) (b : Barge),
    ks.foldl (fun (b : Barge) k => b.setV (r0 + k) i (f k)) b =
      { b with v := (ks.foldl (fun (b : Barge) k => b.setV (r0 + k) i (f k)) b).v } := by
  intro ks
  induction ks with
  | nil => intro b; rfl
  | cons k ks ih => intro b; rw [List.foldl_cons, ih (b.setV (r0 + k) i (f k))]; rfl

/-! ## Whole destinations -/

/-- Writing the lanes of a list. -/
theorem Barge.vreg_lanes (f : Nat → List Word) (r0 n : Nat) {r i' : Nat} (h' : i' < 32) :
    ∀ (ls : List Nat), (∀ i ∈ ls, i < 32) → ∀ (b : Barge),
      (ls.foldl (fun (b : Barge) i => (List.range n).foldl (fun (b : Barge) k => b.setV (r0 + k) i ((f i).getD k 0)) b) b).vreg r i' =
        if i' ∈ ls ∧ r0 ≤ r ∧ r < r0 + n then (f i').getD (r - r0) 0 else b.vreg r i' := by
  intro ls
  induction ls with
  | nil => intro _ b; simp
  | cons i ls ih =>
    intro hl b
    rw [List.foldl_cons, ih (fun j hj => hl j (List.mem_cons_of_mem _ hj)),
      Barge.vreg_words (fun k => (f i).getD k 0) r0 (hl i (List.mem_cons_self ..)) h']
    by_cases e : i' = i
    · subst e
      by_cases c : r0 ≤ r ∧ r < r0 + n
      · simp [c]
      · simp [c]
    · simp [e]

theorem Barge.lanes_eq (f : Nat → List Word) (r0 n : Nat) : ∀ (ls : List Nat) (b : Barge),
    ls.foldl (fun (b : Barge) i => (List.range n).foldl (fun (b : Barge) k => b.setV (r0 + k) i ((f i).getD k 0)) b) b =
      { b with v := (ls.foldl (fun (b : Barge) i =>
          (List.range n).foldl (fun (b : Barge) k => b.setV (r0 + k) i ((f i).getD k 0)) b) b).v } := by
  intro ls
  induction ls with
  | nil => intro b; rfl
  | cons i ls ih =>
    intro b
    rw [List.foldl_cons, ih, Barge.words_eq]

theorem mem_lanesIn {m : Mask} {i : Nat} : i ∈ lanesIn m ↔ i < 32 ∧ laneOn m i = true := by
  simp [lanesIn, List.mem_filter]

@[simp] theorem Barge.vreg_unheld (b : Barge) (active : Mask) (d : Dst) (r i : Nat) : (b.unheld active d).vreg r i = b.vreg r i := rfl
@[simp] theorem Barge.sreg_unheld (b : Barge) (active : Mask) (d : Dst) (n : Nat) : (b.unheld active d).sreg n = b.sreg n := rfl

/-- A write changes the v and s registers, and which of them are held back for RETT. -/
theorem Barge.write_eq (b : Barge) (active : Mask) (d : Dst) (f : Nat → List Word) :
    b.write active d f = { b.unheld active d with v := (b.write active d f).v, s := (b.write active d f).s } := by
  unfold Barge.write
  dsimp only
  split
  · split
    · rfl
    · rfl
  · have := Barge.lanes_eq f d.spec.toNat d.words (lanesIn active) (b.unheld active d)
    rw [this]

/-- What a write to a vector destination leaves in a v register. -/
theorem Barge.vreg_write (b : Barge) (active : Mask) (d : Dst) (f : Nat → List Word) (hd : isScalar d.spec = false)
    {r i : Nat} (hi : i < 32) :
    (b.write active d f).vreg r i =
      if laneOn active i = true ∧ d.spec.toNat ≤ r ∧ r < d.spec.toNat + d.words then (f i).getD (r - d.spec.toNat) 0
      else b.vreg r i := by
  unfold Barge.write
  rw [if_neg (by simp [hd]), Barge.vreg_lanes f _ _ hi _ (fun j hj => (mem_lanesIn.1 hj).1)]
  simp [mem_lanesIn, hi]

/-- A write to a scalar destination leaves every v register. -/
theorem Barge.vreg_write_scalar (b : Barge) (active : Mask) (d : Dst) (f : Nat → List Word) (hd : isScalar d.spec = true)
    (r i : Nat) : (b.write active d f).vreg r i = b.vreg r i := by
  unfold Barge.write
  rw [if_pos hd]
  split <;> rfl

/-- A write to a vector destination leaves every s register. -/
theorem Barge.sreg_write_vector (b : Barge) (active : Mask) (d : Dst) (f : Nat → List Word) (hd : isScalar d.spec = false)
    (n : Nat) : (b.write active d f).sreg n = b.sreg n := by
  unfold Barge.write
  rw [if_neg (by simp [hd]), Barge.lanes_eq]
  rfl

/-- What a write to a scalar destination leaves in an s register: the lowest active lane's value. -/
theorem Barge.sreg_write (b : Barge) (active : Mask) (d : Dst) (f : Nat → List Word) (hd : isScalar d.spec = true)
    {l : Nat} (hl : lowestLane active = some l) (n : Nat) :
    (b.write active d f).sreg n =
      if n = d.spec.toNat - 96 then
        (if d.words = 1 then ((f l).getD 0 0).setWidth 64 else (f l).getD 1 0 ++ (f l).getD 0 0)
      else b.sreg n := by
  unfold Barge.write
  rw [if_pos hd, hl]
  exact Barge.sreg_setS ..

theorem lowestLane_isSome {m : Mask} {i : Nat} (hi : i < 32) (h : laneOn m i = true) : ∃ l, lowestLane m = some l := by
  unfold lowestLane
  cases e : (List.range 32).find? (laneOn m) with
  | some l => exact ⟨l, rfl⟩
  | none =>
    rw [List.find?_eq_none] at e
    exact absurd h (e i (List.mem_range.2 hi))

/-- An active lane's value of a destination that is not of differing values is the lowest lane's (R22). -/
theorem eq_lowest_of_uniform {active : Mask} {d : Dst} {f : Nat → List Word} (hd : isScalar d.spec = true)
    (h : nonUniform active d f = false) {i l : Nat} (hi : i < 32) (ha : laneOn active i = true)
    (hl : lowestLane active = some l) : f i = f l := by
  unfold nonUniform at h
  rw [hd, hl] at h
  simp only [Bool.true_and, List.any_eq_false, decide_eq_true_eq] at h
  have := h i (mem_lanesIn.2 ⟨hi, ha⟩)
  simpa using this

/-! ## Predicates -/

theorem Barge.pred_setP (b : Barge) (p q : BitVec 3) (lanes value : Mask) :
    (b.setP p lanes value).pred q = if q = p then (b.pred p &&& ~~~lanes) ||| (value &&& lanes) else b.pred q := by
  unfold Barge.setP Barge.pred
  have hq : q.toNat < 8 := q.isLt
  have hp : p.toNat < 8 := p.isLt
  simp only [List.getD_eq_getElem?_getD]
  rw [List.getElem?_map, List.getElem?_range hq]
  simp only [Option.map_some, Option.getD_some]
  by_cases e : q = p
  · simp [e]
  · have : q.toNat ≠ p.toNat := fun h => e (BitVec.eq_of_toNat_eq h)
    simp [e, this]

end Sys2Proof.Machine
end

