-- ==== Sys2Proof/Laws/Encoding.lean ====
section
/-!
SUPPORT. The fields of a packed word, and the parts of a packed low field, read back.
-/
namespace Sys2Proof

/-! ## Parts of a concatenation -/

/-- The low part of two. -/
@[simp] theorem extract_low {n m : Nat} (x : BitVec n) (y : BitVec m) : (x ++ y).extractLsb' 0 m = y := by
  apply BitVec.eq_of_getLsbD_eq
  intro i hi
  simp [BitVec.getLsbD_append, hi]

/-- A part that lies above the low one. -/
theorem extract_high {n m lo w : Nat} (x : BitVec n) (y : BitVec m) (h : m ≤ lo) :
    (x ++ y).extractLsb' lo w = x.extractLsb' (lo - m) w := by
  apply BitVec.eq_of_getLsbD_eq
  intro i hi
  simp only [BitVec.getLsbD_extractLsb', BitVec.getLsbD_append, hi, decide_true, Bool.true_and]
  rw [if_neg (by omega)]
  congr 1
  omega

/-- A part within the low one. -/
theorem extract_within {n m lo w : Nat} (x : BitVec n) (y : BitVec m) (h : lo + w ≤ m) :
    (x ++ y).extractLsb' lo w = y.extractLsb' lo w := by
  apply BitVec.eq_of_getLsbD_eq
  intro i hi
  simp only [BitVec.getLsbD_extractLsb', BitVec.getLsbD_append, hi, decide_true, Bool.true_and]
  rw [if_pos (by omega)]

@[simp] theorem extract_all {n : Nat} (x : BitVec n) : x.extractLsb' 0 n = x := by
  apply BitVec.eq_of_toNat_eq
  simp

/-! ## The word formats (R19) -/

@[simp] theorem wordClass_packWord (c : BitVec 5) (o : BitVec 4) (d a : BitVec 7) (l : BitVec 9) :
    wordClass (packWord c o d a l) = c := by
  show BitVec.extractLsb' 27 5 (c ++ o ++ d ++ a ++ l) = c
  exact (extract_high _ _ (by decide)).trans ((extract_high _ _ (by decide)).trans ((extract_high _ _ (by decide)).trans ((extract_high _ _ (by decide)).trans (extract_all _))))

@[simp] theorem wordOp_packWord (c : BitVec 5) (o : BitVec 4) (d a : BitVec 7) (l : BitVec 9) :
    wordOp (packWord c o d a l) = o := by
  show BitVec.extractLsb' 23 4 (c ++ o ++ d ++ a ++ l) = o
  exact (extract_high _ _ (by decide)).trans ((extract_high _ _ (by decide)).trans ((extract_high _ _ (by decide)).trans (extract_low _ _)))

@[simp] theorem wordD_packWord (c : BitVec 5) (o : BitVec 4) (d a : BitVec 7) (l : BitVec 9) :
    wordD (packWord c o d a l) = d := by
  show BitVec.extractLsb' 16 7 (c ++ o ++ d ++ a ++ l) = d
  exact (extract_high _ _ (by decide)).trans ((extract_high _ _ (by decide)).trans (extract_low _ _))

@[simp] theorem wordA_packWord (c : BitVec 5) (o : BitVec 4) (d a : BitVec 7) (l : BitVec 9) :
    wordA (packWord c o d a l) = a := by
  show BitVec.extractLsb' 9 7 (c ++ o ++ d ++ a ++ l) = a
  exact (extract_high _ _ (by decide)).trans (extract_low _ _)

@[simp] theorem wordLow_packWord (c : BitVec 5) (o : BitVec 4) (d a : BitVec 7) (l : BitVec 9) :
    wordLow (packWord c o d a l) = l := by
  show BitVec.extractLsb' 0 9 (c ++ o ++ d ++ a ++ l) = l
  exact extract_low _ _

theorem class_packPrefix (k : BitVec 3) (x : BitVec 24) : (packPrefix k x).extractLsb' 27 5 = 31#5 := by
  show BitVec.extractLsb' 27 5 (31#5 ++ k ++ x) = 31#5
  exact (extract_high _ _ (by decide)).trans ((extract_high _ _ (by decide)).trans (extract_all _))

theorem kind_packPrefix (k : BitVec 3) (x : BitVec 24) : (packPrefix k x).extractLsb' 24 3 = k := by
  show BitVec.extractLsb' 24 3 (31#5 ++ k ++ x) = k
  exact (extract_high _ _ (by decide)).trans (extract_low _ _)

theorem payload_packPrefix (k : BitVec 3) (x : BitVec 24) : (packPrefix k x).extractLsb' 0 24 = x := by
  show BitVec.extractLsb' 0 24 (31#5 ++ k ++ x) = x
  exact extract_low _ _

theorem class_packBranch (c e : BitVec 3) (o : BitVec 21) : (packBranch c e o).extractLsb' 27 5 = 11#5 := by
  show BitVec.extractLsb' 27 5 (11#5 ++ c ++ e ++ o) = 11#5
  exact (extract_high _ _ (by decide)).trans ((extract_high _ _ (by decide)).trans ((extract_high _ _ (by decide)).trans (extract_all _)))

theorem cond_packBranch (c e : BitVec 3) (o : BitVec 21) : (packBranch c e o).extractLsb' 24 3 = c := by
  show BitVec.extractLsb' 24 3 (11#5 ++ c ++ e ++ o) = c
  exact (extract_high _ _ (by decide)).trans ((extract_high _ _ (by decide)).trans (extract_low _ _))

theorem pred_packBranch (c e : BitVec 3) (o : BitVec 21) : (packBranch c e o).extractLsb' 21 3 = e := by
  show BitVec.extractLsb' 21 3 (11#5 ++ c ++ e ++ o) = e
  exact (extract_high _ _ (by decide)).trans (extract_low _ _)

theorem offset_packBranch (c e : BitVec 3) (o : BitVec 21) : (packBranch c e o).extractLsb' 0 21 = o := by
  show BitVec.extractLsb' 0 21 (11#5 ++ c ++ e ++ o) = o
  exact extract_low _ _

/-- The fields of a prefix word. -/
theorem decodeFields_packPrefix (k : BitVec 3) (x : BitVec 24) :
    decodeFields (packPrefix k x) = decodePrefix k.toNat x := by
  unfold decodeFields wordClass
  rw [class_packPrefix, kind_packPrefix, payload_packPrefix]
  rfl

/-- The fields of a branch word. -/
theorem decodeFields_packBranch (c e : BitVec 3) (o : BitVec 21) :
    decodeFields (packBranch c e o) = .ok (.bra c e o) := by
  unfold decodeFields wordClass
  rw [class_packBranch, cond_packBranch, pred_packBranch, offset_packBranch]
  rfl

/-! ## The low field, and the other fields that hold several parts -/

@[simp] theorem part_1 (x : BitVec 1) (y : BitVec 3) : (x ++ y ++ 0#20 : BitVec 24).extractLsb' 23 1 = x := by
  show BitVec.extractLsb' 23 1 (x ++ y ++ 0#20) = x
  exact (extract_high _ _ (by decide)).trans ((extract_high _ _ (by decide)).trans (extract_all _))

@[simp] theorem part_2 (x : BitVec 1) (y : BitVec 3) : (x ++ y ++ 0#20 : BitVec 24).extractLsb' 20 3 = y := by
  show BitVec.extractLsb' 20 3 (x ++ y ++ 0#20) = y
  exact (extract_high _ _ (by decide)).trans (extract_low _ _)

@[simp] theorem part_3 (x : BitVec 1) (y : BitVec 3) : (x ++ y ++ 0#20 : BitVec 24).extractLsb' 0 20 = 0#20 := by
  show BitVec.extractLsb' 0 20 (x ++ y ++ 0#20) = 0#20
  exact extract_low _ _

@[simp] theorem part_4 (x : BitVec 1) (y : BitVec 7) (z : BitVec 1) (u : BitVec 7) (v : BitVec 1) : (x ++ y ++ z ++ u ++ 0#7 ++ v : BitVec 24).extractLsb' 23 1 = x := by
  show BitVec.extractLsb' 23 1 (x ++ y ++ z ++ u ++ 0#7 ++ v) = x
  exact (extract_high _ _ (by decide)).trans ((extract_high _ _ (by decide)).trans ((extract_high _ _ (by decide)).trans ((extract_high _ _ (by decide)).trans ((extract_high _ _ (by decide)).trans (extract_all _)))))

@[simp] theorem part_5 (x : BitVec 1) (y : BitVec 7) (z : BitVec 1) (u : BitVec 7) (v : BitVec 1) : (x ++ y ++ z ++ u ++ 0#7 ++ v : BitVec 24).extractLsb' 16 7 = y := by
  show BitVec.extractLsb' 16 7 (x ++ y ++ z ++ u ++ 0#7 ++ v) = y
  exact (extract_high _ _ (by decide)).trans ((extract_high _ _ (by decide)).trans ((extract_high _ _ (by decide)).trans ((extract_high _ _ (by decide)).trans (extract_low _ _))))

@[simp] theorem part_6 (x : BitVec 1) (y : BitVec 7) (z : BitVec 1) (u : BitVec 7) (v : BitVec 1) : (x ++ y ++ z ++ u ++ 0#7 ++ v : BitVec 24).extractLsb' 15 1 = z := by
  show BitVec.extractLsb' 15 1 (x ++ y ++ z ++ u ++ 0#7 ++ v) = z
  exact (extract_high _ _ (by decide)).trans ((extract_high _ _ (by decide)).trans ((extract_high _ _ (by decide)).trans (extract_low _ _)))

@[simp] theorem part_7 (x : BitVec 1) (y : BitVec 7) (z : BitVec 1) (u : BitVec 7) (v : BitVec 1) : (x ++ y ++ z ++ u ++ 0#7 ++ v : BitVec 24).extractLsb' 8 7 = u := by
  show BitVec.extractLsb' 8 7 (x ++ y ++ z ++ u ++ 0#7 ++ v) = u
  exact (extract_high _ _ (by decide)).trans ((extract_high _ _ (by decide)).trans (extract_low _ _))

@[simp] theorem part_8 (x : BitVec 1) (y : BitVec 7) (z : BitVec 1) (u : BitVec 7) (v : BitVec 1) : (x ++ y ++ z ++ u ++ 0#7 ++ v : BitVec 24).extractLsb' 1 7 = 0#7 := by
  show BitVec.extractLsb' 1 7 (x ++ y ++ z ++ u ++ 0#7 ++ v) = 0#7
  exact (extract_high _ _ (by decide)).trans (extract_low _ _)

@[simp] theorem part_9 (x : BitVec 1) (y : BitVec 7) (z : BitVec 1) (u : BitVec 7) (v : BitVec 1) : (x ++ y ++ z ++ u ++ 0#7 ++ v : BitVec 24).extractLsb' 0 1 = v := by
  show BitVec.extractLsb' 0 1 (x ++ y ++ z ++ u ++ 0#7 ++ v) = v
  exact extract_low _ _

@[simp] theorem part_10 (x : BitVec 1) (y : BitVec 5) : (x ++ y ++ 0#18 : BitVec 24).extractLsb' 23 1 = x := by
  show BitVec.extractLsb' 23 1 (x ++ y ++ 0#18) = x
  exact (extract_high _ _ (by decide)).trans ((extract_high _ _ (by decide)).trans (extract_all _))

@[simp] theorem part_11 (x : BitVec 1) (y : BitVec 5) : (x ++ y ++ 0#18 : BitVec 24).extractLsb' 18 5 = y := by
  show BitVec.extractLsb' 18 5 (x ++ y ++ 0#18) = y
  exact (extract_high _ _ (by decide)).trans (extract_low _ _)

@[simp] theorem part_12 (x : BitVec 1) (y : BitVec 5) : (x ++ y ++ 0#18 : BitVec 24).extractLsb' 0 18 = 0#18 := by
  show BitVec.extractLsb' 0 18 (x ++ y ++ 0#18) = 0#18
  exact extract_low _ _

@[simp] theorem part_13 (x : BitVec 7) (y : BitVec 1) (z : BitVec 1) : (x ++ y ++ z : BitVec 9).extractLsb' 2 7 = x := by
  show BitVec.extractLsb' 2 7 (x ++ y ++ z) = x
  exact (extract_high _ _ (by decide)).trans ((extract_high _ _ (by decide)).trans (extract_all _))

@[simp] theorem part_14 (x : BitVec 7) (y : BitVec 1) (z : BitVec 1) : (x ++ y ++ z : BitVec 9).extractLsb' 1 1 = y := by
  show BitVec.extractLsb' 1 1 (x ++ y ++ z) = y
  exact (extract_high _ _ (by decide)).trans (extract_low _ _)

@[simp] theorem part_15 (x : BitVec 7) (y : BitVec 1) (z : BitVec 1) : (x ++ y ++ z : BitVec 9).extractLsb' 0 1 = z := by
  show BitVec.extractLsb' 0 1 (x ++ y ++ z) = z
  exact extract_low _ _

@[simp] theorem part_16 (x : BitVec 1) : (0#7 ++ x ++ 0#1 : BitVec 9).extractLsb' 2 7 = 0#7 := by
  show BitVec.extractLsb' 2 7 (0#7 ++ x ++ 0#1) = 0#7
  exact (extract_high _ _ (by decide)).trans ((extract_high _ _ (by decide)).trans (extract_all _))

@[simp] theorem part_17 (x : BitVec 1) : (0#7 ++ x ++ 0#1 : BitVec 9).extractLsb' 1 1 = x := by
  show BitVec.extractLsb' 1 1 (0#7 ++ x ++ 0#1) = x
  exact (extract_high _ _ (by decide)).trans (extract_low _ _)

@[simp] theorem part_18 (x : BitVec 1) : (0#7 ++ x ++ 0#1 : BitVec 9).extractLsb' 0 1 = 0#1 := by
  show BitVec.extractLsb' 0 1 (0#7 ++ x ++ 0#1) = 0#1
  exact extract_low _ _

@[simp] theorem part_19 (x : BitVec 1) (y : BitVec 8) : (x ++ y : BitVec 9).extractLsb' 8 1 = x := by
  show BitVec.extractLsb' 8 1 (x ++ y) = x
  exact (extract_high _ _ (by decide)).trans (extract_all _)

@[simp] theorem part_20 (x : BitVec 1) (y : BitVec 8) : (x ++ y : BitVec 9).extractLsb' 0 8 = y := by
  show BitVec.extractLsb' 0 8 (x ++ y) = y
  exact extract_low _ _

@[simp] theorem part_21 (x : BitVec 4) (y : BitVec 3) : (x ++ y : BitVec 7).extractLsb' 3 4 = x := by
  show BitVec.extractLsb' 3 4 (x ++ y) = x
  exact (extract_high _ _ (by decide)).trans (extract_all _)

@[simp] theorem part_22 (x : BitVec 4) (y : BitVec 3) : (x ++ y : BitVec 7).extractLsb' 0 3 = y := by
  show BitVec.extractLsb' 0 3 (x ++ y) = y
  exact extract_low _ _

@[simp] theorem part_23 (x : BitVec 3) : (0#4 ++ x : BitVec 7).extractLsb' 3 4 = 0#4 := by
  show BitVec.extractLsb' 3 4 (0#4 ++ x) = 0#4
  exact (extract_high _ _ (by decide)).trans (extract_all _)

@[simp] theorem part_24 (x : BitVec 3) : (0#4 ++ x : BitVec 7).extractLsb' 0 3 = x := by
  show BitVec.extractLsb' 0 3 (0#4 ++ x) = x
  exact extract_low _ _

@[simp] theorem part_25 (x : BitVec 7) (y : BitVec 1) : (x ++ y ++ 0#1 : BitVec 9).extractLsb' 2 7 = x := by
  show BitVec.extractLsb' 2 7 (x ++ y ++ 0#1) = x
  exact (extract_high _ _ (by decide)).trans ((extract_high _ _ (by decide)).trans (extract_all _))

@[simp] theorem part_26 (x : BitVec 7) (y : BitVec 1) : (x ++ y ++ 0#1 : BitVec 9).extractLsb' 1 1 = y := by
  show BitVec.extractLsb' 1 1 (x ++ y ++ 0#1) = y
  exact (extract_high _ _ (by decide)).trans (extract_low _ _)

@[simp] theorem part_27 (x : BitVec 7) (y : BitVec 1) : (x ++ y ++ 0#1 : BitVec 9).extractLsb' 0 1 = 0#1 := by
  show BitVec.extractLsb' 0 1 (x ++ y ++ 0#1) = 0#1
  exact extract_low _ _

@[simp] theorem part_28 (x : BitVec 3) : (0#4 ++ x ++ 0#2 : BitVec 9).extractLsb' 5 4 = 0#4 := by
  show BitVec.extractLsb' 5 4 (0#4 ++ x ++ 0#2) = 0#4
  exact (extract_high _ _ (by decide)).trans ((extract_high _ _ (by decide)).trans (extract_all _))

@[simp] theorem part_29 (x : BitVec 3) : (0#4 ++ x ++ 0#2 : BitVec 9).extractLsb' 2 3 = x := by
  show BitVec.extractLsb' 2 3 (0#4 ++ x ++ 0#2) = x
  exact (extract_high _ _ (by decide)).trans (extract_low _ _)

@[simp] theorem part_30 (x : BitVec 3) : (0#4 ++ x ++ 0#2 : BitVec 9).extractLsb' 0 2 = 0#2 := by
  show BitVec.extractLsb' 0 2 (0#4 ++ x ++ 0#2) = 0#2
  exact extract_low _ _

@[simp] theorem part_31 (x : BitVec 8) : (0#1 ++ x : BitVec 9).extractLsb' 8 1 = 0#1 := by
  show BitVec.extractLsb' 8 1 (0#1 ++ x) = 0#1
  exact (extract_high _ _ (by decide)).trans (extract_all _)

@[simp] theorem part_32 (x : BitVec 8) : (0#1 ++ x : BitVec 9).extractLsb' 0 8 = x := by
  show BitVec.extractLsb' 0 8 (0#1 ++ x) = x
  exact extract_low _ _

@[simp] theorem part_33 (x : BitVec 8) (y : BitVec 1) : (x ++ y : BitVec 9).extractLsb' 1 8 = x := by
  show BitVec.extractLsb' 1 8 (x ++ y) = x
  exact (extract_high _ _ (by decide)).trans (extract_all _)

@[simp] theorem part_34 (x : BitVec 8) (y : BitVec 1) : (x ++ y : BitVec 9).extractLsb' 0 1 = y := by
  show BitVec.extractLsb' 0 1 (x ++ y) = y
  exact extract_low _ _

@[simp] theorem part_35 (x : BitVec 3) (y : BitVec 2) (z : BitVec 3) (u : BitVec 1) : (x ++ y ++ z ++ u : BitVec 9).extractLsb' 6 3 = x := by
  show BitVec.extractLsb' 6 3 (x ++ y ++ z ++ u) = x
  exact (extract_high _ _ (by decide)).trans ((extract_high _ _ (by decide)).trans ((extract_high _ _ (by decide)).trans (extract_all _)))

@[simp] theorem part_36 (x : BitVec 3) (y : BitVec 2) (z : BitVec 3) (u : BitVec 1) : (x ++ y ++ z ++ u : BitVec 9).extractLsb' 4 2 = y := by
  show BitVec.extractLsb' 4 2 (x ++ y ++ z ++ u) = y
  exact (extract_high _ _ (by decide)).trans ((extract_high _ _ (by decide)).trans (extract_low _ _))

@[simp] theorem part_37 (x : BitVec 3) (y : BitVec 2) (z : BitVec 3) (u : BitVec 1) : (x ++ y ++ z ++ u : BitVec 9).extractLsb' 1 3 = z := by
  show BitVec.extractLsb' 1 3 (x ++ y ++ z ++ u) = z
  exact (extract_high _ _ (by decide)).trans (extract_low _ _)

@[simp] theorem part_38 (x : BitVec 3) (y : BitVec 2) (z : BitVec 3) (u : BitVec 1) : (x ++ y ++ z ++ u : BitVec 9).extractLsb' 0 1 = u := by
  show BitVec.extractLsb' 0 1 (x ++ y ++ z ++ u) = u
  exact extract_low _ _

@[simp] theorem part_39 (x : BitVec 3) (y : BitVec 2) : (x ++ y ++ 0#4 : BitVec 9).extractLsb' 6 3 = x := by
  show BitVec.extractLsb' 6 3 (x ++ y ++ 0#4) = x
  exact (extract_high _ _ (by decide)).trans ((extract_high _ _ (by decide)).trans (extract_all _))

@[simp] theorem part_40 (x : BitVec 3) (y : BitVec 2) : (x ++ y ++ 0#4 : BitVec 9).extractLsb' 4 2 = y := by
  show BitVec.extractLsb' 4 2 (x ++ y ++ 0#4) = y
  exact (extract_high _ _ (by decide)).trans (extract_low _ _)

@[simp] theorem part_41 (x : BitVec 3) (y : BitVec 2) : (x ++ y ++ 0#4 : BitVec 9).extractLsb' 0 4 = 0#4 := by
  show BitVec.extractLsb' 0 4 (x ++ y ++ 0#4) = 0#4
  exact extract_low _ _

@[simp] theorem part_42 (x : BitVec 3) (y : BitVec 2) : (x ++ y ++ 2#4 : BitVec 9).extractLsb' 6 3 = x := by
  show BitVec.extractLsb' 6 3 (x ++ y ++ 2#4) = x
  exact (extract_high _ _ (by decide)).trans ((extract_high _ _ (by decide)).trans (extract_all _))

@[simp] theorem part_43 (x : BitVec 3) (y : BitVec 2) : (x ++ y ++ 2#4 : BitVec 9).extractLsb' 4 2 = y := by
  show BitVec.extractLsb' 4 2 (x ++ y ++ 2#4) = y
  exact (extract_high _ _ (by decide)).trans (extract_low _ _)

@[simp] theorem part_44 (x : BitVec 3) (y : BitVec 2) : (x ++ y ++ 2#4 : BitVec 9).extractLsb' 0 4 = 2#4 := by
  show BitVec.extractLsb' 0 4 (x ++ y ++ 2#4) = 2#4
  exact extract_low _ _

@[simp] theorem part_45 (x : BitVec 2) (y : BitVec 6) : (0#1 ++ x ++ y : BitVec 9).extractLsb' 8 1 = 0#1 := by
  show BitVec.extractLsb' 8 1 (0#1 ++ x ++ y) = 0#1
  exact (extract_high _ _ (by decide)).trans ((extract_high _ _ (by decide)).trans (extract_all _))

@[simp] theorem part_46 (x : BitVec 2) (y : BitVec 6) : (0#1 ++ x ++ y : BitVec 9).extractLsb' 6 2 = x := by
  show BitVec.extractLsb' 6 2 (0#1 ++ x ++ y) = x
  exact (extract_high _ _ (by decide)).trans (extract_low _ _)

@[simp] theorem part_47 (x : BitVec 2) (y : BitVec 6) : (0#1 ++ x ++ y : BitVec 9).extractLsb' 0 6 = y := by
  show BitVec.extractLsb' 0 6 (0#1 ++ x ++ y) = y
  exact extract_low _ _

@[simp] theorem part_48 (x : BitVec 1) : (0#6 ++ x : BitVec 7).extractLsb' 1 6 = 0#6 := by
  show BitVec.extractLsb' 1 6 (0#6 ++ x) = 0#6
  exact (extract_high _ _ (by decide)).trans (extract_all _)

@[simp] theorem part_49 (x : BitVec 1) : (0#6 ++ x : BitVec 7).extractLsb' 0 1 = x := by
  show BitVec.extractLsb' 0 1 (0#6 ++ x) = x
  exact extract_low _ _

@[simp] theorem part_50 (x : BitVec 7) : (x ++ 0#2 : BitVec 9).extractLsb' 2 7 = x := by
  show BitVec.extractLsb' 2 7 (x ++ 0#2) = x
  exact (extract_high _ _ (by decide)).trans (extract_all _)

@[simp] theorem part_51 (x : BitVec 7) : (x ++ 0#2 : BitVec 9).extractLsb' 0 2 = 0#2 := by
  show BitVec.extractLsb' 0 2 (x ++ 0#2) = 0#2
  exact extract_low _ _

@[simp] theorem part_52 (x : BitVec 3) : (0#6 ++ x : BitVec 9).extractLsb' 3 6 = 0#6 := by
  show BitVec.extractLsb' 3 6 (0#6 ++ x) = 0#6
  exact (extract_high _ _ (by decide)).trans (extract_all _)

@[simp] theorem part_53 (x : BitVec 3) : (0#6 ++ x : BitVec 9).extractLsb' 0 3 = x := by
  show BitVec.extractLsb' 0 3 (0#6 ++ x) = x
  exact extract_low _ _

@[simp] theorem part_54 (x : BitVec 1) : (x ++ 0#8 : BitVec 9).extractLsb' 8 1 = x := by
  show BitVec.extractLsb' 8 1 (x ++ 0#8) = x
  exact (extract_high _ _ (by decide)).trans (extract_all _)

@[simp] theorem part_55 (x : BitVec 1) : (x ++ 0#8 : BitVec 9).extractLsb' 0 8 = 0#8 := by
  show BitVec.extractLsb' 0 8 (x ++ 0#8) = 0#8
  exact extract_low _ _

@[simp] theorem part_56 (x : BitVec 7) : (0#1 ++ x ++ 0#1 : BitVec 9).extractLsb' 8 1 = 0#1 := by
  show BitVec.extractLsb' 8 1 (0#1 ++ x ++ 0#1) = 0#1
  exact (extract_high _ _ (by decide)).trans ((extract_high _ _ (by decide)).trans (extract_all _))

@[simp] theorem part_57 (x : BitVec 7) : (0#1 ++ x ++ 0#1 : BitVec 9).extractLsb' 1 7 = x := by
  show BitVec.extractLsb' 1 7 (0#1 ++ x ++ 0#1) = x
  exact (extract_high _ _ (by decide)).trans (extract_low _ _)

@[simp] theorem part_58 (x : BitVec 7) : (0#1 ++ x ++ 0#1 : BitVec 9).extractLsb' 0 1 = 0#1 := by
  show BitVec.extractLsb' 0 1 (0#1 ++ x ++ 0#1) = 0#1
  exact extract_low _ _

@[simp] theorem part_59 (x : BitVec 1) : (x ++ 1#8 : BitVec 9).extractLsb' 8 1 = x := by
  show BitVec.extractLsb' 8 1 (x ++ 1#8) = x
  exact (extract_high _ _ (by decide)).trans (extract_all _)

@[simp] theorem part_60 (x : BitVec 1) : (x ++ 1#8 : BitVec 9).extractLsb' 0 8 = 1#8 := by
  show BitVec.extractLsb' 0 8 (x ++ 1#8) = 1#8
  exact extract_low _ _

/-! ## Parts that cross the others' bounds -/

@[simp] theorem cross_fence (s : BitVec 3) (r : BitVec 2) : (s ++ r ++ 0#4 : BitVec 9).extractLsb' 1 3 = 0#3 := by
  revert s r; decide

@[simp] theorem cross_fenceLayer (s : BitVec 3) (r : BitVec 2) : (s ++ r ++ 2#4 : BitVec 9).extractLsb' 1 3 = 1#3 := by
  revert s r; decide

@[simp] theorem cross_commit (k : BitVec 3) : (0#6 ++ k : BitVec 9).extractLsb' 0 8 = k.setWidth 8 := by
  revert k; decide

theorem cross_commit_zero (k : BitVec 3) : k.setWidth 8 = 0#8 ↔ k = 0#3 := by
  revert k; decide

@[simp] theorem cross_squashReg (p : BitVec 1) : (p ++ 1#8 : BitVec 9).extractLsb' 0 1 = 1#1 := by
  revert p; decide

end Sys2Proof
end

