-- ==== Sys2Proof/Laws/Words.lean ====
section
/-!
SUPPORT. What the shared operations of a word can do: the checks, the move past the word, and a result at a fixed
latency.
-/
namespace Sys2Proof.Machine
open Sys2Proof

/-! ## The checks -/

/-- A clear word starts. -/
theorem start_of_clear {i : Instr} {s : State} {g : Go} (h : Clear i s g) : start (shapeOf i) s = .go g := by
  obtain ⟨⟨iss, b, hi, hb, hg⟩, hc, hh, hr⟩ := h
  unfold start
  simp only [hi, hb]
  rw [← hg, hc]
  simp [hh, hr]

/-- A clear word has its effect. -/
theorem issueWord_of_clear {i : Instr} {s : State} {g : Go} (h : Clear i s g) (effect : Go → State → State) :
    issueWord (shapeOf i) s effect = done (effect g s) := by
  unfold issueWord
  rw [start_of_clear h]

/-- A word that meets a check traps with its cause. -/
theorem issueWord_of_cause {i : Instr} {s : State} {g : Go} (h : Issues i s g) {c : BitVec 8}
    (hc : g.checkCause (shapeOf i) s = some c) (effect : Go → State → State) :
    issueWord (shapeOf i) s effect = done (g.trap { cause := c } s) := by
  obtain ⟨iss, b, hi, hb, hg⟩ := h
  unfold issueWord start
  simp only [hi, hb]
  rw [← hg, hc]

/-- A word that is held changes nothing but when its barge issues. -/
theorem issueWord_of_hold {i : Instr} {s : State} {g : Go} (h : Issues i s g) (hc : g.checkCause (shapeOf i) s = none)
    (hh : g.holdReason (shapeOf i) s ≠ .none) (effect : Go → State → State) :
    issueWord (shapeOf i) s effect = done (s.hold g.core g.slot (g.holdReason (shapeOf i) s)) := by
  obtain ⟨iss, b, hi, hb, hg⟩ := h
  unfold issueWord start
  simp only [hi, hb]
  rw [← hg, hc]
  simp [hh]

/-- A word under a label that is not live traps (step 10 of R47). -/
theorem issueWord_of_reach {i : Instr} {s : State} {g : Go} (h : Issues i s g) (hc : g.checkCause (shapeOf i) s = none)
    (hh : g.holdReason (shapeOf i) s = .none) {c : BitVec 8} (hr : g.reachCause (shapeOf i) s = some c)
    (effect : Go → State → State) : issueWord (shapeOf i) s effect = done (g.trap { cause := c } s) := by
  obtain ⟨iss, b, hi, hb, hg⟩ := h
  unfold issueWord start
  simp only [hi, hb]
  rw [← hg, hc]
  simp [hh, hr]

/-- A word that issues answers a next state, whatever it meets. -/
theorem issueWord_next {sh : Shape} {s : State} {iss : Issue} {b : Barge} (hi : s.issue = some iss)
    (hb : s.barge iss.core iss.slot = some b) (effect : Go → State → State) :
    ∃ t, issueWord sh s effect = .next t := by
  unfold issueWord
  cases h : start sh s with
  | noIssue =>
    exfalso
    unfold start at h
    simp only [hi, hb] at h
    split at h
    · cases h
    · split at h
      · cases h
      · split at h <;> cases h
  | stop t => exact ⟨_, rfl⟩
  | go g => exact ⟨_, rfl⟩

/-- What a clear word runs with. -/
theorem Clear.barge {i : Instr} {s : State} {g : Go} (h : Clear i s g) : s.barge g.core g.slot = some g.b := by
  obtain ⟨⟨iss, b, _, hb, hg⟩, _⟩ := h
  subst hg
  exact hb

theorem Clear.issue {i : Instr} {s : State} {g : Go} (h : Clear i s g) : s.issue.isNone = false := by
  obtain ⟨⟨iss, b, hi, _⟩, _⟩ := h
  simp [hi]

/-! ## Moving past a word -/

@[simp] theorem Barge.pass_v (b : Barge) (n : Nat) (m : Mask) (a : Dword) (p : Pre) (r : Bool) : (b.pass n m a p r).v = b.v := rfl
@[simp] theorem Barge.pass_s (b : Barge) (n : Nat) (m : Mask) (a : Dword) (p : Pre) (r : Bool) : (b.pass n m a p r).s = b.s := rfl
@[simp] theorem Barge.pass_preds (b : Barge) (n : Nat) (m : Mask) (a : Dword) (p : Pre) (r : Bool) :
    (b.pass n m a p r).preds = b.preds := rfl

theorem Barge.pass_control (b : Barge) (n : Nat) (m : Mask) (a : Dword) (p : Pre) (r : Bool) :
    KeepsControl b (b.pass n m a p r) := by
  constructor <;> rfl

theorem Barge.pass_pcs (b : Barge) (n : Nat) (m : Mask) (a : Dword) (p : Pre) (r : Bool) {i : Nat} (hi : i < 32) :
    (b.pass n m a p r).pcs.getD i 0 = if !r && laneOn m i then a + 4 else b.pcs.getD i 0 := by
  cases r
  · simp [Barge.pass, List.getD_eq_getElem?_getD, hi]
  · simp [Barge.pass]

/-- The barge after a word. -/
@[simp] theorem Go.finish_barge (g : Go) (b : Barge) (s : State) :
    (g.finish b s).barge g.core g.slot = some (b.pass s.now g.group g.addr g.pre g.replay) := by
  simp [Go.finish, State.noteIssue]

theorem Go.finish_other (g : Go) (b : Barge) (s : State) {k m : Nat} (h : 512 * k + m ≠ 512 * g.core + g.slot) :
    (g.finish b s).barge k m = s.barge k m := by
  simp [Go.finish, State.noteIssue, State.barge_setBarge_other _ _ h]

theorem State.byteAt_congr {s t : State} (hm : t.mem = s.mem) (hp : t.pending = s.pending) (a : Nat) :
    t.byteAt a = s.byteAt a := by
  unfold State.byteAt
  rw [hm, hp]

/-- A word that only moves on leaves the rest of the machine. -/
theorem Go.finish_machine (g : Go) (b : Barge) (s : State) : KeepsMachine g s (g.finish b s) := by
  have core (k : Nat) : ((g.finish b s).core k).localMem = (s.core k).localMem ∧
      ((g.finish b s).core k).tile = (s.core k).tile := by
    unfold Go.finish State.noteIssue
    simp only [State.core_setCtx]
    by_cases h : k = g.core
    · subst h
      rw [State.core_setCore_same]
      exact ⟨rfl, rfl⟩
    · rw [State.core_setCore_other _ _ h]
      exact ⟨rfl, rfl⟩
  exact ⟨fun k m h => Go.finish_other g b s h, State.byteAt_congr rfl rfl, fun k => (core k).1, fun k => (core k).2,
    rfl, rfl, rfl, rfl, rfl, rfl, rfl, rfl⟩

/-- The end of a meaning changes nothing that a program sees. -/
theorem KeepsMachine.rest {g : Go} {s t : State} (h : KeepsMachine g s t) : KeepsMachine g s t.rest :=
  ⟨h.barges, fun a => (State.byteAt_congr rfl rfl a).trans (h.memory a), h.localMem, h.tile, h.lines, h.versions, h.hub,
    h.towers, h.clusters, h.wgs, h.flights, h.agenda⟩

theorem Retired.rest {g : Go} {s t : State} {d : Dst} {f : Nat → List Word} (h : Retired g s t d f) :
    Retired g s t.rest d f := ⟨h.machine.rest, h.barge⟩

/-! ## Results at a fixed latency -/

theorem tableLane_eq (active : Mask) (f : Nat → LaneResult) {i : Nat} (hi : i < 32) (h : laneOn active i = true) :
    tableLane (laneTable active f) i = f i := by
  simp [tableLane, laneTable, List.getD_eq_getElem?_getD, hi, h]

/-- A written destination holds its words in the active lanes. -/
theorem Barge.holds_write (b : Barge) {active : Mask} {d : Dst} {f : Nat → List Word}
    (h : nonUniform active d f = false) {i : Nat} (hi : i < 32) (ha : laneOn active i = true) :
    (b.write active d f).holds d i (f i) := by
  unfold Barge.holds
  cases hd : isScalar d.spec with
  | true =>
    obtain ⟨l, hl⟩ := lowestLane_isSome hi ha
    simp [Barge.sreg_write b active d f hd hl, eq_lowest_of_uniform hd h hi ha hl]
  | false =>
    simp only [Bool.false_eq_true, if_false]
    intro k hk
    rw [Barge.vreg_write b active d f hd hi, if_pos ⟨ha, by omega, by omega⟩]
    congr 1
    omega

theorem Barge.keeps_write (b : Barge) (active : Mask) (d : Dst) (f : Nat → List Word) :
    KeepsRegisters b (b.write active d f) active d := by
  constructor
  · intro r i hi h
    cases hd : isScalar d.spec with
    | true => exact Barge.vreg_write_scalar b active d f hd r i
    | false =>
      rw [Barge.vreg_write b active d f hd hi, if_neg]
      rintro ⟨ha, hc⟩
      rcases h with h | h
      · exact h ⟨hd, hc⟩
      · rw [ha] at h; cases h
  · intro n h
    cases hd : isScalar d.spec with
    | false => exact Barge.sreg_write_vector b active d f hd n
    | true =>
      cases hl : lowestLane active with
      | none => unfold Barge.write; rw [if_pos hd, hl]; rfl
      | some l =>
        rw [Barge.sreg_write b active d f hd hl, if_neg]
        rcases h with h | h
        · rw [hd] at h; cases h
        · exact h

/-- Registers are looked up in v and s alone. -/
theorem Barge.vreg_congr {b b' : Barge} (h : b'.v = b.v) (r i : Nat) : b'.vreg r i = b.vreg r i := by
  unfold Barge.vreg; rw [h]

theorem Barge.sreg_congr {b b' : Barge} (h : b'.s = b.s) (n : Nat) : b'.sreg n = b.sreg n := by
  unfold Barge.sreg; rw [h]

theorem Barge.holds_congr {b b' : Barge} (hv : b'.v = b.v) (hs : b'.s = b.s) {d : Dst} {i : Nat} {ws : List Word}
    (h : b.holds d i ws) : b'.holds d i ws := by
  unfold Barge.holds at *
  simpa only [Barge.vreg_congr hv, Barge.sreg_congr hs] using h

theorem KeepsRegisters.congr {b b' c : Barge} {m : Mask} {d : Dst} (h : KeepsRegisters b b' m d) (hv : c.v = b'.v)
    (hs : c.s = b'.s) : KeepsRegisters b c m d :=
  ⟨fun r i hi h' => (Barge.vreg_congr hv r i).trans (h.v r i hi h'), fun n h' => (Barge.sreg_congr hs n).trans (h.s n h')⟩

theorem nonUniform_table (active : Mask) (d : Dst) (f : Nat → LaneResult)
    (h : nonUniform active d (fun i => (f i).words) = false) :
    nonUniform active d (fun i => (tableLane (laneTable active f) i).words) = false := by
  unfold nonUniform at *
  cases hd : isScalar d.spec with
  | false => rfl
  | true =>
    rw [hd] at h
    cases hl : lowestLane active with
    | none => rfl
    | some l =>
      rw [hl] at h
      simp only [Bool.true_and, List.any_eq_false, decide_eq_true_eq, ne_eq, not_not] at h ⊢
      have hm : l < 32 ∧ laneOn active l = true := by
        unfold lowestLane at hl
        exact ⟨List.mem_range.1 (List.mem_of_find?_eq_some hl), List.find?_some hl⟩
      intro j hj
      rw [tableLane_eq active f (mem_lanesIn.1 hj).1 (mem_lanesIn.1 hj).2, tableLane_eq active f hm.1 hm.2]
      exact h j hj

theorem KeepsControl.write {b c : Barge} (h : KeepsControl b c) (active : Mask) (d : Dst) (f : Nat → List Word) :
    KeepsControl b (c.write active d f) := by
  rw [Barge.write_eq]
  exact ⟨h.preds, h.fctl, h.tag, h.handler, h.trap, h.trapCode, h.trapCause, h.trapFrame, h.joins, h.running, h.exited⟩

theorem Barge.pcs_write (b : Barge) (active : Mask) (d : Dst) (f : Nat → List Word) : (b.write active d f).pcs = b.pcs := by
  rw [Barge.write_eq]; rfl

/-- A barge that takes a result and passes its word, from one that differs from the word's own in neither registers nor
control. -/
theorem Go.finish_write_retired (g : Go) (b1 : Barge) (d : Dst) (f h : Nat → List Word) (t : Nat) (s : State)
    (hv : b1.v = g.b.v) (hs : b1.s = g.b.s) (hp : b1.pcs = g.b.pcs) (hc : KeepsControl g.b b1)
    (hu : nonUniform g.active d f = false) (hf : ∀ i, i < 32 → laneOn g.active i = true → f i = h i) :
    Retired g s (g.finish ((b1.write g.active d f).readyFrom d t) s) d h := by
  refine ⟨Go.finish_machine .., _, Go.finish_barge .., ?_, ?_, ?_, ?_⟩
  · intro i hi ha
    rw [← hf i hi ha]
    exact Barge.holds_congr rfl rfl (Barge.holds_write b1 hu hi ha)
  · have := (Barge.keeps_write b1 g.active d f).congr (c := ((b1.write g.active d f).readyFrom d t).pass s.now g.group g.addr
      g.pre g.replay) rfl rfl
    exact ⟨fun r i hi h' => (this.v r i hi h').trans (Barge.vreg_congr hv r i),
      fun n h' => (this.s n h').trans (Barge.sreg_congr hs n)⟩
  · have := hc.write g.active d f
    exact ⟨this.preds, this.fctl, this.tag, this.handler, this.trap, this.trapCode, this.trapCause, this.trapFrame,
      this.joins, this.running, this.exited⟩
  · intro i hi
    rw [Barge.pass_pcs _ _ _ _ _ _ hi]
    simp only [Barge.readyFrom, Barge.pcs_write, hp]

/-- A result that raises no enabled flag is in its destination, and nothing else that a program sees has changed. -/
theorem Go.writeFixed_retired (g : Go) (d : Dst) (latency : Nat) (f : Nat → LaneResult) (s : State)
    (he : enabledCause g.b.fctl.enable (raisedFlags g.active (tableLane (laneTable g.active f))) = none)
    (hu : nonUniform g.active d (fun i => (f i).words) = false) :
    Retired g s (g.writeFixed d latency f s) d (fun i => (f i).words) := by
  have hw := nonUniform_table g.active d f hu
  unfold Go.writeFixed
  simp only [he]
  refine Go.finish_write_retired g _ d _ _ _ s ?_ ?_ ?_ ?_ hw fun i hi ha => by rw [tableLane_eq g.active f hi ha]
  all_goals split <;> first | rfl | (constructor <;> rfl)

/-- As writeFixed, where the result is one that R22 allows. -/
theorem Go.writeChecked_retired (g : Go) (d : Dst) (latency : Nat) (f : Nat → LaneResult) (s : State)
    (he : enabledCause g.b.fctl.enable (raisedFlags g.active (tableLane (laneTable g.active f))) = none)
    (hu : nonUniform g.active d (fun i => (f i).words) = false) :
    Retired g s (g.writeChecked d latency f s) d (fun i => (f i).words) := by
  unfold Go.writeChecked
  rw [nonUniform_table g.active d f hu]
  exact Go.writeFixed_retired g d latency f s he hu

/-- As writeChecked, for a word that can raise flags. -/
theorem Go.writeFloat_retired (g : Go) (d : Dst) (latency : Nat) (f : Nat → LaneResult) (s : State)
    (he : enabledCause g.b.fctl.enable (raisedFlags g.active (tableLane (laneTable g.active f))) = none)
    (hu : nonUniform g.active d (fun i => (f i).words) = false) :
    Retired g s (g.writeFloat d latency f s) d (fun i => (f i).words) := by
  have := Go.writeChecked_retired { g with b := { g.b with flagUntil := max g.b.flagUntil (s.now + latency) } } d latency f s
    he hu
  obtain ⟨hm, b', hb, h1, h2, h3, h4⟩ := this
  exact ⟨⟨hm.barges, hm.memory, hm.localMem, hm.tile, hm.lines, hm.versions, hm.hub, hm.towers, hm.clusters, hm.wgs,
    hm.flights, hm.agenda⟩, b', hb, h1, ⟨h2.v, h2.s⟩, ⟨h3.preds, h3.fctl, h3.tag, h3.handler, h3.trap, h3.trapCode,
    h3.trapCause, h3.trapFrame, h3.joins, h3.running, h3.exited⟩, h4⟩

/-- The flags of a mask whose lanes raise none. -/
theorem raisedFlags_none (active : Mask) (f : Nat → LaneResult) (h : ∀ i, (f i).flags = {}) :
    raisedFlags active f = {} := by
  unfold raisedFlags
  induction lanesIn active with
  | nil => rfl
  | cons i ls ih => simp [h, Flags.or]

/-- A word whose results carry no flags takes none of the traps of R71. -/
theorem enabledCause_plain (en : Flags) (active : Mask) (f : Nat → List Word) :
    enabledCause en (raisedFlags active (tableLane (laneTable active fun i => plain (f i)))) = none := by
  rw [raisedFlags_none]
  · simp [enabledCause]
  · intro i
    simp only [tableLane, laneTable, List.getD_eq_getElem?_getD, List.getElem?_map]
    cases (List.range 32)[i]? with
    | none => rfl
    | some j => simp only [Option.map_some, Option.getD_some]; split <;> rfl

/-- A result that differs between active lanes does not go into a scalar register: the word traps SCALAR_NONUNIFORM. -/
theorem Go.writeChecked_nonUniform (g : Go) (d : Dst) (latency : Nat) (f : Nat → LaneResult) (s : State)
    (hu : nonUniform g.active d (fun i => (tableLane (laneTable g.active f) i).words) = true) :
    g.writeChecked d latency f s = g.trap { cause := 0x06 } s := by
  unfold Go.writeChecked
  rw [hu]
  rfl

end Sys2Proof.Machine
end

