-- ==== Sys2Proof/Laws/Ops.lean ====
section
/-!
SUPPORT. What each shared operation of the meanings leaves: one lemma that says all of it, to be cited instead of unfolding it.
-/
namespace Sys2Proof.Machine
open Sys2Proof

/-- A release gets the next number, and its record stands under it. -/
theorem State.startRel_eq (s : State) (r : Rel) :
    s.startRel r = (s.nextId, { s with nextId := s.nextId + 1, rels := s.rels.put s.nextId r }) := rfl

/-- A word that waits for a scalar: its flight stands under the next number, and its barge is blocked (R25). -/
theorem Go.awaitScalar_eq (g : Go) (d : BitVec 7) (s : State) :
    g.awaitScalar d s = (s.nextId, g.finish { g.b with blocked := true }
      { s with
        nextId := s.nextId + 1
        flights := s.flights.put s.nextId { g.flight s .unit [] with
          translating := false, sent := true, captured := false, blocks := true, dst := d, words := 2 } }) := rfl

/-- A scalar that has come for a flight: its fill falls due, with the value in every lane. -/
theorem State.fillScalar_eq {s : State} {id : Nat} {f : Flight} (h : s.flights.look id = some f) (x : Dword) (delay : Nat) :
    s.fillScalar id x delay = ({ s with flights := s.flights.put id { f with result := List.replicate 32 (pairWords x) } }).post
      delay .registerFill [id] := by
  unfold State.fillScalar
  rw [h]
  rfl

/-- No flight waits for it. -/
theorem State.fillScalar_none {s : State} {id : Nat} (h : s.flights.look id = none) (x : Dword) (delay : Nat) :
    s.fillScalar id x delay = s := by
  unfold State.fillScalar
  rw [h]

/-- A change of a resident barge changes nothing else. -/
theorem State.onBarge_eq {s : State} {core slot : Nat} {b : Barge} (h : s.barge core slot = some b) (f : Barge → Barge) :
    s.onBarge core slot f = s.setBarge core slot (f b) := by
  unfold State.onBarge
  rw [h]

/-- A change of a barge that is not resident changes nothing. -/
theorem State.onBarge_none {s : State} {core slot : Nat} (h : s.barge core slot = none) (f : Barge → Barge) :
    s.onBarge core slot f = s := by
  unfold State.onBarge
  rw [h]

/-- A word that is held: its barge tries again in the next cycle, and nothing else changes. -/
theorem State.hold_eq {s : State} {core slot : Nat} {b : Barge} (h : s.barge core slot = some b) (w : Wait) :
    ∃ b', s.hold core slot w = s.setBarge core slot b' ∧ b'.readyAt = s.now + 1 ∧ b'.v = b.v ∧ b'.s = b.s
      ∧ b'.preds = b.preds ∧ b'.pcs = b.pcs ∧ b'.chain = b.chain ∧ b'.running = b.running := by
  refine ⟨_, State.onBarge_eq h _, ?_⟩
  split <;> exact ⟨rfl, rfl, rfl, rfl, rfl, rfl, rfl⟩

/-- A semaphore of the core's file, read after it is written. -/
theorem State.sem_setSem_core (s : State) (unit number m : Nat) (x : Sem) :
    (s.setSem 0 unit number x).sem 0 unit m = if m = number then x else s.sem 0 unit m := by
  unfold State.setSem State.sem
  simp only [if_true, State.core_setCore_same]
  split
  · next h => rw [h, Tab.look_put_same]; rfl
  · next h => rw [Tab.look_put_other _ _ h]

/-- The other file stands as it was. -/
theorem State.sem_setSem_file (s : State) (unit number unit' m : Nat) (x : Sem) :
    (s.setSem 0 unit number x).sem 1 unit' m = s.sem 1 unit' m := rfl

/-- A write of a semaphore changes no barge. -/
theorem State.barge_setSem (s : State) (file unit number k m : Nat) (x : Sem) :
    (s.setSem file unit number x).barge k m = s.barge k m := by
  unfold State.setSem
  split <;> rfl

/-- A write of a semaphore leaves memory and what is in flight. -/
theorem State.setSem_frame (s : State) (file unit number : Nat) (x : Sem) :
    (s.setSem file unit number x).mem = s.mem ∧ (s.setSem file unit number x).pending = s.pending
      ∧ (s.setSem file unit number x).flights = s.flights ∧ (s.setSem file unit number x).agenda = s.agenda := by
  unfold State.setSem
  split <;> exact ⟨rfl, rfl, rfl, rfl⟩

/-- A change of a label changes its context alone. -/
theorem State.onLabel_ctx (s : State) (ctx m : Nat) (l : BitVec 3) (f : Label → Label) :
    (s.onLabel ctx l f).ctx m = if m = ctx then (s.ctx ctx).onLabel l f else s.ctx m := by
  unfold State.onLabel
  split
  · next h => rw [h, State.ctx_setCtx_same]
  · next h => rw [State.ctx_setCtx_other _ _ h]

end Sys2Proof.Machine
end

