-- ==== Sys2Proof/Laws/PerInstr.lean ====
section
/-!
SUPPORT. The family Fields, one lemma for each instruction: its encoded word, taken apart by the decoder's field
tables, gives the instruction back with every operand.
-/
namespace Sys2Proof.Laws.Fields
open Sys2Proof

/-- The word of an instruction holds all its fields where the decoder looks for them. -/
def Statement (i : Instr) : Prop := ∀ w, i.wellFormed = true → encode i = some w → decodeFields w = .ok i

theorem ximm (x : BitVec 24) : Statement (.ximm x) := by
  intro w _ h; cases h; rw [decodeFields_packPrefix]; simp [decodePrefix]
theorem ximmh (x : BitVec 24) : Statement (.ximmh x) := by
  intro w _ h; cases h; rw [decodeFields_packPrefix]; simp [decodePrefix]
theorem xmod (x : BitVec 24) : Statement (.xmod x) := by
  intro w _ h; cases h; rw [decodeFields_packPrefix]; simp [decodePrefix]
theorem xpred (n : BitVec 1) (e : BitVec 3) : Statement (.xpred n e) := by
  intro w _ h; cases h; rw [decodeFields_packPrefix]; simp [decodePrefix]
theorem xopd (p : BitVec 1) (c : BitVec 7) (q : BitVec 1) (e : BitVec 7) (z : BitVec 1) : Statement (.xopd p c q e z) := by
  intro w _ h; cases h; rw [decodeFields_packPrefix]; simp [decodePrefix]
theorem xsch (y : BitVec 1) (s : BitVec 5) : Statement (.xsch y s) := by
  intro w _ h; cases h; rw [decodeFields_packPrefix]; simp [decodePrefix]
theorem iadd (d : BitVec 7) (a : BitVec 7) (b : BitVec 7) (p : BitVec 1) (q : BitVec 1) : Statement (.iadd d a b p q) := by
  intro w _ h; cases h; simp [decodeFields, decodeClass0]
theorem isub (d : BitVec 7) (a : BitVec 7) (b : BitVec 7) (p : BitVec 1) (q : BitVec 1) : Statement (.isub d a b p q) := by
  intro w _ h; cases h; simp [decodeFields, decodeClass0]
theorem imul (d : BitVec 7) (a : BitVec 7) (b : BitVec 7) (p : BitVec 1) (q : BitVec 1) : Statement (.imul d a b p q) := by
  intro w _ h; cases h; simp [decodeFields, decodeClass0]
theorem imulh (d : BitVec 7) (a : BitVec 7) (b : BitVec 7) (p : BitVec 1) (q : BitVec 1) : Statement (.imulh d a b p q) := by
  intro w _ h; cases h; simp [decodeFields, decodeClass0]
theorem imad (d : BitVec 7) (a : BitVec 7) (b : BitVec 7) (p : BitVec 1) (q : BitVec 1) : Statement (.imad d a b p q) := by
  intro w _ h; cases h; simp [decodeFields, decodeClass0]
theorem imin (d : BitVec 7) (a : BitVec 7) (b : BitVec 7) (p : BitVec 1) (q : BitVec 1) : Statement (.imin d a b p q) := by
  intro w _ h; cases h; simp [decodeFields, decodeClass0]
theorem imax (d : BitVec 7) (a : BitVec 7) (b : BitVec 7) (p : BitVec 1) (q : BitVec 1) : Statement (.imax d a b p q) := by
  intro w _ h; cases h; simp [decodeFields, decodeClass0]
theorem iabs (d : BitVec 7) (a : BitVec 7) (p : BitVec 1) : Statement (.iabs d a p) := by
  intro w _ h; cases h; simp [decodeFields, decodeClass0]
theorem ishl (d : BitVec 7) (a : BitVec 7) (b : BitVec 7) (p : BitVec 1) (q : BitVec 1) : Statement (.ishl d a b p q) := by
  intro w _ h; cases h; simp [decodeFields, decodeClass0]
theorem ishr (d : BitVec 7) (a : BitVec 7) (b : BitVec 7) (p : BitVec 1) (q : BitVec 1) : Statement (.ishr d a b p q) := by
  intro w _ h; cases h; simp [decodeFields, decodeClass0]
theorem lshr (d : BitVec 7) (a : BitVec 7) (b : BitVec 7) (p : BitVec 1) (q : BitVec 1) : Statement (.lshr d a b p q) := by
  intro w _ h; cases h; simp [decodeFields, decodeClass0]
theorem popc (d : BitVec 7) (a : BitVec 7) (p : BitVec 1) : Statement (.popc d a p) := by
  intro w _ h; cases h; simp [decodeFields, decodeClass0]
theorem clz (d : BitVec 7) (a : BitVec 7) (p : BitVec 1) : Statement (.clz d a p) := by
  intro w _ h; cases h; simp [decodeFields, decodeClass0]
theorem brev (d : BitVec 7) (a : BitVec 7) (p : BitVec 1) : Statement (.brev d a p) := by
  intro w _ h; cases h; simp [decodeFields, decodeClass0]
theorem iaddImm (d : BitVec 7) (a : BitVec 7) (p : BitVec 1) (i : BitVec 8) : Statement (.iaddImm d a p i) := by
  intro w _ h; cases h; simp [decodeFields, decodeClass1]
theorem imulImm (d : BitVec 7) (a : BitVec 7) (p : BitVec 1) (i : BitVec 8) : Statement (.imulImm d a p i) := by
  intro w _ h; cases h; simp [decodeFields, decodeClass1]
theorem iminImm (d : BitVec 7) (a : BitVec 7) (p : BitVec 1) (i : BitVec 8) : Statement (.iminImm d a p i) := by
  intro w _ h; cases h; simp [decodeFields, decodeClass1]
theorem imaxImm (d : BitVec 7) (a : BitVec 7) (p : BitVec 1) (i : BitVec 8) : Statement (.imaxImm d a p i) := by
  intro w _ h; cases h; simp [decodeFields, decodeClass1]
theorem ishlImm (d : BitVec 7) (a : BitVec 7) (p : BitVec 1) (i : BitVec 8) : Statement (.ishlImm d a p i) := by
  intro w _ h; cases h; simp [decodeFields, decodeClass1]
theorem ishrImm (d : BitVec 7) (a : BitVec 7) (p : BitVec 1) (i : BitVec 8) : Statement (.ishrImm d a p i) := by
  intro w _ h; cases h; simp [decodeFields, decodeClass1]
theorem lshrImm (d : BitVec 7) (a : BitVec 7) (p : BitVec 1) (i : BitVec 8) : Statement (.lshrImm d a p i) := by
  intro w _ h; cases h; simp [decodeFields, decodeClass1]
theorem logic3 (d : BitVec 7) (a : BitVec 7) (p : BitVec 1) (t : BitVec 8) : Statement (.logic3 d a p t) := by
  intro w _ h; cases h; simp [decodeFields, decodeClass1]
theorem bfe (d : BitVec 7) (a : BitVec 7) (b : BitVec 7) (p : BitVec 1) (q : BitVec 1) : Statement (.bfe d a b p q) := by
  intro w _ h; cases h; simp [decodeFields, decodeClass2]
theorem bfi (d : BitVec 7) (a : BitVec 7) (b : BitVec 7) (p : BitVec 1) (q : BitVec 1) : Statement (.bfi d a b p q) := by
  intro w _ h; cases h; simp [decodeFields, decodeClass2]
theorem lea (d : BitVec 7) (a : BitVec 7) (b : BitVec 7) (p : BitVec 1) (q : BitVec 1) : Statement (.lea d a b p q) := by
  intro w _ h; cases h; simp [decodeFields, decodeClass2]
theorem shf (d : BitVec 7) (a : BitVec 7) (b : BitVec 7) (p : BitVec 1) (q : BitVec 1) : Statement (.shf d a b p q) := by
  intro w _ h; cases h; simp [decodeFields, decodeClass2]
theorem iadd64 (d : BitVec 7) (a : BitVec 7) (b : BitVec 7) (p : BitVec 1) (q : BitVec 1) : Statement (.iadd64 d a b p q) := by
  intro w _ h; cases h; simp [decodeFields, decodeClass2]
theorem isub64 (d : BitVec 7) (a : BitVec 7) (b : BitVec 7) (p : BitVec 1) (q : BitVec 1) : Statement (.isub64 d a b p q) := by
  intro w _ h; cases h; simp [decodeFields, decodeClass2]
theorem imul64 (d : BitVec 7) (a : BitVec 7) (b : BitVec 7) (p : BitVec 1) (q : BitVec 1) : Statement (.imul64 d a b p q) := by
  intro w _ h; cases h; simp [decodeFields, decodeClass2]
theorem imad64 (d : BitVec 7) (a : BitVec 7) (b : BitVec 7) (p : BitVec 1) (q : BitVec 1) : Statement (.imad64 d a b p q) := by
  intro w _ h; cases h; simp [decodeFields, decodeClass2]
theorem icmp (k : BitVec 4) (e : BitVec 3) (a : BitVec 7) (b : BitVec 7) (p : BitVec 1) (q : BitVec 1) : Statement (.icmp k e a b p q) := by
  intro w _ h; cases h; simp [decodeFields, decodeClass3]
theorem fcmp (k : BitVec 4) (e : BitVec 3) (a : BitVec 7) (b : BitVec 7) (p : BitVec 1) (q : BitVec 1) : Statement (.fcmp k e a b p q) := by
  intro w _ h; cases h; simp [decodeFields, decodeClass3]
theorem fclass (e : BitVec 3) (a : BitVec 7) (m : BitVec 7) (p : BitVec 1) : Statement (.fclass e a m p) := by
  intro w _ h; cases h; simp [decodeFields, decodeClass3]
theorem sel (d : BitVec 7) (a : BitVec 7) (b : BitVec 7) (p : BitVec 1) (q : BitVec 1) : Statement (.sel d a b p q) := by
  intro w _ h; cases h; simp [decodeFields, decodeClass3]
theorem pand (e : BitVec 3) (f : BitVec 3) (g : BitVec 3) : Statement (.pand e f g) := by
  intro w _ h; cases h; simp [decodeFields, decodeClass3]
theorem por (e : BitVec 3) (f : BitVec 3) (g : BitVec 3) : Statement (.por e f g) := by
  intro w _ h; cases h; simp [decodeFields, decodeClass3]
theorem pxor (e : BitVec 3) (f : BitVec 3) (g : BitVec 3) : Statement (.pxor e f g) := by
  intro w _ h; cases h; simp [decodeFields, decodeClass3]
theorem pnot (e : BitVec 3) (f : BitVec 3) : Statement (.pnot e f) := by
  intro w _ h; cases h; simp [decodeFields, decodeClass3]
theorem fadd (d : BitVec 7) (a : BitVec 7) (b : BitVec 7) (p : BitVec 1) (q : BitVec 1) : Statement (.fadd d a b p q) := by
  intro w _ h; cases h; simp [decodeFields, decodeClass4]
theorem fsub (d : BitVec 7) (a : BitVec 7) (b : BitVec 7) (p : BitVec 1) (q : BitVec 1) : Statement (.fsub d a b p q) := by
  intro w _ h; cases h; simp [decodeFields, decodeClass4]
theorem fmul (d : BitVec 7) (a : BitVec 7) (b : BitVec 7) (p : BitVec 1) (q : BitVec 1) : Statement (.fmul d a b p q) := by
  intro w _ h; cases h; simp [decodeFields, decodeClass4]
theorem ffma (d : BitVec 7) (a : BitVec 7) (b : BitVec 7) (p : BitVec 1) (q : BitVec 1) : Statement (.ffma d a b p q) := by
  intro w _ h; cases h; simp [decodeFields, decodeClass4]
theorem fmin (d : BitVec 7) (a : BitVec 7) (b : BitVec 7) (p : BitVec 1) (q : BitVec 1) : Statement (.fmin d a b p q) := by
  intro w _ h; cases h; simp [decodeFields, decodeClass4]
theorem fmax (d : BitVec 7) (a : BitVec 7) (b : BitVec 7) (p : BitVec 1) (q : BitVec 1) : Statement (.fmax d a b p q) := by
  intro w _ h; cases h; simp [decodeFields, decodeClass4]
theorem frnd (d : BitVec 7) (a : BitVec 7) (p : BitVec 1) : Statement (.frnd d a p) := by
  intro w _ h; cases h; simp [decodeFields, decodeClass4]
theorem fabs (d : BitVec 7) (a : BitVec 7) (p : BitVec 1) : Statement (.fabs d a p) := by
  intro w _ h; cases h; simp [decodeFields, decodeClass4]
theorem fneg (d : BitVec 7) (a : BitVec 7) (p : BitVec 1) : Statement (.fneg d a p) := by
  intro w _ h; cases h; simp [decodeFields, decodeClass4]
theorem fscale (d : BitVec 7) (a : BitVec 7) (b : BitVec 7) (p : BitVec 1) (q : BitVec 1) : Statement (.fscale d a b p q) := by
  intro w _ h; cases h; simp [decodeFields, decodeClass4]
theorem faddPacked (d : BitVec 7) (a : BitVec 7) (b : BitVec 7) (p : BitVec 1) (q : BitVec 1) : Statement (.faddPacked d a b p q) := by
  intro w _ h; cases h; simp [decodeFields, decodeClass5]
theorem fsubPacked (d : BitVec 7) (a : BitVec 7) (b : BitVec 7) (p : BitVec 1) (q : BitVec 1) : Statement (.fsubPacked d a b p q) := by
  intro w _ h; cases h; simp [decodeFields, decodeClass5]
theorem fmulPacked (d : BitVec 7) (a : BitVec 7) (b : BitVec 7) (p : BitVec 1) (q : BitVec 1) : Statement (.fmulPacked d a b p q) := by
  intro w _ h; cases h; simp [decodeFields, decodeClass5]
theorem ffmaPacked (d : BitVec 7) (a : BitVec 7) (b : BitVec 7) (p : BitVec 1) (q : BitVec 1) : Statement (.ffmaPacked d a b p q) := by
  intro w _ h; cases h; simp [decodeFields, decodeClass5]
theorem fminPacked (d : BitVec 7) (a : BitVec 7) (b : BitVec 7) (p : BitVec 1) (q : BitVec 1) : Statement (.fminPacked d a b p q) := by
  intro w _ h; cases h; simp [decodeFields, decodeClass5]
theorem fmaxPacked (d : BitVec 7) (a : BitVec 7) (b : BitVec 7) (p : BitVec 1) (q : BitVec 1) : Statement (.fmaxPacked d a b p q) := by
  intro w _ h; cases h; simp [decodeFields, decodeClass5]
theorem frndPacked (d : BitVec 7) (a : BitVec 7) (p : BitVec 1) : Statement (.frndPacked d a p) := by
  intro w _ h; cases h; simp [decodeFields, decodeClass5]
theorem fabsPacked (d : BitVec 7) (a : BitVec 7) (p : BitVec 1) : Statement (.fabsPacked d a p) := by
  intro w _ h; cases h; simp [decodeFields, decodeClass5]
theorem fnegPacked (d : BitVec 7) (a : BitVec 7) (p : BitVec 1) : Statement (.fnegPacked d a p) := by
  intro w _ h; cases h; simp [decodeFields, decodeClass5]
theorem fscalePacked (d : BitVec 7) (a : BitVec 7) (b : BitVec 7) (p : BitVec 1) (q : BitVec 1) : Statement (.fscalePacked d a b p q) := by
  intro w _ h; cases h; simp [decodeFields, decodeClass5]
theorem faddImm (d : BitVec 7) (a : BitVec 7) (p : BitVec 1) (i : BitVec 8) : Statement (.faddImm d a p i) := by
  intro w _ h; cases h; simp [decodeFields, decodeClass6]
theorem fmulImm (d : BitVec 7) (a : BitVec 7) (p : BitVec 1) (i : BitVec 8) : Statement (.fmulImm d a p i) := by
  intro w _ h; cases h; simp [decodeFields, decodeClass6]
theorem ffmaImm (d : BitVec 7) (a : BitVec 7) (p : BitVec 1) (i : BitVec 8) : Statement (.ffmaImm d a p i) := by
  intro w _ h; cases h; simp [decodeFields, decodeClass6]
theorem fminImm (d : BitVec 7) (a : BitVec 7) (p : BitVec 1) (i : BitVec 8) : Statement (.fminImm d a p i) := by
  intro w _ h; cases h; simp [decodeFields, decodeClass6]
theorem rcp (d : BitVec 7) (a : BitVec 7) (p : BitVec 1) : Statement (.rcp d a p) := by
  intro w _ h; cases h; simp [decodeFields, decodeClass7]
theorem rsq (d : BitVec 7) (a : BitVec 7) (p : BitVec 1) : Statement (.rsq d a p) := by
  intro w _ h; cases h; simp [decodeFields, decodeClass7]
theorem sqrt (d : BitVec 7) (a : BitVec 7) (p : BitVec 1) : Statement (.sqrt d a p) := by
  intro w _ h; cases h; simp [decodeFields, decodeClass7]
theorem exp2 (d : BitVec 7) (a : BitVec 7) (p : BitVec 1) : Statement (.exp2 d a p) := by
  intro w _ h; cases h; simp [decodeFields, decodeClass7]
theorem log2 (d : BitVec 7) (a : BitVec 7) (p : BitVec 1) : Statement (.log2 d a p) := by
  intro w _ h; cases h; simp [decodeFields, decodeClass7]
theorem sinpi (d : BitVec 7) (a : BitVec 7) (p : BitVec 1) : Statement (.sinpi d a p) := by
  intro w _ h; cases h; simp [decodeFields, decodeClass7]
theorem cospi (d : BitVec 7) (a : BitVec 7) (p : BitVec 1) : Statement (.cospi d a p) := by
  intro w _ h; cases h; simp [decodeFields, decodeClass7]
theorem tanh (d : BitVec 7) (a : BitVec 7) (p : BitVec 1) : Statement (.tanh d a p) := by
  intro w _ h; cases h; simp [decodeFields, decodeClass7]
theorem divf (d : BitVec 7) (a : BitVec 7) (b : BitVec 7) (p : BitVec 1) (q : BitVec 1) : Statement (.divf d a b p q) := by
  intro w _ h; cases h; simp [decodeFields, decodeClass7]
theorem fcvt (d : BitVec 7) (a : BitVec 7) (p : BitVec 1) : Statement (.fcvt d a p) := by
  intro w _ h; cases h; simp [decodeFields, decodeClass8]
theorem icvt (d : BitVec 7) (a : BitVec 7) (p : BitVec 1) : Statement (.icvt d a p) := by
  intro w _ h; cases h; simp [decodeFields, decodeClass8]
theorem ftoi (d : BitVec 7) (a : BitVec 7) (p : BitVec 1) : Statement (.ftoi d a p) := by
  intro w _ h; cases h; simp [decodeFields, decodeClass8]
theorem itof (d : BitVec 7) (a : BitVec 7) (p : BitVec 1) : Statement (.itof d a p) := by
  intro w _ h; cases h; simp [decodeFields, decodeClass8]
theorem npack (d : BitVec 7) (a : BitVec 7) (b : BitVec 7) (p : BitVec 1) (q : BitVec 1) : Statement (.npack d a b p q) := by
  intro w _ h; cases h; simp [decodeFields, decodeClass8]
theorem nunpack (d : BitVec 7) (a : BitVec 7) (p : BitVec 1) : Statement (.nunpack d a p) := by
  intro w _ h; cases h; simp [decodeFields, decodeClass8]
theorem qscale (d : BitVec 7) (a : BitVec 7) (p : BitVec 1) : Statement (.qscale d a p) := by
  intro w _ h; cases h; simp [decodeFields, decodeClass9]
theorem qpack (d : BitVec 7) (a : BitVec 7) (b : BitVec 7) (p : BitVec 1) (q : BitVec 1) : Statement (.qpack d a b p q) := by
  intro w _ h; cases h; simp [decodeFields, decodeClass9]
theorem qunpack (d : BitVec 7) (a : BitVec 7) (b : BitVec 7) (p : BitVec 1) (q : BitVec 1) : Statement (.qunpack d a b p q) := by
  intro w _ h; cases h; simp [decodeFields, decodeClass9]
theorem qdot4 (d : BitVec 7) (a : BitVec 7) (b : BitVec 7) (p : BitVec 1) (q : BitVec 1) : Statement (.qdot4 d a b p q) := by
  intro w _ h; cases h; simp [decodeFields, decodeClass9]
theorem dsmul (d : BitVec 7) (a : BitVec 7) (b : BitVec 7) (p : BitVec 1) (q : BitVec 1) : Statement (.dsmul d a b p q) := by
  intro w _ h; cases h; simp [decodeFields, decodeClass9]
theorem mov (d : BitVec 7) (a : BitVec 7) (p : BitVec 1) : Statement (.mov d a p) := by
  intro w _ h; cases h; simp [decodeFields, decodeClass10]
theorem movi (d : BitVec 7) (i : BitVec 8) : Statement (.movi d i) := by
  intro w _ h; cases h; simp [decodeFields, decodeClass10]
theorem movs (d : BitVec 7) (a : BitVec 7) (b : BitVec 7) (p : BitVec 1) (q : BitVec 1) : Statement (.movs d a b p q) := by
  intro w _ h; cases h; simp [decodeFields, decodeClass10]
theorem shfl (d : BitVec 7) (a : BitVec 7) (b : BitVec 7) (p : BitVec 1) (q : BitVec 1) : Statement (.shfl d a b p q) := by
  intro w _ h; cases h; simp [decodeFields, decodeClass10]
theorem ballot (d : BitVec 7) (e : BitVec 3) (p : BitVec 1) : Statement (.ballot d e p) := by
  intro w _ h; cases h; simp [decodeFields, decodeClass10]
theorem vote (k : BitVec 4) (e : BitVec 3) (f : BitVec 3) (p : BitVec 1) : Statement (.vote k e f p) := by
  intro w _ h; cases h; simp [decodeFields, decodeClass10]
theorem bsel (d : BitVec 7) (a : BitVec 7) (b : BitVec 7) (p : BitVec 1) (q : BitVec 1) : Statement (.bsel d a b p q) := by
  intro w _ h; cases h; simp [decodeFields, decodeClass10]
theorem bred (d : BitVec 7) (a : BitVec 7) (p : BitVec 1) : Statement (.bred d a p) := by
  intro w _ h; cases h; simp [decodeFields, decodeClass10]
theorem elect (e : BitVec 3) : Statement (.elect e) := by intro w _ h; cases h; simp [decodeFields, decodeClass10]
theorem csel (d : BitVec 7) (a : BitVec 7) (b : BitVec 7) (p : BitVec 1) (q : BitVec 1) : Statement (.csel d a b p q) := by
  intro w _ h; cases h; simp [decodeFields, decodeClass10]
theorem matchLanes (d : BitVec 7) (a : BitVec 7) (p : BitVec 1) : Statement (.matchLanes d a p) := by
  intro w _ h; cases h; simp [decodeFields, decodeClass10]
theorem lanemask (d : BitVec 7) (a : BitVec 7) (p : BitVec 1) : Statement (.lanemask d a p) := by
  intro w _ h; cases h; simp [decodeFields, decodeClass10]
theorem bra (c : BitVec 3) (e : BitVec 3) (o : BitVec 21) : Statement (.bra c e o) := by
  intro w _ h; cases h; exact decodeFields_packBranch ..
theorem jmp (a : BitVec 7) (p : BitVec 1) : Statement (.jmp a p) := by
  intro w _ h; cases h; simp [decodeFields, decodeClass12]
theorem call (d : BitVec 7) (i : BitVec 8) : Statement (.call d i) := by
  intro w _ h; cases h; simp [decodeFields, decodeClass12]
theorem calli (d : BitVec 7) (a : BitVec 7) (p : BitVec 1) : Statement (.calli d a p) := by
  intro w _ h; cases h; simp [decodeFields, decodeClass12]
theorem ret (a : BitVec 7) (p : BitVec 1) : Statement (.ret a p) := by
  intro w _ h; cases h; simp [decodeFields, decodeClass12]
theorem mark (i : BitVec 8) : Statement (.mark i) := by intro w _ h; cases h; simp [decodeFields, decodeClass12]
theorem join : Statement (.join) := by intro w _ h; cases h; simp [decodeFields, decodeClass12]
theorem reform (d : BitVec 7) (a : BitVec 7) (p : BitVec 1) (i : BitVec 8) : Statement (.reform d a p i) := by
  intro w _ h; cases h; simp [decodeFields, decodeClass12]
theorem exit : Statement (.exit) := by intro w _ h; cases h; simp [decodeFields, decodeClass12]
theorem nop : Statement (.nop) := by intro w _ h; cases h; simp [decodeFields, decodeClass12]
theorem sleep (i : BitVec 8) : Statement (.sleep i) := by intro w _ h; cases h; simp [decodeFields, decodeClass12]
theorem yield : Statement (.yield) := by intro w _ h; cases h; simp [decodeFields, decodeClass12]
theorem ldB32 (d : BitVec 7) (b : BitVec 7) (o : BitVec 8) (p : BitVec 1) : Statement (.ldB32 d b o p) := by
  intro w _ h; cases h; simp [decodeFields, decodeClass13]
theorem ldB64 (d : BitVec 7) (b : BitVec 7) (o : BitVec 8) (p : BitVec 1) : Statement (.ldB64 d b o p) := by
  intro w _ h; cases h; simp [decodeFields, decodeClass13]
theorem ldB128 (d : BitVec 7) (b : BitVec 7) (o : BitVec 8) (p : BitVec 1) : Statement (.ldB128 d b o p) := by
  intro w _ h; cases h; simp [decodeFields, decodeClass13]
theorem ldbB32 (d : BitVec 7) (b : BitVec 7) (o : BitVec 8) (p : BitVec 1) : Statement (.ldbB32 d b o p) := by
  intro w _ h; cases h; simp [decodeFields, decodeClass13]
theorem ldbB64 (d : BitVec 7) (b : BitVec 7) (o : BitVec 8) (p : BitVec 1) : Statement (.ldbB64 d b o p) := by
  intro w _ h; cases h; simp [decodeFields, decodeClass13]
theorem ldbB128 (d : BitVec 7) (b : BitVec 7) (o : BitVec 8) (p : BitVec 1) : Statement (.ldbB128 d b o p) := by
  intro w _ h; cases h; simp [decodeFields, decodeClass13]
theorem ldlB32 (d : BitVec 7) (b : BitVec 7) (o : BitVec 8) (p : BitVec 1) : Statement (.ldlB32 d b o p) := by
  intro w _ h; cases h; simp [decodeFields, decodeClass13]
theorem ldlB64 (d : BitVec 7) (b : BitVec 7) (o : BitVec 8) (p : BitVec 1) : Statement (.ldlB64 d b o p) := by
  intro w _ h; cases h; simp [decodeFields, decodeClass13]
theorem ldlB128 (d : BitVec 7) (b : BitVec 7) (o : BitVec 8) (p : BitVec 1) : Statement (.ldlB128 d b o p) := by
  intro w _ h; cases h; simp [decodeFields, decodeClass13]
theorem ldpB32 (d : BitVec 7) (b : BitVec 7) (o : BitVec 8) (p : BitVec 1) : Statement (.ldpB32 d b o p) := by
  intro w _ h; cases h; simp [decodeFields, decodeClass13]
theorem ldpB64 (d : BitVec 7) (b : BitVec 7) (o : BitVec 8) (p : BitVec 1) : Statement (.ldpB64 d b o p) := by
  intro w _ h; cases h; simp [decodeFields, decodeClass13]
theorem ldpB128 (d : BitVec 7) (b : BitVec 7) (o : BitVec 8) (p : BitVec 1) : Statement (.ldpB128 d b o p) := by
  intro w _ h; cases h; simp [decodeFields, decodeClass13]
theorem ldvB32 (d : BitVec 7) (b : BitVec 7) (o : BitVec 8) (p : BitVec 1) : Statement (.ldvB32 d b o p) := by
  intro w _ h; cases h; simp [decodeFields, decodeClass13]
theorem ldvB128 (d : BitVec 7) (b : BitVec 7) (o : BitVec 8) (p : BitVec 1) : Statement (.ldvB128 d b o p) := by
  intro w _ h; cases h; simp [decodeFields, decodeClass13]
theorem prefetch (b : BitVec 7) (o : BitVec 8) (p : BitVec 1) : Statement (.prefetch b o p) := by
  intro w _ h; cases h; simp [decodeFields, decodeClass13]
theorem invl1 : Statement (.invl1) := by intro w _ h; cases h; simp [decodeFields, decodeClass13]
theorem stB32 (d : BitVec 7) (b : BitVec 7) (o : BitVec 8) (p : BitVec 1) : Statement (.stB32 d b o p) := by
  intro w _ h; cases h; simp [decodeFields, decodeClass14]
theorem stB64 (d : BitVec 7) (b : BitVec 7) (o : BitVec 8) (p : BitVec 1) : Statement (.stB64 d b o p) := by
  intro w _ h; cases h; simp [decodeFields, decodeClass14]
theorem stB128 (d : BitVec 7) (b : BitVec 7) (o : BitVec 8) (p : BitVec 1) : Statement (.stB128 d b o p) := by
  intro w _ h; cases h; simp [decodeFields, decodeClass14]
theorem stlB32 (d : BitVec 7) (b : BitVec 7) (o : BitVec 8) (p : BitVec 1) : Statement (.stlB32 d b o p) := by
  intro w _ h; cases h; simp [decodeFields, decodeClass14]
theorem stlB64 (d : BitVec 7) (b : BitVec 7) (o : BitVec 8) (p : BitVec 1) : Statement (.stlB64 d b o p) := by
  intro w _ h; cases h; simp [decodeFields, decodeClass14]
theorem stlB128 (d : BitVec 7) (b : BitVec 7) (o : BitVec 8) (p : BitVec 1) : Statement (.stlB128 d b o p) := by
  intro w _ h; cases h; simp [decodeFields, decodeClass14]
theorem stpB32 (d : BitVec 7) (b : BitVec 7) (o : BitVec 8) (p : BitVec 1) : Statement (.stpB32 d b o p) := by
  intro w _ h; cases h; simp [decodeFields, decodeClass14]
theorem stpB64 (d : BitVec 7) (b : BitVec 7) (o : BitVec 8) (p : BitVec 1) : Statement (.stpB64 d b o p) := by
  intro w _ h; cases h; simp [decodeFields, decodeClass14]
theorem stpB128 (d : BitVec 7) (b : BitVec 7) (o : BitVec 8) (p : BitVec 1) : Statement (.stpB128 d b o p) := by
  intro w _ h; cases h; simp [decodeFields, decodeClass14]
theorem cstoreB32 (d : BitVec 7) (b : BitVec 7) (o : BitVec 8) (p : BitVec 1) : Statement (.cstoreB32 d b o p) := by
  intro w _ h; cases h; simp [decodeFields, decodeClass14]
theorem cstoreB64 (d : BitVec 7) (b : BitVec 7) (o : BitVec 8) (p : BitVec 1) : Statement (.cstoreB64 d b o p) := by
  intro w _ h; cases h; simp [decodeFields, decodeClass14]
theorem atomAdd (d : BitVec 7) (b : BitVec 7) (s : BitVec 3) (r : BitVec 2) (t : BitVec 3) (p : BitVec 1) : Statement (.atomAdd d b s r t p) := by
  intro w _ h; cases h; simp [decodeFields, decodeClass15]
theorem atomMin (d : BitVec 7) (b : BitVec 7) (s : BitVec 3) (r : BitVec 2) (t : BitVec 3) (p : BitVec 1) : Statement (.atomMin d b s r t p) := by
  intro w _ h; cases h; simp [decodeFields, decodeClass15]
theorem atomMax (d : BitVec 7) (b : BitVec 7) (s : BitVec 3) (r : BitVec 2) (t : BitVec 3) (p : BitVec 1) : Statement (.atomMax d b s r t p) := by
  intro w _ h; cases h; simp [decodeFields, decodeClass15]
theorem atomAnd (d : BitVec 7) (b : BitVec 7) (s : BitVec 3) (r : BitVec 2) (t : BitVec 3) (p : BitVec 1) : Statement (.atomAnd d b s r t p) := by
  intro w _ h; cases h; simp [decodeFields, decodeClass15]
theorem atomOr (d : BitVec 7) (b : BitVec 7) (s : BitVec 3) (r : BitVec 2) (t : BitVec 3) (p : BitVec 1) : Statement (.atomOr d b s r t p) := by
  intro w _ h; cases h; simp [decodeFields, decodeClass15]
theorem atomXor (d : BitVec 7) (b : BitVec 7) (s : BitVec 3) (r : BitVec 2) (t : BitVec 3) (p : BitVec 1) : Statement (.atomXor d b s r t p) := by
  intro w _ h; cases h; simp [decodeFields, decodeClass15]
theorem atomExch (d : BitVec 7) (b : BitVec 7) (s : BitVec 3) (r : BitVec 2) (t : BitVec 3) (p : BitVec 1) : Statement (.atomExch d b s r t p) := by
  intro w _ h; cases h; simp [decodeFields, decodeClass15]
theorem atomCas (d : BitVec 7) (b : BitVec 7) (s : BitVec 3) (r : BitVec 2) (t : BitVec 3) (p : BitVec 1) : Statement (.atomCas d b s r t p) := by
  intro w _ h; cases h; simp [decodeFields, decodeClass15]
theorem redAdd (d : BitVec 7) (b : BitVec 7) (s : BitVec 3) (r : BitVec 2) (t : BitVec 3) (p : BitVec 1) : Statement (.redAdd d b s r t p) := by
  intro w _ h; cases h; simp [decodeFields, decodeClass15]
theorem redMin (d : BitVec 7) (b : BitVec 7) (s : BitVec 3) (r : BitVec 2) (t : BitVec 3) (p : BitVec 1) : Statement (.redMin d b s r t p) := by
  intro w _ h; cases h; simp [decodeFields, decodeClass15]
theorem redMax (d : BitVec 7) (b : BitVec 7) (s : BitVec 3) (r : BitVec 2) (t : BitVec 3) (p : BitVec 1) : Statement (.redMax d b s r t p) := by
  intro w _ h; cases h; simp [decodeFields, decodeClass15]
theorem redAnd (d : BitVec 7) (b : BitVec 7) (s : BitVec 3) (r : BitVec 2) (t : BitVec 3) (p : BitVec 1) : Statement (.redAnd d b s r t p) := by
  intro w _ h; cases h; simp [decodeFields, decodeClass15]
theorem redOr (d : BitVec 7) (b : BitVec 7) (s : BitVec 3) (r : BitVec 2) (t : BitVec 3) (p : BitVec 1) : Statement (.redOr d b s r t p) := by
  intro w _ h; cases h; simp [decodeFields, decodeClass15]
theorem redXor (d : BitVec 7) (b : BitVec 7) (s : BitVec 3) (r : BitVec 2) (t : BitVec 3) (p : BitVec 1) : Statement (.redXor d b s r t p) := by
  intro w _ h; cases h; simp [decodeFields, decodeClass15]
theorem redflush : Statement (.redflush) := by intro w _ h; cases h; simp [decodeFields, decodeClass15]
theorem mxacc (d : BitVec 7) (b : BitVec 7) (s : BitVec 3) (r : BitVec 2) (k : BitVec 3) (p : BitVec 1) : Statement (.mxacc d b s r k p) := by
  intro w _ h; cases h; simp [decodeFields, decodeClass15]
theorem syncLd (d : BitVec 7) (b : BitVec 7) (s : BitVec 3) (r : BitVec 2) (w : BitVec 3) (p : BitVec 1) : Statement (.syncLd d b s r w p) := by
  intro w _ h; cases h; simp [decodeFields, decodeClass16]
theorem syncLdb (d : BitVec 7) (b : BitVec 7) (s : BitVec 3) (r : BitVec 2) (w : BitVec 3) (p : BitVec 1) : Statement (.syncLdb d b s r w p) := by
  intro w _ h; cases h; simp [decodeFields, decodeClass16]
theorem syncSt (d : BitVec 7) (b : BitVec 7) (s : BitVec 3) (r : BitVec 2) (w : BitVec 3) (p : BitVec 1) : Statement (.syncSt d b s r w p) := by
  intro w _ h; cases h; simp [decodeFields, decodeClass16]
theorem fence (s : BitVec 3) (r : BitVec 2) : Statement (.fence s r) := by
  intro w _ h; cases h; simp [decodeFields, decodeClass16]
theorem fenceLayer (s : BitVec 3) (r : BitVec 2) : Statement (.fenceLayer s r) := by
  intro w _ h; cases h; simp [decodeFields, decodeClass16]
theorem bar (l : BitVec 2) (n : BitVec 6) : Statement (.bar l n) := by
  intro w _ h; cases h; simp [decodeFields, decodeClass17]
theorem bararr (l : BitVec 2) (n : BitVec 6) : Statement (.bararr l n) := by
  intro w _ h; cases h; simp [decodeFields, decodeClass17]
theorem bsync (a : BitVec 7) (p : BitVec 1) : Statement (.bsync a p) := by
  intro w _ h; cases h; simp [decodeFields, decodeClass17]
theorem semwait (f : BitVec 1) (a : BitVec 7) (p : BitVec 1) (n : BitVec 8) : Statement (.semwait f a p n) := by
  intro w _ h; cases h; simp [decodeFields, decodeClass17]
theorem semsig (f : BitVec 1) (a : BitVec 7) (p : BitVec 1) (n : BitVec 8) : Statement (.semsig f a p n) := by
  intro w _ h; cases h; simp [decodeFields, decodeClass17]
theorem semset (f : BitVec 1) (a : BitVec 7) (p : BitVec 1) (n : BitVec 8) : Statement (.semset f a p n) := by
  intro w _ h; cases h; simp [decodeFields, decodeClass17]
theorem mma (d : BitVec 7) (a : BitVec 7) (b : BitVec 7) (p : BitVec 1) (q : BitVec 1) : Statement (.mma d a b p q) := by
  intro w _ h; cases h; simp [decodeFields, decodeClass18]
theorem tld (d : BitVec 7) (a : BitVec 7) (b : BitVec 7) (p : BitVec 1) (q : BitVec 1) : Statement (.tld d a b p q) := by
  intro w _ h; cases h; simp [decodeFields, decodeClass18]
theorem tst (d : BitVec 7) (a : BitVec 7) (b : BitVec 7) (p : BitVec 1) (q : BitVec 1) : Statement (.tst d a b p q) := by
  intro w _ h; cases h; simp [decodeFields, decodeClass18]
theorem tcopy (d : BitVec 7) (a : BitVec 7) (b : BitVec 7) (p : BitVec 1) (q : BitVec 1) : Statement (.tcopy d a b p q) := by
  intro w _ h; cases h; simp [decodeFields, decodeClass18]
theorem tclr (d : BitVec 7) (a : BitVec 7) (p : BitVec 1) : Statement (.tclr d a p) := by
  intro w _ h; cases h; simp [decodeFields, decodeClass18]
theorem job (d : BitVec 7) (a : BitVec 7) (p : BitVec 1) : Statement (.job d a p) := by
  intro w _ h; cases h; simp [decodeFields, decodeClass19]
theorem jobq (d : BitVec 7) (a : BitVec 7) (p : BitVec 1) : Statement (.jobq d a p) := by
  intro w _ h; cases h; simp [decodeFields, decodeClass19]
theorem boxt (d : BitVec 7) (a : BitVec 7) (b : BitVec 7) (p : BitVec 1) (q : BitVec 1) : Statement (.boxt d a b p q) := by
  intro w _ h; cases h; simp [decodeFields, decodeClass20]
theorem trit (d : BitVec 7) (a : BitVec 7) (b : BitVec 7) (p : BitVec 1) (q : BitVec 1) : Statement (.trit d a b p q) := by
  intro w _ h; cases h; simp [decodeFields, decodeClass20]
theorem tspush (d : BitVec 7) (a : BitVec 7) (b : BitVec 7) (p : BitVec 1) (q : BitVec 1) : Statement (.tspush d a b p q) := by
  intro w _ h; cases h; simp [decodeFields, decodeClass20]
theorem tspop (d : BitVec 7) (a : BitVec 7) (b : BitVec 7) (p : BitVec 1) (q : BitVec 1) : Statement (.tspop d a b p q) := by
  intro w _ h; cases h; simp [decodeFields, decodeClass20]
theorem rayinit (d : BitVec 7) (p : BitVec 1) : Statement (.rayinit d p) := by
  intro w _ h; cases h; simp [decodeFields, decodeClass20]
theorem vexport (a : BitVec 7) (b : BitVec 7) (p : BitVec 1) (q : BitVec 1) : Statement (.vexport a b p q) := by
  intro w _ h; cases h; simp [decodeFields, decodeClass21]
theorem pexport (t : BitVec 7) (a : BitVec 7) (p : BitVec 1) : Statement (.pexport t a p) := by
  intro w _ h; cases h; simp [decodeFields, decodeClass21]
theorem sample (d : BitVec 7) (a : BitVec 7) (b : BitVec 7) (p : BitVec 1) (q : BitVec 1) : Statement (.sample d a b p q) := by
  intro w _ h; cases h; simp [decodeFields, decodeClass21]
theorem samplel (d : BitVec 7) (a : BitVec 7) (b : BitVec 7) (p : BitVec 1) (q : BitVec 1) : Statement (.samplel d a b p q) := by
  intro w _ h; cases h; simp [decodeFields, decodeClass21]
theorem sampleg (d : BitVec 7) (a : BitVec 7) (b : BitVec 7) (p : BitVec 1) (q : BitVec 1) : Statement (.sampleg d a b p q) := by
  intro w _ h; cases h; simp [decodeFields, decodeClass21]
theorem attr (d : BitVec 7) (k : BitVec 7) : Statement (.attr d k) := by
  intro w _ h; cases h; simp [decodeFields, decodeClass21]
theorem zquery (d : BitVec 7) : Statement (.zquery d) := by intro w _ h; cases h; simp [decodeFields, decodeClass21]
theorem launch (d : BitVec 7) (a : BitVec 7) (b : BitVec 7) (p : BitVec 1) (q : BitVec 1) : Statement (.launch d a b p q) := by
  intro w _ h; cases h; simp [decodeFields, decodeClass22]
theorem signal (a : BitVec 7) (b : BitVec 7) (p : BitVec 1) (q : BitVec 1) : Statement (.signal a b p q) := by
  intro w _ h; cases h; simp [decodeFields, decodeClass22]
theorem perfcl (i : BitVec 3) : Statement (.perfcl i) := by intro w _ h; cases h; simp [decodeFields, decodeClass22]
theorem flip (d : BitVec 7) (a : BitVec 7) (b : BitVec 7) (p : BitVec 1) (q : BitVec 1) : Statement (.flip d a b p q) := by
  intro w _ h; cases h; simp [decodeFields, decodeClass22]
theorem fork (d : BitVec 7) (a : BitVec 7) (b : BitVec 7) (p : BitVec 1) (q : BitVec 1) : Statement (.fork d a b p q) := by
  intro w _ h; cases h; simp [decodeFields, decodeClass23]
theorem reach (k : BitVec 3) : Statement (.reach k) := by intro w _ h; cases h; simp [decodeFields, decodeClass23]
theorem commit (d : BitVec 7) (k : BitVec 3) : Statement (.commit d k) := by
  intro w hw h
  simp only [Instr.wellFormed, Instr.fieldsOk, Bool.and_eq_true, decide_eq_true_eq] at hw
  have hk : k ≠ 0#3 := hw.1.2
  cases h
  simp [decodeFields, decodeClass23, cross_commit_zero, hk]
theorem commitReg (d : BitVec 7) (a : BitVec 7) (p : BitVec 1) : Statement (.commitReg d a p) := by
  intro w _ h; cases h; simp [decodeFields, decodeClass23]
theorem squash (d : BitVec 7) (m : BitVec 7) : Statement (.squash d m) := by
  intro w _ h; cases h; simp [decodeFields, decodeClass23]
theorem squashReg (d : BitVec 7) (a : BitVec 7) (p : BitVec 1) : Statement (.squashReg d a p) := by
  intro w _ h; cases h; simp [decodeFields, decodeClass23]
theorem rquery (d : BitVec 7) (a : BitVec 7) (p : BitVec 1) : Statement (.rquery d a p) := by
  intro w _ h; cases h; simp [decodeFields, decodeClass23]
theorem trap (n : BitVec 8) : Statement (.trap n) := by intro w _ h; cases h; simp [decodeFields, decodeClass24]
theorem brk (n : BitVec 8) : Statement (.brk n) := by intro w _ h; cases h; simp [decodeFields, decodeClass24]
theorem rett : Statement (.rett) := by intro w _ h; cases h; simp [decodeFields, decodeClass24]
theorem csrr (d : BitVec 7) (c : BitVec 8) : Statement (.csrr d c) := by
  intro w _ h; cases h; simp [decodeFields, decodeClass24]
theorem csrw (a : BitVec 7) (p : BitVec 1) (c : BitVec 8) : Statement (.csrw a p c) := by
  intro w _ h; cases h; simp [decodeFields, decodeClass24]
theorem csrs (d : BitVec 7) (a : BitVec 7) (p : BitVec 1) (c : BitVec 8) : Statement (.csrs d a p c) := by
  intro w _ h; cases h; simp [decodeFields, decodeClass24]
theorem wfi : Statement (.wfi) := by intro w _ h; cases h; simp [decodeFields, decodeClass24]
theorem registerFill : Statement (.registerFill) := by intro w _ h; cases h
theorem sleepEnd : Statement (.sleepEnd) := by intro w _ h; cases h
theorem wfiWake : Statement (.wfiWake) := by intro w _ h; cases h
theorem l1Fill : Statement (.l1Fill) := by intro w _ h; cases h
theorem writeAcknowledge : Statement (.writeAcknowledge) := by intro w _ h; cases h
theorem homeRead : Statement (.homeRead) := by intro w _ h; cases h
theorem homeWrite : Statement (.homeWrite) := by intro w _ h; cases h
theorem homeAtomic : Statement (.homeAtomic) := by intro w _ h; cases h
theorem redDrainEntry : Statement (.redDrainEntry) := by intro w _ h; cases h
theorem mxaccAtHome : Statement (.mxaccAtHome) := by intro w _ h; cases h
theorem pull : Statement (.pull) := by intro w _ h; cases h
theorem pullReply : Statement (.pullReply) := by intro w _ h; cases h
theorem walkRequest : Statement (.walkRequest) := by intro w _ h; cases h
theorem walkComplete : Statement (.walkComplete) := by intro w _ h; cases h
theorem hostSnoop : Statement (.hostSnoop) := by intro w _ h; cases h
theorem hostMemRead : Statement (.hostMemRead) := by intro w _ h; cases h
theorem refreshWindow : Statement (.refreshWindow) := by intro w _ h; cases h
theorem memTempSample : Statement (.memTempSample) := by intro w _ h; cases h
theorem hotStateChange : Statement (.hotStateChange) := by intro w _ h; cases h
theorem layerTempSample : Statement (.layerTempSample) := by intro w _ h; cases h
theorem powerSample : Statement (.powerSample) := by intro w _ h; cases h
theorem freqStep : Statement (.freqStep) := by intro w _ h; cases h
theorem thermalPeriodStart : Statement (.thermalPeriodStart) := by intro w _ h; cases h
theorem watchdog : Statement (.watchdog) := by intro w _ h; cases h
theorem basinClose : Statement (.basinClose) := by intro w _ h; cases h
theorem barrierOpen : Statement (.barrierOpen) := by intro w _ h; cases h
theorem sluiceWave : Statement (.sluiceWave) := by intro w _ h; cases h
theorem handlerEntry : Statement (.handlerEntry) := by intro w _ h; cases h
theorem unrecoverableFault : Statement (.unrecoverableFault) := by intro w _ h; cases h
theorem chunkCommitRequest : Statement (.chunkCommitRequest) := by intro w _ h; cases h
theorem forkGrant : Statement (.forkGrant) := by intro w _ h; cases h
theorem commitPoint : Statement (.commitPoint) := by intro w _ h; cases h
theorem squashPoint : Statement (.squashPoint) := by intro w _ h; cases h
theorem reachStarved : Statement (.reachStarved) := by intro w _ h; cases h
theorem settlingComplete : Statement (.settlingComplete) := by intro w _ h; cases h
theorem cardStart : Statement (.cardStart) := by intro w _ h; cases h
theorem cardComplete : Statement (.cardComplete) := by intro w _ h; cases h
theorem cardFault : Statement (.cardFault) := by intro w _ h; cases h
theorem mmaStart : Statement (.mmaStart) := by intro w _ h; cases h
theorem mmaGroupFull : Statement (.mmaGroupFull) := by intro w _ h; cases h
theorem setupTake : Statement (.setupTake) := by intro w _ h; cases h
theorem windowRelease : Statement (.windowRelease) := by intro w _ h; cases h
theorem pixelBargeClose : Statement (.pixelBargeClose) := by intro w _ h; cases h
theorem earlyZTest : Statement (.earlyZTest) := by intro w _ h; cases h
theorem pixelRetire : Statement (.pixelRetire) := by intro w _ h; cases h
theorem binBuild : Statement (.binBuild) := by intro w _ h; cases h
theorem verticalBlank : Statement (.verticalBlank) := by intro w _ h; cases h
theorem frameStart : Statement (.frameStart) := by intro w _ h; cases h
theorem queueSlotWrite : Statement (.queueSlotWrite) := by intro w _ h; cases h
theorem wharfTake : Statement (.wharfTake) := by intro w _ h; cases h
theorem wharfDispatch : Statement (.wharfDispatch) := by intro w _ h; cases h
theorem workgroupStart : Statement (.workgroupStart) := by intro w _ h; cases h
theorem taskComplete : Statement (.taskComplete) := by intro w _ h; cases h
theorem ctxTeardown : Statement (.ctxTeardown) := by intro w _ h; cases h
theorem ctxKill : Statement (.ctxKill) := by intro w _ h; cases h
theorem ctxKillDone : Statement (.ctxKillDone) := by intro w _ h; cases h
theorem deviceFatal : Statement (.deviceFatal) := by intro w _ h; cases h
theorem tlbiGo : Statement (.tlbiGo) := by intro w _ h; cases h
theorem tlbiDone : Statement (.tlbiDone) := by intro w _ h; cases h
theorem migLock : Statement (.migLock) := by intro w _ h; cases h
theorem migLocked : Statement (.migLocked) := by intro w _ h; cases h
theorem migSwitch : Statement (.migSwitch) := by intro w _ h; cases h
theorem migRelease : Statement (.migRelease) := by intro w _ h; cases h
theorem colSplitRequest : Statement (.colSplitRequest) := by intro w _ h; cases h
theorem colSplitApply : Statement (.colSplitApply) := by intro w _ h; cases h
theorem vbusTestGo : Statement (.vbusTestGo) := by intro w _ h; cases h
theorem vbusCaptDone : Statement (.vbusCaptDone) := by intro w _ h; cases h
theorem vbusLock : Statement (.vbusLock) := by intro w _ h; cases h
theorem vbusRetire : Statement (.vbusRetire) := by intro w _ h; cases h
theorem mtxLayerLock : Statement (.mtxLayerLock) := by intro w _ h; cases h
theorem inputPublish : Statement (.inputPublish) := by intro w _ h; cases h
theorem semValWrite : Statement (.semValWrite) := by intro w _ h; cases h
theorem faultLogRead : Statement (.faultLogRead) := by intro w _ h; cases h
theorem faultResume : Statement (.faultResume) := by intro w _ h; cases h
theorem preemptVacate : Statement (.preemptVacate) := by intro w _ h; cases h
theorem preemptSaveGraphics : Statement (.preemptSaveGraphics) := by intro w _ h; cases h
theorem preemptRestoreGraphics : Statement (.preemptRestoreGraphics) := by intro w _ h; cases h
theorem preemptRelease : Statement (.preemptRelease) := by intro w _ h; cases h
theorem preemptDone : Statement (.preemptDone) := by intro w _ h; cases h
theorem savedWorkgroupRestore : Statement (.savedWorkgroupRestore) := by intro w _ h; cases h
theorem powerUp : Statement (.powerUp) := by intro w _ h; cases h
theorem bootVerify : Statement (.bootVerify) := by intro w _ h; cases h
theorem bootVerifyComplete : Statement (.bootVerifyComplete) := by intro w _ h; cases h
theorem attestExtend : Statement (.attestExtend) := by intro w _ h; cases h
theorem quoteStart : Statement (.quoteStart) := by intro w _ h; cases h
theorem quoteDone : Statement (.quoteDone) := by intro w _ h; cases h
theorem bootKernelGo : Statement (.bootKernelGo) := by intro w _ h; cases h
theorem registerWrite : Statement (.registerWrite) := by intro w _ h; cases h
theorem illegalEncoding : Statement (.illegalEncoding) := by intro w _ h; cases h
theorem powerOff : Statement (.powerOff) := by intro w _ h; cases h
theorem hostMemWrite : Statement (.hostMemWrite) := by intro w _ h; cases h
theorem backInvalidateResponse : Statement (.backInvalidateResponse) := by intro w _ h; cases h
theorem hostDataArrival : Statement (.hostDataArrival) := by intro w _ h; cases h
theorem semaphoreUpdate : Statement (.semaphoreUpdate) := by intro w _ h; cases h
theorem writeBufferArrival : Statement (.writeBufferArrival) := by intro w _ h; cases h
theorem writeBufferCommit : Statement (.writeBufferCommit) := by intro w _ h; cases h
theorem tileStoreAccess : Statement (.tileStoreAccess) := by intro w _ h; cases h
theorem localMemoryAccess : Statement (.localMemoryAccess) := by intro w _ h; cases h

end Sys2Proof.Laws.Fields
end

