-- ==== Sys2Proof/Tests/Slice0.lean ====
section
/-!
SUPPORT. Tests: words decode as the spec's encodings say, ill-formed instructions are refused, single steps give what the
spec's rules give, and the hypotheses of every statement are met by a concrete state.
-/
namespace Sys2Proof.Tests
set_option Elab.async false
open Sys2Proof Sys2Proof.Machine Sys2Proof.Claims

/-! ## Scenes -/

/-- A barge of context 1 whose 32 threads are about to run at 0x1000. -/
def threads : Barge :=
  { ctx := 1, regs := 96, laneWg := List.replicate 32 0, pcs := List.replicate 32 0x1000, running := BitVec.allOnes 32
    waitAt := List.replicate 32 0 }

/-- Its word that issues. -/
def here : Issue :=
  { core := 0, slot := 0, addr := 0x1000, group := BitVec.allOnes 32, chainStart := 0x1000, word := 0 }

/-- Prefix words go before it. -/
def after (ps : List Word) (b : Barge) : Barge :=
  { b with chain := some { start := 0xFF0, words := ps, group := BitVec.allOnes 32 } }

/-- Lane l of a v register holds a function of l. -/
def lanes (r : Nat) (f : Nat → Nat) (b : Barge) : Barge :=
  (List.range 32).foldl (fun b l => b.setV r l (BitVec.ofNat 32 (f l))) b

/-- An s register holds a value. -/
def scalar (n x : Nat) (b : Barge) : Barge := b.setS n (BitVec.ofNat 64 x)

/-- The workgroup of the barge, with 4 KiB of local memory. -/
def group : Workgroup :=
  { ctx := 1, node := 0, index := 0, core := 0, slots := [0], regs := 96, x := 0, y := 0, z := 0, localBase := 0
    localSize := 4096, perf := 0, threads := 32 }

/-- The barge is about to issue a word. -/
def scene (b : Barge) : State :=
  { State.reset with
    barges := [(0, b)], issue := some here, wgs := [(0, group)], ctxs := [(1, { valid := true, trapEntry := 0x4000 })] }

/-- The word issues for one thread alone. -/
def alone (s : State) : State := { s with issue := some { here with group := 1 } }

/-- What the word would run with. -/
def run (i : Instr) (s : State) : Go := goOf (shapeOf i) s (s.issue.getD here) ((s.barge 0 0).getD {})

/-- Does a barge at 0 issue, and does the word meet none of the checks and waits? -/
def clear (i : Instr) (s : State) : Bool :=
  (s.issue.any fun x => x.core == 0 && x.slot == 0) && (s.barge 0 0).isSome && (run i s).checkCause (shapeOf i) s == none
    && (run i s).holdReason (shapeOf i) s == .none && (run i s).reachCause (shapeOf i) s == none

/-- A scene that issues. -/
theorem issues_of {i : Instr} {s : State} (hi : (s.issue.any fun x => x.core == 0 && x.slot == 0) = true)
    (hb : (s.barge 0 0).isSome = true) : Issues i s (run i s) := by
  obtain ⟨b, hb⟩ := Option.isSome_iff_exists.1 hb
  cases hs : s.issue with
  | none => rw [hs] at hi; cases hi
  | some x =>
    rw [hs] at hi
    simp only [Option.any_some, Bool.and_eq_true, beq_iff_eq] at hi
    exact ⟨x, b, hs, by rw [hi.1, hi.2]; exact hb, by unfold run; rw [hb, hs]; rfl⟩

/-- A scene whose word is clear. -/
theorem clear_of {i : Instr} {s : State} (h : clear i s = true) : Clear i s (run i s) := by
  simp only [clear, Bool.and_eq_true, beq_iff_eq] at h
  obtain ⟨⟨⟨⟨h1, h2⟩, h3⟩, h4⟩, h5⟩ := h
  exact ⟨issues_of h1 h2, h3, h4, h5⟩

/-- A scene whose word has passed the checks before step 9 of R47. -/
def ready (i : Instr) (s : State) : Bool :=
  (s.issue.any fun x => x.core == 0 && x.slot == 0) && (s.barge 0 0).isSome && (run i s).checkCause (shapeOf i) s == none
    && (run i s).holdReason (shapeOf i) s == .none

theorem ready_of {i : Instr} {s : State} (h : ready i s = true) : Ready i s (run i s) := by
  simp only [ready, Bool.and_eq_true, beq_iff_eq] at h
  obtain ⟨⟨⟨h1, h2⟩, h3⟩, h4⟩ := h
  exact ⟨issues_of h1 h2, h3, h4⟩

/-- A scene that meets every hypothesis of a statement about a clear word. -/
theorem met {i : Instr} {s : State} {P : State → Go → Prop} (h : clear i s = true) (hp : P s (run i s)) :
    ∃ s g, Clear i s g ∧ P s g := ⟨s, run i s, clear_of h, hp⟩

/-! ## Words -/

/-- Each word decodes to its instruction, and the instruction encodes to it. -/
def spells (l : List (Nat × Instr)) : Bool := l.all fun p =>
  decode (BitVec.ofNat 32 p.1) == .ok p.2 && decodeTableWord 32 p.1 == some p.2 && encode p.2 == some (BitVec.ofNat 32 p.1)

/-- Each instruction is ill formed. -/
def refuses (l : List Instr) : Bool := l.all fun i => !i.wellFormed

/-- Each word is refused with this cause (R46). -/
def stops (l : List (Nat × DecodeError)) : Bool := l.all fun p => decode (BitVec.ofNat 32 p.1) == .error p.2

/-- Class 0: words written out from the encodings of the spec. -/
theorem test_decodes_class0 : spells [
    (0b00000_0000_0001000_0010000_0011000_1_0, .iadd 8 16 24 1 0),
    (0b00000_0001_0001000_0010000_0011000_1_0, .isub 8 16 24 1 0),
    (0b00000_0010_0001000_0010000_0011000_1_0, .imul 8 16 24 1 0),
    (0b00000_0011_0001000_0010000_0011000_1_0, .imulh 8 16 24 1 0),
    (0b00000_0100_0001000_0010000_0011000_1_0, .imad 8 16 24 1 0),
    (0b00000_0101_0001000_0010000_0011000_1_0, .imin 8 16 24 1 0),
    (0b00000_0110_0001000_0010000_0011000_1_0, .imax 8 16 24 1 0),
    (0b00000_0111_0001000_0010000_0000000_1_0, .iabs 8 16 1),
    (0b00000_1000_0001000_0010000_0011000_1_0, .ishl 8 16 24 1 0),
    (0b00000_1001_0001000_0010000_0011000_1_0, .ishr 8 16 24 1 0),
    (0b00000_1010_0001000_0010000_0011000_1_0, .lshr 8 16 24 1 0),
    (0b00000_1011_0001000_0010000_0000000_1_0, .popc 8 16 1),
    (0b00000_1100_0001000_0010000_0000000_1_0, .clz 8 16 1),
    (0b00000_1101_0001000_0010000_0000000_1_0, .brev 8 16 1)] = true := by decide +kernel

/-- Class 1: words written out from the encodings of the spec. -/
theorem test_decodes_class1 : spells [
    (0b00001_0000_0001000_0010000_1_10100101, .iaddImm 8 16 1 165),
    (0b00001_0001_0001000_0010000_1_10100101, .imulImm 8 16 1 165),
    (0b00001_0010_0001000_0010000_1_10100101, .iminImm 8 16 1 165),
    (0b00001_0011_0001000_0010000_1_10100101, .imaxImm 8 16 1 165),
    (0b00001_0100_0001000_0010000_1_10100101, .ishlImm 8 16 1 165),
    (0b00001_0101_0001000_0010000_1_10100101, .ishrImm 8 16 1 165),
    (0b00001_0110_0001000_0010000_1_10100101, .lshrImm 8 16 1 165),
    (0b00001_0111_0001000_0010000_1_00000000, .logic3 8 16 1 0)] = true := by decide +kernel

/-- Class 2: words written out from the encodings of the spec. -/
theorem test_decodes_class2 : spells [
    (0b00010_0000_0001000_0010000_0011000_1_0, .bfe 8 16 24 1 0),
    (0b00010_0001_0001000_0010000_0011000_1_0, .bfi 8 16 24 1 0),
    (0b00010_0010_0001000_0010000_0011000_1_0, .lea 8 16 24 1 0),
    (0b00010_0011_0001000_0010000_0011000_1_0, .shf 8 16 24 1 0),
    (0b00010_0100_0001000_0010000_0011000_1_0, .iadd64 8 16 24 1 0),
    (0b00010_0101_0001000_0010000_0011000_1_0, .isub64 8 16 24 1 0),
    (0b00010_0110_0001000_0010000_0011000_1_0, .imul64 8 16 24 1 0),
    (0b00010_0111_0001000_0010000_0011000_1_0, .imad64 8 16 24 1 0)] = true := by decide +kernel

/-- Class 3: words written out from the encodings of the spec. -/
theorem test_decodes_class3 : spells [
    (0b00011_0000_0010_011_0010000_0011000_1_0, .icmp 2 3 16 24 1 0),
    (0b00011_0001_0010_011_0010000_0011000_1_0, .fcmp 2 3 16 24 1 0),
    (0b00011_0010_0000_011_0010000_0011000_1_0, .fclass 3 16 24 1),
    (0b00011_0011_0001000_0010000_0011000_1_0, .sel 8 16 24 1 0),
    (0b00011_0100_0000_011_0000_101_0000_110_00, .pand 3 5 6),
    (0b00011_0101_0000_011_0000_101_0000_110_00, .por 3 5 6),
    (0b00011_0110_0000_011_0000_101_0000_110_00, .pxor 3 5 6),
    (0b00011_0111_0000_011_0000_101_000000000, .pnot 3 5)] = true := by decide +kernel

/-- Class 4: words written out from the encodings of the spec. -/
theorem test_decodes_class4 : spells [
    (0b00100_0000_0001000_0010000_0011000_1_0, .fadd 8 16 24 1 0),
    (0b00100_0001_0001000_0010000_0011000_1_0, .fsub 8 16 24 1 0),
    (0b00100_0010_0001000_0010000_0011000_1_0, .fmul 8 16 24 1 0),
    (0b00100_0011_0001000_0010000_0011000_1_0, .ffma 8 16 24 1 0),
    (0b00100_0100_0001000_0010000_0011000_1_0, .fmin 8 16 24 1 0),
    (0b00100_0101_0001000_0010000_0011000_1_0, .fmax 8 16 24 1 0),
    (0b00100_0110_0001000_0010000_0000000_1_0, .frnd 8 16 1),
    (0b00100_0111_0001000_0010000_0000000_1_0, .fabs 8 16 1),
    (0b00100_1000_0001000_0010000_0000000_1_0, .fneg 8 16 1),
    (0b00100_1001_0001000_0010000_0011000_1_0, .fscale 8 16 24 1 0)] = true := by decide +kernel

/-- Class 5: words written out from the encodings of the spec. -/
theorem test_decodes_class5 : spells [
    (0b00101_0000_0001000_0010000_0011000_1_0, .faddPacked 8 16 24 1 0),
    (0b00101_0001_0001000_0010000_0011000_1_0, .fsubPacked 8 16 24 1 0),
    (0b00101_0010_0001000_0010000_0011000_1_0, .fmulPacked 8 16 24 1 0),
    (0b00101_0011_0001000_0010000_0011000_1_0, .ffmaPacked 8 16 24 1 0),
    (0b00101_0100_0001000_0010000_0011000_1_0, .fminPacked 8 16 24 1 0),
    (0b00101_0101_0001000_0010000_0011000_1_0, .fmaxPacked 8 16 24 1 0),
    (0b00101_0110_0001000_0010000_0000000_1_0, .frndPacked 8 16 1),
    (0b00101_0111_0001000_0010000_0000000_1_0, .fabsPacked 8 16 1),
    (0b00101_1000_0001000_0010000_0000000_1_0, .fnegPacked 8 16 1),
    (0b00101_1001_0001000_0010000_0011000_1_0, .fscalePacked 8 16 24 1 0)] = true := by decide +kernel

/-- Class 6: words written out from the encodings of the spec. -/
theorem test_decodes_class6 : spells [
    (0b00110_0000_0001000_0010000_1_10100101, .faddImm 8 16 1 165),
    (0b00110_0001_0001000_0010000_1_10100101, .fmulImm 8 16 1 165),
    (0b00110_0010_0001000_0010000_1_10100101, .ffmaImm 8 16 1 165),
    (0b00110_0011_0001000_0010000_1_10100101, .fminImm 8 16 1 165)] = true := by decide +kernel

/-- Class 7: words written out from the encodings of the spec. -/
theorem test_decodes_class7 : spells [
    (0b00111_0000_0001000_0010000_0000000_1_0, .rcp 8 16 1),
    (0b00111_0001_0001000_0010000_0000000_1_0, .rsq 8 16 1),
    (0b00111_0010_0001000_0010000_0000000_1_0, .sqrt 8 16 1),
    (0b00111_0011_0001000_0010000_0000000_1_0, .exp2 8 16 1),
    (0b00111_0100_0001000_0010000_0000000_1_0, .log2 8 16 1),
    (0b00111_0101_0001000_0010000_0000000_1_0, .sinpi 8 16 1),
    (0b00111_0110_0001000_0010000_0000000_1_0, .cospi 8 16 1),
    (0b00111_0111_0001000_0010000_0000000_1_0, .tanh 8 16 1),
    (0b00111_1000_0001000_0010000_0011000_1_0, .divf 8 16 24 1 0)] = true := by decide +kernel

/-- Class 8: words written out from the encodings of the spec. -/
theorem test_decodes_class8 : spells [
    (0b01000_0000_0001000_0010000_0000000_1_0, .fcvt 8 16 1),
    (0b01000_0001_0001000_0010000_0000000_1_0, .icvt 8 16 1),
    (0b01000_0010_0001000_0010000_0000000_1_0, .ftoi 8 16 1),
    (0b01000_0011_0001000_0010000_0000000_1_0, .itof 8 16 1),
    (0b01000_0100_0001000_0010000_0011000_1_0, .npack 8 16 24 1 0),
    (0b01000_0101_0001000_0010000_0000000_1_0, .nunpack 8 16 1)] = true := by decide +kernel

/-- Class 9: words written out from the encodings of the spec. -/
theorem test_decodes_class9 : spells [
    (0b01001_0000_0001000_0010000_0000000_1_0, .qscale 8 16 1),
    (0b01001_0001_0001000_0010000_0011000_1_0, .qpack 8 16 24 1 0),
    (0b01001_0010_0001000_0010000_0011000_1_0, .qunpack 8 16 24 1 0),
    (0b01001_0011_0001000_0010000_0011000_1_0, .qdot4 8 16 24 1 0),
    (0b01001_0100_0001000_0010000_0011000_1_0, .dsmul 8 16 24 1 0)] = true := by decide +kernel

/-- Class 10: words written out from the encodings of the spec. -/
theorem test_decodes_class10 : spells [
    (0b01010_0000_0001000_0010000_0000000_1_0, .mov 8 16 1),
    (0b01010_0001_0001000_0000000_0_11111111, .movi 8 255),
    (0b01010_0010_1100011_0010000_1100100_1_0, .movs 99 16 100 1 0),
    (0b01010_0011_0001000_0010000_0011000_1_0, .shfl 8 16 24 1 0),
    (0b01010_0100_0001000_0000_011_0000000_1_0, .ballot 8 3 1),
    (0b01010_0101_0010_011_0000_101_0000000_1_0, .vote 2 3 5 1),
    (0b01010_0110_0001000_0010000_0011000_1_0, .bsel 8 16 24 1 0),
    (0b01010_0111_0001000_0010000_0000000_1_0, .bred 8 16 1),
    (0b01010_1000_0000_011_0000000_000000000, .elect 3),
    (0b01010_1001_0001000_0010000_0011000_1_0, .csel 8 16 24 1 0),
    (0b01010_1010_0001000_0010000_0000000_1_0, .matchLanes 8 16 1),
    (0b01010_1011_0001000_0010000_0000000_1_0, .lanemask 8 16 1)] = true := by decide +kernel

/-- Class 11: words written out from the encodings of the spec. -/
theorem test_decodes_class11 : spells [
    (0b01011_100_110_111111111111111110000, .bra 4 6 2097136)] = true := by decide +kernel

/-- Class 12: words written out from the encodings of the spec. -/
theorem test_decodes_class12 : spells [
    (0b01100_0000_0000000_1110100_0000000_1_0, .jmp 116 1),
    (0b01100_0001_1100011_0000000_0_10100101, .call 99 165),
    (0b01100_0010_1100011_1110100_0000000_1_0, .calli 99 116 1),
    (0b01100_0011_0000000_1110100_0000000_1_0, .ret 116 1),
    (0b01100_0100_0000000_0000000_0_10100101, .mark 165),
    (0b01100_0101_0000000_0000000_000000000, .join),
    (0b01100_0110_0001100_0010000_1_10100101, .reform 12 16 1 165),
    (0b01100_0111_0000000_0000000_000000000, .exit),
    (0b01100_1000_0000000_0000000_000000000, .nop),
    (0b01100_1001_0000000_0000000_0_10100101, .sleep 165),
    (0b01100_1010_0000000_0000000_000000000, .yield)] = true := by decide +kernel

/-- Class 13: words written out from the encodings of the spec. -/
theorem test_decodes_class13 : spells [
    (0b01101_0000_0001000_0011000_01111101_1, .ldB32 8 24 125 1),
    (0b01101_0001_0001000_0011000_01111101_1, .ldB64 8 24 125 1),
    (0b01101_0010_0001000_0011000_01111101_1, .ldB128 8 24 125 1),
    (0b01101_0011_0001000_0011000_01111101_1, .ldbB32 8 24 125 1),
    (0b01101_0100_0001000_0011000_01111101_1, .ldbB64 8 24 125 1),
    (0b01101_0101_0001000_0011000_01111101_1, .ldbB128 8 24 125 1),
    (0b01101_0110_0001000_0011000_01111101_1, .ldlB32 8 24 125 1),
    (0b01101_0111_0001000_0011000_01111101_1, .ldlB64 8 24 125 1),
    (0b01101_1000_0001000_0011000_01111101_1, .ldlB128 8 24 125 1),
    (0b01101_1001_0001000_0011000_01111101_1, .ldpB32 8 24 125 1),
    (0b01101_1010_0001000_0011000_01111101_1, .ldpB64 8 24 125 1),
    (0b01101_1011_0001000_0011000_01111101_1, .ldpB128 8 24 125 1),
    (0b01101_1100_0001000_0011000_01111101_1, .ldvB32 8 24 125 1),
    (0b01101_1101_0001000_0011000_01111101_1, .ldvB128 8 24 125 1),
    (0b01101_1110_0000000_0011000_01111101_1, .prefetch 24 125 1),
    (0b01101_1111_0000000_0000000_000000000, .invl1)] = true := by decide +kernel

/-- Class 14: words written out from the encodings of the spec. -/
theorem test_decodes_class14 : spells [
    (0b01110_0000_0001000_0011000_01111101_1, .stB32 8 24 125 1),
    (0b01110_0001_0001000_0011000_01111101_1, .stB64 8 24 125 1),
    (0b01110_0010_0001000_0011000_01111101_1, .stB128 8 24 125 1),
    (0b01110_0011_0001000_0011000_01111101_1, .stlB32 8 24 125 1),
    (0b01110_0100_0001000_0011000_01111101_1, .stlB64 8 24 125 1),
    (0b01110_0101_0001000_0011000_01111101_1, .stlB128 8 24 125 1),
    (0b01110_0110_0001000_0011000_01111101_1, .stpB32 8 24 125 1),
    (0b01110_0111_0001000_0011000_01111101_1, .stpB64 8 24 125 1),
    (0b01110_1000_0001000_0011000_01111101_1, .stpB128 8 24 125 1),
    (0b01110_1001_0001000_1100110_01111101_1, .cstoreB32 8 102 125 1),
    (0b01110_1010_0001000_1100110_01111101_1, .cstoreB64 8 102 125 1)] = true := by decide +kernel

/-- Class 15: words written out from the encodings of the spec. -/
theorem test_decodes_class15 : spells [
    (0b01111_0000_0001000_0011000_100_00_000_1, .atomAdd 8 24 4 0 0 1),
    (0b01111_0001_0001000_0011000_100_00_000_1, .atomMin 8 24 4 0 0 1),
    (0b01111_0010_0001000_0011000_100_00_000_1, .atomMax 8 24 4 0 0 1),
    (0b01111_0011_0001000_0011000_100_10_010_1, .atomAnd 8 24 4 2 2 1),
    (0b01111_0100_0001000_0011000_100_10_010_1, .atomOr 8 24 4 2 2 1),
    (0b01111_0101_0001000_0011000_100_00_000_1, .atomXor 8 24 4 0 0 1),
    (0b01111_0110_0001000_0011000_100_11_000_1, .atomExch 8 24 4 3 0 1),
    (0b01111_0111_0001000_0011000_100_11_000_1, .atomCas 8 24 4 3 0 1),
    (0b01111_1000_0001000_0011000_100_10_000_1, .redAdd 8 24 4 2 0 1),
    (0b01111_1001_0001000_0011000_100_10_000_1, .redMin 8 24 4 2 0 1),
    (0b01111_1010_0001000_0011000_100_10_000_1, .redMax 8 24 4 2 0 1),
    (0b01111_1011_0001000_0011000_100_10_000_1, .redAnd 8 24 4 2 0 1),
    (0b01111_1100_0001000_0011000_100_10_010_1, .redOr 8 24 4 2 2 1),
    (0b01111_1101_0001000_0011000_100_10_000_1, .redXor 8 24 4 2 0 1),
    (0b01111_1110_0000000_0000000_000000000, .redflush),
    (0b01111_1111_0001000_0011000_100_10_101_1, .mxacc 8 24 4 2 5 1)] = true := by decide +kernel

/-- Class 16: words written out from the encodings of the spec. -/
theorem test_decodes_class16 : spells [
    (0b10000_0000_0001000_0011000_100_01_011_1, .syncLd 8 24 4 1 3 1),
    (0b10000_0001_0001000_0011000_100_00_000_1, .syncLdb 8 24 4 0 0 1),
    (0b10000_0010_0001000_0011000_100_10_010_1, .syncSt 8 24 4 2 2 1),
    (0b10000_0011_0000000_0000000_100_11_0000, .fence 4 3),
    (0b10000_0011_0000000_0000000_100_11_0010, .fenceLayer 4 3)] = true := by decide +kernel

/-- Class 17: words written out from the encodings of the spec. -/
theorem test_decodes_class17 : spells [
    (0b10001_0000_0000000_0000000_0_10_000011, .bar 2 3),
    (0b10001_0001_0000000_0000000_0_10_000011, .bararr 2 3),
    (0b10001_0010_0000000_1110100_0000000_1_0, .bsync 116 1),
    (0b10001_0011_000000_1_1100100_1_11001000, .semwait 1 100 1 200),
    (0b10001_0100_000000_1_1100100_1_11001000, .semsig 1 100 1 200),
    (0b10001_0101_000000_1_1100100_1_11001000, .semset 1 100 1 200)] = true := by decide +kernel

/-- Class 18: words written out from the encodings of the spec. -/
theorem test_decodes_class18 : spells [
    (0b10010_0000_1100011_1100100_1100110_1_0, .mma 99 100 102 1 0),
    (0b10010_0001_0001000_0010000_0011000_1_0, .tld 8 16 24 1 0),
    (0b10010_0010_0001000_0010000_0011000_1_0, .tst 8 16 24 1 0),
    (0b10010_0011_1100011_1100100_1100110_1_0, .tcopy 99 100 102 1 0),
    (0b10010_0100_1100011_1100100_0000000_1_0, .tclr 99 100 1)] = true := by decide +kernel

/-- Class 19: words written out from the encodings of the spec. -/
theorem test_decodes_class19 : spells [
    (0b10011_0000_1100011_1100100_0000000_1_0, .job 99 100 1),
    (0b10011_0001_1100011_1100100_0000000_1_0, .jobq 99 100 1)] = true := by decide +kernel

/-- Class 20: words written out from the encodings of the spec. -/
theorem test_decodes_class20 : spells [
    (0b10100_0000_0001000_0010000_0011000_1_0, .boxt 8 16 24 1 0),
    (0b10100_0001_0001000_0010000_0011000_1_0, .trit 8 16 24 1 0),
    (0b10100_0010_0001000_0010000_0011000_1_0, .tspush 8 16 24 1 0),
    (0b10100_0011_0001000_0010000_0011000_1_0, .tspop 8 16 24 1 0),
    (0b10100_0100_0001000_0000000_0000000_1_0, .rayinit 8 1)] = true := by decide +kernel

/-- Class 21: words written out from the encodings of the spec. -/
theorem test_decodes_class21 : spells [
    (0b10101_0000_0000000_0010000_0011000_1_0, .vexport 16 24 1 0),
    (0b10101_0001_0000100_0001101_0000000_1_0, .pexport 4 13 1),
    (0b10101_0010_0001100_0010000_0011000_1_0, .sample 12 16 24 1 0),
    (0b10101_0011_0001100_0010000_0011000_1_0, .samplel 12 16 24 1 0),
    (0b10101_0100_0001100_0010000_0011000_1_0, .sampleg 12 16 24 1 0),
    (0b10101_0101_0001000_0000000_0000011_00, .attr 8 3),
    (0b10101_0110_0001000_0000000_000000000, .zquery 8)] = true := by decide +kernel

/-- Class 22: words written out from the encodings of the spec. -/
theorem test_decodes_class22 : spells [
    (0b10110_0000_1100011_1100100_1100110_1_0, .launch 99 100 102 1 0),
    (0b10110_0001_0000000_1100100_1100110_1_0, .signal 100 102 1 0),
    (0b10110_0010_0000000_0000000_000000_101, .perfcl 5),
    (0b10110_0011_1100011_1100100_1100110_1_0, .flip 99 100 102 1 0)] = true := by decide +kernel

/-- Class 23: words written out from the encodings of the spec. -/
theorem test_decodes_class23 : spells [
    (0b10111_0000_1100011_1100100_1100110_1_0, .fork 99 100 102 1 0),
    (0b10111_0001_0000000_0000000_000000_010, .reach 2),
    (0b10111_0010_1100011_0000000_000000_101, .commit 99 5),
    (0b10111_0010_1100011_1100100_1_00000000, .commitReg 99 100 1),
    (0b10111_0011_1100011_0000000_0_0000110_0, .squash 99 6),
    (0b10111_0011_1100011_1100100_1_00000001, .squashReg 99 100 1),
    (0b10111_0100_1100011_1100100_0000000_1_0, .rquery 99 100 1)] = true := by decide +kernel

/-- Class 24: words written out from the encodings of the spec. -/
theorem test_decodes_class24 : spells [
    (0b11000_0000_0000000_0000000_0_00000001, .trap 1),
    (0b11000_0001_0000000_0000000_0_00000001, .brk 1),
    (0b11000_0010_0000000_0000000_000000000, .rett),
    (0b11000_0011_0001000_0000000_0_00000010, .csrr 8 2),
    (0b11000_0100_0000000_1100100_1_00000010, .csrw 100 1 2),
    (0b11000_0101_1100011_1100100_1_00000010, .csrs 99 100 1 2),
    (0b11000_0110_0000000_0000000_000000000, .wfi)] = true := by decide +kernel

/-- Class 31: words written out from the encodings of the spec. -/
theorem test_decodes_class31 : spells [
    (0b11111_000_101010111100110111101001, .ximm 11259369),
    (0b11111_001_101010111100110111101001, .ximmh 11259369),
    (0b11111_010_101010111100110111101001, .xmod 11259369),
    (0b11111_011_1_101_0000_0000000_000000000, .xpred 1 5),
    (0b11111_100_1_1100100_0_1100011_0000000_1, .xopd 1 100 0 99 1),
    (0b11111_101_1_10101_00_0000000_000000000, .xsch 1 21)] = true := by decide +kernel

/-- Words that the spec writes out beside their spelling (R28, R202, R208, R212, R214, R217, R222 to R224, R230 to R241,
R243, R258, R275, R276, R297, R315, R318, R352, R392, R395). -/
theorem test_worked_words : spells [
    (0x08010201, .iaddImm 1 1 0 1), (0x088204FD, .imulImm 2 2 0 0xFD), (0x19020860, .fclass 2 4 0x18 0),
    (0x6886C5FC, .ldB64 6 98 0xFE 0), (0x30840830, .fmulImm 4 4 0 0x30), (0x508700FF, .movi 7 0xFF),
    (0x51631390, .movs 99 9 100 0 0), (0x52040200, .ballot 4 1 0), (0x54010000, .elect 1),
    (0x51830594, .shfl 3 2 101 0 0), (0x55860E00, .lanemask 6 7 0), (0x29830410, .ffmaPacked 3 2 4 0 0),
    (0x40091000, .fcvt 9 8 0), (0x5A200003, .bra 2 1 3), (0x60F40070, .call 116 0x70), (0x6180E800, .ret 116 0),
    (0x63031820, .reform 3 12 0 0x20), (0x64000000, .nop), (0x9062C998, .mma 98 100 102 0 0), (0xB8800003, .reach 3),
    (0xC0000007, .trap 7), (0xC0800000, .brk 0), (0xC1E30001, .csrr 99 1), (0xC1840002, .csrr 4 2),
    (0xC2E3CA01, .csrs 99 101 0 1), (0xC200CA10, .csrw 101 0 0x10), (0x88000003, .bar 0 3), (0x88800081, .bararr 2 1),
    (0x8900CA00, .bsync 101 0), (0x88000042, .bar 1 2), (0xA0282190, .boxt 40 16 100 0 0), (0xA0AC2020, .trit 44 16 8 0 0),
    (0xA2100000, .rayinit 16 0), (0x7F000000, .redflush), (0xAB090000, .zquery 9), (0x48050800, .qscale 5 4 0),
    (0x48860814, .qpack 6 4 5 0 0), (0x49070C14, .qunpack 7 6 5 0 0), (0x5304040C, .bsel 4 2 3 0 0),
    (0x62000006, .mark 6), (0x62800000, .join), (0xB1E3D1A4, .flip 99 104 105 0 0), (0xB062C998, .launch 98 100 102 0 0),
    (0xB080C998, .signal 100 102 0 0), (0xB1000005, .perfcl 5), (0xB862C998, .fork 98 100 102 0 0),
    (0xB9630002, .commit 99 2), (0xB963CA00, .commitReg 99 101 0), (0xB9E3000C, .squash 99 6), (0x6F800000, .invl1),
    (0xA8811800, .pexport 1 12 0), (0xA8001050, .vexport 8 20 0 0), (0xAA86000C, .attr 6 3), (0, .iadd 0 0 0 0 0)]
    = true := by decide +kernel

/-- Words that are no instruction, each with the first of its causes (R46, R47): class 25, an unused op, a field out of
range, an order that a store may not carry, a prefix of a reserved kind. -/
theorem test_refused_words : stops [
    (0xC8000000, .illClass), (0xF0000000, .illClass), (0x07800000, .illOp), (0x0C800000, .illOp), (0x03800004, .illField),
    (0x5E000000, .illField), (0x60000600, .illField), (0x64000001, .illField), (0xB8800008, .illField),
    (0xB9E30001, .illField), (0x88000010, .illField), (0x880000C0, .illField), (0xFFFFFFFF, .badPrefix),
    (0xFE000000, .badPrefix)] = true := by decide +kernel

/-- An ill-formed instruction for each check: a pair at an odd register. -/
theorem test_odd_pairs : refuses [
    .lea 3 2 0 0 0, .lea 2 3 0 0 0, .shf 1 2 0 0 0, .iadd64 2 5 0 0 0, .isub64 7 0 0 0 0, .imul64 9 0 0 0 0,
    .imad64 0 11 0 0 0, .jmp 3 0, .call 5 0, .calli 1 0 0, .calli 0 1 0, .ret 95 0, .ldB32 0 3 0 0, .ldB64 1 2 0 0,
    .ldB64 2 1 0 0, .ldbB32 0 1 0 0, .ldbB64 1 0 0 0, .ldlB64 1 0 0 0, .ldpB64 1 0 0 0, .ldvB32 0 1 0 0, .prefetch 1 0 0,
    .stB32 0 1 0 0, .stB64 1 0 0 0, .stlB64 1 0 0 0, .stpB64 1 0 0 0, .cstoreB64 1 100 0 0, .bsync 3 0,
    .boxt 1 16 0 0 0, .tspush 0 1 0 0 0, .tspop 1 0 0 0 0, .sample 0 1 0 0 0, .atomAdd 1 0 0 0 2 0, .redAdd 1 0 0 0 2 0,
    .syncLd 1 0 0 0 1 0] = true := by decide +kernel

/-- Four registers or a record out of place. -/
theorem test_quads_and_records : refuses [
    .ldB128 2 0 0 0, .ldbB128 1 0 0 0, .ldlB128 6 0 0 0, .ldpB128 3 0 0 0, .ldvB128 2 0 0 0, .stB128 2 0 0 0,
    .stlB128 5 0 0 0, .stpB128 2 0 0 0, .ldB128 96 0 0 0, .syncLdb 2 0 0 0 2 0, .syncSt 2 0 0 0 2 0, .trit 2 16 0 0 0,
    .vexport 2 0 0 0, .sample 2 0 0 0 0, .samplel 2 0 0 0 0, .sampleg 2 0 0 0 0, .pexport 0 2 0, .boxt 0 4 0 0 0,
    .boxt 0 88 0 0 0, .trit 0 4 0 0 0, .rayinit 4 0, .rayinit 96 0] = true := by decide +kernel

/-- A vector register where a scalar one is asked for, or the other way round. -/
theorem test_kinds_of_register : refuses [
    .movs 3 0 0 0 0, .cstoreB32 0 2 0 0, .semwait 0 3 0 0, .semsig 0 3 0 0, .semset 0 3 0 0, .mma 0 100 102 0 0,
    .mma 98 0 102 0 0, .mma 98 100 0 0 0, .tcopy 98 100 2 0 0, .tclr 98 2 0, .job 0 100 0, .jobq 98 0 0,
    .launch 98 100 0 0 0, .signal 0 100 0 0, .flip 98 0 100 0 0, .fork 0 100 102 0 0, .commit 5 1, .commitReg 98 5 0,
    .squash 5 1, .squashReg 98 5 0, .rquery 98 5 0, .csrw 5 0 1, .csrs 98 5 0 1, .tspush 98 0 0 0 0, .tspop 98 0 0 0 0,
    .tspop 0 98 0 0 0, .attr 98 0, .zquery 98, .pexport 4 98 0, .trit 100 16 0 0 0] = true := by decide +kernel

/-- A field out of its range. -/
theorem test_ranges_of_fields : refuses [
    .icmp 6 0 0 0 0 0, .fcmp 8 0 0 0 0 0, .vote 4 0 0 0, .bra 6 0 0, .bra 0 1 0, .reform 13 0 0 0, .atomAdd 0 0 7 0 0 0,
    .atomAnd 0 0 0 0 1 0, .atomCas 0 0 0 0 4 0, .redOr 0 0 0 0 1 0, .mxacc 0 0 7 0 0 0, .mxacc 0 0 0 0 6 0,
    .syncLd 0 0 7 0 0 0, .syncLd 0 0 0 0 5 0, .fence 7 1, .fence 0 0, .fenceLayer 7 0, .bar 0 16, .bar 1 8, .bar 2 4,
    .bararr 3 0, .semwait 0 100 0 64, .semsig 0 100 0 64, .semset 0 100 0 64, .pexport 5 0 0, .commit 98 0] = true := by
  decide +kernel

/-- An acquire on what only stores, a release on what only loads (R44, R45). -/
theorem test_orders : refuses [
    .redAdd 0 0 0 1 0 0, .redMin 0 0 0 3 0 0, .redMax 0 0 0 1 0 0, .redAnd 0 0 0 1 0 0, .redOr 0 0 0 1 0 0,
    .redXor 0 0 0 3 0 0, .mxacc 0 0 0 1 0 0, .syncLd 0 0 0 2 0 0, .syncLdb 0 0 0 3 0 0, .syncSt 0 0 0 1 0 0] = true := by
  decide +kernel

/-! ## Worked values of the spec -/

/-- The state after a word, run on a scene. -/
def done (o : Host.Outcome State Fault Refusal) : State :=
  match o with
  | .next s => s
  | _ => State.reset

/-- Register r of lane l of the barge, whether or not it is full yet. -/
def look (s : State) (r l : Nat) : Nat := (((s.barge 0 0).getD {}).vreg r l).toNat

/-- The state after one step that runs a word placed by the host, from reset. -/
def first (w : Nat) : State := done (step (State.reset.withFetchWord 32 w))

/-- MOVI v7, -1 (R230): the first word after reset writes the sign-extended imm8 to every lane. -/
theorem test_step_movi : ((List.range 32).all fun l => look (first 0x508700FF) 7 l == 0xFFFFFFFF) = true := by decide +kernel

/-- IADD v1, v1, 1 (R199) in every lane, and the threads stand at the next word. -/
theorem test_step_iadd : look (first 0x08010201) 1 9 == 1
    && (((first 0x08010201).barge 0 0).getD {}).pcs == List.replicate 32 (BitVec.ofNat 64 (probeVa + 4)) := by decide +kernel

/-- The first eight values of the block of R68, in lanes 0 to 7 of v4. -/
def block : List Nat := [0x41100000, 0xC0900000, 0x40400000, 0x3F400000, 0x40080000, 0xBEA00000, 0, 0x3FC00000]

/-- v5 of the worked block (after R226). -/
def scales (l : Nat) : Nat := if l < 16 then 0xFF else 0xFE

/-- QSCALE of the worked block: v5 = 0xFF in lanes 0 to 15 and 0xFE in lanes 16 to 31. -/
theorem test_block_scale : (let s := done (exec (.qscale 5 4 0) (scene (after [0xFAB00005] (lanes 4 (block.getD · 0) threads))))
    (List.range 32).all fun l => look s 5 l == scales l) = true := by decide +kernel

/-- QPACK of the worked block: lane 0 holds 0x208314D7, the others 0. -/
theorem test_block_pack :
    (let s := done (exec (.qpack 6 4 5 0 0) (scene (after [0xFAB00005] (lanes 5 scales (lanes 4 (block.getD · 0) threads)))))
     (List.range 32).all fun l => look s 6 l == if l == 0 then 0x208314D7 else 0) = true := by decide +kernel

/-- QUNPACK of the worked block. -/
theorem test_block_unpack :
    (let s := done (exec (.qunpack 7 6 5 0 0)
        (scene (after [0xFA058005] (lanes 5 scales (lanes 6 (fun l => if l == 0 then 0x208314D7 else 0) threads)))))
     let v7 : List Nat := [0x41100000, 0xC0900000, 0x40400000, 0x3F400000, 0x40100000, 0x80000000, 0, 0x3FC00000]
     (List.range 32).all fun l => look s 7 l == v7.getD l 0) = true := by decide +kernel

/-- The same block with an E8M0 scale (the worked example after R68). -/
theorem test_block_e8m0 : encodeBlock .e8m0 (.fl .e2m1) ((block ++ List.replicate 8 0).map (Fmt.f32.value ·))
    = (0x80, [6, 0xC, 3, 1, 2, 8, 0, 2] ++ List.replicate 8 0) := by decide +kernel

/-- The examples of ds8 codes after R55, in units of 2^-6. -/
theorem test_ds8 : ([0x77, 0x07, 0x87, 0x00, 0x0A, 0x12, 0xEE].map ds8Units) = [0, 64, -64, 128, 48, 48, -2] := by
  decide +kernel

/-- The example of R100: channel 11 and home tower 0. -/
theorem test_far_place : channelOf 0x345678A40 = 11 ∧ homeTower 0x345678A40 = 0 := by decide +kernel

/-- The example after R12: core 61 is in tower 1, in its package cluster 15, at position 1. -/
theorem test_core_61 : towerOf 61 = 1 ∧ clusterOf 61 = 15 ∧ 61 % 4 = 1 := by decide

/-! ## Each statement's hypotheses are met -/

/-- v1 holds the lane, v2 a constant. -/
def pair (b : Barge) : Barge := lanes 2 (fun _ => 3) (lanes 1 (fun l => l) b)

/-- IADD, and POPC. -/
theorem witness_IntegerArithmetic :
    (∃ s g d f, arithmetic (.iadd 3 1 2 0 0) g = some (d, f) ∧ Clear (.iadd 3 1 2 0 0) s g ∧ nonUniform g.active { spec := d } f = false) ∧
    (∃ s g d f, bitwise (.popc 3 1 0) g = some (d, f) ∧ Clear (.popc 3 1 0) s g ∧ nonUniform g.active { spec := d } f = false) :=
  ⟨⟨scene (pair threads), _, _, _, rfl, clear_of (by decide +kernel), by decide +kernel⟩,
   ⟨scene (pair threads), _, _, _, rfl, clear_of (by decide +kernel), by decide +kernel⟩⟩

/-- A shift by 32. -/
theorem witness_Shifts :
    ∃ s g d f, shifts (.ishlImm 3 1 0 32) g = some (d, f) ∧ Clear (.ishlImm 3 1 0 32) s g ∧ nonUniform g.active { spec := d } f = false :=
  ⟨scene (pair threads), _, _, _, rfl, clear_of (by decide +kernel), by decide +kernel⟩

theorem witness_WideIntegers :
    ∃ s g d f, wide (.lea 4 98 6 0 0) g = some (d, f) ∧ Clear (.lea 4 98 6 0 0) s g ∧ nonUniform g.active d f = false :=
  ⟨scene (scalar 2 0x5000 threads), _, _, _, rfl, clear_of (by decide +kernel), by decide +kernel⟩

theorem witness_Predicates :
    ∃ s g e f, predicates (.icmp 2 3 1 2 0 0) g = some (e, f) ∧ Clear (.icmp 2 3 1 2 0 0) s g :=
  ⟨scene (pair threads), _, _, _, rfl, clear_of (by decide +kernel)⟩

/-- FADD, packed FADD and FADD with 0.5. -/
theorem witness_FloatWords :
    (∃ s g d op a b c, class4 (.fadd 3 1 2 0 0) g = some (d, op, a, b, c) ∧ Clear (.fadd 3 1 2 0 0) s g ∧
      let f (l : Nat) : LaneResult := lane4 (words4 g) (table103 g (format4 g) op (code4 g a l) (code4 g b l) (code4 g c l))
      nonUniform g.active { spec := d, words := words4 g } (fun l => (f l).words) = false ∧ Untrapped g f) ∧
    (∃ s g d op a b c, class5 (.faddPacked 3 1 2 0 0) g = some (d, op, a, b, c) ∧ Clear (.faddPacked 3 1 2 0 0) s g ∧
      let fmt : Fmt := if g.pre.t1 = 17 then .bf16 else .f16
      let r (l k : Nat) : Rounded := table103 g fmt op (half5 a l k) (half5 b l k) (half5 c l k)
      let f (l : Nat) : LaneResult :=
        { words := [BitVec.ofNat 32 ((r l 1).code * 2 ^ 16 + (r l 0).code)], flags := allFlags [r l 0, r l 1] }
      nonUniform g.active { spec := d } (fun l => (f l).words) = false ∧ Untrapped g f) ∧
    (∃ s g d op a k c, class6 (.faddImm 3 1 0 0x30) g = some (d, op, a, k, c) ∧ Clear (.faddImm 3 1 0 0x30) s g ∧
      let f (l : Nat) : LaneResult := lane4 1 (table103 g .f32 op (a.w32 l).toNat (imm6 g k) (c.w32 l).toNat)
      nonUniform g.active { spec := d } (fun l => (f l).words) = false ∧ Untrapped g f) :=
  ⟨⟨scene threads, _, _, _, _, _, _, rfl, clear_of (by decide +kernel), by decide +kernel, by unfold Untrapped; decide +kernel⟩,
   ⟨scene threads, _, _, _, _, _, _, rfl, clear_of (by decide +kernel), by decide +kernel, by unfold Untrapped; decide +kernel⟩,
   ⟨scene threads, _, _, _, _, _, _, rfl, clear_of (by decide +kernel), by decide +kernel, by unfold Untrapped; decide +kernel⟩⟩

theorem witness_SpecialFunctions :
    ∃ s g d latency f b, class7 (.rcp 3 1 0) g = some (d, latency, f, b) ∧ Clear (.rcp 3 1 0) s g ∧ g.active ≠ 0 ∧
      let value (v : Val) (l : Nat) : Exact := Fmt.f32.operand g.b.fctl.ftz32 (v.w32 l).toNat
      let r (l : Nat) : LaneResult :=
        let x := f (value (g.val 0) l) (value b l)
        let y := Machine.round .f32 (g.modeOr .rn) (g.fctx g.b.fctl.ftz32) x.1
        { words := [BitVec.ofNat 32 y.code], flags := y.flags.or { dz := x.2 } }
      nonUniform g.active { spec := d } (fun l => (r l).words) = false :=
  ⟨scene threads, _, _, _, _, _, rfl, clear_of (by decide +kernel), by decide +kernel, by decide +kernel⟩

/-- ITOF of n32 to f32. -/
theorem witness_Conversions :
    ∃ s g d f, conversions (.itof 3 1 0) g = some (d, f) ∧ Clear (.itof 3 1 0) s g ∧
      let dst : Dst := { spec := d, words := typeWords g.pre.t1 }
      nonUniform g.active dst (fun l => (f l).words) = false ∧ Untrapped g f :=
  ⟨scene (after [0xFA71C000] (pair threads)), _, _, _, rfl, clear_of (by decide +kernel), by decide +kernel,
    by unfold Untrapped; decide +kernel⟩

theorem witness_NarrowFormats :
    ∃ s g d latency f, narrow (.dsmul 3 1 2 0 0) g = some (d, latency, f) ∧ Clear (.dsmul 3 1 2 0 0) s g ∧
      nonUniform g.active { spec := d } (fun l => (f l).words) = false ∧ Untrapped g f :=
  ⟨scene threads, _, _, _, _, rfl, clear_of (by decide +kernel), by decide +kernel, by unfold Untrapped; decide +kernel⟩

theorem witness_MovesAndSelections :
    ∃ s g d f, between (.movs 99 1 100 0 0) g = some (d, f) ∧ Clear (.movs 99 1 100 0 0) s g ∧ nonUniform g.active d f = false :=
  ⟨scene (pair threads), _, _, _, rfl, clear_of (by decide +kernel), by decide +kernel⟩

theorem witness_MatchLanes :
    ∃ s g, Clear (.matchLanes 3 1 0) s g ∧
      let same (l j : Nat) : Bool := decide ((g.val 0).word l 0 = (g.val 0).word j 0)
        && (g.pre.t1 != 10 || decide ((g.val 0).word l 1 = (g.val 0).word j 1))
      let f (l : Nat) : List Word := [bits fun j => laneOn g.active j && same l j]
      nonUniform g.active { spec := 3 } f = false :=
  met (s := scene (pair threads)) (by decide +kernel) (by decide +kernel)

theorem witness_FloatReduction :
    ∃ s g, Clear (.bred 99 1 0) s g ∧ g.pre.t1 = 14 ∧ g.active ≠ 0 ∧
      let op := if g.pre.aux = 0 then 0 else if g.pre.aux = 1 then 4 else 5
      let leaf (l : Nat) : Option Nat × Flags := (if laneOn g.active l then some ((g.val 0).w32 l).toNat else none, {})
      let root := tree235 (fun x y => table103 g .f32 op x y 0) leaf 5 0
      Untrapped g fun _ => { words := [BitVec.ofNat 32 (root.1.getD 0)], flags := root.2 } :=
  met (s := scene (after [0xFA700000] threads)) (by decide +kernel)
    ⟨by decide +kernel, by decide +kernel, by unfold Untrapped; decide +kernel⟩

/-- The machine about to fetch NOP. -/
def fetching : State := State.reset.withFetchWord 32 0x64000000

/-- The barge that does. -/
def fetcher : Barge := probeBarge { regs := 96 }

/-- Does a fetch answer this word? -/
def fetches (f : Fetched) (w : Word) : Bool :=
  match f with
  | .word x _ => x == w
  | _ => false

theorem fetches_word {f : Fetched} {w : Word} (h : fetches f w = true) : ∃ t, f = .word w t := by
  cases f with
  | word x t => exact ⟨t, by simp only [fetches, beq_iff_eq] at h; rw [h]⟩
  | wait _ => simp [fetches] at h
  | trap _ => simp [fetches] at h

/-- Does it answer a next state? -/
def nexts (o : Host.Outcome State Fault Refusal) : Bool :=
  match o with
  | .next _ => true
  | _ => false

theorem nexts_next {o : Host.Outcome State Fault Refusal} (h : nexts o = true) : ∃ t, o = .next t := by
  cases o with
  | next t => exact ⟨t, rfl⟩
  | fault _ => simp [nexts] at h
  | refused _ => simp [nexts] at h

/-- The state after reset meets the invariant. -/
theorem reset_inv : State.reset.Inv := ⟨by decide, by decide, by decide⟩

theorem witness_StepKeepsInvariant : ∃ s t, s.Inv ∧ step s = .next t := by
  obtain ⟨t, h⟩ := nexts_next (o := step State.reset) (by decide +kernel)
  exact ⟨_, t, reset_inv, h⟩

theorem witness_StepRunsDecoded : ∃ s t k b w i, s.powered = true ∧ nothingDue s ∧ s.pick = some (k, b) ∧ b.dead = false ∧
    b.delivered = none ∧ b.reinject = [] ∧
    (s.setBarge (k / 512) (k % 512) { b with yieldMarks := b.next.2.2.1 }).fetch (k / 512) (k % 512)
      { b with yieldMarks := b.next.2.2.1 } b.next.1 = .word w t ∧ decode w = .ok i := by
  obtain ⟨t, h⟩ := fetches_word (f := (fetching.setBarge 0 0 { fetcher with yieldMarks := fetcher.next.2.2.1 }).fetch 0 0
      { fetcher with yieldMarks := fetcher.next.2.2.1 } fetcher.next.1) (w := 0x64000000) (by decide +kernel)
  exact ⟨fetching, t, 0, fetcher, 0x64000000, .nop, by decide +kernel, (fun _ h => by cases h), by decide +kernel, by decide +kernel,
    by decide +kernel, by decide +kernel, h, by decide +kernel⟩

theorem witness_FetchReadsWord : ∃ (s : State) (core : Nat) (b : Barge) (addr : Dword) (l : Leaf) (t : State),
    canonical addr.toNat = true ∧ s.lookupPage core b.ctx (vpnOf addr.toNat) = some (l, 0, t) ∧ s.fetchCause l addr.toNat = none :=
  ⟨fetching, 0, fetcher, 0x10000, _, _, by decide +kernel, rfl, by decide +kernel⟩

/-- Two threads, one ahead. -/
theorem witness_SelectsLowestAddress : ∃ b : Barge, b.chain = none ∧ (∃ i, i < 32 ∧ selectable b i = true) :=
  ⟨{ threads with pcs := List.replicate 31 0x2000 ++ [0x1000] }, rfl, 31, by decide, by decide +kernel⟩

theorem witness_StepTakesEvent : ∃ (s : State) (t : Nat) (e : Event) (r : List (Nat × Event)), s.agenda = (t, e) :: r ∧ t ≤ s.now ∧ e.legal = true ∧
    (s.powered = true ∨ e.what = .powerUp) :=
  ⟨{ State.reset with agenda := [(0, { what := .memTempSample, args := [] })] }, 0, _, [], rfl, by decide, by decide, by decide⟩

theorem witness_EventsComplete : Instr.isWord .sleepEnd = false ∧ Instr.sleepEnd ≠ .illegalEncoding := by decide

theorem witness_TimePasses : ∃ s, s.Inv ∧ nothingDue s ∧ (s.powered = true → s.pick = none) :=
  ⟨State.reset, reset_inv, (fun _ h => by cases h), by decide⟩

/-- Every field at its largest. -/
theorem witness_DecodeEncode : ∃ i w, i.wellFormed = true ∧ encode i = some w :=
  ⟨.iadd 127 127 127 1 1, _, by decide, rfl⟩

theorem witness_EncodeDecode : ∃ i w, decode w = .ok i := ⟨.xpred 1 7, 0xFBF00000, by decide +kernel⟩

/-- Class 25, and RED with an acquire. -/
theorem witness_IllegalWordsTrap :
    (∃ (s : State) (iss : Issue) (b : Barge) (e : DecodeError), decode iss.word = .error e ∧ e ≠ .badPrefix ∧
      s.barge iss.core iss.slot = some b ∧ e ≠ .illOrder) ∧
    (∃ (s : State) (iss : Issue) (b : Barge) (e : DecodeError), decode iss.word = .error e ∧ e ≠ .badPrefix ∧
      s.barge iss.core iss.slot = some b ∧ e = .illOrder) :=
  ⟨⟨scene threads, { here with word := 0xC8000000 }, threads, .illClass, by decide +kernel, by decide, by decide +kernel, by decide⟩,
   ⟨scene threads, { here with word := 0b01111_1000_0001000_0011000_100_01_000_1 }, threads, .illOrder, by decide +kernel, by decide, by decide +kernel, rfl⟩⟩

/-- A re-injected entry of five words. -/
def four : Entry := { words := [0xFD000000, 0xFB000000, 0xF9000000, 0xF8000001, 0x64000000], addr := 0xFF0 }

/-- A first prefix, a third, a fourth, and a fourth of a chain that is re-injected. -/
theorem witness_PrefixChains :
    (∃ (i : Instr) (s : State) (iss : Issue) (b : Barge), isPrefix i = true ∧ s.issue = some iss ∧ s.barge iss.core iss.slot = some b ∧
      iss.replay = none ∧ (∀ c, b.chain = some c → c.words.length < 3) ∧ b.chain = none) ∧
    (∃ (i : Instr) (s : State) (iss : Issue) (b : Barge), isPrefix i = true ∧ s.issue = some iss ∧ s.barge iss.core iss.slot = some b ∧
      iss.replay = none ∧ (∀ c, b.chain = some c → c.words.length < 3) ∧ ∃ c, b.chain = some c ∧ c.words.length = 2) ∧
    (∃ (i : Instr) (s : State) (iss : Issue) (b : Barge) (c : Chain), isPrefix i = true ∧ s.issue = some iss ∧
      s.barge iss.core iss.slot = some b ∧ iss.replay = none ∧ b.chain = some c ∧ 3 ≤ c.words.length) ∧
    (∃ (i : Instr) (s : State) (iss : Issue) (b : Barge) (e : Entry), isPrefix i = true ∧ s.issue = some iss ∧
      s.barge iss.core iss.slot = some b ∧ iss.replay = some e ∧ 4 ≤ e.words.length) :=
  ⟨⟨.ximm 1, scene threads, here, threads, by decide, by decide, by decide +kernel, rfl, by decide, rfl⟩,
   ⟨.ximm 1, scene (after [0xFD000000, 0xFB000000] threads), here, _, by decide, by decide, rfl, rfl,
     (fun c h => by cases h; decide), _, rfl, by decide⟩,
   ⟨.ximm 1, scene (after [0xFD000000, 0xFB000000, 0xF9000000] threads), here, _, _, by decide, by decide, rfl, rfl, rfl, by decide⟩,
   ⟨.ximm 1, { scene threads with issue := some { here with replay := some four } }, { here with replay := some four }, threads, four,
     by decide, rfl, by decide +kernel, rfl, by decide⟩⟩

/-- An illegal third source, an empty source that the word waits for, and a label that is not live. -/
theorem witness_IssueChecks :
    (∃ i s g c, Instr.isWord i = true ∧ isPrefix i = false ∧ Issues i s g ∧ g.checkCause (shapeOf i) s = some c) ∧
    (∃ i s g, Instr.isWord i = true ∧ isPrefix i = false ∧ Issues i s g ∧ g.checkCause (shapeOf i) s = none ∧
      g.holdReason (shapeOf i) s ≠ .none) ∧
    (∃ i s g c, Instr.isWord i = true ∧ isPrefix i = false ∧ Issues i s g ∧ g.checkCause (shapeOf i) s = none ∧
      g.holdReason (shapeOf i) s = .none ∧ g.reachCause (shapeOf i) s = some c) :=
  ⟨⟨.nop, scene (after [0xF8000000] threads), _, 0x03, by decide, by decide, issues_of rfl rfl, by decide +kernel⟩,
   ⟨.iabs 3 1 0, scene (threads.markV 1 1), _, by decide, by decide, issues_of rfl rfl, by decide +kernel, by decide +kernel⟩,
   ⟨.ldB32 3 2 0 0, scene (after [0xFA000048] { threads with reachOk := true }), _, 0x92, by decide, by decide,
     issues_of rfl rfl, by decide +kernel, by decide +kernel, by decide +kernel⟩⟩

/-- A barge with n join-stack entries of all its threads, at one address. -/
def nested (n : Nat) (a : Dword) (b : Barge) : Barge :=
  { b with joins := List.replicate n { addr := a, mask := BitVec.allOnes 32 } }

/-- A guard that is false in every lane: of JOIN on a stack that is not empty, and of MMA. -/
theorem witness_GuardedOffWords :
    (∃ s g, Clear .join s g ∧ g.active = 0 ∧ (isBarrier .join = true → g.b.reformed = false) ∧ g.b.joins ≠ []) ∧
    (∃ s g, Clear (.mma 98 100 102 0 0) s g ∧ g.active = 0 ∧ isBarrier (.mma 98 100 102 0 0) = true ∧ g.b.reformed = false) :=
  ⟨met (s := scene (after [0xFB000000] (nested 1 0x2000 threads))) (by decide +kernel) (by decide +kernel),
   met (s := scene (after [0xFB000000] threads)) (by decide +kernel) (by decide +kernel)⟩

theorem witness_TrapsArePrecise :
    (∃ (g : Go) (s : State), s.barge g.core g.slot = some g.b ∧ g.b.trap = none ∧ g.b.waitBar = none) ∧
    (∃ (g : Go) (s : State), s.barge g.core g.slot = some g.b ∧ g.b.trap = none ∧ g.b.waitBar.isSome = true) :=
  ⟨⟨run .nop (scene threads), scene threads, by decide +kernel, by decide +kernel, by decide +kernel⟩,
   ⟨run .nop (scene { threads with waitBar := some { level := 0, number := 0, phase := 0 } }),
    scene { threads with waitBar := some { level := 0, number := 0, phase := 0 } }, by decide +kernel, by decide +kernel, by decide +kernel⟩⟩

/-- A branch forward, and a call. -/
theorem witness_Transfers :
    (∃ i s g target, transfer i g = some (target, none) ∧ Clear i s g) ∧
    (∃ i s g target d, transfer i g = some (target, some d) ∧ Clear i s g) :=
  ⟨⟨.bra 0 0 3, scene threads, _, _, rfl, clear_of (by decide +kernel)⟩,
   ⟨.call 116 0x70, scene threads, _, _, _, rfl, clear_of (by decide +kernel)⟩⟩

/-- MARK at 15 and at 16 entries; JOIN on an empty stack without an active lane, at no entry's address, and at the top one's. -/
theorem witness_DivergentRegions :
    (∃ s g, Clear (.mark 6) s g ∧ g.active ≠ 0 ∧ 16 ≤ g.b.joins.length) ∧
    (∃ s g, Clear (.mark 6) s g ∧ g.active ≠ 0 ∧ g.b.joins.length < 16) ∧
    (∃ s g, Clear .join s g ∧ g.active = 0 ∧ g.b.joins = []) ∧
    (∃ s g, Clear .join s g ∧ g.active ≠ 0 ∧ g.b.joins ≠ [] ∧ maskOf (fun l => laneOn g.active l && (entryAt g.b g.addr l).isNone) ≠ 0) ∧
    (∃ s g, Clear .join s g ∧ g.active ≠ 0 ∧ g.b.joins ≠ [] ∧ maskOf (fun l => laneOn g.active l && (entryAt g.b g.addr l).isNone) = 0) :=
  ⟨met (s := scene (nested 16 0x2000 threads)) (by decide +kernel) (by decide +kernel),
   met (s := scene (nested 15 0x2000 threads)) (by decide +kernel) (by decide +kernel),
   met (s := scene (after [0xFB000000] threads)) (by decide +kernel) (by decide +kernel),
   met (s := scene (nested 1 0x2000 threads)) (by decide +kernel) (by decide +kernel),
   met (s := scene (nested 16 0x1000 threads)) (by decide +kernel) (by decide +kernel)⟩

theorem witness_JoinsSettle : ∃ b : Barge, b.joins.length ≤ 16 ∧ b.pcs.length = 32 :=
  ⟨nested 16 0x2000 { threads with running := 0, waitAt := List.replicate 32 15 }, by decide, by decide⟩

theorem witness_ExitEndsThreads : ∃ s g, Clear .exit s g ∧ g.active ≠ 0 :=
  met (s := scene threads) (by decide +kernel) (by decide +kernel)

theorem witness_NopAndStalls : ∃ s g, Clear .nop s g ∧ g.pre.stall = 31 ∧ g.pre.yield = true :=
  met (s := scene (after [0xFDFC0000] threads)) (by decide +kernel) (by decide +kernel)

/-- SLEEP 0 and SLEEP 1. -/
theorem witness_SleepAndYield :
    (∃ s g, Clear (.sleep 0) s g ∧ g.active ≠ 0 ∧ g.pre.ximm = none) ∧
    (∃ s g, Clear (.sleep 1) s g ∧ g.active ≠ 0 ∧ g.pre.ximm = none) ∧ (∃ s g, Clear .yield s g ∧ g.active ≠ 0) :=
  ⟨met (s := scene threads) (by decide +kernel) (by decide +kernel), met (s := scene threads) (by decide +kernel) (by decide +kernel),
   met (s := scene threads) (by decide +kernel) (by decide +kernel)⟩

/-- The moves of a REFORM whose key is v1. -/
def movesOf (d : BitVec 7) (g : Go) (s : State) : List Move :=
  ((lanesIn g.active).foldl (fun (x : Filing) l =>
    x.lane g.b (g.b.fctlAt s.now) g.core (8 * d.toNat) (max 1 d.toNat) l (relative g (offset41 g 0x20)) ((g.val 0).w32 l))
    { s, net := max (s.now + 4) (s.core g.core).netBusy }).moves

/-- REFORM inside a region, with no room for a basin, and with room. -/
theorem witness_ReformLeaves :
    (∃ s g, Clear (.reform 1 1 0 0x20) s g ∧ g.active ≠ 0 ∧ g.b.joins ≠ []) ∧
    (∃ s g, Clear (.reform 1 1 0 0x20) s g ∧ g.active ≠ 0 ∧ g.b.joins = [] ∧ g.pre.aux = 0 ∧ movesOf 1 g s = []) ∧
    (∃ s g, Clear (.reform 1 1 0 0x20) s g ∧ g.active ≠ 0 ∧ g.b.joins = [] ∧ g.pre.aux = 0 ∧ movesOf 1 g s ≠ []) :=
  ⟨met (s := scene (nested 1 0x2000 threads)) (by decide +kernel) (by decide +kernel),
   met (s := scene { threads with regs := 1000000 }) (by decide +kernel) (by decide +kernel),
   met (s := scene threads) (by decide +kernel) (by decide +kernel)⟩

/-- A pair of v registers holds an address in each lane. -/
def address (r : Nat) (f : Nat → Nat) (b : Barge) : Barge := lanes (r + 1) (fun l => f l / 2 ^ 32) (lanes r (fun l => f l % 2 ^ 32) b)

/-- A load, an atomic and a box test go out. -/
theorem witness_GlobalAccessesGoOut :
    (∃ s g a, globalAccess (.ldB32 4 2 1 0) g s = some a ∧ Clear (.ldB32 4 2 1 0) s g ∧ g.active ≠ 0 ∧ a.legal = true) ∧
    (∃ s g op red d sc r t, atomicWord (.atomAdd 4 2 4 0 0 0) = some (op, red, d, sc, r, t) ∧ Clear (.atomAdd 4 2 4 0 0 0) s g ∧
      g.active ≠ 0 ∧ g.pre.aux % 2 = 0 ∧ r.toNat < 2) ∧
    (∃ s g a, unitAccess (.boxt 40 16 100 0 0) g s = some a ∧ Clear (.boxt 40 16 100 0 0) s g ∧ g.active ≠ 0) :=
  ⟨⟨scene (address 2 (fun l => 0x20000 + 4 * l) threads), _, _, rfl, clear_of (by decide +kernel), by decide +kernel, by decide +kernel⟩,
   ⟨scene (address 2 (fun l => 0x20000 + 4 * l) threads), _, _, _, _, _, _, _, rfl, clear_of (by decide +kernel), by decide +kernel,
     by decide +kernel, by decide +kernel⟩,
   ⟨scene (scalar 4 0x20000 threads), _, _, rfl, clear_of (by decide +kernel), by decide +kernel⟩⟩

/-- A releasing store, and SIGNAL. -/
theorem witness_ReleasedAccessesGoOut :
    (∃ s g a scope uo, releasedAccess (.syncSt 4 2 5 2 0 0) g s = some (a, scope, uo) ∧ Clear (.syncSt 4 2 5 2 0 0) s g ∧ g.active ≠ 0 ∧
      a.legal = true) ∧
    (∃ s g a scope uo, releasedAccess (.signal 100 102 0 0) g s = some (a, scope, uo) ∧ Clear (.signal 100 102 0 0) s g ∧
      g.active ≠ 0 ∧ a.legal = true) :=
  ⟨⟨scene threads, run _ (scene threads), _, _, _, rfl, clear_of (by decide +kernel), by decide +kernel, by decide +kernel⟩,
   ⟨scene threads, run _ (scene threads), _, _, _, rfl, clear_of (by decide +kernel), by decide +kernel, by decide +kernel⟩⟩

/-- A scalar load of two addresses, a scalar atomic of many lanes, a scalar local load; a version of a label that is not live, a
misaligned CSTORE, an MXACC of two blocks, and a releasing one. -/
theorem witness_AccessesThatTrap :
    (∃ s g a, Ready (.ldB32 98 2 0 0) s g ∧ g.active ≠ 0 ∧ globalAccess (.ldB32 98 2 0 0) g s = some a ∧ a.uniform = false) ∧
    (∃ s g op red d sc r t, Ready (.atomAdd 98 2 4 0 0 0) s g ∧ g.active ≠ 0 ∧
      atomicWord (.atomAdd 98 2 4 0 0 0) = some (op, red, d, sc, r, t) ∧ red = false ∧ isScalar d = true ∧ 1 < (lanesIn g.active).length) ∧
    (∃ s g a, Ready (.ldlB32 98 2 0 0) s g ∧ g.active ≠ 0 ∧ nearAccess (.ldlB32 98 2 0 0) g s = some a ∧ a.legal = false) ∧
    (∃ s g a, Clear (.ldvB32 4 2 0 0) s g ∧ g.active ≠ 0 ∧ globalAccess (.ldvB32 4 2 0 0) g s = some a ∧ a.legal = false) ∧
    (∃ s g a, Clear (.cstoreB32 4 100 0 0) s g ∧ g.active ≠ 0 ∧ globalAccess (.cstoreB32 4 100 0 0) g s = some a ∧ a.legal = false) ∧
    (∃ s g a, Clear (.mxacc 4 2 5 0 0 0) s g ∧ g.active ≠ 0 ∧ globalAccess (.mxacc 4 2 5 0 0 0) g s = some a ∧ a.legal = false) ∧
    (∃ s g a scope uo, Clear (.mxacc 4 2 5 2 0 0) s g ∧ g.active ≠ 0 ∧
      releasedAccess (.mxacc 4 2 5 2 0 0) g s = some (a, scope, uo) ∧ a.legal = false) :=
  let apart := scene (address 2 (fun l => 0x20000 + 64 * l) threads)
  ⟨⟨apart, _, _, ready_of (by decide +kernel), by decide +kernel, rfl, by decide +kernel⟩,
   ⟨scene threads, _, _, _, _, _, _, _, ready_of (by decide +kernel), by decide +kernel, rfl, by decide +kernel, by decide +kernel,
     by decide +kernel⟩,
   ⟨apart, _, _, ready_of (by decide +kernel), by decide +kernel, rfl, by decide +kernel⟩,
   ⟨scene { threads with tag := 3 }, _, _, clear_of (by decide +kernel), by decide +kernel, rfl, by decide +kernel⟩,
   ⟨scene (scalar 4 0x20002 threads), _, _, clear_of (by decide +kernel), by decide +kernel, rfl, by decide +kernel⟩,
   ⟨apart, run _ apart, _, clear_of (by decide +kernel), by decide +kernel, rfl, by decide +kernel⟩,
   ⟨apart, run _ apart, _, _, _, clear_of (by decide +kernel), by decide +kernel, rfl, by decide +kernel⟩⟩

/-- A local load whose last byte is the last of the workgroup's memory, one past it, and the same for a releasing store. -/
theorem witness_NearAccessesGo :
    (∃ s g a places, Clear (.ldlB32 4 2 0 0) s g ∧ g.active ≠ 0 ∧ nearAccess (.ldlB32 4 2 0 0) g s = some a ∧ a.legal = true ∧
      a.places g s = .ok places) ∧
    (∃ s g a x, Clear (.ldlB32 4 2 0 0) s g ∧ g.active ≠ 0 ∧ nearAccess (.ldlB32 4 2 0 0) g s = some a ∧ a.legal = true ∧
      a.places g s = .error x) ∧
    (∃ s g a scope places, Clear (.syncSt 4 2 1 2 0 0) s g ∧ g.active ≠ 0 ∧ releasedNear (.syncSt 4 2 1 2 0 0) g s = some (a, scope) ∧
      a.legal = true ∧ a.places g s = .ok places) ∧
    (∃ s g a scope x, Clear (.syncSt 4 2 1 2 0 0) s g ∧ g.active ≠ 0 ∧ releasedNear (.syncSt 4 2 1 2 0 0) g s = some (a, scope) ∧
      a.legal = true ∧ a.places g s = .error x) ∧
    (∃ (s : State) (g : Go) (l base size : Nat), s.localRange g.core g.b l = some (base, size)) :=
  ⟨⟨scene (lanes 2 (fun l => 4092 - 4 * l) threads), _, _, _, clear_of (by decide +kernel), by decide +kernel, rfl, by decide +kernel, rfl⟩,
   ⟨scene (lanes 2 (fun l => 4096 - 4 * l) threads), _, _, _, clear_of (by decide +kernel), by decide +kernel, rfl, by decide +kernel, rfl⟩,
   ⟨scene (after [0xFA000001] (lanes 2 (fun l => 4092 - 4 * l) threads)), _, _, _, _, clear_of (by decide +kernel), by decide +kernel,
     rfl, by decide +kernel, rfl⟩,
   ⟨scene (after [0xFA000001] (lanes 2 (fun l => 4096 - 4 * l) threads)), _, _, _, _, clear_of (by decide +kernel), by decide +kernel,
     rfl, by decide +kernel, rfl⟩,
   ⟨scene threads, run .nop (scene threads), 31, 0, 4096, by decide +kernel⟩⟩

/-- INVL1 and its event, REDFLUSH, both fences, and the layer fence of order 0. -/
theorem witness_OrderingWords :
    (∃ s g, Clear .invl1 s g ∧ g.active ≠ 0) ∧ (∃ (s : State) (core ctx x y : Nat), s.args = [core, ctx, x, y]) ∧
    (∃ s g, Clear .redflush s g ∧ g.active ≠ 0) ∧
    (∃ s g, Clear (.fence 5 3) s g ∧ g.active ≠ 0) ∧ (∃ s g, Clear (.fenceLayer 5 1) s g ∧ g.active ≠ 0) ∧
    (∃ s g, Clear (.fenceLayer 0 0) s g ∧ g.active ≠ 0) :=
  ⟨met (s := scene threads) (by decide +kernel) (by decide +kernel), ⟨{ State.reset with args := [0, 1, 0, 0] }, 0, 1, 0, 0, rfl⟩,
   met (s := scene threads) (by decide +kernel) (by decide +kernel), met (s := scene threads) (by decide +kernel) (by decide +kernel),
   met (s := scene threads) (by decide +kernel) (by decide +kernel), met (s := scene threads) (by decide +kernel) (by decide +kernel)⟩

/-- The least signed number. -/
theorem witness_AtomicIntegers : ∃ (ty : AtomTy) (o v c : Nat), (ty = .n32 ∨ ty = .i32 ∨ ty = .n64 ∨ ty = .i64) ∧
    o < 2 ^ (8 * ty.bytes) ∧ v < 2 ^ (8 * ty.bytes) ∧ c < 2 ^ (8 * ty.bytes) ∧ o = 2 ^ 31 :=
  ⟨.i32, 2 ^ 31, 1, 0, by decide, by decide, by decide, by decide, rfl⟩

/-- Does a barrier word find its barrier, with all its live threads issuing? -/
def reaches (i : Instr) (level number : Nat) (arrives : Bool) (h : Nat) (s : State) (g : Go) : Prop :=
  (∃ waits, barrierWord i g = some (level, number, arrives, waits)) ∧ g.b.reformed = false ∧ g.active ≠ 0 ∧ number < barriersAt level ∧
    s.holderOf g.b level = some h ∧ ~~~g.b.exited &&& ~~~g.group = 0

/-- In a reformed barge; at a number past the last of its level; outside a gang; diverged; arrived already; arriving at the
last barrier of a workgroup; waiting for a phase; and with no flag. -/
theorem witness_Barriers :
    (∃ s g, Clear (.bar 0 3) s g ∧ barrierWord (.bar 0 3) g = some (0, 3, true, true) ∧ g.b.reformed = true) ∧
    (∃ s g, Clear (.bsync 100 0) s g ∧ barrierWord (.bsync 100 0) g = some (0, 16, false, true) ∧ g.b.reformed = false ∧
      g.active ≠ 0 ∧ barriersAt 0 ≤ 16) ∧
    (∃ s g, Clear (.bar 1 7) s g ∧ barrierWord (.bar 1 7) g = some (1, 7, true, true) ∧ g.b.reformed = false ∧ g.active ≠ 0 ∧
      s.holderOf g.b 1 = none) ∧
    (∃ s g, Clear (.bar 0 3) s g ∧ barrierWord (.bar 0 3) g = some (0, 3, true, true) ∧ g.b.reformed = false ∧ g.active ≠ 0 ∧
      s.holderOf g.b 0 = some 0 ∧ ~~~g.b.exited &&& ~~~g.group ≠ 0) ∧
    (∃ s g, Clear (.bararr 0 3) s g ∧ reaches (.bararr 0 3) 0 3 true 0 s g ∧ flagPhase g.b 0 3 = some (s.barrier 0 0 3).phase) ∧
    (∃ s g, Clear (.bar 0 15) s g ∧ reaches (.bar 0 15) 0 15 true 0 s g ∧ flagPhase g.b 0 15 ≠ some (s.barrier 0 0 15).phase) ∧
    (∃ s g, Clear (.bsync 100 0) s g ∧ reaches (.bsync 100 0) 0 3 false 0 s g ∧ flagPhase g.b 0 3 = some (s.barrier 0 0 3).phase) ∧
    (∃ s g, Clear (.bsync 100 0) s g ∧ reaches (.bsync 100 0) 0 3 false 0 s g ∧ flagPhase g.b 0 3 ≠ some (s.barrier 0 0 3).phase) :=
  ⟨met (s := scene { threads with reformed := true }) (by decide +kernel) (by decide +kernel),
   met (s := scene (scalar 4 16 threads)) (by decide +kernel) (by decide +kernel),
   met (s := scene threads) (by decide +kernel) (by decide +kernel),
   met (s := alone (scene threads)) (by decide +kernel) (by decide +kernel),
   met (s := scene { threads with flags := [{ level := 0, number := 3, phase := 0 }] }) (by decide +kernel)
     ⟨⟨⟨_, rfl⟩, by decide +kernel⟩, by decide +kernel⟩,
   met (s := scene threads) (by decide +kernel) ⟨⟨⟨_, rfl⟩, by decide +kernel⟩, by decide +kernel⟩,
   met (s := scene (scalar 4 3 { threads with flags := [{ level := 0, number := 3, phase := 0 }] })) (by decide +kernel)
     ⟨⟨⟨true, by decide +kernel⟩, by decide +kernel⟩, by decide +kernel⟩,
   met (s := scene (scalar 4 3 threads)) (by decide +kernel) ⟨⟨⟨true, by decide +kernel⟩, by decide +kernel⟩, by decide +kernel⟩⟩

/-- Semaphore 5 of the core has a value, or ERR. -/
def holding (x : Sem) (s : State) : State := { s with cores := [(0, { sems := [(5, x)] })] }

/-- Has the value of semaphore 5 reached the threshold of R170? -/
def reached (s : State) (g : Go) : Prop :=
  ((s.sem 0 g.core 5).value.toNat + 2 ^ 32 - ((g.val 0).w32 0).toNat) % 2 ^ 32 < 2 ^ 31

/-- With ERR; at the threshold, past which the count has wrapped; one short of it. -/
theorem witness_SemaphoreWaits :
    (∃ s g, Clear (.semwait 0 100 0 5) s g ∧ g.active ≠ 0 ∧ (s.sem 0 g.core 5).err = true) ∧
    (∃ s g, Clear (.semwait 0 100 0 5) s g ∧ g.active ≠ 0 ∧ (s.sem 0 g.core 5).err = false ∧ reached s g) ∧
    (∃ s g, Clear (.semwait 0 100 0 5) s g ∧ g.active ≠ 0 ∧ (s.sem 0 g.core 5).err = false ∧ ¬ reached s g) :=
  ⟨met (s := holding { err := true } (scene threads)) (by decide +kernel) (by decide +kernel),
   met (s := holding { value := 2 } (scene (scalar 4 0xFFFFFFFF threads))) (by decide +kernel)
     ⟨by decide +kernel, by decide +kernel, by unfold reached; decide +kernel⟩,
   met (s := holding { value := 2 } (scene (scalar 4 3 threads))) (by decide +kernel)
     ⟨by decide +kernel, by decide +kernel, by unfold reached; decide +kernel⟩⟩

theorem witness_SemaphoreUpdates :
    (∃ s g, Clear (.semset 0 100 0 63) s g ∧ g.active ≠ 0) ∧ (∃ s g, Clear (.semsig 1 100 0 255) s g ∧ g.active ≠ 0) :=
  ⟨met (s := scene threads) (by decide +kernel) (by decide +kernel), met (s := scene threads) (by decide +kernel) (by decide +kernel)⟩

/-- A SEMSIG of a barge with its record, an engine's increment without one, and the test that follows. -/
theorem witness_SemaphoreValues :
    (∃ (s : State) (file unit number kind value rank : Nat) (rel : Option (Nat × Nat)),
      s.args = [file, unit, number, kind, value, rank] ++ (rel.map fun r => [r.1, r.2]).getD [] ∧
      s.earlierUpdate file unit number rank = false ∧ kind < 2 ∧ rel.isSome = true) ∧
    (∃ (s : State) (file unit number kind value rank : Nat) (rel : Option (Nat × Nat)),
      s.args = [file, unit, number, kind, value, rank] ++ (rel.map fun r => [r.1, r.2]).getD [] ∧
      s.earlierUpdate file unit number rank = false ∧ kind < 2 ∧ rel = none) ∧
    (∃ (s : State) (file unit number : Nat), s.args = [file, unit, number] ∧
      s.earlierUpdate file unit number (2 * 10 ^ 9) = false) :=
  ⟨⟨{ State.reset with args := [0, 0, 5, 0, 1, 3, 0, 7] }, 0, 0, 5, 0, 1, 3, some (0, 7), rfl, by decide, by decide, rfl⟩,
   ⟨{ State.reset with args := [0, 0, 5, 0, 1, 0] }, 0, 0, 5, 0, 1, 0, none, rfl, by decide, by decide, rfl⟩,
   ⟨{ State.reset with args := [0, 0, 5] }, 0, 0, 5, rfl, by decide⟩⟩

/-- The address of a tile store word in a lane. -/
def tileAddress (g : Go) (l : Nat) : Nat := (((g.val 0).w32 l).toNat + ((g.opB 1 3 0).w32 l).toNat) % 2 ^ 32

/-- TLD at the end of the tile store and one word before it; TCOPY to the end, and within. -/
theorem witness_TileStore :
    (∃ s g, Clear (.tld 4 2 3 0 0) s g ∧ g.active ≠ 0 ∧ (lanesIn g.active).find? (fun l => decide (524288 ≤ tileAddress g l)) = some 0) ∧
    (∃ s g, Clear (.tld 4 2 3 0 0) s g ∧ g.active ≠ 0 ∧
      (lanesIn g.active).any (fun l => decide (524288 ≤ tileAddress g l ∨ tileAddress g l % 4 ≠ 0)) = false) ∧
    (∃ s g, Clear (.tcopy 98 100 102 0 0) s g ∧ g.active ≠ 0 ∧ ((g.opB 2 102 0).w32 0).toNat = 524288) ∧
    (∃ s g, Clear (.tcopy 98 100 102 0 0) s g ∧ g.active ≠ 0 ∧ ((g.val 0).dword.toNat / 2 ^ 16 % 1024 + 1) % 4 = 0
      ∧ (g.val 0).dword.toNat % 512 + 1 = 1 ∧ ((g.val 1).w32 0).toNat = 0 ∧ ((g.opB 2 102 0).w32 0).toNat = 511 * 1024 + 1020) :=
  ⟨met (s := scene (lanes 2 (fun _ => 524288) threads)) (by decide +kernel) (by decide +kernel),
   met (s := scene (lanes 2 (fun _ => 524284) threads)) (by decide +kernel) (by decide +kernel),
   met (s := scene (scalar 6 524288 threads)) (by decide +kernel) (by decide +kernel),
   met (s := scene (scalar 6 (511 * 1024 + 1020) (scalar 2 (3 * 2 ^ 16) threads))) (by decide +kernel) (by decide +kernel)⟩

/-- A legal card at 0 of local memory: a fill of 64 bytes at 0x20000 (R156 to R158). -/
def carded (s : State) : State :=
  { s with cores := [(0, { localMem := [(0, 0x21), (1, 0x08), (12, 0x04), (50, 0x02), (55, 0x06)] })] }

/-- What JOB reads, before it is parsed. -/
def blankCard (g : Go) (s : State) (bytes : List Byte) : Card :=
  { engine := s.engineOf g.core (leNat (bytes.take 8) % 16), seq := 0, ctx := g.b.ctx, tag := g.b.tag, core := g.core
    node := g.b.node, chunk := g.b.chunkSlot, localBase := 0, localSize := 4096, subop := 0, nr := 0, nw := 0
    semf := false, sem := 0, inc := 0, pa := 0, pb := 0, regions := [], jobq := false }

/-- The card of a barge whose workgroup's local memory begins at 0. -/
def cardBytes (g : Go) (s : State) : List Byte :=
  s.localBytes g.core g.slot (0 + ((g.val 0).w32 0).toNat) 64

/-- A card with no region that waits for its place, posted by barge 0 of core 0 with the flight 5. -/
def posting (jobq : Bool) (stage : Nat) : Card :=
  { engine := .gather 0, seq := 0, ctx := 1, tag := 0, core := 0, node := 0, chunk := none
    localBase := 0, localSize := 0, subop := 0, nr := 0, nw := 0, semf := false, sem := 0, inc := 0, pa := 0, pb := 0
    regions := [], jobq, stage, flight := some 5 }

/-- Its flight. -/
def postingFlight : Flight :=
  { core := 0, slot := 0, ctx := 1, entry := { words := [], lanes := 1 }, kind := .unit, label := 0, issued := 0
    translating := false, blocks := true, dst := 98, words := 2 }

/-- The card arrives at its scheduler, whose queue holds n cards. -/
def arrives (n : Nat) (c : Card) (args : List Nat) : State :=
  { scene threads with
    issue := none, args, flights := [(5, postingFlight)]
    cards := (9, c) :: (List.range n).map fun k => (10 + k, { posting false 2 with flight := none }) }

/-- What the post of a card at its scheduler meets. -/
def postMet (u : State) (c : Card) (room : Prop) : Prop :=
  (∃ (id fid : Nat) (r : Option (Nat × Nat)), u.args = id :: (r.map fun p => [p.1, p.2]).getD [] ∧ u.cards.look id = some c ∧
    c.flight = some fid ∧ (u.flights.look fid).isSome = true) ∧ room

/-- No local memory on the core; a card that is not aligned; one that is not legal; one that is. A JOBQ at a full queue, a JOB and a
JOBQ that arrive, a JOBQ that finds its queue full 8 cycles later, and a JOB that finds room. -/
theorem witness_JobsPost :
    (∃ s g, Clear (.job 98 100 0) s g ∧ g.active ≠ 0 ∧ s.localRange g.core g.b 0 = none) ∧
    (∃ s g, Clear (.job 98 100 0) s g ∧ g.active ≠ 0 ∧ s.localRange g.core g.b 0 = some (0, 4096) ∧ ((g.val 0).w32 0).toNat % 64 ≠ 0) ∧
    (∃ s g, Clear (.job 98 100 0) s g ∧ g.active ≠ 0 ∧ s.localRange g.core g.b 0 = some (0, 4096) ∧ ((g.val 0).w32 0).toNat = 4032
      ∧ (blankCard g s (cardBytes g s)).parse (cardBytes g s) = none) ∧
    (∃ s g, Clear (.job 98 100 0) s g ∧ g.active ≠ 0 ∧ s.localRange g.core g.b 0 = some (0, 4096) ∧ ((g.val 0).w32 0).toNat = 0
      ∧ ((blankCard g s (cardBytes g s)).parse (cardBytes g s)).isSome = true) ∧
    (∃ u c, postMet u c (c.jobq = true ∧ ¬ (u.queueOf c.engine).length < c.engine.capacity ∧ c.stage = 0)) ∧
    (∃ u c, postMet u c (c.jobq = false ∧ ¬ (u.queueOf c.engine).length < c.engine.capacity ∧ c.stage = 0)) ∧
    (∃ u c, postMet u c (c.jobq = true ∧ (u.queueOf c.engine).length < c.engine.capacity ∧ c.stage = 0)) ∧
    (∃ u c, postMet u c (c.stage = 1 ∧ c.due ≤ u.now ∧ u.lowerPost c = false ∧ c.jobq = true ∧ ¬ (u.queueOf c.engine).length < c.engine.capacity)) ∧
    (∃ u c, postMet u c (c.stage = 1 ∧ c.due ≤ u.now ∧ u.lowerPost c = false ∧ (u.queueOf c.engine).length < c.engine.capacity)) :=
  ⟨met (s := { scene threads with wgs := [(0, { group with core := 1 })] }) (by decide +kernel) (by decide +kernel),
   met (s := scene (scalar 4 32 threads)) (by decide +kernel) (by decide +kernel),
   met (s := scene (scalar 4 4032 threads)) (by decide +kernel) (by decide +kernel),
   met (s := carded (scene threads)) (by decide +kernel) (by decide +kernel),
   ⟨arrives 8 (posting true 0) [9], _, ⟨9, 5, none, rfl, rfl, rfl, by decide +kernel⟩, by decide +kernel⟩,
   ⟨arrives 8 (posting false 0) [9, 0, 3], _, ⟨9, 5, some (0, 3), rfl, rfl, rfl, by decide +kernel⟩, by decide +kernel⟩,
   ⟨arrives 7 (posting true 0) [9], _, ⟨9, 5, none, rfl, rfl, rfl, by decide +kernel⟩, by decide +kernel⟩,
   ⟨arrives 8 (posting true 1) [9], _, ⟨9, 5, none, rfl, rfl, rfl, by decide +kernel⟩, by decide +kernel⟩,
   ⟨arrives 7 (posting false 1) [9], _, ⟨9, 5, none, rfl, rfl, rfl, by decide +kernel⟩, by decide +kernel⟩⟩

/-- In a reformed barge, of 32 lanes, and of one. -/
theorem witness_MatrixWords :
    (∃ s g, Clear (.mma 98 100 102 0 0) s g ∧ g.b.reformed = true) ∧
    (∃ s g, Clear (.mma 98 100 102 0 0) s g ∧ g.b.reformed = false ∧ 1 < (lanesIn g.active).length) ∧
    (∃ s g, Clear (.mma 98 100 102 0 0) s g ∧ g.b.reformed = false ∧ (lanesIn g.active).length = 1) :=
  ⟨met (s := scene { threads with reformed := true }) (by decide +kernel) (by decide +kernel),
   met (s := scene threads) (by decide +kernel) (by decide +kernel),
   met (s := alone (scene threads)) (by decide +kernel) (by decide +kernel)⟩

/-- The stack pointer of a lane. -/
def stack (g : Go) (l : Nat) : Nat := ((g.val 0).w32 l).toNat

/-- The lanes whose stack holds an entry to pop. -/
def poppable (g : Go) : Mask := maskOf fun l => laneOn g.active l && decide (((g.val 1).w32 l).toNat + 8 ≤ stack g l)

/-- RAYINIT; TSPUSH to a full stack, past local memory, and to its last place; TSPOP from past it, and from its last place. -/
theorem witness_RaysAndStacks :
    (∃ s g, Clear (.rayinit 16 0) s g ∧ g.active ≠ 0 ∧ isScalar (16 + 8) = false) ∧
    (∃ s g, Clear (.tspush 8 2 4 0 0) s g ∧ g.active ≠ 0 ∧
      (lanesIn g.active).find? (fun l => decide (((g.val 2).w32 l).toNat < stack g l + 8)) = some 0) ∧
    (∃ s g x, Clear (.tspush 8 2 4 0 0) s g ∧ g.active ≠ 0 ∧
      (lanesIn g.active).any (fun l => decide (((g.val 2).w32 l).toNat < stack g l + 8)) = false ∧
      placeLanes g.active (stack g) (s.nearPlace g .loc 8) = .error x) ∧
    (∃ s g places, Clear (.tspush 8 2 4 0 0) s g ∧ g.active ≠ 0 ∧
      (lanesIn g.active).any (fun l => decide (((g.val 2).w32 l).toNat < stack g l + 8)) = false ∧
      placeLanes g.active (stack g) (s.nearPlace g .loc 8) = .ok places ∧ isScalar 8 = false) ∧
    (∃ s g x, Clear (.tspop 8 2 4 0 0) s g ∧ g.active ≠ 0 ∧
      placeLanes (poppable g) (fun l => stack g l - 8) (s.nearPlace g .loc 8) = .error x) ∧
    (∃ s g places, Clear (.tspop 8 2 4 0 0) s g ∧ g.active ≠ 0 ∧ poppable g ≠ 0 ∧
      placeLanes (poppable g) (fun l => stack g l - 8) (s.nearPlace g .loc 8) = .ok places ∧ isScalar 2 = false) :=
  ⟨met (s := scene threads) (by decide +kernel) (by decide +kernel),
   met (s := scene (lanes 4 (fun _ => 7) threads)) (by decide +kernel) (by decide +kernel),
   ⟨scene (lanes 8 (fun _ => 4096) (lanes 4 (fun _ => 8192) threads)), _, _, clear_of (by decide +kernel), by decide +kernel,
     by decide +kernel, rfl⟩,
   ⟨scene (lanes 8 (fun _ => 4088) (lanes 4 (fun _ => 4096) threads)), _, _, clear_of (by decide +kernel), by decide +kernel,
     by decide +kernel, rfl, by decide⟩,
   ⟨scene (lanes 2 (fun _ => 4104) threads), _, _, clear_of (by decide +kernel), by decide +kernel, rfl⟩,
   ⟨scene (lanes 2 (fun _ => 4096) threads), _, _, clear_of (by decide +kernel), by decide +kernel, by decide +kernel, rfl, by decide⟩⟩

theorem witness_ScalarsAreUniform : ∃ s g d f, checkedResult (.iadd 99 1 2 0 0) g = some (d, f) ∧ Clear (.iadd 99 1 2 0 0) s g ∧
    isScalar d.spec = true ∧
    ∃ l j, l < 32 ∧ j < 32 ∧ laneOn g.active l = true ∧ laneOn g.active j = true ∧ f l ≠ f j :=
  ⟨scene (pair threads), run _ (scene (pair threads)), _, _, rfl, clear_of (by decide +kernel), by decide +kernel, 0, 31,
    by decide, by decide, by decide +kernel, by decide +kernel, by decide +kernel⟩

/-- The sum of both infinities with NV enabled. -/
theorem witness_EnabledFlagsTrap :
    ∃ s g d op a b c x, class4 (.fadd 3 1 2 0 0) g = some (d, op, a, b, c) ∧ Clear (.fadd 3 1 2 0 0) s g ∧
      let f (l : Nat) : LaneResult := lane4 (words4 g) (table103 g (format4 g) op (code4 g a l) (code4 g b l) (code4 g c l))
      nonUniform g.active { spec := d, words := words4 g } (fun l => (f l).words) = false ∧
      enabledCause g.b.fctl.enable (raisedFlags g.active f) = some x :=
  let b := lanes 2 (fun _ => 0xFF800000) (lanes 1 (fun _ => 0x7F800000) { threads with fctl := { enable := { nv := true } } })
  ⟨scene b, run _ (scene b), _, _, _, _, _, 0x20, rfl, clear_of (by decide +kernel), by decide +kernel, by decide +kernel⟩

/-- A result on its way to v95. -/
def arriving : Flight :=
  { core := 0, slot := 0, ctx := 1, entry := { words := [], lanes := 0xF }, kind := .unit, label := 0, issued := 0
    translating := false, dst := 95, words := 1, result := List.replicate 32 [7] }

/-- A scalar on its way to s2, for which its barge waits. -/
def awaitedScalar : Flight :=
  { core := 0, slot := 0, ctx := 1, entry := { words := [], lanes := 1 }, kind := .unit, label := 0, issued := 0
    translating := false, blocks := true, dst := 98, words := 2, result := List.replicate 32 [5, 1] }

theorem witness_ResultsFill :
    (∃ (s : State) (id : Nat) (f : Flight) (b : Barge), s.args = [id] ∧ s.flights.look id = some f ∧
      s.barge f.core f.slot = some b ∧ f.kind = .unit ∧ f.accs = [] ∧ f.cause = none ∧ f.acquire = false ∧ f.words ≠ 0 ∧
      isScalar f.dst = false ∧ f.dst.toNat + f.words ≤ 96 ∧ (∀ l, l < 32 → (f.result.getD l []).length = f.words)) ∧
    (∃ (s : State) (id : Nat) (f : Flight) (b : Barge) (x : Dword), s.args = [id] ∧ s.flights.look id = some f ∧
      s.barge f.core f.slot = some b ∧ f.kind = .unit ∧ f.accs = [] ∧ f.cause = none ∧ f.acquire = false ∧ f.words = 2 ∧
      isScalar f.dst = true ∧ f.entry.lanes ≠ 0 ∧ f.result = List.replicate 32 (pairWords x) ∧ f.blocks = true) :=
  ⟨⟨{ scene threads with issue := none, args := [5], flights := [(5, arriving)] }, 5, arriving, threads, rfl, rfl, rfl, rfl, rfl,
    rfl, rfl, by decide, by decide, by decide, by decide⟩,
   ⟨{ scene { threads with blocked := true } with issue := none, args := [5], flights := [(5, awaitedScalar)] }, 5, awaitedScalar, _,
    0x100000005, rfl, rfl, rfl, rfl, rfl, rfl, rfl, rfl, by decide, by decide, by decide, rfl⟩⟩

/-- A draw of two primitives with four attributes. -/
def draw : Draw := { node := 0, ctx := 1, number := 1, desc := List.replicate 2 0 ++ [0x20] ++ List.replicate 61 0 ++ [1] ++ List.replicate 63 0 }

/-- The barge runs a graphics program of it. -/
def drawing (s : State) : State :=
  { s with draws := [(3, draw)], nodes := [(0, { ctx := 1, queue := 0, state := .placed, arrival := 0, draw := some 3 })] }

/-- A thread of a vertex program. -/
def vertex : Barge := { threads with gfx := true }

/-- Threads of a pixel program, all covered. -/
def pixel : Barge := { threads with gfx := true, pixelProgram := true, pixels := List.replicate 32 { covered := true } }

/-- The lanes that VEXPORT refuses in a draw. -/
def refused (s : State) (g : Go) (d : Nat) (x : Draw) : Mask :=
  let number (l : Nat) : Nat := ((g.val 1).w32 l).toNat % 2 ^ 20
  maskOf fun l => laneOn g.active l && (decide (x.last < number l) || s.exported (towerOf g.core) d x (x.first + number l)
    || (lanesIn g.active).any fun j => decide (j < l ∧ number j = number l))

/-- VEXPORT in a compute program, with one number for all lanes, and from one lane; PEXPORT in a vertex and in a pixel
program; ATTR outside a draw, past the last attribute and at it; ZQUERY in both. -/
theorem witness_GraphicsWords :
    (∃ s g, Clear (.vexport 8 20 0 0) s g ∧ g.active ≠ 0 ∧ g.b.gfx = false) ∧
    (∃ s g, Clear (.vexport 8 20 0 0) s g ∧ g.active ≠ 0 ∧ g.b.gfx = true ∧ g.b.pixelProgram = false ∧ s.drawOf g.b = some (3, draw) ∧
      refused s g 3 draw ≠ 0) ∧
    (∃ s g, Clear (.vexport 8 20 0 0) s g ∧ g.active ≠ 0 ∧ g.b.gfx = true ∧ g.b.pixelProgram = false ∧ s.drawOf g.b = some (3, draw) ∧
      ((g.val 1).w32 0).toNat = draw.last ∧ refused s g 3 draw = 0) ∧
    (∃ s g, Clear (.pexport 1 12 0) s g ∧ g.active ≠ 0 ∧ g.b.pixelProgram = false) ∧
    (∃ s g, Clear (.pexport 4 13 0) s g ∧ g.active ≠ 0 ∧ g.b.pixelProgram = true ∧ s.drawOf g.b = some (3, draw)) ∧
    (∃ s g, Clear (.attr 6 3) s g ∧ g.active ≠ 0 ∧ s.drawOf g.b = none) ∧
    (∃ s g, Clear (.attr 6 4) s g ∧ g.active ≠ 0 ∧ g.b.pixelProgram = true ∧ s.drawOf g.b = some (3, draw) ∧ drawField draw.desc 0 19 5 ≤ 4) ∧
    (∃ s g, Clear (.attr 6 3) s g ∧ g.active ≠ 0 ∧ g.b.pixelProgram = true ∧ s.drawOf g.b = some (3, draw) ∧ 3 < drawField draw.desc 0 19 5) ∧
    (∃ s g, Clear (.zquery 9) s g ∧ g.active ≠ 0 ∧ g.b.pixelProgram = false) ∧
    (∃ s g, Clear (.zquery 9) s g ∧ g.active ≠ 0 ∧ g.b.pixelProgram = true) :=
  ⟨met (s := scene threads) (by decide +kernel) (by decide +kernel),
   met (s := drawing (scene vertex)) (by decide +kernel) (by decide +kernel),
   met (s := alone (drawing (scene (lanes 20 (fun _ => 1) vertex)))) (by decide +kernel) (by decide +kernel),
   met (s := drawing (scene vertex)) (by decide +kernel) (by decide +kernel),
   met (s := drawing (scene pixel)) (by decide +kernel) (by decide +kernel),
   met (s := scene pixel) (by decide +kernel) (by decide +kernel),
   met (s := drawing (scene pixel)) (by decide +kernel) (by decide +kernel),
   met (s := drawing (scene pixel)) (by decide +kernel) (by decide +kernel),
   met (s := scene vertex) (by decide +kernel) (by decide +kernel),
   met (s := scene pixel) (by decide +kernel) (by decide +kernel)⟩

/-- Queue 63 belongs to context 1. -/
def queued (s : State) : State := s.setQueue 63 { s.queue 63 with en := true, ctx := 1 }

/-- The hub performs an event with these arguments. -/
def atHub (args : List Nat) (s : State) : State := { s with issue := none, args }

/-- A flip of context 1 in a head. -/
def waiting : Flip := { ctx := 1, surface := 256, fallback := 512, tag := 0, queuedAt := 0 }

/-- LAUNCH without local memory on the core, to a queue that is off, and of the last packet of local memory; its post at a queue whose slot is
free, full, and claimed by another post; PERFCL and what follows it; FLIP of a misaligned surface and of legal ones, and the flip at
a head that holds one flip, and two. -/
theorem witness_TaskWords :
    (∃ s g, Clear (.launch 98 100 102 0 0) s g ∧ g.active ≠ 0 ∧ s.localRange g.core g.b ((lowestLane g.active).getD 0) = none) ∧
    (∃ s g, Clear (.launch 98 100 102 0 0) s g ∧ g.active ≠ 0 ∧
      s.localRange g.core g.b ((lowestLane g.active).getD 0) = some (0, 4096) ∧ (s.queue ((g.val 1).dword.toNat % 64)).en = false) ∧
    (∃ s g, Clear (.launch 98 100 102 0 0) s g ∧ g.active ≠ 0 ∧
      s.localRange g.core g.b ((lowestLane g.active).getD 0) = some (0, 4096) ∧ (g.val 0).dword.toNat % 2 ^ 32 = 4096 - 64 ∧
      (s.queue ((g.val 1).dword.toNat % 64)).en = true ∧ (s.queue ((g.val 1).dword.toNat % 64)).ctx.toNat = g.b.ctx ∧ g.b.tag = 0) ∧
    (∃ (u : State) (n id : Nat) (packet : List Nat), u.args = (launchQueue + n) :: id :: packet ∧
      (u.queue n).full (u.queue n).tail.toNat = false ∧ u.slotClaimed n (u.queue n).tail.toNat = false) ∧
    (∃ (u : State) (n id : Nat) (packet : List Nat), u.args = (launchQueue + n) :: id :: packet ∧
      (u.queue n).full (u.queue n).tail.toNat = true ∧ u.slotClaimed n (u.queue n).tail.toNat = false) ∧
    (∃ (u : State) (n id : Nat) (packet : List Nat), u.args = (launchQueue + n) :: id :: packet ∧
      (u.queue n).full (u.queue n).tail.toNat = false ∧ u.slotClaimed n (u.queue n).tail.toNat = true) ∧
    (∃ s g, Clear (.perfcl 7) s g ∧ g.active ≠ 0) ∧
    (∃ (u : State) (cluster wg n : Nat) (w : Workgroup), u.args = [cluster, wg, n] ∧ u.wgs.look wg = some w) ∧
    (∃ s g, Clear (.flip 99 104 105 0 0) s g ∧ g.active ≠ 0 ∧ (g.val 0).dword.toNat % 256 ≠ 0) ∧
    (∃ s g, Clear (.flip 99 104 105 0 0) s g ∧ g.active ≠ 0 ∧ (g.val 0).dword.toNat % 256 = 0 ∧ (g.val 1).dword.toNat % 256 = 0) ∧
    (∃ (u : State) (id ctx x y tag h : Nat), u.args = [id, ctx, x, y, tag, h] ∧ u.issue = none ∧ (u.head h).flips.length = 1) ∧
    (∃ (u : State) (id ctx x y tag h : Nat), u.args = [id, ctx, x, y, tag, h] ∧ u.issue = none ∧ (u.head h).flips.length = 2) :=
  ⟨met (s := { scene threads with wgs := [] }) (by decide +kernel) (by decide +kernel),
   met (s := scene threads) (by decide +kernel) (by decide +kernel),
   met (s := queued (scene (scalar 4 4032 (scalar 6 63 threads)))) (by decide +kernel) (by decide +kernel),
   ⟨atHub [launchQueue + 63, 5] State.reset, 63, 5, [], rfl, by decide, by decide⟩,
   ⟨atHub [launchQueue + 63, 5] (State.reset.setQueue 63 { slots := [(63, 0x80)] }), 63, 5, [], rfl, by decide, by decide⟩,
   ⟨atHub [launchQueue + 63, 5] { State.reset with agenda := [(40, { what := .queueSlotWrite, args := [63, 0, 0] })] }, 63, 5, [], rfl,
     by decide, by decide⟩,
   met (s := scene threads) (by decide +kernel) (by decide +kernel),
   ⟨atHub [0, 0, 7] (scene threads), 0, 0, 7, group, rfl, rfl⟩,
   met (s := scene (scalar 8 128 threads)) (by decide +kernel) (by decide +kernel),
   met (s := scene (scalar 8 256 threads)) (by decide +kernel) (by decide +kernel),
   ⟨atHub [5, 1, 256, 512, 3, 0] (State.reset.setHead 0 { flips := [waiting] }), 5, 1, 256, 512, 3, 0, rfl, rfl, by decide⟩,
   ⟨atHub [5, 1, 256, 512, 3, 0] (State.reset.setHead 0 { flips := [waiting, waiting] }), 5, 1, 256, 512, 3, 0, rfl, rfl, by decide⟩⟩

/-- The label of REACH is 0 or live. -/
def liveLabel (s : State) (g : Go) (k : BitVec 3) : Bool :=
  decide (k = 0) || ((((s.ctx g.b.ctx).labels.look k.toNat).getD {}).state == .live)

/-- Label 7 is live. -/
def branched (s : State) : State := { s with ctxs := [(1, { valid := true, labels := [(7, { state := .live })] })] }

/-- An event of context 1 at the hub, in the hub cycle of its arrival; label 7 is live, the epoch point settles label `settling`. -/
def versionEvent (what : VerOp) (settling : BitVec 3) (phase : Nat := 0) : State :=
  { State.reset with
    args := [1]
    ctxs := [(1, { valid := true, labels := [(7, { state := .live })], clabel := settling
                   events := [{ what, arrived := 0, rank := 8, due := 0, flight := some 5, phase, mask := 0x80 }] })] }

/-- Is it the event's turn, and what is it? -/
def turnOf (u : State) (ctx : Nat) (e : VerEvent) : Prop :=
  u.args = [ctx] ∧ (∃ r, (u.ctx ctx).events = e :: r) ∧ e.due ≤ u.now ∧ e.phase = 0 ∧ u.now < ofHubCycle (hubCycle e.arrived + 1)

/-- Is it at the end of its drain? -/
def pointOf (u : State) (ctx : Nat) (e : VerEvent) : Prop :=
  u.args = [ctx] ∧ (∃ r, (u.ctx ctx).events = e :: r) ∧ e.due ≤ u.now ∧ e.phase = 3

/-- FORK under a tag and without; REACH without the attribute, of a free label, and of a live one; COMMIT and SQUASH under a tag
and without; the three at the hub, then their turns: a fork, a commit of a label that is not live, one while another settles, a
squash without a live label, and a commit and a squash of one; their points; RQUERY, and its read. -/
theorem witness_ReachWords :
    (∃ s g, Clear (.fork 98 100 102 0 0) s g ∧ g.active ≠ 0 ∧ g.b.tag ≠ 0) ∧
    (∃ s g, Clear (.fork 98 100 102 0 0) s g ∧ g.active ≠ 0 ∧ g.b.tag = 0) ∧
    (∃ s g, Clear (.reach 7) s g ∧ g.active ≠ 0 ∧ g.b.reachOk = false) ∧
    (∃ s g, Clear (.reach 7) s g ∧ g.active ≠ 0 ∧ g.b.reachOk = true ∧ liveLabel s g 7 = false) ∧
    (∃ s g, Clear (.reach 7) s g ∧ g.active ≠ 0 ∧ g.b.reachOk = true ∧ liveLabel s g 7 = true) ∧
    (∃ s g d row n, versionAt (.commitReg 99 101 0) g = some (d, row, n) ∧ Clear (.commitReg 99 101 0) s g ∧ g.active ≠ 0 ∧ g.b.tag ≠ 0) ∧
    (∃ s g d row n, versionAt (.squash 99 127) g = some (d, row, n) ∧ Clear (.squash 99 127) s g ∧ g.active ≠ 0 ∧ g.b.tag = 0) ∧
    (∃ (u : State) (ctx core slot fid mask quota : Nat) (r : List Nat), u.args = ctx :: core :: slot :: fid :: mask :: quota :: r) ∧
    (∃ (u : State) (ctx core slot fid n : Nat), u.args = [ctx, core, slot, fid, n]) ∧
    (∃ u ctx e m q, turnOf u ctx e ∧ e.what = .fork m q) ∧
    (∃ u ctx e k, turnOf u ctx e ∧ e.what = .commit k ∧ (((u.ctx ctx).labels.look k.toNat).getD {}).state ≠ .live) ∧
    (∃ u ctx e k, turnOf u ctx e ∧ e.what = .commit k ∧ k ≠ 0 ∧ (((u.ctx ctx).labels.look k.toNat).getD {}).state = .live ∧
      (u.ctx ctx).clabel ≠ 0) ∧
    (∃ u ctx e m, turnOf u ctx e ∧ e.what = .squash m ∧ ∀ l : BitVec 3, l ≠ 0 → m.getLsbD l.toNat = true →
      (((u.ctx ctx).labels.look l.toNat).getD {}).state ≠ .live) ∧
    (∃ (u : State) (ctx : Nat) (e : VerEvent) (k : BitVec 3) (m : BitVec 8), turnOf u ctx e ∧ e.what = .commit k ∧ k ≠ 0 ∧
      (((u.ctx ctx).labels.look k.toNat).getD {}).state = .live ∧ (u.ctx ctx).clabel = 0 ∧
      ∀ l : BitVec 3, m.getLsbD l.toNat = true ↔ l ≠ 0 ∧ (((u.ctx ctx).labels.look l.toNat).getD {}).state = .live) ∧
    (∃ (u : State) (ctx : Nat) (e : VerEvent) (x m : BitVec 8), turnOf u ctx e ∧ e.what = .squash x ∧ m ≠ 0 ∧
      ∀ l : BitVec 3, m.getLsbD l.toNat = true ↔
        l ≠ 0 ∧ x.getLsbD l.toNat = true ∧ (((u.ctx ctx).labels.look l.toNat).getD {}).state = .live) ∧
    (∃ u ctx e k, pointOf u ctx e ∧ e.what = .commit k ∧ e.lost.getLsbD k.toNat = false) ∧
    (∃ u ctx e m, pointOf u ctx e ∧ e.what = .squash m) ∧
    (∃ s g, Clear (.rquery 99 101 0) s g ∧ g.active ≠ 0) ∧
    (∃ (u : State) (id ctx l item : Nat), u.args = [id, ctx, l, item] ∧ u.issue = none) :=
  ⟨met (s := scene { threads with tag := 7 }) (by decide +kernel) (by decide +kernel),
   met (s := scene threads) (by decide +kernel) (by decide +kernel),
   met (s := scene threads) (by decide +kernel) (by decide +kernel),
   met (s := scene { threads with reachOk := true }) (by decide +kernel) (by decide +kernel),
   met (s := branched (scene { threads with reachOk := true })) (by decide +kernel) (by decide +kernel),
   ⟨scene { threads with tag := 1 }, run _ (scene { threads with tag := 1 }), _, _, _, rfl, clear_of (by decide +kernel),
     by decide +kernel, by decide +kernel⟩,
   ⟨scene threads, run _ (scene threads), _, _, _, rfl, clear_of (by decide +kernel), by decide +kernel, by decide +kernel⟩,
   ⟨atHub [1, 0, 0, 5, 254, 16] State.reset, 1, 0, 0, 5, 254, 16, [], rfl⟩, ⟨atHub [1, 0, 0, 5, 7] State.reset, 1, 0, 0, 5, 7, rfl⟩,
   ⟨versionEvent (.fork 254 16) 0, 1, _, 254, 16, ⟨rfl, ⟨[], rfl⟩, by decide, rfl, by decide⟩, rfl⟩,
   ⟨versionEvent (.commit 6) 0, 1, _, 6, ⟨rfl, ⟨[], rfl⟩, by decide, rfl, by decide⟩, rfl, by decide⟩,
   ⟨versionEvent (.commit 7) 3, 1, _, 7, ⟨rfl, ⟨[], rfl⟩, by decide, rfl, by decide⟩, rfl, by decide, by decide, by decide⟩,
   ⟨versionEvent (.squash 126) 0, 1, _, 126, ⟨rfl, ⟨[], rfl⟩, by decide, rfl, by decide⟩, rfl, by decide⟩,
   ⟨versionEvent (.commit 7) 0, 1, _, 7, 0x80, ⟨rfl, ⟨[], rfl⟩, by decide, rfl, by decide⟩, rfl, by decide, by decide, by decide, by decide⟩,
   ⟨versionEvent (.squash 254) 0, 1, _, 254, 0x80, ⟨rfl, ⟨[], rfl⟩, by decide, rfl, by decide⟩, rfl, by decide, by decide⟩,
   ⟨versionEvent (.commit 7) 0 3, 1, _, 7, ⟨rfl, ⟨[], rfl⟩, by decide, rfl⟩, rfl, by decide⟩,
   ⟨versionEvent (.squash 254) 0 3, 1, _, 254, ⟨rfl, ⟨[], rfl⟩, by decide, rfl⟩, rfl⟩,
   met (s := scene threads) (by decide +kernel) (by decide +kernel),
   ⟨atHub [5, 1, 7, 0] State.reset, 5, 1, 7, 0, rfl, rfl⟩⟩

theorem witness_ProgramTraps :
    (∃ s g, Clear (.trap 7) s g ∧ g.active ≠ 0 ∧ g.b.trap = none) ∧ (∃ s g, Clear (.brk 255) s g ∧ g.active ≠ 0 ∧ g.b.trap = none) :=
  ⟨met (s := scene threads) (by decide +kernel) (by decide +kernel), met (s := scene threads) (by decide +kernel) (by decide +kernel)⟩

/-- The page at 0x20000 of context 1 is mapped read-write to 0x200000. -/
def paged (s : State) : State :=
  { s with
    mem := [(0x100000, 0x01), (0x100002, 0x10), (0x100010, 0x07), (0x100012, 0x20)]
    ctxs := [(1, { valid := true, root := 0x80, trapEntry := 0x4000, framesBase := 1, framesSlots := 1 })] }

/-- A trap with or without its frame slot. -/
def trapped (frame : Option Nat) : Barge := { threads with trap := some { cause := 0x10, cycle := 0, notBefore := 0, frame }, blocked := true }

theorem pair_of {α β : Type} {x : α × Option β} (h : x.2 = none) : ∃ a, x = (a, none) := ⟨x.1, by rw [← h]⟩

/-- The trap as it is taken; then with its frame taken and its barge's words finished. -/
theorem witness_HandlerEntry :
    (∃ (s : State) (core slot k : Nat) (b : Barge) (r : TrapRec), s.args = [core, slot] ∧ s.barge core slot = some b ∧
      b.trap = some r ∧ r.frame = none ∧
      (s.agenda.any fun e => decide (e.1 ≤ s.now) && e.2.what == .handlerEntry
        && decide (bargeKey (e.2.args.getD 0 0) (e.2.args.getD 1 0) < bargeKey core slot)) = false ∧
      (s.ctx b.ctx).freeFrame = some k) ∧
    (∃ (s u : State) (core slot k : Nat) (b : Barge) (r : TrapRec), s.args = [core, slot] ∧ s.barge core slot = some b ∧
      b.trap = some r ∧ r.frame = some k ∧ s.trapSettled core slot r = true ∧
      s.agentWrite { core, ctx := b.ctx } ((s.ctx b.ctx).frameVa k) (s.frameOf core slot b r) = (u, none)) := by
  let b := trapped (some 0)
  let s := { paged (scene b) with issue := none, args := [0, 0] }
  obtain ⟨u, hu⟩ := pair_of (x := s.agentWrite { core := 0, ctx := 1 } ((s.ctx 1).frameVa 0)
    (s.frameOf 0 0 b { cause := 0x10, cycle := 0, notBefore := 0, frame := some 0 })) (by decide +kernel)
  exact ⟨⟨{ paged (scene (trapped none)) with issue := none, args := [0, 0] }, 0, 0, 0, trapped none, _, rfl, by decide +kernel, rfl, rfl,
    by decide +kernel, by decide +kernel⟩, s, u, 0, 0, 0, b, _, rfl, by decide +kernel, rfl, rfl, by decide +kernel, hu⟩

/-- Context 1 is a system context. -/
def system (s : State) : State := { s with ctxs := [(1, { valid := true, sys := true })] }

/-- CSRR of register 15; CSRW of CTX_SEL outside a system context; CSRR of CYCLES; CSRR of LANEID into a scalar; CSRW of FCTL; CSRS
of CTX_SEL in a system context. -/
theorem witness_RegisterWords :
    (∃ s g d, registerWord (.csrr 4 15) g = some (15, d, true, false) ∧ Clear (.csrr 4 15) s g ∧ g.active ≠ 0) ∧
    (∃ s g d r, registerWord (.csrw 101 0 0) g = some (0x1000, d, false, true) ∧ Clear (.csrw 101 0 0) s g ∧ g.active ≠ 0 ∧
      hubReg 0x1000 = some r ∧ (s.ctx g.b.ctx).sys = false) ∧
    (∃ s g, Clear (.csrr 4 14) s g ∧ registerWord (.csrr 4 14) g = some (14, 4, true, false) ∧ g.active ≠ 0 ∧
      nonUniform g.active { spec := 4, words := 1 } (fun l => (pairWords (register185 s g 14 l)).take 1) = false) ∧
    (∃ s g, Clear (.csrr 99 2) s g ∧ registerWord (.csrr 99 2) g = some (2, 99, true, false) ∧ g.active ≠ 0 ∧
      nonUniform g.active { spec := 99, words := 2 } (fun l => (pairWords (register185 s g 2 l)).take 2) = true) ∧
    (∃ s g d, registerWord (.csrw 101 0 1) g = some (1, d, false, true) ∧ Clear (.csrw 101 0 1) s g ∧ g.active ≠ 0) ∧
    (∃ s g d r, registerWord (.csrs 99 101 0 0) g = some (0x1000, d, true, true) ∧ Clear (.csrs 99 101 0 0) s g ∧ g.active ≠ 0 ∧
      hubReg 0x1000 = some r ∧ (s.ctx g.b.ctx).sys = true) :=
  ⟨⟨scene threads, run _ (scene threads), _, rfl, clear_of (by decide +kernel), by decide +kernel⟩,
   ⟨scene (after [0xF8000010] threads), run _ (scene (after [0xF8000010] threads)), 0, _, by decide +kernel, clear_of (by decide +kernel),
     by decide +kernel, rfl, by decide +kernel⟩,
   met (s := scene threads) (by decide +kernel) (by decide +kernel),
   met (s := scene threads) (by decide +kernel) (by decide +kernel),
   ⟨scene threads, run _ (scene threads), _, rfl, clear_of (by decide +kernel), by decide +kernel⟩,
   ⟨system (scene (after [0xF8000010] threads)), run _ (system (scene (after [0xF8000010] threads))), 99, _, by decide +kernel,
     clear_of (by decide +kernel), by decide +kernel, rfl, by decide +kernel⟩⟩

/-- A read that answers bytes. -/
theorem read_of {x : Except (BitVec 8 × Nat) (List Byte)} (h : (x.toOption).isSome = true) : ∃ bs, x = .ok bs := by
  cases x with
  | error e => cases h
  | ok bs => exact ⟨bs, rfl⟩

/-- A read that faults. -/
theorem error_of {x : Except (BitVec 8 × Nat) (List Byte)} (h : x.toOption = none) : ∃ e, x = .error e := by
  cases x with
  | error e => exact ⟨e, rfl⟩
  | ok bs => cases h

/-- The header of the frame of a barge in handler mode. -/
def header (g : Go) (s : State) : Except (BitVec 8 × Nat) (List Byte) :=
  s.agentRead { core := g.core, ctx := g.b.ctx } (wide56 g.b.trapFrame.toNat) 4096

/-- Handler mode, with the frame at 0x20000. -/
def handling : Barge := { threads with handler := true, trapFrame := 0x20000, frameSlot := some 0 }

/-- Run state 3 in the frame. -/
def spoilt (s : State) : State := { s with mem := s.mem ++ [(0x200038, 3)] }

/-- Does the frame read hold no entry, and is it legal? -/
def frameIs (bad : Bool) (x : Except (BitVec 8 × Nat) (List Byte)) : Bool :=
  match x with
  | .ok h => h.getD 2 0 == 0 && frameBad h [] == bad
  | .error _ => false

/-- WFI in a user and in a system context; RETT outside handler mode, of a frame on no page, of a frame with run state 3, and of a
frame of zeros. -/
theorem witness_WaitsAndReturns :
    (∃ s g, Clear .wfi s g ∧ g.active ≠ 0 ∧ (s.ctx g.b.ctx).sys = false) ∧
    (∃ s g, Clear .wfi s g ∧ g.active ≠ 0 ∧ (s.ctx g.b.ctx).sys = true) ∧
    (∃ s g, Clear .rett s g ∧ g.active ≠ 0 ∧ g.b.handler = false) ∧
    (∃ s g e, Clear .rett s g ∧ g.active ≠ 0 ∧ g.b.handler = true ∧ header g s = .error e) ∧
    (∃ s g, Clear .rett s g ∧ g.active ≠ 0 ∧ g.b.handler = true ∧ frameIs true (header g s) = true) ∧
    (∃ s g, Clear .rett s g ∧ g.active ≠ 0 ∧ g.b.handler = true ∧ frameIs false (header g s) = true) :=
  ⟨met (s := scene threads) (by decide +kernel) (by decide +kernel),
   met (s := system (scene threads)) (by decide +kernel) (by decide +kernel),
   met (s := scene threads) (by decide +kernel) (by decide +kernel),
   (have h : (header (run .rett (scene handling)) (scene handling)).toOption = none := by decide +kernel
    let ⟨e, he⟩ := error_of h
    ⟨scene handling, _, e, clear_of (by decide +kernel), by decide +kernel, by decide +kernel, he⟩),
   met (s := spoilt (paged (scene handling))) (by decide +kernel) (by decide +kernel),
   met (s := paged (scene handling)) (by decide +kernel) (by decide +kernel)⟩

end Sys2Proof.Tests
end

section
/-!
The end of a step: every meaning ends with no word and no event under way (R1, 95_what_each_step_holds.md), so a step keeps
the invariant; what a fetch reads; and how time passes.
-/
namespace Sys2Proof.Machine
open Sys2Proof Sys2Proof.Claims

/-! ## How a meaning ends -/

/-- An outcome is a finished meaning. -/
def Finishes (o : Host.Outcome State Fault Refusal) : Prop := ∃ t, o = done t

/-- A resident barge issues a word. -/
def State.Issuing (s : State) : Prop := ∃ iss b, s.issue = some iss ∧ s.barge iss.core iss.slot = some b

/-- An outcome is a finished meaning, or the fault of a word that no barge issues. -/
def FinishesIfIssued (s : State) (o : Host.Outcome State Fault Refusal) : Prop :=
  Finishes o ∨ o = .fault .noIssue ∧ ¬ s.Issuing

/-- Where an outcome is a next state, no word or event is under way in it. -/
def Quiet (o : Host.Outcome State Fault Refusal) : Prop := ∀ t, o = .next t → t.issue = none ∧ t.args = []

theorem finishes_done (t : State) : Finishes (done t) := ⟨t, rfl⟩

theorem Finishes.ifIssued {o : Host.Outcome State Fault Refusal} (h : Finishes o) (s : State) : FinishesIfIssued s o := .inl h

theorem Finishes.quiet {o : Host.Outcome State Fault Refusal} (h : Finishes o) : Quiet o := by
  rintro t rfl
  obtain ⟨u, hu⟩ := h
  cases hu
  exact ⟨rfl, rfl⟩

theorem FinishesIfIssued.quiet {s : State} {o : Host.Outcome State Fault Refusal} (h : FinishesIfIssued s o) : Quiet o := by
  rcases h with h | ⟨rfl, _⟩
  · exact h.quiet
  · exact fun _ h => nomatch h

/-! ## Events -/

/-- A request at its home finishes if what it does once its bus is granted finishes. -/
theorem State.afterBus_finishes {s : State} {id : Nat} {t : Txn} {go : State → Host.Outcome State Fault Refusal}
    (h : ∀ u, Finishes (go u)) : Finishes (s.afterBus id t go) := by
  unfold State.afterBus
  split
  · exact h s
  · split <;> exact finishes_done _

/-- Every event finishes, from any state. Those of the first group have one end; each branch of the others has its own. -/
theorem exec_event_finishes {i : Instr} (s : State) (event : i.isWord = false) (legal : i ≠ .illegalEncoding) :
    Finishes (exec i s) := by
  cases i with
  | sleepEnd | wfiWake | refreshWindow | layerTempSample | powerSample | thermalPeriodStart | watchdog
    | barrierOpen | pixelBargeClose | ctxTeardown | tlbiGo | migRelease | vbusTestGo | vbusCaptDone | vbusLock
    | mtxLayerLock | inputPublish | faultResume | preemptRelease | preemptDone | powerUp | bootVerify
    | attestExtend | powerOff => exact finishes_done _
  | registerFill | l1Fill | writeAcknowledge | homeRead | homeWrite | homeAtomic | redDrainEntry | mxaccAtHome
    | pull | pullReply | walkRequest | walkComplete | hostSnoop | hostMemRead | memTempSample | hotStateChange
    | freqStep | basinClose | sluiceWave | handlerEntry | unrecoverableFault | chunkCommitRequest | forkGrant
    | commitPoint | squashPoint | reachStarved | settlingComplete | cardStart | cardComplete | cardFault
    | mmaStart | mmaGroupFull | setupTake | windowRelease | earlyZTest | pixelRetire | binBuild | verticalBlank
    | frameStart | queueSlotWrite | wharfTake | wharfDispatch | workgroupStart | taskComplete | ctxKill
    | ctxKillDone | deviceFatal | tlbiDone | migLock | migLocked | migSwitch | colSplitRequest | colSplitApply
    | vbusRetire | semValWrite | faultLogRead | preemptVacate | preemptSaveGraphics | preemptRestoreGraphics
    | savedWorkgroupRestore | bootVerifyComplete | quoteStart | quoteDone | bootKernelGo | registerWrite
    | hostMemWrite | backInvalidateResponse | hostDataArrival | semaphoreUpdate | writeBufferArrival
    | writeBufferCommit | tileStoreAccess | localMemoryAccess =>
    dsimp -zeta only [exec, execRegisterFill, execL1Fill, execWriteAcknowledge, execHomeRead, execHomeWrite,
      execHomeAtomic, execRedDrainEntry, execMxaccAtHome, execPull, execPullReply, execWalkRequest,
      execWalkComplete, execHostSnoop, execHostMemRead, execMemTempSample, execHotStateChange, execFreqStep,
      execBasinClose, execSluiceWave, execHandlerEntry, execUnrecoverableFault, execChunkCommitRequest,
      execForkGrant, execCommitPoint, execSquashPoint, execReachStarved, execSettlingComplete, execCardStart,
      execCardComplete, execCardFault, execMmaStart, execMmaGroupFull, execSetupTake, execWindowRelease,
      execEarlyZTest, execPixelRetire, execBinBuild, execVerticalBlank, execFrameStart, execQueueSlotWrite,
      execWharfTake, execWharfDispatch, execWorkgroupStart, execTaskComplete, execCtxKill, execCtxKillDone,
      execDeviceFatal, execTlbiDone, execMigLock, execMigLocked, execMigSwitch, execColSplitRequest,
      execColSplitApply, execVbusRetire, execSemValWrite, execFaultLogRead, execPreemptVacate,
      execPreemptSaveGraphics, execPreemptRestoreGraphics, execSavedWorkgroupRestore, execBootVerifyComplete,
      execQuoteStart, execQuoteDone, execBootKernelGo, execRegisterWrite, execHostMemWrite,
      execBackInvalidateResponse, execHostDataArrival, execSemaphoreUpdate, execWriteBufferArrival,
      execWriteBufferCommit, execTileStoreAccess, execLocalMemoryAccess]
    -- follow a branch to its end: past its definitions, through the arbiter of its bus, into its cases
    repeat' first
      | with_reducible exact finishes_done _
      | with_reducible refine State.afterBus_finishes fun u => ?_
      | extract_lets
      | split
  | illegalEncoding => exact absurd rfl legal
  | _ => cases event

/-! ## Words -/

theorem State.not_issuing_of_issue {s : State} (h : s.issue = none) : ¬ s.Issuing := by
  rintro ⟨iss, b, hi, _⟩
  exact nomatch h.symm.trans hi

theorem State.not_issuing_of_barge {s : State} {iss : Issue} (hi : s.issue = some iss) (hb : s.barge iss.core iss.slot = none) :
    ¬ s.Issuing := by
  rintro ⟨iss', b, hi', hb'⟩
  cases hi.symm.trans hi'
  exact nomatch hb.symm.trans hb'

/-- A word that runs the checks of R47 finishes with a trap, a wait or its effect. -/
theorem issueWord_finishes (sh : Shape) (s : State) (effect : Go → State → State) :
    FinishesIfIssued s (issueWord sh s effect) := by
  have next : s.Issuing → ∃ t, issueWord sh s effect = .next t := fun ⟨_, _, hi, hb⟩ => issueWord_next hi hb effect
  cases hs : start sh s with
  | noIssue =>
    simp only [issueWord, hs] at next ⊢
    refine .inr ⟨rfl, fun h => ?_⟩
    obtain ⟨t, ht⟩ := next h
    exact nomatch ht
  | stop t => simpa only [issueWord, hs] using (finishes_done t).ifIssued s
  | go g => simpa only [issueWord, hs] using (finishes_done (effect g s)).ifIssued s

theorem prefixWord_finishes (s : State) : FinishesIfIssued s (prefixWord s) := by
  unfold prefixWord
  split
  · next hi => exact .inr ⟨rfl, State.not_issuing_of_issue hi⟩
  · next iss hi =>
    split
    · next hb => exact .inr ⟨rfl, State.not_issuing_of_barge hi hb⟩
    · extract_lets
      split <;> exact (finishes_done _).ifIssued s

/-- The trap of a word that is no instruction (R46). -/
theorem execIllegalEncoding_finishes (s : State) : FinishesIfIssued s (execIllegalEncoding s) := by
  unfold execIllegalEncoding
  split
  · next hi => exact .inr ⟨rfl, State.not_issuing_of_issue hi⟩
  · next iss hi =>
    split
    · next hb => exact .inr ⟨rfl, State.not_issuing_of_barge hi hb⟩
    · exact (finishes_done _).ifIssued s

/-- A word whose second half is an event of the same name. -/
theorem hubHalf_finishes {c : Prop} [Decidable c] {o : Host.Outcome State Fault Refusal} (h : Finishes o) (sh : Shape)
    (s : State) (effect : Go → State → State) : FinishesIfIssued s (if c then o else issueWord sh s effect) := by
  split
  · exact h.ifIssued s
  · exact issueWord_finishes sh s effect

/-- Every word finishes where a barge issues it: it joins a chain, it has a half at the hub, or it runs the checks of R47. The
words that share a meaning are named with it. -/
theorem exec_word_finishes {i : Instr} (s : State) (word : i.isWord = true) : FinishesIfIssued s (exec i s) := by
  cases i with
  | ximm | ximmh | xmod | xpred | xopd | xsch => exact prefixWord_finishes s
  | signal | flip | rquery | csrr | csrw | csrs => exact hubHalf_finishes (finishes_done _) ..
  | mma =>
    refine hubHalf_finishes ?_ ..
    split <;> exact finishes_done _
  | ldB32 | ldB64 | ldB128 | ldbB32 | ldbB64 | ldbB128 =>
    show FinishesIfIssued s (globalLoad _ _ _ _ _ _ s)
    exact issueWord_finishes ..
  | ldlB32 | ldlB64 | ldlB128 | ldpB32 | ldpB64 | ldpB128 =>
    show FinishesIfIssued s (nearLoad _ _ _ _ _ _ s)
    exact issueWord_finishes ..
  | ldvB32 | ldvB128 =>
    show FinishesIfIssued s (versionLoad _ _ _ _ _ s)
    exact issueWord_finishes ..
  | stB32 | stB64 | stB128 =>
    show FinishesIfIssued s (globalStore _ _ _ _ _ s)
    exact issueWord_finishes ..
  | stlB32 | stlB64 | stlB128 | stpB32 | stpB64 | stpB128 =>
    show FinishesIfIssued s (nearStore _ _ _ _ _ _ s)
    exact issueWord_finishes ..
  | cstoreB32 | cstoreB64 =>
    show FinishesIfIssued s (compactStore _ _ _ _ _ s)
    exact issueWord_finishes ..
  | atomAdd | atomMin | atomMax | atomAnd | atomOr | atomXor | atomExch | atomCas | redAdd | redMin | redMax | redAnd | redOr
    | redXor =>
    show FinishesIfIssued s (atomic _ _ _ _ _ _ _ _ s)
    unfold atomic
    exact issueWord_finishes ..
  | syncLd | syncLdb =>
    show FinishesIfIssued s (syncLoad _ _ _ _ _ _ _ s)
    exact issueWord_finishes ..
  | semsig | semset =>
    show FinishesIfIssued s (semUpdateWord _ _ _ _ _ s)
    exact issueWord_finishes ..
  | tld | tst =>
    show FinishesIfIssued s (tileWord _ _ _ _ _ _ s)
    exact issueWord_finishes ..
  | tcopy | tclr =>
    show FinishesIfIssued s (rectangleWord _ _ _ _ _ _ s)
    exact issueWord_finishes ..
  | job | jobq =>
    show FinishesIfIssued s (jobWord _ _ _ _ s)
    exact issueWord_finishes ..
  | boxt | trit =>
    show FinishesIfIssued s (testWord _ _ _ _ _ _ _ _ _ s)
    exact issueWord_finishes ..
  | sample | samplel | sampleg =>
    show FinishesIfIssued s (sampleWord _ _ _ _ _ _ s)
    exact issueWord_finishes ..
  | commit | commitReg | squash | squashReg =>
    show FinishesIfIssued s (versionWord _ _ _ _ s)
    exact issueWord_finishes ..
  | reform =>
    show FinishesIfIssued s (execReform _ _ _ _ s)
    unfold execReform
    exact issueWord_finishes ..
  | _ =>
    first
      | exact absurd word Bool.false_ne_true
      | dsimp only [exec]
        exact issueWord_finishes ..

/-- The fault of a word that is asked for where nothing issues it is the one way in which a meaning does not finish. -/
theorem exec_finishes (i : Instr) (s : State) : FinishesIfIssued s (exec i s) := by
  by_cases illegal : i = .illegalEncoding
  · subst illegal
    exact execIllegalEncoding_finishes s
  · cases word : i.isWord with
    | true => exact exec_word_finishes s word
    | false => exact (exec_event_finishes s word illegal).ifIssued s

/-! ## How a step ends -/

@[simp] theorem State.onBarge_issue (s : State) (core slot : Nat) (f : Barge → Barge) :
    (s.onBarge core slot f).issue = s.issue := by
  unfold State.onBarge
  split <;> rfl

@[simp] theorem State.onBarge_args (s : State) (core slot : Nat) (f : Barge → Barge) :
    (s.onBarge core slot f).args = s.args := by
  unfold State.onBarge
  split <;> rfl

theorem State.afterEntry_quiet {s : State} {core slot : Nat} {e : Entry} {rest : List Entry} (h : s.issue = none ∧ s.args = []) :
    (s.afterEntry core slot e rest).issue = none ∧ (s.afterEntry core slot e rest).args = [] := by
  unfold State.afterEntry
  split
  · split
    · simpa using h
    · exact h
  · simpa using h

theorem runWord_quiet (s : State) (iss : Issue) : Quiet (runWord s iss) := by
  unfold runWord
  extract_lets
  split
  · exact (exec_finishes ..).quiet
  · exact (prefixWord_finishes _).quiet
  · exact (exec_finishes ..).quiet
  · exact (exec_finishes ..).quiet

theorem State.issueFetched_quiet (s : State) (core slot : Nat) (b : Barge) : Quiet (s.issueFetched core slot b) := by
  unfold State.issueFetched
  split
  extract_lets
  split
  · exact (finishes_done _).quiet
  · exact (finishes_done _).quiet
  · exact runWord_quiet _ _

theorem State.issueEntry_quiet (s : State) (core slot : Nat) (b : Barge) (e : Entry) (rest : List Entry) :
    Quiet (s.issueEntry core slot b e rest) := by
  unfold State.issueEntry
  extract_lets
  split
  · next u hu =>
    rintro _ ⟨⟩
    exact State.afterEntry_quiet (runWord_quiet _ _ u hu)
  · exact fun _ h => nomatch h
  · exact fun _ h => nomatch h

theorem State.issueFrom_quiet (s : State) (core slot : Nat) (b : Barge) : Quiet (s.issueFrom core slot b) := by
  unfold State.issueFrom
  split
  · exact (finishes_done _).quiet
  · split
    · exact (finishes_done _).quiet
    · split
      · exact State.issueEntry_quiet s core slot b _ _
      · exact State.issueFetched_quiet s core slot b

theorem State.runEvent_quiet (s : State) (e : Event) (rest : List (Nat × Event)) : Quiet (s.runEvent e rest) := by
  unfold State.runEvent
  extract_lets
  split
  · exact (exec_finishes ..).quiet
  · exact (finishes_done _).quiet

/-! ## How time passes -/

/-- The cycle to which time passes. -/
def State.nextTime (s : State) : Nat :=
  match s.watchdogBound with
  | some w => min s.nextCycle (max (s.now + 1) w)
  | none => s.nextCycle

/-- The watchdog's counters change a context and may post an event, and nothing else. -/
theorem State.countWatchdog_eq (s : State) (lo hi ctx : Nat) :
    ∃ ctxs agenda, s.countWatchdog lo hi ctx = { s with ctxs, agenda } := by
  unfold State.countWatchdog
  extract_lets
  split
  · exact ⟨s.ctxs, s.agenda, rfl⟩
  · split <;> exact ⟨_, _, rfl⟩

/-- Time that passes changes the cycle, the contexts' counters and the agenda, and nothing else. -/
theorem State.advance_eq (s : State) : ∃ ctxs agenda, s.advance = { s with now := s.nextTime, ctxs, agenda } := by
  have count (lo hi : Nat) (cs : List Nat) (u : State) :
      ∃ ctxs agenda, cs.foldl (fun t c => t.countWatchdog lo hi c) u = { u with ctxs, agenda } := by
    induction cs generalizing u with
    | nil => exact ⟨u.ctxs, u.agenda, rfl⟩
    | cons c cs ih =>
      obtain ⟨ctxs, agenda, hc⟩ := u.countWatchdog_eq lo hi c
      obtain ⟨ctxs', agenda', h⟩ := ih (u.countWatchdog lo hi c)
      exact ⟨ctxs', agenda', by rw [List.foldl_cons, h, hc]⟩
  exact count _ _ _ _

/-- Where nothing is due and no barge may issue, time passes. -/
theorem State.turn_of_idle {s : State} (due : nothingDue s) (idle : s.powered = true → s.pick = none) :
    s.turn = .next s.advance := by
  have pick : (if s.powered then s.pick else none) = none := by
    split
    · exact idle ‹_›
    · rfl
  unfold State.turn
  rw [pick]
  split
  · next t e rest h =>
    have : s.now < t := due (t, e) (by rw [h]; rfl)
    rw [if_neg (by omega)]
  · rfl

/-- The least of some cycles is the library's. -/
theorem leastOf_eq_min? (l : List Nat) : leastOf l = l.min? := by
  cases l with
  | nil => rfl
  | cons x l =>
    have hom := List.foldl_hom (l := l) (init := x) (g₁ := min) (g₂ := fun m t => some (min (m.getD t) t)) some fun _ _ => rfl
    rw [List.min?_cons', ← hom]
    simp [leastOf]

theorem Tab.mem_of_look {α : Type} {t : Tab α} {k : Nat} {v : α} (h : t.look k = some v) : (k, v) ∈ t := by
  induction t with
  | nil => exact nomatch h
  | cons p t ih =>
    obtain ⟨j, w⟩ := p
    simp only [Tab.look] at h
    split at h
    · next e =>
      cases h
      rw [e]
      exact List.mem_cons_self ..
    · exact List.mem_cons_of_mem _ (ih h)

theorem State.nextCycle_eq (s : State) : s.nextCycle = max (s.now + 1)
    (((s.agenda.head?.map (·.1)).toList ++ s.barges.filterMap fun p => p.2.readyFromCycle).min?.getD (s.now + 1)) := by
  rw [← leastOf_eq_min?]
  rfl

theorem State.lt_nextCycle (s : State) : s.now < s.nextCycle := by
  rw [s.nextCycle_eq]
  omega

/-- The next cycle comes no later than the first event of the agenda, where that is not due. -/
theorem State.nextCycle_le_event {s : State} {p : Nat × Event} (h : s.agenda.head? = some p) (due : s.now < p.1) :
    s.nextCycle ≤ p.1 := by
  have least := List.min?_getD_le_of_mem (k := s.now + 1) (List.mem_append_left
    (s.barges.filterMap fun q => q.2.readyFromCycle) (show p.1 ∈ (s.agenda.head?.map (·.1)).toList by simp [h]))
  rw [s.nextCycle_eq]
  omega

/-- Nor later than the cycle from which a barge may issue. -/
theorem State.nextCycle_le_barge {s : State} {k c : Nat} {b : Barge} (h : s.barges.look k = some b)
    (ready : b.readyFromCycle = some c) : s.nextCycle ≤ max (s.now + 1) c := by
  have mem : c ∈ s.barges.filterMap fun q => q.2.readyFromCycle := List.mem_filterMap.2 ⟨(k, b), Tab.mem_of_look h, ready⟩
  have least := List.min?_getD_le_of_mem (k := s.now + 1)
    (List.mem_append_right (s.agenda.head?.map (·.1)).toList mem)
  rw [s.nextCycle_eq]
  omega

/-- Time passes by a cycle or more, and no further than the next in which something may happen. -/
theorem State.nextTime_bounds (s : State) : s.now < s.nextTime ∧ s.nextTime ≤ s.nextCycle := by
  have := s.lt_nextCycle
  unfold State.nextTime
  split <;> omega

/-! ## The invariant -/

theorem State.turn_quiet {s : State} (quiet : s.issue = none ∧ s.args = []) : Quiet s.turn := by
  have advance : Quiet (.next s.advance) := by
    rintro _ ⟨⟩
    obtain ⟨ctxs, agenda, h⟩ := s.advance_eq
    rw [h]
    exact quiet
  unfold State.turn
  split
  · split
    · exact State.runEvent_quiet s _ _
    · split
      · exact State.issueFrom_quiet _ _ _ _
      · exact advance
  · split
    · exact State.issueFrom_quiet _ _ _ _
    · exact advance

/-- A step is a turn whose writes have landed. -/
theorem step_eq_next {s t : State} : step s = .next t ↔ ∃ u, s.turn = .next u ∧ t = u.land s.mem := by
  unfold step
  cases s.turn <;> simp [eq_comm]

/-- Memory is canonical after a step that began with canonical memory. -/
theorem State.land_mem_wf {m : Memory} (h : m.wf = true) (s : State) : (s.land m).mem.wf = true := by
  apply Memory.wf_writeAll
  split
  · rfl
  · exact h

/-- With no write waiting, what lands is the memory that the step began with. -/
theorem State.byteAt_land {s t : State} (hm : t.mem = s.mem) (hs : s.pending = []) (ht : t.pending = []) (a : Nat) :
    (t.land s.mem).byteAt a = s.byteAt a := by
  apply State.byteAt_congr
  · rw [State.land_mem, ht, hm, Memory.writeAll]
    split
    · next h => exact (List.isEmpty_iff.1 h).symm
    · rfl
  · rw [hs]; rfl

/-! ## The statements -/

/-- Settles O14: memory lands in its canonical form, and every meaning ends with nothing under way. -/
theorem stepKeepsInvariant : Obligations.StepKeepsInvariant := by
  rintro s t ⟨mem, _, quiet⟩ h
  obtain ⟨u, hu, rfl⟩ := step_eq_next.1 h
  exact ⟨State.land_mem_wf mem u, rfl, State.turn_quiet quiet u hu⟩

/-- Settles O17: a hit that costs no cycle and passes the checks is the last branch of a fetch. The label it reads under is 0
(log 85). -/
theorem fetchReadsWord : Obligations.FetchReadsWord := by
  intro s core slot b addr l t hcanon hlook hcause
  simp [State.fetch, hcanon, hlook, hcause]

/-- Settles O21: a turn in which nothing can happen only moves the cycle, to `nextTime`, after this cycle
and no later than the next event and the next barge that may issue. -/
theorem timePasses : Obligations.TimePasses := by
  rintro s ⟨_, landed, _⟩ due idle
  obtain ⟨ctxs, agenda, h⟩ := s.advance_eq
  obtain ⟨later, noLater⟩ := s.nextTime_bounds
  refine ⟨s.advance.land s.mem, step_eq_next.2 ⟨_, State.turn_of_idle due idle, rfl⟩, ?_⟩
  rw [h]
  refine ⟨later, rfl, fun a => State.byteAt_land rfl landed landed a, ?_, ?_⟩
  · exact fun p hp => noLater.trans (State.nextCycle_le_event hp (due p hp))
  · exact fun k b c hb hc => noLater.trans (State.nextCycle_le_barge hb hc)

theorem State.reset_sem (file unit number : Nat) : State.reset.sem file unit number = {} := by
  unfold State.sem
  split <;> rfl

/-- Settles O12: every table of the reset state is empty, and what is not listed holds its reset value. -/
theorem resetState : Obligations.ResetState :=
  ⟨rfl, rfl, rfl, rfl, fun _ => rfl, fun _ => rfl, fun _ => rfl, State.reset_sem, fun _ => rfl, rfl⟩

/-- Settles O13: reset memory is empty, and nothing is under way. -/
theorem resetInvariant : Obligations.ResetInvariant := ⟨State.reset_mem_wf, rfl, rfl, rfl⟩

end Sys2Proof.Machine
end

section
/-!
The words of classes 4, 5, 6 and 8: the ops of Table 10.3 and the conversions as the spec's arithmetic states them, and how a
word that raises flags writes its result or, where FCTL enables one of them, traps at write-back (R60 to R71, R211 to R218).
-/
namespace Sys2Proof.Machine
open Sys2Proof Sys2Proof.Claims

/-! ## Lanes and flags -/

/-- The number that `maskOf` builds from the first n lanes has the predicate's value as bit i. -/
theorem testBit_maskFold (p : Nat → Bool) (n i : Nat) :
    ((List.range n).foldl (fun acc k => if p k then acc + 2 ^ k else acc) 0).testBit i = (decide (i < n) && p i) := by
  induction n generalizing i with
  | zero => simp
  | succ n ih =>
    rw [List.range_succ, List.foldl_append, List.foldl_cons, List.foldl_nil]
    generalize (List.range n).foldl _ 0 = acc at ih ⊢
    have small : acc < 2 ^ n := Nat.lt_pow_two_of_testBit _ fun j hj => by simp [ih, Nat.not_lt.2 hj]
    have last : (if p n then acc + 2 ^ n else acc) = 2 ^ n * (p n).toNat + acc := by cases p n <;> simp [Nat.add_comm]
    rw [last, Nat.testBit_two_pow_mul_add _ small]
    split
    · next h => simp [ih, h, Nat.lt_succ_of_lt h]
    · next h =>
      rw [Nat.testBit_bool_toNat]
      by_cases e : i = n
      · simp [e]
      · simp [show i - n ≠ 0 by omega, show ¬i < n + 1 by omega]

theorem laneOn_maskOf (p : Nat → Bool) {i : Nat} (hi : i < 32) : laneOn (maskOf p) i = p i := by
  simp only [laneOn, maskOf, BitVec.getLsbD_ofNat, testBit_maskFold, hi, decide_true, Bool.true_and]

@[simp] theorem Flags.none_or (a : Flags) : Flags.or {} a = a := by
  simp [Flags.or]

/-- The flags of the table of results that a meaning computes once are those of the results. -/
@[simp] theorem raisedFlags_table (active : Mask) (f : Nat → LaneResult) :
    raisedFlags active (tableLane (laneTable active f)) = raisedFlags active f :=
  List.foldl_ext _ _ _ fun _ i hi => by rw [tableLane_eq active f (mem_lanesIn.1 hi).1 (mem_lanesIn.1 hi).2]

/-- An enabled flag that is raised is a flag that is raised. -/
theorem raised_ne_none {en raised : Flags} {x : BitVec 8} (h : enabledCause en raised = some x) : raised ≠ {} := by
  rintro rfl
  simp [enabledCause] at h

/-! ## Results with flags -/

/-- Without an enabled flag among them, the flags reach FCTL at write-back (R71). -/
theorem Go.writeFixed_raised {g : Go} {d : Dst} {latency : Nat} {f : Nat → LaneResult} {s : State} (h : Untrapped g f) {b' : Barge}
    (hb : (g.writeFixed d latency f s).barge g.core g.slot = some b') :
    b'.raised = if raisedFlags g.active f = {} then g.b.raised
      else g.b.raised ++ [(s.now + latency, raisedFlags g.active f)] := by
  unfold Untrapped at h
  simp only [Go.writeFixed, raisedFlags_table, h, Go.finish_barge, Option.some.injEq] at hb
  subst hb
  rw [Barge.write_eq]
  by_cases quiet : raisedFlags g.active f = {} <;> simp [quiet, Barge.pass, Barge.readyFrom, Barge.unheld]

/-- A result that R22 allows is written as `writeFixed` does, once R72 has noted when its flags are in FCTL. -/
theorem Go.writeFloat_of_uniform {g : Go} {d : Dst} {f : Nat → LaneResult}
    (hu : nonUniform g.active d (fun l => (f l).words) = false) (latency : Nat) (s : State) :
    g.writeFloat d latency f s =
      Go.writeFixed { g with b := { g.b with flagUntil := max g.b.flagUntil (s.now + latency) } } d latency f s := by
  unfold Go.writeFloat Go.writeChecked
  rw [nonUniform_table g.active d f hu]
  rfl

/-- A clear word whose effect is a float result that FCTL lets pass. -/
theorem writesFloat_of_exec {i : Instr} {s : State} {g : Go} {d : Dst} {latency : Nat} {f : Nat → LaneResult}
    (hx : exec i s = done (g.writeFloat d latency f s)) (hu : nonUniform g.active d (fun l => (f l).words) = false)
    (ht : Untrapped g f) : WritesFloat i s g d latency f := by
  have he : enabledCause g.b.fctl.enable (raisedFlags g.active (tableLane (laneTable g.active f))) = none := by
    rw [raisedFlags_table]
    exact ht
  refine ⟨_, hx, (Go.writeFloat_retired g d latency f s he hu).rest, fun b' hb => ?_⟩
  rw [State.barge_rest, Go.writeFloat_of_uniform hu] at hb
  exact Go.writeFixed_raised (g := { g with b := { g.b with flagUntil := max g.b.flagUntil (s.now + latency) } }) ht hb

/-- With an enabled flag among them a word writes nothing: its flags, and a flight that will trap, are due at write-back (R71). -/
theorem Go.writeFloat_enabled {g : Go} {d : Dst} {f : Nat → LaneResult} {x : BitVec 8}
    (hu : nonUniform g.active d (fun l => (f l).words) = false)
    (he : enabledCause g.b.fctl.enable (raisedFlags g.active f) = some x) (latency : Nat) (s : State) :
    ∃ (fl : Flight) (b : Barge),
      g.writeFloat d latency f s = g.finish b
        (({ s with nextId := s.nextId + 1, flights := s.flights.put s.nextId fl }).post latency .registerFill [s.nextId]) ∧
      fl.cause = some x ∧ fl.words = 0 ∧
      (∀ l, l < 32 → laneOn fl.failLanes l = (laneOn g.active l && (f l).flags.raisedFor x)) ∧
      b.v = g.b.v ∧ b.s = g.b.s ∧ b.pcs = g.b.pcs ∧ KeepsControl g.b b ∧
      b.raised = g.b.raised ++ [(s.now + latency, raisedFlags g.active f)] := by
  have flagged := raised_ne_none he
  simp only [Go.writeFloat_of_uniform hu, Go.writeFixed, raisedFlags_table, he]
  refine ⟨_, _, rfl, rfl, rfl, fun l hl => ?_, ?_⟩
  · rw [laneOn_maskOf _ hl]
    cases ha : laneOn g.active l with
    | false => rfl
    | true => rw [tableLane_eq _ _ hl ha]
  · simp only [flagged, ne_eq, not_false_eq_true, decide_true, if_true]
    exact ⟨rfl, rfl, rfl, by constructor <;> rfl, rfl⟩

theorem KeepsControl.pass {b c : Barge} (h : KeepsControl b c) (n : Nat) (m : Mask) (a : Dword) (p : Pre) (r : Bool) :
    KeepsControl b (c.pass n m a p r) :=
  ⟨h.preds, h.fctl, h.tag, h.handler, h.trap, h.trapCode, h.trapCause, h.trapFrame, h.joins, h.running, h.exited⟩

theorem PassedWord.of_pass {g : Go} {b : Barge} (h : b.pcs = g.b.pcs) (n : Nat) :
    PassedWord g (b.pass n g.group g.addr g.pre g.replay) :=
  fun i hi => by rw [Barge.pass_pcs _ _ _ _ _ _ hi, h]

/-- A word that only moves on, and leaves an event for a flight of its own. -/
theorem Go.finish_post_machine (g : Go) (b : Barge) (s : State) (fl : Flight) (delay : Nat) (what : Instr) (args : List Nat) :
    let t := g.finish b (({ s with nextId := s.nextId + 1, flights := s.flights.put s.nextId fl }).post delay what args)
    KeepsMachine g { s with flights := t.flights, agenda := t.agenda } t := by
  intro t
  have h := Go.finish_machine g b
    (({ s with nextId := s.nextId + 1, flights := s.flights.put s.nextId fl }).post delay what args)
  exact ⟨h.barges, h.memory, h.localMem, h.tile, h.lines, h.versions, h.hub, h.towers, h.clusters, h.wgs, h.flights, h.agenda⟩

/-! ## Classes 4, 5 and 6 -/

/-- The op's number in `table103`. -/
def FOp.number : FOp → Nat
  | .add => 0
  | .sub => 1
  | .mul => 2
  | .fma => 3
  | .min => 4
  | .max => 5
  | .rnd => 6
  | .abs => 7
  | .neg => 8
  | .scale => 9

/-- An inverted sign is a wrap past the top bit. -/
theorem Fmt.withSign_not_signOf (f : Fmt) {c : Nat} (h : c < 2 ^ f.width) :
    f.withSign (!f.signOf c) (f.absOf c) = (c + 2 ^ (f.width - 1)) % 2 ^ f.width := by
  obtain ⟨w, hw⟩ : ∃ w, f.width = w + 1 := by cases f <;> exact ⟨_, rfl⟩
  simp only [Fmt.withSign, Fmt.signOf, Fmt.absOf, hw, Nat.add_sub_cancel, Nat.pow_succ', Bool.not_eq_true'] at h ⊢
  cases sign : c.testBit w with
  | false =>
    have below : c < 2 ^ w := Nat.lt_of_not_le fun le =>
      Bool.false_ne_true (sign.symm.trans (Nat.testBit_of_two_pow_le_and_two_pow_add_one_gt le (by omega)))
    rw [if_pos rfl, Nat.mod_eq_of_lt below, Nat.mod_eq_of_lt (by omega)]
  | true =>
    have above : 2 ^ w ≤ c := Nat.ge_two_pow_of_testBit sign
    rw [if_neg (by decide), Nat.mod_eq_sub_mod above, Nat.mod_eq_of_lt (by omega), Nat.mod_eq_sub_mod (by omega),
      Nat.mod_eq_of_lt (by omega)]
    omega

/-- The low w bits of a code as an integer: with a sign, codes from 2^(w − 1) on are negative. -/
theorem intOf_eq (signed : Bool) (w c : Nat) : intOf signed w c =
    if signed = true ∧ 2 ^ (w - 1) ≤ c % 2 ^ w then ((c % 2 ^ w : Nat) : Int) - 2 ^ w else ((c % 2 ^ w : Nat) : Int) := by
  simp [intOf]

/-- An op of the model is its row of Table 10.3 (R211, R212). The operands that an op does not read are free. -/
theorem FOp.apply_eq_table103 (op : FOp) (g : Go) (f : Fmt) {a b b' c c' : Nat} (ha : a < 2 ^ f.width) (hb : b < 2 ^ f.width)
    (eb : op.arity ≠ 1 → b' = b) (ec : op.arity = 3 → c' = c) :
    op.apply f g.mode (g.fctx (g.ftz f)) a b c = table103 g f op.number a b' c' := by
  cases op with
  | add | sub | mul | min | max =>
    cases eb (by decide)
    rfl
  | fma =>
    cases eb (by decide)
    cases ec rfl
    rfl
  | rnd | abs => rfl
  | neg => exact congrArg (Rounded.mk · {}) (Fmt.withSign_not_signOf f ha)
  | scale =>
    cases eb (by decide)
    simp only [FOp.apply, intOf_eq, Nat.mod_eq_of_lt hb, true_and, ← Nat.not_lt, ite_not]
    rfl

theorem Pre.wordsOf_f64 (g : Go) : g.pre.wordsOf [15] = words4 g := by
  simp [Pre.wordsOf, words4]

theorem Val.code_words4 (g : Go) (v : Val) (l : Nat) : v.code (words4 g) l = code4 g v l := by
  unfold Val.code words4 code4
  split <;> simp [*]

theorem code4_lt (g : Go) (v : Val) (l : Nat) : code4 g v l < 2 ^ (format4 g).width := by
  unfold code4 format4
  split
  · exact (v.w64 l).isLt
  · exact (v.w32 l).isLt

/-- The result of a packed word from those of its halves (R213). -/
def lane5 (r : Nat → Rounded) : LaneResult :=
  { words := [BitVec.ofNat 32 ((r 1).code * 2 ^ 16 + (r 0).code)], flags := allFlags [r 0, r 1] }

theorem Pre.fmt5_width (p : Pre) : p.fmt5.width = 16 := by
  unfold Pre.fmt5
  split <;> rfl

/-- The e4m3 immediates, code by code (R28, R214). -/
theorem imm6_eq (g : Go) (k : BitVec 8) : imm6 g k = g.immF32 k := by
  unfold imm6 Go.immF32
  split
  · rfl
  · revert k
    decide +kernel

theorem immF32_lt (g : Go) (k : BitVec 8) : g.immF32 k < 2 ^ 32 := by
  unfold Go.immF32
  split
  · exact (g.pre.imm32 k).isLt
  · revert k
    decide +kernel

section
variable {i : Instr} {s : State} {g : Go} {d x y : BitVec 7} {p q : BitVec 1} {a b c : Val}

/-- The effect of a clear word of class 4: what its op does not read is free. -/
theorem falu32_of_clear (op : FOp) (hs : shapeOf i = falu32Shape op d x y p q) (h : Clear i s g)
    (eb : op.arity ≠ 1 → b = g.opB 1 y q) (ec : op.arity = 3 → c = g.afterB 1) :
    falu32 op d x y p q s = done (g.writeFloat { spec := d, words := words4 g } (latency4 g) (fun l => lane4 (words4 g)
      (table103 g (format4 g) op.number (code4 g (g.val 0) l) (code4 g b l) (code4 g c l))) s) := by
  have row (l : Nat) := FOp.apply_eq_table103 op g (format4 g) (code4_lt g (g.val 0) l) (code4_lt g (g.opB 1 y q) l)
    (fun h => congrArg (code4 g · l) (eb h)) (fun h => congrArg (code4 g · l) (ec h))
  unfold falu32
  rw [← hs, issueWord_of_clear h]
  simp only [Pre.wordsOf_f64, Val.code_words4, ← row]
  rfl

/-- The effect of a clear word of class 5, on each half (R213). -/
theorem falu16_of_clear (op : FOp) (hs : shapeOf i = falu16Shape op d x y p q) (h : Clear i s g)
    (eb : op.arity ≠ 1 → b = g.opB 1 y q) (ec : op.arity = 3 → c = g.afterB 1) :
    falu16 op d x y p q s = done (g.writeFloat { spec := d } 4 (fun l => lane5 fun k =>
      table103 g g.pre.fmt5 op.number (half5 (g.val 0) l k) (half5 b l k) (half5 c l k)) s) := by
  have lt (v : Val) (l k : Nat) : half5 v l k < 2 ^ g.pre.fmt5.width := g.pre.fmt5_width ▸ Nat.mod_lt _ (by decide)
  have row (l k : Nat) := FOp.apply_eq_table103 op g g.pre.fmt5 (lt (g.val 0) l k) (lt (g.opB 1 y q) l k)
    (fun h => congrArg (half5 · l k) (eb h)) (fun h => congrArg (half5 · l k) (ec h))
  unfold falu16
  rw [← hs, issueWord_of_clear h]
  simp only [lane5, allFlags, List.foldl_cons, List.foldl_nil, Flags.none_or, ← row]
  rfl

/-- The effect of a clear word of class 6 (R214). -/
theorem faluImm_of_clear (op : FOp) {k : BitVec 8} (hs : shapeOf i = shapeFaluImm op d x p) (h : Clear i s g)
    (ea : a = if op.arity == 3 then g.val 1 else g.val 0) (ec : op.arity = 3 → c = g.val 0) :
    faluImm op d x p k s = done (g.writeFloat { spec := d } 4 (fun l =>
      lane4 1 (table103 g .f32 op.number (a.w32 l).toNat (imm6 g k) (c.w32 l).toNat)) s) := by
  subst ea
  have row (v : Val) (l : Nat) := FOp.apply_eq_table103 op g .f32 (v.w32 l).isLt (immF32_lt g k)
    (fun _ => imm6_eq g k) (fun h => congrArg (fun v : Val => (v.w32 l).toNat) (ec h))
  unfold faluImm
  rw [← hs, issueWord_of_clear h]
  simp only [← row]
  rfl

end

theorem exec_class4 {i : Instr} {s : State} {g : Go} {d : BitVec 7} {op : Nat} {a b c : Val}
    (hi : class4 i g = some (d, op, a, b, c)) (h : Clear i s g) :
    exec i s = done (g.writeFloat { spec := d, words := words4 g } (latency4 g) (fun l => lane4 (words4 g)
      (table103 g (format4 g) op (code4 g a l) (code4 g b l) (code4 g c l))) s) := by
  unfold class4 at hi
  split at hi <;> cases hi
  · exact falu32_of_clear .add rfl h (fun _ => rfl) nofun
  · exact falu32_of_clear .sub rfl h (fun _ => rfl) nofun
  · exact falu32_of_clear .mul rfl h (fun _ => rfl) nofun
  · exact falu32_of_clear .fma rfl h (fun _ => rfl) fun _ => rfl
  · exact falu32_of_clear .min rfl h (fun _ => rfl) nofun
  · exact falu32_of_clear .max rfl h (fun _ => rfl) nofun
  · exact falu32_of_clear .rnd rfl h (absurd rfl) nofun
  · exact falu32_of_clear .abs rfl h (absurd rfl) nofun
  · exact falu32_of_clear .neg rfl h (absurd rfl) nofun
  · exact falu32_of_clear .scale rfl h (fun _ => rfl) nofun

theorem exec_class5 {i : Instr} {s : State} {g : Go} {d : BitVec 7} {op : Nat} {a b c : Val}
    (hi : class5 i g = some (d, op, a, b, c)) (h : Clear i s g) :
    exec i s = done (g.writeFloat { spec := d } 4 (fun l => lane5 fun k =>
      table103 g g.pre.fmt5 op (half5 a l k) (half5 b l k) (half5 c l k)) s) := by
  unfold class5 at hi
  split at hi <;> cases hi
  · exact falu16_of_clear .add rfl h (fun _ => rfl) nofun
  · exact falu16_of_clear .sub rfl h (fun _ => rfl) nofun
  · exact falu16_of_clear .mul rfl h (fun _ => rfl) nofun
  · exact falu16_of_clear .fma rfl h (fun _ => rfl) fun _ => rfl
  · exact falu16_of_clear .min rfl h (fun _ => rfl) nofun
  · exact falu16_of_clear .max rfl h (fun _ => rfl) nofun
  · exact falu16_of_clear .rnd rfl h (absurd rfl) nofun
  · exact falu16_of_clear .abs rfl h (absurd rfl) nofun
  · exact falu16_of_clear .neg rfl h (absurd rfl) nofun
  · exact falu16_of_clear .scale rfl h (fun _ => rfl) nofun

theorem exec_class6 {i : Instr} {s : State} {g : Go} {d : BitVec 7} {op : Nat} {a c : Val} {k : BitVec 8}
    (hi : class6 i g = some (d, op, a, k, c)) (h : Clear i s g) :
    exec i s = done (g.writeFloat { spec := d } 4 (fun l =>
      lane4 1 (table103 g .f32 op (a.w32 l).toNat (imm6 g k) (c.w32 l).toNat)) s) := by
  unfold class6 at hi
  split at hi <;> cases hi
  · exact faluImm_of_clear .add rfl h rfl nofun
  · exact faluImm_of_clear .mul rfl h rfl nofun
  · exact faluImm_of_clear .fma rfl h rfl fun _ => rfl
  · exact faluImm_of_clear .min rfl h rfl nofun

/-! ## Class 8 -/

/-- A clear word has passed the encoding checks, those of XMOD among them (step 6 of R47). -/
theorem Clear.modOk {i : Instr} {s : State} {g : Go} (h : Clear i s g) : g.pre.modOk (shapeOf i).modOk = true := by
  have checked := h.checked
  unfold Go.checkCause at checked
  split at checked
  · cases checked
  · next encoding =>
    unfold encodingCause at encoding
    split_ifs at encoding with _ _ payload
    simp only [Bool.or_eq_true, Bool.not_eq_true', not_or, Bool.not_eq_false] at payload
    obtain ⟨⟨⟨_, ok⟩, _⟩, _⟩ := payload
    exact ok

/-- A clear word has a second type that it takes (R32). -/
theorem Clear.t2_mem {i : Instr} {s : State} {g : Go} (h : Clear i s g) : g.pre.t2 ∈ (shapeOf i).modOk.t2 := by
  have ok := h.modOk
  simp only [Pre.modOk, Bool.and_eq_true, List.contains_iff_mem] at ok
  obtain ⟨⟨⟨⟨⟨⟨⟨_, t2⟩, _⟩, _⟩, _⟩, _⟩, _⟩, _⟩ := ok
  exact t2

/-- The integer that an operand of an integer type holds (R217). -/
theorem int8_eq {t : Nat} (h : t ∈ intTypes) (v : Val) (l : Nat) :
    int8 t v l = intOf (intType t).1 (intType t).2 (v.ofType t (intType t).2 l) := by
  have low : v.ofType t (intType t).2 l =
      (if t = 4 ∨ t = 8 then (v.w64 l).toNat else (v.w32 l).toNat) % 2 ^ (intType t).2 := by
    simp only [intTypes, List.mem_cons, List.not_mem_nil, or_false] at h
    rcases h with rfl | rfl | rfl | rfl | rfl | rfl | rfl | rfl <;> rfl
  rw [low, intOf_eq, Nat.mod_mod]
  rfl

/-- The value that an operand of a float type holds (R63, R217). -/
theorem float8_eq {t : Nat} (h : t ∈ floatTypes) (g : Go) (v : Val) (l : Nat) :
    float8 g t v l = (floatType t).operand (g.ftz (floatType t)) (v.ofType t (floatType t).width l) := by
  simp only [floatTypes, List.mem_cons, List.not_mem_nil, or_false] at h
  rcases h with rfl | rfl | rfl | rfl <;> rfl

theorem intResult_eq (t : Nat) (x : Int) : intResult t x = intWords t x := by
  have low (w : Nat) : ((codeOf w x % 2 ^ w : Nat) : Int) = x % 2 ^ w := by
    have pos : (0 : Int) < 2 ^ w := by positivity
    simp [codeOf, Int.emod_nonneg x pos.ne']
  have top (w : Nat) : 2 ^ (w - 1) ≤ codeOf w x % 2 ^ w ↔ (2 ^ (w - 1) : Int) ≤ x % 2 ^ w := by
    rw [← low, ← Nat.cast_le (α := Int)]
    simp
  simp only [intWords, intOf_eq, low, top]
  rfl

/-- A clamp with `.sat` (R56). -/
theorem clampInt_eq {lo hi : Int} (h : lo ≤ hi) (x : Int) :
    clampInt lo hi x = (max lo (min x hi), decide (x < lo ∨ hi < x)) := by
  unfold clampInt
  split
  · next below => simp [below]; omega
  · split
    · next above => simp [above]; omega
    · next below above => simp [below, above]; omega

theorem intLo_le_intHi (signed : Bool) (w : Nat) : intLo signed w ≤ intHi signed w := by
  have (n : Nat) : 1 ≤ 2 ^ n := Nat.one_le_two_pow
  unfold intLo intHi
  split
  · have := this (w - 1); omega
  · have := this w; omega

theorem exec_conversions {i : Instr} {s : State} {g : Go} {d : BitVec 7} {f : Nat → LaneResult}
    (hi : conversions i g = some (d, f)) (h : Clear i s g) :
    exec i s = done (g.writeFloat { spec := d, words := typeWords g.pre.t1 } (if g.pre.t1 = 15 ∨ g.pre.t2 = 15 then 20 else 4)
      f s) := by
  have latency : g.pre.latency8 = if g.pre.t1 = 15 ∨ g.pre.t2 = 15 then 20 else 4 := by simp [Pre.latency8]
  rw [← latency]
  unfold conversions at hi
  split at hi <;> cases hi
  · simp only [float8_eq h.t2_mem]
    exact issueWord_of_clear h _
  · simp only [int8_eq h.t2_mem]
    exact issueWord_of_clear h _
  · refine (issueWord_of_clear h _).trans ?_
    simp only [int8_eq h.t2_mem, clampInt_eq (intLo_le_intHi _ _), intResult_eq]
    cases g.pre.sat <;> rfl
  · simp only [float8_eq h.t2_mem, intResult_eq]
    exact issueWord_of_clear h _

end Sys2Proof.Machine

/-! ## The statements -/

namespace Sys2Proof.Numbers
open Sys2Proof Sys2Proof.Machine Sys2Proof.Claims

/-- Settles O5: the effect of a word of each class is a float result whose lanes are rows of Table 10.3, and such a result is
written with its flags. -/
theorem floatWords : Obligations.FloatWords :=
  ⟨fun _ _ _ _ _ _ _ _ hi h => writesFloat_of_exec (exec_class4 hi h),
   fun _ _ _ _ _ _ _ _ hi h => writesFloat_of_exec (exec_class5 hi h),
   fun _ _ _ _ _ _ _ _ hi h => writesFloat_of_exec (exec_class6 hi h)⟩

/-- Settles O7: the types that R32 lets through tell how an operand is read, and each conversion is then the model's. -/
theorem conversions : Obligations.Conversions :=
  fun _ _ _ _ _ hi h => writesFloat_of_exec (exec_conversions hi h)

/-- Settles O52: a class 4 word is a float result, and one that raises an enabled flag leaves only its flags and the flight that
will trap. -/
theorem enabledFlagsTrap : Obligations.EnabledFlagsTrap := by
  intro i s g d op a b c x hi h f raised hu he
  obtain ⟨fl, b', effect, cause, words, lanes, hv, hs, hp, control, flags⟩ := Go.writeFloat_enabled hu he (latency4 g) s
  have hx := exec_class4 hi h
  rw [effect] at hx
  exact ⟨_, _, fl, hx, Go.finish_barge .., hv, hs, control.pass .., PassedWord.of_pass hp _, flags,
    (Go.finish_post_machine ..).rest, rfl, rfl, cause, words, lanes⟩

end Sys2Proof.Numbers
end

section
/-!
The near memories and the words that order memory: the address and the data of a near access as the spec's arithmetic states
them, how such an access enters the machine (R120 to R125, R188 to R190, R304, R310, R328), and the effects of INVL1, REDFLUSH
and the fences (R196, R318, R331, R333).
-/
namespace Sys2Proof.Machine
open Sys2Proof Sys2Proof.Claims

/-! ## Addresses and data of near accesses -/

/-- A sum of two registers and a signed offset wraps at the width (R29). -/
theorem toNat_add_add_ofInt {w : Nat} (x y : BitVec w) (i : Int) :
    (x + y + BitVec.ofInt w i).toNat = (((x.toNat : Int) + y.toNat + i) % 2 ^ w).toNat := by
  have sum : x + y + BitVec.ofInt w i = BitVec.ofInt w ((x.toNat : Int) + y.toNat + i) := by
    simp [BitVec.ofInt_add]
  rw [sum, BitVec.toNat_ofInt]
  norm_cast

/-- A signed number, extended and cut again. -/
theorem setWidth_signExtend_of_le {u v w : Nat} (x : BitVec u) (h : w ≤ v) : (x.signExtend v).setWidth w = BitVec.ofInt w x.toInt := by
  change _ = x.signExtend w
  ext i hi
  simp only [BitVec.getElem_setWidth, BitVec.getLsbD_signExtend, BitVec.getElem_signExtend, Nat.lt_of_lt_of_le hi h, decide_true,
    Bool.true_and]
  split <;> simp [*]

/-- The low half of a word's offset, which a near address takes (R28). -/
theorem Go.offset_low (g : Go) (o : BitVec 8) (n : Nat) : (g.offset o n).setWidth 32 = BitVec.ofInt 32 (offset29 g o n) := by
  unfold Go.offset offset29
  split
  · exact setWidth_signExtend_of_le _ (by decide)
  · rw [BitVec.setWidth_mul _ _ (by decide), BitVec.ofInt_mul, setWidth_signExtend_of_le _ (by decide)]
    simp

theorem Go.address_near (g : Go) (k l : Nat) {offset : Dword} {i : Int} (h : offset.setWidth 32 = BitVec.ofInt 32 i) :
    g.address k false offset l = address29 g k false i l := by
  simp only [Go.address, address29, Bool.false_eq_true, if_false, h, toNat_add_add_ofInt]
  cases g.pre.xopd.isSome <;> rfl

/-- Word j of a number of four words. -/
theorem word_of_sum (w : Nat → Word) {j : Nat} (h : j < 4) :
    ((w 0).toNat + (w 1).toNat * 2 ^ 32 + (w 2).toNat * 2 ^ 64 + (w 3).toNat * 2 ^ 96) / 2 ^ (32 * j) % 2 ^ 32 = (w j).toNat := by
  have below (k : Nat) : (w k).toNat < 2 ^ 32 := (w k).isLt
  have := below 0
  have := below 1
  have := below 2
  have := below 3
  interval_cases j <;> omega

/-- A byte of the lowest word. -/
theorem byte_of_word (x : Nat) {m : Nat} (h : m < 4) : x / 2 ^ (8 * m) % 2 ^ 8 = x % 2 ^ 32 / 2 ^ (8 * m) % 2 ^ 8 := by
  refine Nat.eq_of_testBit_eq fun i => ?_
  simp only [Nat.testBit_mod_two_pow, Nat.testBit_div_two_pow]
  by_cases low : i < 8
  · simp [low, show i + 8 * m < 32 by omega]
  · simp [low]

/-- The data of a store, byte by byte (R3, R6). -/
theorem dataBytes_eq_bytesOf (v : Val) (l : Nat) {n : Nat} (h : n ≤ 16) : dataBytes v l n = bytesOf v l n := by
  refine List.map_congr_left fun k hk => ?_
  rw [List.mem_range] at hk
  have place : 256 ^ k = 2 ^ (32 * (k / 4)) * 2 ^ (8 * (k % 4)) := by
    rw [← pow_add, show 32 * (k / 4) + 8 * (k % 4) = 8 * k by omega, pow_mul]
    rfl
  refine BitVec.eq_of_toNat_eq ?_
  rw [BitVec.toNat_ofNat, BitVec.extractLsb'_toNat, Nat.shiftRight_eq_div_pow, place, ← Nat.div_div_eq_div_mul,
    byte_of_word _ (Nat.mod_lt k (by decide)), word_of_sum (v.word l) (show k / 4 < 4 by omega)]

theorem Go.addressesDiffer_of_oneAddress {g : Go} {f : Nat → Nat} (h : oneAddress g f = true) : g.addressesDiffer f = false := by
  unfold Go.addressesDiffer
  split
  · rfl
  · next i hi =>
    have low : i ∈ lanesIn g.active := mem_lanesIn.2 ⟨List.mem_range.1 (List.mem_of_find?_eq_some hi), List.find?_some hi⟩
    simp only [oneAddress, List.all_eq_true, beq_iff_eq] at h
    simp only [List.any_eq_false, decide_eq_true_eq, not_not]
    exact fun j hj => h j hj i low

/-! ## A barge whose destination is empty -/

/-- The barge of a word whose access goes out: as it was, but that its destination is empty (R25). -/
structure Go.Empties (g : Go) (dst : Option Dst) (b : Barge) : Prop where
  v : b.v = g.b.v
  s : b.s = g.b.s
  pcs : b.pcs = g.b.pcs
  control : KeepsControl g.b b
  empty : match dst with
    | some d => b.marked g.active d
    | none => b.vEmpty = g.b.vEmpty ∧ b.sEmpty = g.b.sEmpty

theorem Go.empties_none (g : Go) : g.Empties none g.b := ⟨rfl, rfl, rfl, by constructor <;> rfl, rfl, rfl⟩

/-- Marking consecutive v registers empty changes which are empty alone. -/
theorem Barge.markVs_eq (r0 : Nat) (m : Mask) (n : Nat) (b : Barge) :
    (List.range n).foldl (fun b k => b.markV (r0 + k) m) b =
      { b with vEmpty := ((List.range n).foldl (fun (b : Barge) k => b.markV (r0 + k) m) b).vEmpty } := by
  induction n with
  | zero => rfl
  | succ n ih =>
    rw [List.range_succ, List.foldl_append, List.foldl_cons, List.foldl_nil, ih]
    rfl

theorem Barge.emptyLanes_markV (b : Barge) (r x : Nat) (m : Mask) :
    (b.markV r m).emptyLanes x = if x = r then b.emptyLanes r ||| m else b.emptyLanes x := by
  split
  · next same => simp [Barge.markV, Barge.emptyLanes, same, Tab.look_put_same]
  · next other => simp [Barge.markV, Barge.emptyLanes, Tab.look_put_other _ _ other]

/-- Each of them is empty in the lanes. -/
theorem Barge.emptyLanes_markVs (r0 : Nat) (m : Mask) {n k : Nat} (h : k < n) (b : Barge) :
    m &&& ~~~(((List.range n).foldl (fun b k => b.markV (r0 + k) m) b).emptyLanes (r0 + k)) = 0 := by
  induction n with
  | zero => cases h
  | succ n ih =>
    rw [List.range_succ, List.foldl_append, List.foldl_cons, List.foldl_nil, Barge.emptyLanes_markV]
    split
    · ext i hi
      simp +contextual
    · exact ih (by omega)

theorem Go.empties_markEmpty {g : Go} (act : g.active ≠ 0) (d : Dst) : g.Empties (some d) (g.b.markEmpty g.active d) := by
  unfold Barge.markEmpty
  rw [if_neg act]
  split
  · next scalar =>
    refine ⟨rfl, rfl, rfl, by constructor <;> rfl, ?_⟩
    have : d.spec.toNat - 96 < 32 := by omega
    simp [Barge.marked, scalar, Barge.markS, this]
  · next vector =>
    refine ⟨?_, ?_, ?_, ?_, ?_⟩
    · rw [Barge.markVs_eq]
    · rw [Barge.markVs_eq]
    · rw [Barge.markVs_eq]
    · rw [Barge.markVs_eq]; constructor <;> rfl
    · simp only [Barge.marked, if_neg vector]
      exact fun k hk => Barge.emptyLanes_markVs _ _ hk _

/-- What waits and what is blocked is not seen. -/
theorem Go.Empties.waiting {g : Go} {dst : Option Dst} {b : Barge} (h : g.Empties dst b) (waits : List Nat) (blocked : Bool) :
    g.Empties dst { b with memWait := waits, blocked } :=
  ⟨h.v, h.s, h.pcs, ⟨h.control.preds, h.control.fctl, h.control.tag, h.control.handler, h.control.trap, h.control.trapCode,
    h.control.trapCause, h.control.trapFrame, h.control.joins, h.control.running, h.control.exited⟩, h.empty⟩

/-- A word that goes past its issue with a flight under a new number. -/
theorem Go.Empties.leaves {g : Go} {dst : Option Dst} {b : Barge} (h : g.Empties dst b) (s : State) (id next : Nat) (rels : Tab Rel)
    (fl : Flight) : ∃ b', Leaves g s (g.finish b { s with nextId := next, rels, flights := s.flights.put id fl }) id fl dst b' := by
  have m := Go.finish_machine g b { s with nextId := next, rels, flights := s.flights.put id fl }
  exact ⟨_, ⟨m.barges, m.memory, m.localMem, m.tile, m.lines, m.versions, m.hub, m.towers, m.clusters, m.wgs, m.flights, m.agenda⟩,
    rfl, Go.finish_barge .., h.v, h.s, h.control.pass .., PassedWord.of_pass h.pcs _, h.empty⟩

/-! ## Near accesses -/

/-- A near access enters the machine: it traps where a lane has no place, and else its flight is sent with the places. -/
def Go.enter (g : Go) (a : Near) (send : Flight → State → State) (s : State) : State :=
  match a.places g s with
  | .error x => g.trap x s
  | .ok places => send { a.flight with accs := a.at places } s

/-- A flight is sent to its near memory as its word issues. -/
def Go.sendNow (g : Go) (b : Barge) (f : Flight) (s : State) : State :=
  (g.finish b { s with nextId := s.nextId + 1, flights := s.flights.put s.nextId f }).sendNear s.nextId f

theorem accessBytes_eq (g : Go) (n : Nat) : g.pre.accessBytes n = bytes43 g n := by
  simp [Pre.accessBytes, bytes43]

theorem bytes43_le (g : Go) {n m : Nat} (h : n ≤ m) (two : 2 ≤ m) : bytes43 g n ≤ m := by
  unfold bytes43
  split_ifs <;> omega

theorem syncBytes_eq (w : BitVec 3) : syncBytes w = width44 w := by
  revert w
  decide

theorem width44_le (w : BitVec 3) : width44 w ≤ 16 := by
  revert w
  decide

/-- The loads from local memory and the pooled scratchpad (R122, R189, R190). -/
theorem nearLoad_enters {i : Instr} {s : State} {g : Go} {n : Nat} {d b : BitVec 7} {p : BitVec 1} (space : Space) (o : BitVec 8)
    (hs : shapeOf i = shapeNearLoad n d b p) (h : Clear i s g) (act : g.active ≠ 0) (wide : 4 ≤ n)
    (legal : (loadingNear g s space n d o).legal = true) :
    ∃ b', g.Empties (loadingNear g s space n d o).dst b' ∧
      nearLoad space n d b o p s = done (g.enter (loadingNear g s space n d o) (g.sendNow b') s) := by
  refine ⟨_, Go.empties_markEmpty act { spec := d, words := n / 4 }, ?_⟩
  have address := funext fun l => g.address_near 0 l (g.offset_low o (bytes43 g n))
  have uniform : (isScalar d && g.addressesDiffer (address29 g 0 false (offset29 g o (bytes43 g n)))) = false := by
    simp only [loadingNear, Bool.or_eq_true, Bool.not_eq_true'] at legal
    rcases legal with vector | one
    · rw [vector]; rfl
    · rw [Go.addressesDiffer_of_oneAddress one, Bool.and_false]
  have words : max 1 (n / 4) = n / 4 := by omega
  unfold nearLoad
  rw [← hs, issueWord_of_clear h]
  simp only [accessBytes_eq, address, uniform, Bool.false_eq_true, if_false, if_neg act, Flight.filling, words]
  simp only [Go.enter, loadingNear, Bool.decide_or]
  rfl

/-- The stores to local memory and the pooled scratchpad (R122, R189, R304). -/
theorem nearStore_enters {i : Instr} {s : State} {g : Go} {n : Nat} {d b : BitVec 7} {p : BitVec 1} (space : Space) (o : BitVec 8)
    (hs : shapeOf i = shapeNearStore n d b p) (h : Clear i s g) (act : g.active ≠ 0) (narrow : n ≤ 16) :
    ∃ b', g.Empties (storingNear g s space n o).dst b' ∧
      nearStore space n d b o p s = done (g.enter (storingNear g s space n o) (g.sendNow b') s) := by
  refine ⟨_, g.empties_none, ?_⟩
  have address := funext fun l => g.address_near 1 l (g.offset_low o (bytes43 g n))
  have data (l : Nat) := dataBytes_eq_bytesOf (g.val 0) l (bytes43_le g narrow (by decide))
  unfold nearStore
  rw [← hs, issueWord_of_clear h]
  simp only [accessBytes_eq, address, data, if_neg act]
  rfl

/-- The near space of a class 16 word: XMOD names no third (R32, R328). -/
theorem Clear.space_near {i : Instr} {s : State} {g : Go} (h : Clear i s g) (aux : (shapeOf i).modOk.aux = [0, 1, 2])
    (near : g.pre.aux ≠ 0) :
    g.pre.space = space328 g ∧ decide (space328 g = .glob) = false ∧ (space328 g = .loc ∨ space328 g = .pooled) := by
  have ok := h.modOk
  simp only [Pre.modOk, Bool.and_eq_true, List.contains_iff_mem, aux, List.mem_cons, List.not_mem_nil, or_false] at ok
  obtain ⟨⟨⟨_, named⟩, _⟩, _⟩ := ok
  rcases named with e | e | e
  · exact absurd e near
  · simp [Pre.space, space328, e]
  · simp [Pre.space, space328, e]

/-- The barge of a class 16 load: with an acquire, no later memory access of it issues before the load is complete (R333). -/
def Go.acquiring (g : Go) (d : Dst) (r : BitVec 2) (id : Nat) : Barge :=
  let b := g.b.markEmpty g.active d
  if r = 1 then { b with memWait := b.memWait ++ [id] } else b

theorem Go.empties_acquiring (g : Go) (act : g.active ≠ 0) (d : Dst) (r : BitVec 2) (id : Nat) :
    g.Empties (some d) (g.acquiring d r id) := by
  unfold Go.acquiring
  split
  · exact (Go.empties_markEmpty act d).waiting _ _
  · exact Go.empties_markEmpty act d

/-- The class 16 loads from a near space (R328, R329, R333). -/
theorem syncLoad_enters {i : Instr} {s : State} {g : Go} {d b : BitVec 7} {w : BitVec 3} {p : BitVec 1} (home : Bool) (sc : BitVec 3)
    (r : BitVec 2) (hs : shapeOf i = syncShape d b w p false) (h : Clear i s g) (act : g.active ≠ 0) (near : g.pre.aux ≠ 0) :
    ∃ b', g.Empties (loadingNearAt g s d w).dst b' ∧
      syncLoad home d b sc r w p s = done (g.enter (loadingNearAt g s d w) (g.sendNow b') s) := by
  obtain ⟨space, notGlob, which⟩ := h.space_near (by rw [hs]; rfl) near
  have address := funext fun l => g.address_near 0 l (offset := 0) (i := 0) rfl
  have words (x : Nat) : max 1 (4 * max 1 x / 4) = max 1 x := by omega
  refine ⟨_, g.empties_acquiring act { spec := d, words := max 1 (width44 w / 4) } r s.nextId, ?_⟩
  unfold syncLoad
  rw [← hs, issueWord_of_clear h]
  simp only [syncBytes_eq, space, notGlob, address, if_neg act, Flight.filling, words, Go.enter, loadingNearAt]
  rcases which with e | e <;> rw [e] <;> rfl

/-- The class 16 stores to a near space, with a release or without (R328, R329, R331). -/
theorem execSyncSt_enters {i : Instr} {s : State} {g : Go} {d b : BitVec 7} {w : BitVec 3} {p : BitVec 1} (sc : BitVec 3) (r : BitVec 2)
    (hs : shapeOf i = syncShape d b w p true) (h : Clear i s g) (act : g.active ≠ 0) (near : g.pre.aux ≠ 0) :
    execSyncSt d b sc r w p s = done (g.enter (storingNearAt g s w)
      (if r = 2 then g.launchReleased (min 2 sc.toNat) false g.b else g.sendNow g.b) s) := by
  obtain ⟨space, notGlob, which⟩ := h.space_near (by rw [hs]; rfl) near
  have address := funext fun l => g.address_near 1 l (offset := 0) (i := 0) rfl
  have data (l : Nat) := dataBytes_eq_bytesOf (g.val 0) l (width44_le w)
  unfold execSyncSt
  rw [← hs, issueWord_of_clear h]
  simp only [syncBytes_eq, space, notGlob, address, data, if_neg act, Go.syncStore, Go.enter, storingNearAt,
    show (r == 2#2) = decide (r = 2) from rfl, decide_eq_true_eq]
  by_cases release : r = 2
  · simp only [if_pos release]
    rcases which with e | e <;> rw [e] <;> rfl
  · simp only [if_neg release]
    rcases which with e | e <;> rw [e] <;> rfl

/-- An ATOM or RED: its meaning and what the checks see of it. -/
theorem exec_of_atomicWord {i : Instr} {op : AtomOp} {red : Bool} {d : BitVec 7} {sc : BitVec 3} {r : BitVec 2} {t : BitVec 3}
    (hi : atomicWord i = some (op, red, d, sc, r, t)) :
    ∃ b p, shapeOf i = shapeAtomic op red (atomType t).bytes d b p ∧ ∀ s, exec i s = atomic op red d b sc r t p s := by
  unfold atomicWord at hi
  split at hi <;> cases hi <;> exact ⟨_, _, rfl, fun _ => rfl⟩

/-- The barge of an ATOM or a RED: only an ATOM has a result, which it waits for. -/
def Go.updating (g : Go) (red : Bool) (d : Dst) : Barge :=
  if red then g.b else { g.b.markEmpty g.active d with blocked := true }

theorem Go.empties_updating (g : Go) (act : g.active ≠ 0) (red : Bool) (d : Dst) :
    g.Empties (if red then none else some d) (g.updating red d) := by
  cases red with
  | true => exact g.empties_none
  | false => exact (Go.empties_markEmpty act d).waiting _ _

/-- ATOM and RED on local memory, with a release or without (R310, R311, R331). -/
theorem atomic_enters {i : Instr} {s : State} {g : Go} {op : AtomOp} {red : Bool} {d b : BitVec 7} {p : BitVec 1} (sc : BitVec 3)
    (r : BitVec 2) {t : BitVec 3} (hs : shapeOf i = shapeAtomic op red (atomType t).bytes d b p) (h : Clear i s g)
    (act : g.active ≠ 0) (near : g.pre.aux % 2 = 1) :
    ∃ b', g.Empties (atomicallyNear g s op red d t).dst b' ∧
      atomic op red d b sc r t p s = done (g.enter (atomicallyNear g s op red d t)
        (if 2 ≤ r.toNat then g.launchReleased (min 2 sc.toNat) false b' else g.sendNow b') s) := by
  have narrow : (atomType t).bytes ≤ 16 := by
    generalize atomType t = ty
    cases ty <;> decide
  have data (k l : Nat) := dataBytes_eq_bytesOf (g.val k) l narrow
  have loc : g.pre.atomLocal = true := by simp [Pre.atomLocal, near]
  refine ⟨_, g.empties_updating act red { spec := d, words := (atomType t).bytes / 4 }, ?_⟩
  unfold atomic
  show issueWord (shapeAtomic op red (atomType t).bytes d b p) s _ = _
  rw [← hs, issueWord_of_clear h]
  have far : ¬ 3 ≤ min 2 sc.toNat := by omega
  simp only [loc, if_true, if_neg act, data, decide_eq_false far, Bool.not_true, Bool.and_false, Bool.false_and, BitVec.toNat_add,
    apply_ite BitVec.toNat, Go.enter, atomicallyNear]
  by_cases release : 2 ≤ r.toNat
  · simp only [if_pos release]
    cases red <;> rfl
  · simp only [if_neg release]
    cases red <;> rfl

/-- A clear word with a near access enters it, with its destination empty. The cases are those of `nearAccess`, in its order: LDL and
LDP, STL and STP, the loads of class 16, its store, and the atomics. -/
theorem exec_nearAccess {i : Instr} {s : State} {g : Go} {a : Near} (hi : nearAccess i g s = some a) (h : Clear i s g)
    (act : g.active ≠ 0) (legal : a.legal = true) :
    ∃ b', g.Empties a.dst b' ∧ exec i s = done (g.enter a (g.sendNow b') s) := by
  unfold nearAccess at hi
  split at hi
  case h_1 | h_2 | h_3 | h_4 | h_5 | h_6 =>
    cases hi
    exact nearLoad_enters _ _ rfl h act (by decide) legal
  case h_7 | h_8 | h_9 | h_10 | h_11 | h_12 =>
    cases hi
    exact nearStore_enters _ _ rfl h act (by decide)
  case h_13 | h_14 =>
    split at hi <;> cases hi
    exact syncLoad_enters _ _ _ rfl h act ‹_›
  case h_15 =>
    split at hi <;> cases hi
    next unreleased =>
    obtain ⟨near, order⟩ := not_or.1 unreleased
    exact ⟨_, g.empties_none, (execSyncSt_enters _ _ rfl h act near).trans (by rw [if_neg order])⟩
  case h_16 =>
    split at hi
    · next word =>
      split at hi <;> cases hi
      next unreleased =>
      obtain ⟨near, order⟩ := unreleased
      obtain ⟨b, p, hs, hx⟩ := exec_of_atomicWord word
      obtain ⟨b', emptied, hb⟩ := atomic_enters _ _ hs h act near
      exact ⟨b', emptied, (hx s).trans (hb.trans (by rw [if_neg (Nat.not_le.2 order)]))⟩
    · cases hi

/-- A clear word with a near access that a release comes before enters it once the release has begun. -/
theorem exec_releasedNear {i : Instr} {s : State} {g : Go} {a : Near} {scope : Nat} (hi : releasedNear i g s = some (a, scope))
    (h : Clear i s g) (act : g.active ≠ 0) :
    ∃ b', g.Empties a.dst b' ∧ exec i s = done (g.enter a (g.launchReleased scope false b') s) := by
  unfold releasedNear at hi
  split at hi
  · split at hi <;> cases hi
    next released =>
    obtain ⟨near, order⟩ := released
    exact ⟨_, g.empties_none, (execSyncSt_enters _ _ rfl h act near).trans (by rw [if_pos order])⟩
  · split at hi
    · next word =>
      split at hi <;> cases hi
      next released =>
      obtain ⟨near, order⟩ := released
      obtain ⟨b, p, hs, hx⟩ := exec_of_atomicWord word
      obtain ⟨b', emptied, hb⟩ := atomic_enters _ _ hs h act near
      exact ⟨b', emptied, (hx s).trans (hb.trans (by rw [if_pos order]))⟩
    · cases hi

theorem Go.enter_of_error {g : Go} {a : Near} {s : State} {x : Cause} (h : a.places g s = .error x) (send : Flight → State → State) :
    g.enter a send s = g.trap x s := by
  simp only [Go.enter, h]

theorem Go.enter_of_ok {g : Go} {a : Near} {s : State} {places : List (Nat × Nat)} (h : a.places g s = .ok places)
    (send : Flight → State → State) : g.enter a send s = send { a.flight with accs := a.at places } s := by
  simp only [Go.enter, h]

/-! ## Ordering words -/

section
variable {s : State} {g : Go}

/-- INVL1 leaves an event for the tag stage, 4 cycles later (R196). -/
theorem execInvl1_of_clear (h : Clear .invl1 s g) (act : g.active ≠ 0) :
    execInvl1 s = done (g.finish g.b (s.post 4 .l1Fill [g.core, g.b.ctx, 0, 0])) := by
  unfold execInvl1
  rw [show memShape = shapeOf .invl1 from rfl, issueWord_of_clear h, if_neg act]

/-- An event of four arguments is that of INVL1: the clean sectors of the context leave the L1 (R196). -/
theorem execL1Fill_of_invl1 {core ctx x y : Nat} (args : s.args = [core, ctx, x, y]) :
    execL1Fill s = done (s.l1Invalidate core fun t => decide (t.ctx = ctx)) := by
  simp [execL1Fill, State.arg, args]

/-- The release record of REDFLUSH: it waits for the acknowledgements of the entries, then wakes its barge (R318). -/
def Go.redflushRel (g : Go) (ids : List Nat) : Rel :=
  { core := g.core, slot := g.slot, ctx := g.b.ctx, scope := 0, release := false, step := 9, waitFor := ids
    after := .post [(1, { what := .sleepEnd, args := [g.core, g.slot] })] }

/-- REDFLUSH drains its barge's entries, and waits where there are any (R318). -/
theorem execRedflush_of_clear (h : Clear .redflush s g) (act : g.active ≠ 0) {ids : List Nat} {u : State}
    (drained : s.drainWhere g.core none (fun e => decide (e.barge = g.slot)) = (ids, u)) :
    execRedflush s = done (if ids = [] then g.finish g.b u
      else g.finish { g.b with blocked := true }
        { u with nextId := u.nextId + 1, rels := u.rels.put u.nextId (g.redflushRel ids) }) := by
  unfold execRedflush
  rw [show shapeRedflush = shapeOf .redflush from rfl, issueWord_of_clear h, if_neg act, drained]
  simp only [List.isEmpty_iff, State.startRel_eq]
  rfl

/-- The release record of a fence: what it releases and acquires, and the pulls that it makes (R331, R333). -/
def Go.fenceRel (g : Go) (sc : BitVec 3) (r : BitVec 2) : Rel :=
  { core := g.core, slot := g.slot, ctx := g.b.ctx, scope := sc.toNat, release := decide (2 ≤ r.toNat)
    acquire := decide (r.toNat % 2 = 1), uo := true
    pulls := if r.toNat % 2 = 1 ∧ 3 ≤ sc.toNat then g.b.pulls.map fun p => (p.1, p.2, pullTime g.core p.1) else []
    after := .resume 2 }

/-- A fence stands among what its barge's memory accesses wait for, and takes over the pulls that it makes (R333). -/
theorem Go.fence_eq (g : Go) (sc : BitVec 3) (r : BitVec 2) (s : State) :
    g.fence sc.toNat (2 ≤ r.toNat) (r.toNat % 2 = 1) s =
      ((g.finish { g.b with
          memWait := g.b.memWait ++ [s.nextId]
          pulls := if r.toNat % 2 = 1 ∧ 3 ≤ sc.toNat then [] else g.b.pulls }
        { s with nextId := s.nextId + 1, rels := s.rels.put s.nextId (g.fenceRel sc r) }).relRun s.nextId relFuel).pump g.core := by
  simp only [Go.fence, Go.fenceRel, State.startRel_eq, fencePulls, Bool.and_eq_true, decide_eq_true_eq]

theorem execFence_of_clear {sc : BitVec 3} {r : BitVec 2} (h : Clear (.fence sc r) s g) (act : g.active ≠ 0) :
    execFence sc r s = done (g.fence sc.toNat (2 ≤ r.toNat) (r.toNat % 2 = 1) s) := by
  unfold execFence
  rw [show memShape = shapeOf (.fence sc r) from rfl, issueWord_of_clear h, if_neg act]

/-- The layer flag: the barge's stores have arrived where such a fence issues, so one of order 0 has nothing left to do (R125). -/
theorem execFenceLayer_of_clear {sc : BitVec 3} {r : BitVec 2} (h : Clear (.fenceLayer sc r) s g) (act : g.active ≠ 0) :
    execFenceLayer sc r s = done (if r.toNat = 0 then g.finish g.b s
      else g.fence sc.toNat (2 ≤ r.toNat) (r.toNat % 2 = 1) s) := by
  unfold execFenceLayer
  rw [show shapeFenceLayer = shapeOf (.fenceLayer sc r) from rfl, issueWord_of_clear h]
  simp only [act, decide_false, Bool.false_or, decide_eq_true_eq]

end

end Sys2Proof.Machine

namespace Sys2Proof.MemoryLayer
open Sys2Proof Sys2Proof.Machine Sys2Proof.Claims

/-- Settles O39: a near access traps where a lane has no place, and is sent with the places where each has one; a local place is in
its workgroup's range by definition. -/
theorem nearAccessesGo : Obligations.NearAccessesGo := by
  refine ⟨fun i s g h act => ⟨fun a hi legal => ?_, fun a scope hi _ => ?_⟩, fun s g l a n base size range => ?_⟩
  · obtain ⟨b', emptied, hx⟩ := exec_nearAccess hi h act legal
    refine ⟨fun x failed => hx.trans (congrArg done (Go.enter_of_error failed _)), fun places found => ?_⟩
    obtain ⟨b'', left⟩ := emptied.leaves s s.nextId (s.nextId + 1) s.rels { a.flight with accs := a.at places }
    exact ⟨_, b'', hx.trans (congrArg done (Go.enter_of_ok found _)), left⟩
  · obtain ⟨b', emptied, hx⟩ := exec_releasedNear hi h act
    refine ⟨fun x failed => hx.trans (congrArg done (Go.enter_of_error failed _)), fun places found => ?_⟩
    obtain ⟨b'', left⟩ := emptied.leaves s (s.nextId + 1) (s.nextId + 2)
      (s.rels.put s.nextId { core := g.core, slot := g.slot, ctx := g.b.ctx, scope, uo := false, after := .sendFlight (s.nextId + 1) })
      { a.flight with accs := a.at places, release := some s.nextId }
    exact ⟨_, b'', hx.trans (congrArg done (Go.enter_of_ok found _)), left, rfl⟩
  · simp only [State.nearPlace, State.localPlace, range]

/-- Settles O40: the effect of each ordering word; a fence with the layer flag is a fence unless its order is 0. -/
theorem orderingWords : Obligations.OrderingWords := by
  refine ⟨fun s g h act => execInvl1_of_clear h act, fun s core ctx x y args => execL1Fill_of_invl1 args,
    fun s g h act => execRedflush_of_clear h act rfl, fun s g act => ⟨fun sc r h => ?_, fun sc r h order => ?_, fun sc h => ?_⟩⟩
  · exact (execFence_of_clear h act).trans (congrArg done (g.fence_eq sc r s))
  · have ordered : r.toNat ≠ 0 := fun e => order (BitVec.eq_of_toNat_eq e)
    exact (execFenceLayer_of_clear h act).trans (congrArg done ((if_neg ordered).trans (g.fence_eq sc r s)))
  · exact (execFenceLayer_of_clear h act).trans (congrArg done (if_pos rfl))

end Sys2Proof.MemoryLayer
end

section
/-!
The words of class 23 and what the hub does with them: what FORK, REACH, COMMIT, SQUASH and RQUERY do at their barge (R143 to R145,
R148, R151), how the hub takes a version event, and the commit and squash points (R147).
-/
namespace Sys2Proof.Machine
open Sys2Proof Sys2Proof.Claims

/-! ## Masks of labels -/

/-- The fold of `labelMask` over any labels. -/
theorem getLsbD_labelFold (p : BitVec 3 → Bool) (l : BitVec 3) (ls : List (BitVec 3)) (m : BitVec 8) :
    (ls.foldl (fun m k => if p k then m ||| (1#8 <<< k.toNat) else m) m).getLsbD l.toNat =
      (m.getLsbD l.toNat || (decide (l ∈ ls) && p l)) := by
  have bit : ∀ k l : BitVec 3, (1#8 <<< k.toNat).getLsbD l.toNat = decide (l = k) := by decide
  induction ls generalizing m with
  | nil => simp
  | cons k ls ih =>
    rw [List.foldl_cons, ih]
    by_cases same : l = k
    · subst same
      cases p l <;> simp [bit]
    · cases p k <;> simp [same, bit]

/-- A mask of labels holds the reach labels of which the predicate is true; bit 0 is no label. -/
theorem getLsbD_labelMask (p : BitVec 3 → Bool) (l : BitVec 3) : (labelMask p).getLsbD l.toNat = (decide (l ≠ 0) && p l) := by
  have reach : ∀ l : BitVec 3, decide (l ∈ ([1, 2, 3, 4, 5, 6, 7] : List (BitVec 3))) = decide (l ≠ 0) := by decide
  rw [labelMask, getLsbD_labelFold, reach]
  simp

/-- A mask is known by its labels. -/
theorem eq_of_labels {m n : BitVec 8} (h : ∀ l : BitVec 3, m.getLsbD l.toNat = n.getLsbD l.toNat) : m = n := by
  refine BitVec.eq_of_getLsbD_eq fun i hi => ?_
  have := h (BitVec.ofNat 3 i)
  rwa [BitVec.toNat_ofNat, Nat.mod_eq_of_lt hi] at this

theorem labelMask_eq {m : BitVec 8} {p : BitVec 3 → Bool}
    (h : ∀ l : BitVec 3, m.getLsbD l.toNat = true ↔ l ≠ 0 ∧ p l = true) :
    labelMask p = m :=
  eq_of_labels fun l => by rw [getLsbD_labelMask, Bool.eq_iff_iff, h l, Bool.and_eq_true, decide_eq_true_eq]

theorem labelMask_live {m : BitVec 8} {c : Context}
    (h : ∀ l : BitVec 3, m.getLsbD l.toNat = true ↔ l ≠ 0 ∧ (c.label l).state = .live) :
    labelMask (fun l => (c.label l).state == .live) = m :=
  labelMask_eq fun l => by rw [h l, beq_iff_eq]

/-- The labels that FORK is granted (R143). -/
theorem State.grant_labels (s : State) (ctx : Nat) (m : BitVec 8) (q : BitVec 24) {l : BitVec 3} (h : l ≠ 0) :
    (s.grant ctx m q).1.getLsbD l.toNat = true ↔
      m.getLsbD l.toNat = true ∧ ((s.ctx ctx).label l).state = .free ∧ ((s.ctx ctx).label l).poolSlots ≠ 0 := by
  change (labelMask _).getLsbD _ = true ↔ _
  rw [getLsbD_labelMask, decide_eq_true h]
  simp [and_assoc]

/-! ## The words at their barge -/

section
variable {s : State} {g : Go}

theorem exec_fork_of_clear {d a b : BitVec 7} {p q : BitVec 1} (h : Clear (.fork d a b p q) s g) (act : g.active ≠ 0) :
    exec (.fork d a b p q) s = done (if g.b.tag ≠ 0 then g.trap { cause := 0x94 } s else
      ((withRel (awaited g s d)
        { core := g.core, slot := g.slot, ctx := g.b.ctx, scope := 6
          after := .post [(36, { what := .forkGrant
                                 args := [g.b.ctx, g.core, g.slot, s.nextId, ((g.val 0).dword.extractLsb' 0 8 &&& 0xFE#8).toNat,
                                          ((g.opB 1 b q).dword.extractLsb' 0 24).toNat] })] }).relRun
        (s.nextId + 1) relFuel).pump g.core) := by
  show execFork d a b p q s = _
  unfold execFork
  rw [show shapeFork d a b p q = shapeOf (.fork d a b p q) from rfl, issueWord_of_clear h, if_neg act]
  rfl

theorem exec_reach_of_clear {k : BitVec 3} (h : Clear (.reach k) s g) (act : g.active ≠ 0) :
    exec (.reach k) s = done (if k = 0 ∨ g.b.reachOk = true then
        if k = 0 ∨ ((s.ctx g.b.ctx).label k).state = .live then g.finish { g.b with tag := k } s
        else g.trap { cause := 0x92 } s
      else g.trap { cause := 0x94 } s) := by
  have barred : (k ≠ 0 && !g.b.reachOk) = !decide (k = 0 ∨ g.b.reachOk = true) := by simp
  have live : (s.ctx g.b.ctx).live k = decide (k = 0 ∨ ((s.ctx g.b.ctx).label k).state = .live) := by
    rw [Bool.eq_iff_iff, decide_eq_true_iff]
    simp [Context.live, Context.label]
  show execReach k s = _
  unfold execReach
  rw [show shapeReach = shapeOf (.reach k) from rfl, issueWord_of_clear h, if_neg act, barred, live]
  simp only [Bool.not_eq_true', decide_eq_false_iff_not, ite_not]

/-- COMMIT and SQUASH trap under a tag, and else ask the hub for their step (R145, R148). -/
theorem versionWord_of_clear {i : Instr} {d : BitVec 7} {srcs : List Src} {row : Instr} {arg : Go → Nat}
    (hs : shapeOf i = shapeVersionWord d srcs) (h : Clear i s g) (act : g.active ≠ 0) :
    versionWord d srcs row arg s = done (if g.b.tag ≠ 0 then g.trap { cause := 0x94 } s
      else (awaited g s d).post 36 row [g.b.ctx, g.core, g.slot, s.nextId, arg g]) := by
  unfold versionWord
  rw [← hs, issueWord_of_clear h, if_neg act]
  rfl

theorem exec_versionAt {i : Instr} {d : BitVec 7} {row : Instr} {n : Nat} (hi : versionAt i g = some (d, row, n)) (h : Clear i s g)
    (act : g.active ≠ 0) :
    exec i s = done (if g.b.tag ≠ 0 then g.trap { cause := 0x94 } s
      else (awaited g s d).post 36 row [g.b.ctx, g.core, g.slot, s.nextId, n]) := by
  unfold versionAt at hi
  split at hi <;> cases hi
  · exact versionWord_of_clear rfl h act
  · refine (versionWord_of_clear rfl h act).trans ?_
    simp
  · exact versionWord_of_clear rfl h act
  · refine (versionWord_of_clear rfl h act).trans ?_
    have mask : 2 * ((g.val 0).dword.extractLsb' 1 7).toNat = (g.val 0).dword.toNat % 256 / 2 * 2 := by
      simp [BitVec.extractLsb'_toNat]; omega
    rw [mask]

/-- RQUERY asks the hub to read its item (R151). -/
theorem exec_rquery_of_clear {d a : BitVec 7} {p : BitVec 1} (h : Clear (.rquery d a p) s g) (act : g.active ≠ 0) :
    exec (.rquery d a p) s = done ((awaited g s d).post 36 (.rquery 0 0 0)
      [s.nextId, g.b.ctx, ((g.val 0).dword.extractLsb' 0 3).toNat, ((g.val 0).dword.extractLsb' 3 3).toNat]) := by
  show execRquery d a p s = _
  unfold execRquery
  rw [h.issue, Bool.false_and, if_neg Bool.false_ne_true, show shapeRquery d a p = shapeOf (.rquery d a p) from rfl,
    issueWord_of_clear h, if_neg act]
  rfl

end

/-- The mask of FORK leaves out bit 0 (R143). -/
theorem toNat_and_fe : ∀ x : BitVec 8, (x &&& 0xFE#8).toNat = x.toNat / 2 * 2 := by decide

/-! ## Version events at the hub -/

section
variable {u : State} {ctx : Nat} {e : VerEvent} {r : List VerEvent}

theorem versionRankOf_eq (core slot : Nat) : versionRankOf core slot = 8 + 512 * core + slot := (Nat.add_assoc ..).symm

/-- A row whose argument is a context alone takes the next phase of the context's first event. -/
theorem exec_row_of_context (what : VerOp) (args : u.args = [ctx]) : Completes what.row u (u.versionStep ctx) := by
  have same : u.arg 0 = ctx := by simp [State.arg, args]
  cases what <;> simp [Completes, VerOp.row, exec, execForkGrant, execCommitPoint, execSquashPoint, args, same, done]

theorem State.versionStep_of_turn (first : (u.ctx ctx).events = e :: r) (due : e.due ≤ u.now) (untaken : e.phase = 0) :
    u.versionStep ctx = u.takeEvent ctx e := by
  simp only [State.versionStep, first, if_neg (Nat.not_lt.2 due), untaken]

theorem State.versionStep_of_point (first : (u.ctx ctx).events = e :: r) (due : e.due ≤ u.now) (drained : e.phase = 3) :
    u.versionStep ctx = u.versionPoint ctx e := by
  simp only [State.versionStep, first, if_neg (Nat.not_lt.2 due), drained]

/-- An event's turn: a row of its context takes it. -/
theorem exec_turn (args : u.args = [ctx]) (first : (u.ctx ctx).events = e :: r) (due : e.due ≤ u.now) (untaken : e.phase = 0)
    (x : VerOp) : Completes x.row u (u.takeEvent ctx e) :=
  State.versionStep_of_turn first due untaken ▸ exec_row_of_context x args

/-- The end of an event's drain: a row of its context comes to its point. -/
theorem exec_point (args : u.args = [ctx]) (first : (u.ctx ctx).events = e :: r) (due : e.due ≤ u.now) (drained : e.phase = 3)
    (x : VerOp) : Completes x.row u (u.versionPoint ctx e) :=
  State.versionStep_of_point first due drained ▸ exec_row_of_context x args

/-- The event as its hold begins (R147, Table 7.6). -/
theorem State.setEvent_of_first (first : (u.ctx ctx).events = e :: r) (x : VerEvent) :
    u.setEvent ctx x = (u.setCtx ctx { u.ctx ctx with events := x :: r }).postAt x.due x.what.row [ctx] := by
  simp only [State.setEvent, first, List.drop_succ_cons, List.drop_zero]

/-- An event in its hold, from 48 cycles after its arrival (Table 7.6). -/
def VerEvent.holding (e : VerEvent) (m : BitVec 8) : VerEvent := { e with phase := 1, mask := m, lost := 0, due := e.arrived + 48 }

/-! In the hub cycle after its arrival an event's times run from its arrival. -/

theorem State.takeEvent_fork (timely : u.now < ofHubCycle (hubCycle e.arrived + 1)) {m : BitVec 8} {q : BitVec 24}
    (what : e.what = .fork m q) :
    u.takeEvent ctx e = ((u.grant ctx m q).2.versionStatus e
      (BitVec.ofNat 64 (((u.grant ctx m q).2.ctx ctx).forkSeq.toNat * 2 ^ 48 + (u.grant ctx m q).1.toNat))
      (60 - (u.now - e.arrived))).popEvent ctx := by
  simp only [State.takeEvent, what, if_pos timely]

/-- A COMMIT fails without its label live, or while another settles; else every live label is held (R145). -/
theorem State.takeEvent_commit (timely : u.now < ofHubCycle (hubCycle e.arrived + 1)) {k : BitVec 3} (what : e.what = .commit k) :
    u.takeEvent ctx e =
      if k ≠ 0 ∧ ((u.ctx ctx).label k).state = .live then
        if (u.ctx ctx).clabel = 0 then u.setEvent ctx (e.holding (labelMask fun l => ((u.ctx ctx).label l).state == .live))
        else (u.versionStatus e 2 (84 - (u.now - e.arrived))).popEvent ctx
      else (u.versionStatus e 1 (84 - (u.now - e.arrived))).popEvent ctx := by
  have missed : (k = 0 || !(((u.ctx ctx).label k).state == .live)) = !decide (k ≠ 0 ∧ ((u.ctx ctx).label k).state = .live) := by
    rw [Bool.eq_iff_iff, Bool.not_eq_true', decide_eq_false_iff_not]
    simp [imp_iff_not_or]
  simp only [State.takeEvent, VerEvent.holding, what, if_pos timely, missed, Bool.not_eq_true', decide_eq_false_iff_not, ite_not]

/-- A SQUASH holds the live labels that it names, where there is one (R148). -/
theorem State.takeEvent_squash (timely : u.now < ofHubCycle (hubCycle e.arrived + 1)) {x : BitVec 8} (what : e.what = .squash x)
    {m : BitVec 8} (labels : ∀ l : BitVec 3, m.getLsbD l.toNat = true ↔
      l ≠ 0 ∧ x.getLsbD l.toNat = true ∧ ((u.ctx ctx).label l).state = .live) :
    u.takeEvent ctx e =
      if m = 0 then (u.versionStatus e 0 (84 - (u.now - e.arrived))).popEvent ctx else u.setEvent ctx (e.holding m) := by
  have mask : labelMask (fun l => x.getLsbD l.toNat && ((u.ctx ctx).label l).state == .live) = m :=
    labelMask_eq fun l => by rw [labels l, Bool.and_eq_true, beq_iff_eq]
  simp only [State.takeEvent, VerEvent.holding, what, if_pos timely, mask]

/-- The labels of a mask are squashed, in their order. -/
def State.squashLabels (u : State) (ctx : Nat) (lost m : BitVec 8) : State :=
  (labelsIn m).foldl (fun t l => t.squashLabel ctx lost l) u

/-- The end of a point: the labels that it squashed are in its status (R145, R148). -/
def State.endPoint (u : State) (ctx : Nat) (e : VerEvent) (m : BitVec 8) : State :=
  (u.versionStatus e (BitVec.ofNat 64 (m.toNat * 2 ^ 8)) 96).popEvent ctx

theorem State.versionPoint_commit {k : BitVec 3} (what : e.what = .commit k) (kept : e.lost.getLsbD k.toNat = false) :
    u.versionPoint ctx e =
      let others := e.mask &&& ~~~(1#8 <<< k.toNat)
      ((((u.post 60 e.what.row [ctx, e.mask.toNat]).commitLabel ctx k).squashLabels ctx e.lost others).endPoint ctx e others) := by
  simp only [State.versionPoint, State.endPoint, State.squashLabels, what, kept, Bool.false_eq_true, if_false, Nat.add_zero]

theorem State.versionPoint_squash {m : BitVec 8} (what : e.what = .squash m) :
    u.versionPoint ctx e =
      ((u.post 60 e.what.row [ctx, e.mask.toNat]).squashLabels ctx e.lost e.mask).endPoint ctx e e.mask := by
  simp only [State.versionPoint, State.endPoint, State.squashLabels, what, Nat.add_zero]

end

end Sys2Proof.Machine

namespace Sys2Proof.Reaches
open Sys2Proof Sys2Proof.Machine Sys2Proof.Claims

/-- Settles O56: the words of class 23 at their barge; a row of more than one argument enters an event at the hub, and one of a
context alone takes the next phase of its first event: its turn in the hub cycle after its arrival (log 77), or the end of its drain,
after which a label that starved meanwhile is STARVED (log 110). -/
theorem reachWords : Obligations.ReachWords := by
  refine ⟨fun d a b p q s g h act => ?_, fun k s g h act => ?_, fun i s g d row n hi h act => ?_,
    fun u ctx core slot fid mask quota r args => ?_, fun u ctx core slot fid n args => ?_,
    fun u ctx e r args first due untaken timely => ?_, fun u ctx e r args first due drained => ?_,
    fun d a p s g h act => ?_, fun u id ctx l item args quiet => ?_⟩
  · have hx := exec_fork_of_clear h act
    refine ⟨fun tagged => hx.trans (by rw [if_pos tagged]), fun free => hx.trans ?_⟩
    rw [if_neg (not_not.2 free), toNat_and_fe, BitVec.extractLsb'_toNat]
    rfl
  · have hx := exec_reach_of_clear h act
    exact ⟨fun named barred => hx.trans (by rw [if_neg (not_or.2 ⟨named, Bool.eq_false_iff.1 barred⟩)]),
      fun may dead => hx.trans (congrArg done ((if_pos may).trans (if_neg dead))),
      fun may live => hx.trans (congrArg done ((if_pos may).trans (if_pos live)))⟩
  · have hx := exec_versionAt hi h act
    exact ⟨fun tagged => hx.trans (by rw [if_pos tagged]), fun free => hx.trans (by rw [if_neg (not_not.2 free)]; rfl)⟩
  · show execForkGrant u = _
    simp only [execForkGrant, args, versionRankOf_eq]
    rfl
  · constructor
    · show execCommitPoint u = _
      simp only [execCommitPoint, args, versionRankOf_eq]
      rfl
    · show execSquashPoint u = _
      simp only [execSquashPoint, args, versionRankOf_eq]
      rfl
  · have turn := exec_turn args first due untaken
    have held (m : BitVec 8) := State.setEvent_of_first first (e.holding m)
    refine ⟨fun m q what => ⟨fun l named => u.grant_labels ctx m q named, ?_⟩, fun k what lost => ?_,
      fun k what named live busy => ?_, fun m what none => ?_, fun k m what named live idle labels => ?_,
      fun x m what labels some => ?_⟩
    · have := turn (.fork m q)
      rwa [State.takeEvent_fork timely what] at this
    · have := turn (.commit k)
      rwa [State.takeEvent_commit timely what, if_neg fun h => lost.elim h.1 fun dead => dead h.2] at this
    · have := turn (.commit k)
      rwa [State.takeEvent_commit timely what, if_pos ⟨named, live⟩, if_neg busy] at this
    · have := turn (.squash m)
      have empty (l : BitVec 3) : (0 : BitVec 8).getLsbD l.toNat = true ↔
          l ≠ 0 ∧ m.getLsbD l.toNat = true ∧ ((u.ctx ctx).label l).state = .live :=
        ⟨fun h => absurd h (by simp), fun ⟨h, named, live⟩ => absurd live (none l h named)⟩
      rwa [State.takeEvent_squash timely what empty, if_pos rfl] at this
    · have := turn (.commit k)
      rwa [State.takeEvent_commit timely what, if_pos ⟨named, live⟩, if_pos idle,
        labelMask_live (c := u.ctx ctx) labels, held] at this
    · have := turn (.squash x)
      rwa [State.takeEvent_squash timely what labels, if_neg some, held] at this
  · have point := exec_point args first due drained
    refine ⟨fun k what kept => ?_, fun m what => ?_⟩
    · have := point (.commit k)
      rwa [State.versionPoint_commit what kept] at this
    · have := point (.squash m)
      rwa [State.versionPoint_squash what] at this
  · have hx := exec_rquery_of_clear h act
    rwa [BitVec.extractLsb'_toNat, BitVec.extractLsb'_toNat, Nat.shiftRight_zero, Nat.shiftRight_eq_div_pow] at hx
  · show execRquery _ _ _ u = _
    simp [execRquery, State.arg, args, quiet, done]

end Sys2Proof.Reaches
end

section
/-!
WFI and RETT (R393, R396): the bytes of a frame's header as numbers, what a restored barge keeps of its header through the join
stack and the fate of its tag (R146, R149, R241), and the effects of the two words.
-/
namespace Sys2Proof.Machine
open Sys2Proof Sys2Proof.Claims

/-! ## The frame's header -/

/-- Byte k of a number, least significant first (R6). -/
theorem leNat_byte (bs : List Byte) (k : Nat) : leNat bs / 256 ^ k % 256 = (bs.getD k 0).toNat := by
  induction k generalizing bs with
  | zero =>
    cases bs with
    | nil => rfl
    | cons b bs =>
      have low : b.toNat < 256 := b.isLt
      show (leNat bs * 256 + b.toNat) / 256 ^ 0 % 256 = b.toNat
      omega
  | succ k ih =>
    cases bs with
    | nil => simp [leNat]
    | cons b bs =>
      have low : b.toNat < 256 := b.isLt
      have tail : (leNat bs * 256 + b.toNat) / 256 = leNat bs := by omega
      show (leNat bs * 256 + b.toNat) / 256 ^ (k + 1) % 256 = (bs.getD k 0).toNat
      rw [Nat.pow_succ', ← Nat.div_div_eq_div_mul, tail, ih]

/-- The header counts its entries in byte 2 (Table 18.3). -/
theorem field_blockDword_entries (h : List Byte) : field (blockDword h 0) 16 8 = (h.getD 2 0).toNat := by
  have := leNat_byte (h.take 8) 2
  simpa [field, blockDword, List.getD_eq_getElem?_getD, List.getElem?_take] using this

/-- A thread's run state, of 2 bits (R393). -/
theorem field_runState (x i : Nat) : field x (2 * i) 2 = x / 4 ^ i % 4 := by
  rw [field, Nat.pow_mul]
  rfl

/-- What the header says of a thread (Table 18.3, R393). -/
theorem Barge.restoreHeader_lane (b : Barge) (h : List Byte) {l : Nat} (hl : l < 32) :
    laneOn (b.restoreHeader h).running l = decide (blockDword h 0x38 / 4 ^ l % 4 = 0) ∧
    laneOn (b.restoreHeader h).exited l = decide (blockDword h 0x38 / 4 ^ l % 4 = 2) ∧
    (b.restoreHeader h).pcs.getD l 0 = BitVec.ofNat 64 (blockDword h (0x40 + 8 * l) / 4 * 4) := by
  simp only [Barge.restoreHeader, laneOn_maskOf _ hl, field_runState]
  exact ⟨rfl, rfl, by simp [List.getD_eq_getElem?_getD, hl]⟩

theorem Barge.restoreHeader_joins (b : Barge) (h : List Byte) :
    (b.restoreHeader h).joins.length = min 16 (blockDword h 0x280 % 32) := by
  simp [Barge.restoreHeader, field, Nat.min_comm]

theorem Barge.restoreHeader_pred (b : Barge) (h : List Byte) (p : BitVec 3) {l : Nat} (hl : l < 32) :
    laneOn ((b.restoreHeader h).pred p) l = (h.getD (0x140 + l) 0).getLsbD p.toNat := by
  have low : p.toNat < 8 := p.isLt
  simp [Barge.pred, Barge.restoreHeader, List.getD_eq_getElem?_getD, low, laneOn_maskOf _ hl]

/-! ## What a restored barge keeps -/

/-- Popping join entries changes the stack, who runs and the PCs alone (R241). -/
theorem Barge.popSatisfied_eq (n : Nat) (b : Barge) :
    ∃ joins running pcs, b.popSatisfied n = { b with joins, running, pcs } := by
  induction n generalizing b with
  | zero => exact ⟨_, _, _, rfl⟩
  | succ n ih =>
    unfold Barge.popSatisfied
    split
    · exact ⟨_, _, _, rfl⟩
    · extract_lets
      split
      · obtain ⟨_, _, _, h⟩ := ih { b with joins := _, running := _, pcs := _ }
        exact ⟨_, _, _, h⟩
      · exact ⟨_, _, _, rfl⟩

theorem Barge.settleJoins_eq (b : Barge) : ∃ joins running pcs wait, b.settleJoins = { b with joins, running, pcs, wait } := by
  obtain ⟨_, _, _, h⟩ := b.popSatisfied_eq 17
  unfold Barge.settleJoins
  rw [h]
  extract_lets
  split <;> exact ⟨_, _, _, _, rfl⟩

/-- What became of a barge's tag since its trap: true for committed, false for squashed (R146, R149). A label that a handler wrote
into the frame is taken as it now stands (log 63). -/
def Barge.tagEnd (b : Barge) (c : Context) : Option Bool :=
  if b.tag = b.frameTag then b.frameEnd
  else match ((c.labels.look b.tag.toNat).getD {}).state with
    | .committed => some true
    | .dead => some false
    | _ => none

theorem Barge.meetFate_eq (b : Barge) (c : Context) :
    ∃ dead, b.meetFate c = { b with tag := if b.tagEnd c = some true then 0 else b.tag, dead } ∧
      (b.tag ≠ 0 → b.tagEnd c = some false → dead = true) := by
  have unfolded : b.meetFate c = if b.tag = 0 then b else match b.tagEnd c with
      | some true => { b with tag := 0 }
      | some false => { b with dead := true }
      | none => b := rfl
  rw [unfolded]
  split
  · next base => exact ⟨b.dead, by rw [base, ite_self, ← base], fun h => absurd base h⟩
  · split
    · next h => exact ⟨b.dead, by simp [h], by simp [h]⟩
    · next h => exact ⟨true, by simp [h], by simp⟩
    · next h => exact ⟨b.dead, by simp [h], by simp [h]⟩

/-- The barge that RETT leaves, with the entries to re-inject and the cycle from which it issues (R393). -/
def Barge.returned (b : Barge) (h : List Byte) (c : Context) (es : List Entry) (t : Nat) : Barge :=
  { (((b.restoreHeader h).settleJoins).meetFate c).regainEmpty with
    handler := false, frameSlot := none, reinject := es, chain := none, follow := none, readyAt := t, eligibleSince := t }

/-- What RETT leaves of the header, once its join stack has been popped and its tag has met its fate. -/
structure Barge.Returned (b : Barge) (r : Barge) (c : Context) (es : List Entry) (b' : Barge) : Prop where
  running : b'.running = r.settleJoins.running
  pcs : b'.pcs = r.settleJoins.pcs
  joins : b'.joins = r.settleJoins.joins
  exited : b'.exited = r.exited
  handler : b'.handler = false
  tag : b'.tag = if r.tagEnd c = some true then 0 else r.tag
  dead : r.tag ≠ 0 → r.tagEnd c = some false → b'.dead = true
  yieldMarks : b'.yieldMarks = r.yieldMarks
  preds : b'.preds = r.preds
  v : b'.v = b.v
  s : b'.s = b.s
  reinject : b'.reinject = es

theorem Barge.returned_returned (b : Barge) (h : List Byte) (c : Context) (es : List Entry) (t : Nat) :
    b.Returned (b.restoreHeader h) c es (b.returned h c es t) := by
  obtain ⟨joins, running, pcs, wait, settled⟩ := (b.restoreHeader h).settleJoins_eq
  obtain ⟨dead, fate, doomed⟩ := (b.restoreHeader h).settleJoins.meetFate_eq c
  unfold Barge.returned
  rw [fate]
  rw [settled] at doomed ⊢
  exact ⟨by rw [settled]; rfl, by rw [settled]; rfl, by rw [settled]; rfl, rfl, rfl, rfl, doomed, rfl, rfl, rfl, rfl, rfl⟩

/-! ## The effects -/

/-- A frame slot that a barge held is given back (R386). -/
def State.giveFrame (s : State) (ctx : Nat) (k : Option Nat) : State :=
  match k with
  | some k => s.freeFrame ctx k
  | none => s

@[simp] theorem State.giveFrame_barge (s : State) (ctx : Nat) (k : Option Nat) (core slot : Nat) :
    (s.giveFrame ctx k).barge core slot = s.barge core slot := by
  cases k <;> rfl

@[simp] theorem State.giveFrame_byteAt (s : State) (ctx : Nat) (k : Option Nat) (x : Nat) :
    (s.giveFrame ctx k).byteAt x = s.byteAt x := by
  cases k <;> rfl

section
variable {s : State} {g : Go}

theorem exec_wfi_of_clear (h : Clear .wfi s g) (act : g.active ≠ 0) :
    exec .wfi s = done (if (s.ctx g.b.ctx).sys = false then g.trap { cause := 0xB0 } s
      else (g.finish g.b s).onBarge g.core g.slot fun b =>
        { b with wfi := true, blocked := true, wait := .other, waitSince := s.now }) := by
  show execWfi s = _
  unfold execWfi
  rw [show bareShape = shapeOf .wfi from rfl, issueWord_of_clear h, if_neg act]
  simp only [Bool.not_eq_true']

/-- The agent that reads a barge's frame; it reads under label 0 (log 39). -/
def Go.frameAgent (g : Go) : Agent := { core := g.core, ctx := g.b.ctx }

/-- Where TRAPFRAME places the frame. -/
def Go.frameVa (g : Go) : Nat := wide56 g.b.trapFrame.toNat

/-- RETT gives up its barge: the unit's fault follows (R393). -/
def Go.rettFails (g : Go) (s : State) (cause at_ : Nat) : State :=
  (g.finish { g.b with blocked := true } s).post 0 .unrecoverableFault [g.core, g.slot, cause, at_]

/-- RETT completes: its barge has returned from a frame of n entries. -/
def Go.rettReturns (g : Go) (s : State) (h : List Byte) (n : Nat) (es : List Entry) (t : Nat) : State :=
  ((g.finish g.b (s.fetches g.frameAgent g.frameVa (4096 * (n + 1)))).onBarge g.core g.slot fun b =>
    b.returned h (s.ctx b.ctx) es t).giveFrame g.b.ctx g.b.frameSlot

theorem exec_rett_of_clear (h : Clear .rett s g) (act : g.active ≠ 0) :
    (g.b.handler = false → Traps .rett s g { cause := 0xB2 }) ∧
    (g.b.handler = true →
      (∀ e, s.agentRead g.frameAgent g.frameVa 4096 = .error e → exec .rett s = done (g.rettFails s 0xB3 e.2)) ∧
      (∀ hd body, s.agentRead g.frameAgent g.frameVa 4096 = .ok hd →
        let n := min 24 (hd.getD 2 0).toNat
        s.agentRead g.frameAgent (g.frameVa + 4096) (4096 * n) = .ok body →
        let blocks := (List.range n).map fun k => (body.drop (4096 * k)).take 4096
        (frameBad hd blocks = true → exec .rett s = done (g.rettFails s 0xB4 0)) ∧
        (frameBad hd blocks = false → ∃ t, Completes .rett s ((g.rettReturns s hd n
          ((blocks.map Entry.ofBlock).filter fun e => !e.skip) t).recount g.core g.slot g.b)))) := by
  have hx : execRett s = done _ := issueWord_of_clear h _
  rw [if_neg act] at hx
  replace hx : exec .rett s = _ := hx
  refine ⟨fun out => hx.trans (by rw [out]; rfl), fun handler => ?_⟩
  rw [if_neg (show ¬ (!g.b.handler) = true by simp [handler])] at hx
  refine ⟨fun e failed => hx.trans ?_, fun hd body head => ?_⟩
  · simp only [Go.frameAgent, Go.frameVa] at failed
    simp only [failed]
    rfl
  · simp only [Go.frameAgent, Go.frameVa] at head ⊢
    intro rest
    simp only [head, field_blockDword_entries, rest] at hx
    refine ⟨fun bad => ?_, fun legal => ?_⟩
    · rw [if_pos bad] at hx
      exact hx
    · rw [if_neg (Bool.eq_false_iff.1 legal)] at hx
      exact ⟨_, hx⟩
end

/-- The barge and the memory after RETT, before the threads are counted again. -/
theorem Go.rettReturns_spec (g : Go) (s : State) (h : List Byte) (n : Nat) (es : List Entry) (t : Nat) :
    let b := g.b.pass (s.fetches g.frameAgent g.frameVa (4096 * (n + 1))).now g.group g.addr g.pre g.replay
    ∃ b', (g.rettReturns s h n es t).barge g.core g.slot = some b' ∧ b.Returned (b.restoreHeader h) (s.ctx g.b.ctx) es b' ∧
      ∀ x, (g.rettReturns s h n es t).byteAt x = (s.fetches g.frameAgent g.frameVa (4096 * (n + 1))).byteAt x := by
  unfold Go.rettReturns
  rw [State.onBarge_eq (Go.finish_barge ..)]
  refine ⟨_, (State.giveFrame_barge ..).trans (State.barge_setBarge_same ..), Barge.returned_returned ..,
    fun x => (State.giveFrame_byteAt ..).trans ?_⟩
  exact (State.byteAt_congr rfl rfl x).trans ((Go.finish_machine g g.b _).memory x)

end Sys2Proof.Machine

namespace Sys2Proof.Returns
open Sys2Proof Sys2Proof.Machine Sys2Proof.Claims

/-- Settles O60: WFI and RETT at their barge; the barge that RETT leaves is what its header restores, with its join stack popped and
its tag as the end of its label leaves it. The frame read under label 0 (log 39), the label that a handler wrote (log 63) and the
threads counted again (log 62) are the model's own choices. -/
theorem waitsAndReturns : Obligations.WaitsAndReturns := by
  refine ⟨fun s g h act => ?_, fun s g h act => ?_⟩
  · have hx := exec_wfi_of_clear h act
    exact ⟨fun user => hx.trans (congrArg done (if_pos user)),
      fun sys => hx.trans (congrArg done (if_neg (by simp [sys])))⟩
  · obtain ⟨outside, inside⟩ := exec_rett_of_clear h act
    refine ⟨outside, fun e handler => (inside handler).1 e, fun hd body handler head => ?_⟩
    intro e n tag ended rest blocks
    obtain ⟨bad, legal⟩ := (inside handler).2 hd body head rest
    refine ⟨bad, fun ok => ?_⟩
    obtain ⟨t, completes⟩ := legal ok
    obtain ⟨b', found, left, memory⟩ := g.rettReturns_spec s hd n ((blocks.map Entry.ofBlock).filter fun e => !e.skip) t
    refine ⟨_, _, b', completes, found, fun l hl => Barge.restoreHeader_lane _ hd hl, Barge.restoreHeader_joins _ hd, left.running,
      left.pcs, left.joins, left.exited, left.handler, left.tag, left.dead, left.yieldMarks, fun p l hl => ?_, left.v, left.s, memory,
      left.reinject⟩
    rw [Barge.pred, left.preds]
    exact Barge.restoreHeader_pred _ hd p hl

end Sys2Proof.Returns
end

section
/-!
Semaphores (R169 to R173): the comparison of SEMWAIT as arithmetic modulo 2^32, the effects of SEMWAIT, SEMSIG and SEMSET at their
barge, and what an update leaves at its sync unit.
-/
namespace Sys2Proof.Machine
open Sys2Proof Sys2Proof.Claims

/-! ## The words at their barge -/

/-- The comparison of SEMWAIT is modulo 2^32 (R170). -/
theorem semMet_iff (value threshold : Word) :
    semMet value threshold = true ↔ (value.toNat + 2 ^ 32 - threshold.toNat) % 2 ^ 32 < 2 ^ 31 := by
  have below : threshold.toNat < 2 ^ 32 := threshold.isLt
  have order : 2 ^ 32 - threshold.toNat + value.toNat = value.toNat + 2 ^ 32 - threshold.toNat := by omega
  rw [semMet, decide_eq_true_iff, BitVec.toNat_sub, order]

/-- File 0 is the core's (R169). -/
theorem toNat_file_eq_zero : ∀ f : BitVec 1, f.toNat = 0 ↔ f = 0 := by decide

/-- The unit of the semaphore that SEMWAIT names (R169). -/
def Go.semUnit (g : Go) (f : BitVec 1) : Nat := if f = 0 then g.core else towerOf g.core

/-- The semaphore that SEMWAIT names. -/
def Go.semOf (g : Go) (f : BitVec 1) (n : BitVec 8) (s : State) : Sem := s.sem f.toNat (g.semUnit f) n.toNat

/-- The cycle from which a satisfied SEMWAIT lets its barge issue: the barge's own next one, or the semaphore's answer (R170). -/
def Go.semReady (g : Go) (f : BitVec 1) (s : State) : Nat := max (s.now + 1 + g.pre.stall) (s.now + if f = 0 then 6 else 18)

/-- SEMWAIT goes on, and acquires at device scope with the pull of its semaphore (R170). -/
def Go.semGoes (g : Go) (f : BitVec 1) (n : BitVec 8) (s : State) : State :=
  ((g.finish g.b s).onBarge g.core g.slot fun b =>
    { b with readyAt := g.semReady f s, eligibleSince := g.semReady f s }).acquireFrom g.core g.slot 5 false
      (semPulls g.core f.toNat (g.semUnit f) (g.semOf f n s)) 0

/-- SEMWAIT has issued, and its barge waits for the semaphore (R170; log 59). -/
def Go.semWaits (g : Go) (f : BitVec 1) (n : BitVec 8) (s : State) : State :=
  (g.finish { g.b with
      blocked := true
      semWait := some { file := f.toNat, unit := g.semUnit f, number := n.toNat, threshold := (g.val 0).w32 0
                        entry := g.entry false } } s).onBarge g.core g.slot fun b =>
    { b with wait := .sem (g.semOf f n s).ext, waitSince := s.now }

section
variable {s : State} {g : Go}

/-- SEMWAIT traps on ERR, and else goes on or waits by the comparison (R170, R173). -/
theorem exec_semwait_of_clear {f : BitVec 1} {a : BitVec 7} {p : BitVec 1} {n : BitVec 8} (h : Clear (.semwait f a p n) s g)
    (act : g.active ≠ 0) :
    exec (.semwait f a p n) s = done (
      if (g.semOf f n s).err = true then g.trap { cause := 0x7A, semFault := (g.semOf f n s).fault } s
      else if semMet (g.semOf f n s).value ((g.val 0).w32 0) = true then g.semGoes f n s
      else g.semWaits f n s) := by
  show execSemwait f a p n s = _
  unfold execSemwait
  rw [show shapeSemwait a p = shapeOf (.semwait f a p n) from rfl, issueWord_of_clear h, if_neg act]
  simp only [toNat_file_eq_zero, Go.semGoes, Go.semWaits, State.onBarge_eq (Go.finish_barge ..)]
  rfl

/-- The sync unit's step of SEMSIG or SEMSET, and the release at device scope that it follows (R170, R171). -/
def Go.semRel (g : Go) (set : Bool) (f : BitVec 1) (n : BitVec 8) : Rel :=
  let own := towerOf g.core
  let unit := if f = 0 then g.core else if g.pre.aux < 4 then own else g.pre.aux - 4
  let delay := if f = 0 then 4 else if unit = own then 16 else 160
  { core := g.core, slot := g.slot, ctx := g.b.ctx, scope := 5
    after := .post [(delay, { what := .semaphoreUpdate
                              args := [f.toNat, unit, n.toNat, if set then 1 else 0, ((g.val 0).w32 0).toNat,
                                3 + (512 * g.core + g.slot)] })] }

/-- SEMSIG and SEMSET begin their release. -/
theorem semUpdateWord_of_clear {i : Instr} {set : Bool} {f : BitVec 1} {a : BitVec 7} {p : BitVec 1} {n : BitVec 8}
    (hs : shapeOf i = semShape a p (if f = 0 then [0] else [0, 4, 5, 6, 7]) fun _ => true) (h : Clear i s g) (act : g.active ≠ 0) :
    semUpdateWord set f a p n s = done ((g.finish g.b (withRel s (g.semRel set f n))).relRun s.nextId relFuel) := by
  unfold semUpdateWord
  rw [← hs, issueWord_of_clear h, if_neg act]
  rfl

end

/-! ## Updates at the sync unit -/

/-- A test of the waits stands in this cycle, after the updates of the semaphore (R172). -/
def State.withTest (s : State) (file unit number : Nat) : State :=
  if s.testDue file unit number = true then s else s.post 0 .semaphoreUpdate [file, unit, number]

@[simp] theorem State.withTest_args (s : State) (file unit number : Nat) : (s.withTest file unit number).args = s.args := by
  unfold State.withTest
  split <;> rfl

@[simp] theorem State.withTest_arg (s : State) (file unit number k : Nat) : (s.withTest file unit number).arg k = s.arg k := by
  simp [State.arg]

@[simp] theorem State.withTest_sem (s : State) (file unit number file' unit' number' : Nat) :
    (s.withTest file unit number).sem file' unit' number' = s.sem file' unit' number' := by
  unfold State.withTest
  split <;> rfl

/-- The semaphore that an update leaves: an increment (kind 0) or a new value, and the record of its releaser (R170, R172). -/
def Sem.updated (x : Sem) (kind value rank : Nat) (rel : Option (Nat × Nat)) : Sem :=
  { x with
    value := BitVec.ofNat 32 (if kind = 0 then x.value.toNat + value else value)
    record := if kind = 1 ∨ 3 ≤ rank then rel.or x.record else x.record }

section
variable {s : State} {file unit number : Nat}

/-- An update that no other of its cycle goes before is applied, and a test of the waits follows it (R172). -/
theorem exec_semaphoreUpdate_of_first {kind value rank : Nat} {rel : Option (Nat × Nat)}
    (args : s.args = [file, unit, number, kind, value, rank] ++ (rel.map fun r => [r.1, r.2]).getD [])
    (first : s.earlierUpdate file unit number rank = false) (update : kind < 2) :
    exec .semaphoreUpdate s = done ((s.withTest file unit number).setSem file unit number
      ((s.sem file unit number).updated kind value rank rel)) := by
  have record (x : Sem) : (if s.args.length = 8 then some (s.arg 6, s.arg 7) else x.record) = rel.or x.record := by
    cases rel <;> simp [State.arg, args]
  have names : s.arg 0 = file ∧ s.arg 1 = unit ∧ s.arg 2 = number := by simp [State.arg, args]
  have change : s.arg 3 = kind ∧ s.arg 4 = value ∧ s.arg 5 = rank := by simp [State.arg, args]
  have long : s.args.length ≠ 3 := by simp [args]
  obtain ⟨hfile, hunit, hnumber⟩ := names
  obtain ⟨hkind, hvalue, hrank⟩ := change
  show execSemaphoreUpdate s = _
  unfold execSemaphoreUpdate
  have tested : (if s.testDue file unit number = true then s else s.post 0 .semaphoreUpdate [file, unit, number]) =
    s.withTest file unit number := rfl
  simp only [hfile, hunit, hnumber, hrank, if_neg long, first, Bool.false_eq_true, if_false, tested, State.withTest_arg,
    State.withTest_args, State.withTest_sem, hkind, hvalue, record]
  obtain rfl | rfl : kind = 0 ∨ kind = 1 := by omega
  · simp [Sem.updated, BitVec.ofNat_add]
  · simp [Sem.updated]

/-- An event with no more than the semaphore's names tests the waits once every update of the cycle is applied (R172). -/
theorem exec_semaphoreUpdate_of_test (args : s.args = [file, unit, number])
    (last : s.earlierUpdate file unit number (2 * 10 ^ 9) = false) :
    exec .semaphoreUpdate s = done (s.semUpdated file unit number) := by
  show execSemaphoreUpdate s = _
  unfold execSemaphoreUpdate
  simp only [State.arg, args, List.length_cons, List.length_nil, Nat.reduceAdd, if_true, List.getD_cons_zero, List.getD_cons_succ,
    last, Bool.false_eq_true, if_false]

end

end Sys2Proof.Machine

namespace Sys2Proof.Semaphores
open Sys2Proof Sys2Proof.Machine Sys2Proof.Claims

/-- Settles O43: the three ends of SEMWAIT, by ERR and by the comparison. That the waiting threads stand past the word, and the
barge waits after its issue, is the model's own choice (log 59). -/
theorem semaphoreWaits : Obligations.SemaphoreWaits := by
  intro f a p n s g h act
  have hx := exec_semwait_of_clear h act
  refine ⟨fun err => hx.trans ?_, fun ok met => hx.trans ?_, fun ok unmet => hx.trans ?_⟩
  · exact congrArg done (if_pos err)
  · exact congrArg done ((if_neg (Bool.eq_false_iff.1 ok)).trans (if_pos ((semMet_iff ..).2 met)))
  · exact congrArg done ((if_neg (Bool.eq_false_iff.1 ok)).trans (if_neg (unmet ∘ (semMet_iff ..).1)))

/-- Settles O44: both words begin the same release, and differ in the kind of the update that follows it. -/
theorem semaphoreUpdates : Obligations.SemaphoreUpdates := by
  intro f a p n set s g i h act
  cases set with
  | false => exact semUpdateWord_of_clear rfl h act
  | true => exact semUpdateWord_of_clear rfl h act

/-- Settles O45: an update that goes first is applied, and a test that goes last looks at what the updates have left. -/
theorem semaphoreValues : Obligations.SemaphoreValues :=
  ⟨fun _ _ _ _ _ _ _ _ args first update => exec_semaphoreUpdate_of_first args first update,
   fun _ _ _ _ args last => exec_semaphoreUpdate_of_test args last⟩

end Sys2Proof.Semaphores
end

section
/-!
The tile store's words (R176 to R178): which lanes' addresses fail, which rectangles are legal, and what TLD, TST, TCOPY and TCLR
leave where none fails.
-/
namespace Sys2Proof.Machine
open Sys2Proof Sys2Proof.Claims

/-! ## Lanes that fail -/

theorem maskOf_congr {p q : Nat → Bool} (h : ∀ l, l < 32 → p l = q l) : maskOf p = maskOf q :=
  BitVec.eq_of_getLsbD_eq fun l hl => (laneOn_maskOf p hl).trans ((h l hl).trans (laneOn_maskOf q hl).symm)

/-- The lanes of a list of failing lanes, as a mask. -/
theorem maskOf_contains_lanes (m : Mask) (bad : Nat → Bool) :
    maskOf ((lanesIn m).filter bad).contains = maskOf fun l => laneOn m l && bad l :=
  maskOf_congr fun l hl => by
    rw [Bool.eq_iff_iff, List.contains_iff_mem, List.mem_filter, mem_lanesIn, Bool.and_eq_true]
    exact and_congr_left' (and_iff_right hl)

/-- The first lane that fails heads the list of those that do. -/
theorem filter_of_find? {bad : Nat → Bool} {ls : List Nat} {l : Nat} (h : ls.find? bad = some l) :
    ∃ rest, ls.filter bad = l :: rest :=
  List.head?_eq_some_iff.1 (List.head?_filter.trans h)

theorem filter_of_any {bad : Nat → Bool} {ls : List Nat} (h : ls.any bad = false) : ls.filter bad = [] :=
  List.filter_eq_nil_iff.2 (List.any_eq_false.1 h)

/-! ## TLD and TST -/

/-- The address of an access to the tile store (R177). -/
def Go.tileAddress (g : Go) (store : Bool) (b : BitVec 7) (q : BitVec 1) (l : Nat) : Nat :=
  let k := if store then 1 else 0
  (((g.val k).w32 l).toNat + ((g.opB (k + 1) b q).w32 l).toNat) % 2 ^ 32

/-- Does an access fail: outside the tile store, or misaligned (R177)? -/
def Go.tileFails (g : Go) (store : Bool) (b : BitVec 7) (q : BitVec 1) (l : Nat) : Bool :=
  decide (524288 ≤ g.tileAddress store b q l ∨ g.tileAddress store b q l % (4 * g.pre.tileWords) ≠ 0)

/-- The accesses of TLD or TST. -/
def Go.tileAccs (g : Go) (store : Bool) (b : BitVec 7) (q : BitVec 1) : List LaneAcc :=
  perLane g fun l =>
    { lane := l, va := g.tileAddress store b q l, size := 4 * g.pre.tileWords
      data := if store then bytesOf (g.val 0) l (4 * g.pre.tileWords) else [] }

/-- What TLD or TST leaves under way. -/
def Go.tileFlight (g : Go) (s : State) (store : Bool) (d b : BitVec 7) (q : BitVec 1) : Flight :=
  { g.flight s .tile (g.tileAccs store b q) with
    translating := false, sent := true, captured := !store, words := if store then 0 else g.pre.tileWords
    width := 4 * g.pre.tileWords, dst := d }

/-- The barge of TLD or TST: only a load has a destination. -/
def Go.tileBarge (g : Go) (store : Bool) (d : BitVec 7) : Barge :=
  if store then g.b else g.b.markEmpty g.active { spec := d, words := g.pre.tileWords }

theorem Go.empties_tileBarge (g : Go) (act : g.active ≠ 0) (store : Bool) (d : BitVec 7) :
    g.Empties (if store then none else some { spec := d, words := g.pre.tileWords }) (g.tileBarge store d) := by
  cases store with
  | true => exact g.empties_none
  | false => exact Go.empties_markEmpty act _

/-- A word leaves a flight under the next number, which comes to the tile store 6 cycles later (R176). -/
def Go.toTile (g : Go) (b : Barge) (fl : Flight) (s : State) : State :=
  g.finish b ({ s with nextId := s.nextId + 1, flights := s.flights.put s.nextId fl }.post 6 .tileStoreAccess [s.nextId])

theorem Pre.tileWords_le (p : Pre) : 4 * p.tileWords ≤ 16 := by
  unfold Pre.tileWords
  split_ifs <;> decide

theorem Go.toNat_tileAddress (g : Go) (store : Bool) (b : BitVec 7) (q : BitVec 1) (l : Nat) :
    ((g.val (if store then 1 else 0)).w32 l + (g.opB ((if store then 1 else 0) + 1) b q).w32 l).toNat = g.tileAddress store b q l :=
  BitVec.toNat_add ..

theorem Go.tileFails_eq (g : Go) (store : Bool) (b : BitVec 7) (q : BitVec 1) :
    g.tileFails store b q = fun l => decide (524288 ≤ g.tileAddress store b q l) ||
      decide (g.tileAddress store b q l % (4 * g.pre.tileWords) ≠ 0) :=
  funext fun _ => Bool.decide_or ..

section
variable {i : Instr} {s : State} {g : Go}

/-- TLD or TST of a lane that fails traps with the lanes that do (R177). -/
theorem tileWord_of_fails {store : Bool} {d a b : BitVec 7} {p q : BitVec 1} (hs : shapeOf i = shapeTileWord store d a b p q)
    (h : Clear i s g) {l : Nat} (fails : (lanesIn g.active).find? (g.tileFails store b q) = some l) :
    tileWord store d a b p q s = done (g.trap
      { cause := 0x4F, lanes := maskOf fun j => laneOn g.active j && g.tileFails store b q j
        va := BitVec.ofNat 64 (g.tileAddress store b q l) } s) := by
  obtain ⟨rest, first⟩ := filter_of_find? fails
  rw [← maskOf_contains_lanes]
  unfold tileWord
  rw [← hs, issueWord_of_clear h]
  simp only [g.toNat_tileAddress, ← g.tileFails_eq, first]

/-- TLD or TST of lanes none of which fails goes out. -/
theorem tileWord_of_legal {store : Bool} {d a b : BitVec 7} {p q : BitVec 1} (hs : shapeOf i = shapeTileWord store d a b p q)
    (h : Clear i s g) (act : g.active ≠ 0) (legal : (lanesIn g.active).any (g.tileFails store b q) = false) :
    tileWord store d a b p q s = done (g.toTile (g.tileBarge store d) (g.tileFlight s store d b q) s) := by
  have noneFails := filter_of_any legal
  have data (l : Nat) := dataBytes_eq_bytesOf (g.val 0) l g.pre.tileWords_le
  unfold tileWord
  rw [← hs, issueWord_of_clear h]
  simp only [g.toNat_tileAddress, ← g.tileFails_eq, noneFails, data, if_neg act]
  rfl

/-! ## TCOPY and TCLR -/

/-- The number of rows of the rectangle that TCOPY or TCLR names (R178). -/
def Go.rectRows (g : Go) : Nat := (g.val 0).dword.toNat % 512 + 1

/-- Their width in bytes. -/
def Go.rectWidth (g : Go) : Nat := (g.val 0).dword.toNat / 2 ^ 16 % 1024 + 1

/-- The rectangle's origin. -/
def Go.rectFrom (g : Go) : Nat := ((g.val 1).w32 0).toNat

/-- The origin of the rectangle that it is copied to; TCLR clears the one that it names. -/
def Go.rectTo (g : Go) (copy : Bool) (b : BitVec 7) (q : BitVec 1) : Nat :=
  if copy then ((g.opB 2 b q).w32 0).toNat else g.rectFrom

@[simp] theorem Go.rectTo_false (g : Go) (b : BitVec 7) (q : BitVec 1) : g.rectTo false b q = g.rectFrom :=
  if_neg Bool.false_ne_true

/-- What TCOPY or TCLR leaves under way. -/
def Go.rectFlight (g : Go) (s : State) (copy : Bool) (target : Nat) : Flight :=
  { g.flight s .tile [] with
    translating := false, sent := true, captured := false, hint := 1, scope := if copy then 1 else 0, issued := g.rectFrom
    extra := target, order := g.rectRows, width := g.rectWidth }

/-- A legal rectangle begins in the tile store, is of whole words, and fits (R178). -/
theorem rectangleOk_iff (o rows width : Nat) : rectangleOk o rows width = true ↔
    o < 524288 ∧ o % 4 = 0 ∧ width % 4 = 0 ∧ o / 1024 + rows ≤ 512 ∧ o % 1024 + width ≤ 1024 := by
  simp [rectangleOk, and_assoc]

/-- TCOPY or TCLR of legal rectangles goes out, and traps otherwise. -/
def Go.rectangle (g : Go) (s : State) (copy : Bool) (target : Nat) : State :=
  if rectangleOk g.rectFrom g.rectRows g.rectWidth = true ∧ rectangleOk target g.rectRows g.rectWidth = true
  then g.toTile g.b (g.rectFlight s copy target) s
  else g.trap { cause := 0x4F } s

theorem rectangleWord_of_clear {copy : Bool} {d a b : BitVec 7} {p q : BitVec 1}
    (hs : shapeOf i = shapeRectangleWord copy d a b p q) (h : Clear i s g) (act : g.active ≠ 0) :
    rectangleWord copy d a b p q s = done (g.rectangle s copy (g.rectTo copy b q)) := by
  have rows : field (g.val 0).dword.toNat 0 9 + 1 = g.rectRows := by simp [field, Go.rectRows]
  unfold rectangleWord
  rw [← hs, issueWord_of_clear h, if_neg act]
  simp only [rows, Bool.not_eq_true', ← Bool.not_eq_true, ite_not, Bool.and_eq_true]
  rfl

/-- Only TCOPY has a destination of its own. -/
theorem exec_rectangle_of_clear {copy : Bool} {d a b : BitVec 7} {p q : BitVec 1}
    (h : Clear (if copy then .tcopy d a b p q else .tclr d a p) s g) (act : g.active ≠ 0) :
    exec (if copy then .tcopy d a b p q else .tclr d a p) s = done (g.rectangle s copy (g.rectTo copy b q)) := by
  cases copy with
  | true => exact rectangleWord_of_clear rfl h act
  | false =>
    have hx := rectangleWord_of_clear (b := 0) (q := 0) rfl h act
    rw [Go.rectTo_false] at hx ⊢
    exact hx

end

end Sys2Proof.Machine

namespace Sys2Proof.TileStore
open Sys2Proof Sys2Proof.Machine Sys2Proof.Claims

/-- Settles O46: TLD and TST trap by the first of their failing lanes, and else their flight comes to the tile store, the one's
destination being empty; TCOPY and TCLR go out where their rectangles are legal. -/
theorem tileStore : Obligations.TileStore := by
  refine ⟨fun d a b p q store s g => ?_, fun d a b p q copy s g => ?_⟩
  · intro i h act k words address bad accs
    have hs : shapeOf i = shapeTileWord store d a b p q := by cases store <;> rfl
    have hx : exec i s = tileWord store d a b p q s := by cases store <;> rfl
    refine ⟨fun l fails => hx.trans (tileWord_of_fails hs h fails), fun legal => ?_⟩
    have emptied := g.empties_tileBarge act store d
    have machine := g.finish_post_machine (g.tileBarge store d) s (g.tileFlight s store d b q) 6 .tileStoreAccess [s.nextId]
    refine ⟨_, _, _, hx.trans (tileWord_of_legal hs h act legal), Go.finish_barge .., rfl, rfl, rfl, rfl, rfl, rfl, machine.tile,
      machine.memory, emptied.v, emptied.s, emptied.control.pass .., PassedWord.of_pass emptied.pcs _, ?_⟩
    rintro rfl
    exact emptied.empty
  · intro i h act shape rows width from_ to_ legal
    have hx := exec_rectangle_of_clear h act
    simp only [Go.rectangle, rectangleOk_iff] at hx
    exact ⟨fun illegal => hx.trans (congrArg done (if_neg illegal)),
      fun source target => hx.trans (congrArg done (if_pos ⟨source, target⟩))⟩

end Sys2Proof.TileStore
end

section
/-!
Jobs (R156 to R160): what JOB and JOBQ do with the card that they read, and the post of a card at its scheduler.
-/
namespace Sys2Proof.Machine
open Sys2Proof Sys2Proof.Claims

/-! ## The words at their barge -/

/-- Where the card stands in local memory. -/
def Go.cardAt (g : Go) : Nat := ((g.val 0).w32 0).toNat

/-- The bytes of the card of a workgroup whose local memory begins at a base (R156). -/
def Go.cardBytes (g : Go) (s : State) (base : Nat) : List Byte := s.localBytes g.core g.slot (base + g.cardAt) 64

/-- The card before its fields are read: what the barge that posts it gives it, and the engine that it names (R157, R159). -/
def Go.blankCard (g : Go) (s : State) (jobq : Bool) (base size : Nat) : Card :=
  { engine := s.engineOf g.core (leNat ((g.cardBytes s base).take 8) % 16), seq := 0, ctx := g.b.ctx, tag := g.b.tag, core := g.core
    node := g.b.node, chunk := g.b.chunkSlot, localBase := base, localSize := size, subop := 0, nr := 0, nw := 0
    semf := false, sem := 0, inc := 0, pa := 0, pb := 0, regions := [], jobq }

/-- The barge waits for the card's number, and its release at device scope comes before the post (R159, R331). -/
def Go.posting (g : Go) (s : State) (d : BitVec 7) (c : Card) : State :=
  let u := awaited g s d
  (withRel { u with nextId := u.nextId + 1, cards := u.cards.put u.nextId { c with flight := some s.nextId } }
    { core := g.core, slot := g.slot, ctx := g.b.ctx, scope := 5, uo := true
      after := .post [(20, { what := .cardStart, args := [u.nextId] })] }).relRun (u.nextId + 1) relFuel

section
variable {i : Instr} {s : State} {g : Go} {jobq : Bool} {d a : BitVec 7} {p : BitVec 1}

/-- Without local memory there is no card. -/
theorem jobWord_of_no_range (hs : shapeOf i = shapeJobWord d a p) (h : Clear i s g) (act : g.active ≠ 0)
    (noRange : s.localRange g.core g.b 0 = none) : jobWord jobq d a p s = done (g.trap { cause := 0x78 } s) := by
  unfold jobWord
  rw [← hs, issueWord_of_clear h, if_neg act]
  simp only [noRange]

section
variable {base size : Nat} (hs : shapeOf i = shapeJobWord d a p) (h : Clear i s g) (act : g.active ≠ 0)
  (range : s.localRange g.core g.b 0 = some (base, size))
include hs h act range

/-- A card that is not aligned, or not within the workgroup's local memory, is not there. -/
theorem jobWord_of_misplaced (misplaced : g.cardAt % 64 ≠ 0 ∨ size < g.cardAt + 64) :
    jobWord jobq d a p s = done (g.trap { cause := 0x78 } s) := by
  have outside : (g.cardAt % 64 ≠ 0 || decide (size < g.cardAt + 64)) = true := by simpa using misplaced
  unfold jobWord
  rw [← hs, issueWord_of_clear h, if_neg act]
  simp only [range]
  exact congrArg done (if_pos outside)

/-- A card that is there is read, and posted where it is legal. -/
theorem jobWord_of_placed (aligned : g.cardAt % 64 = 0) (within : g.cardAt + 64 ≤ size) :
    ((g.blankCard s jobq base size).parse (g.cardBytes s base) = none → jobWord jobq d a p s = done (g.trap { cause := 0x78 } s)) ∧
    (∀ c, (g.blankCard s jobq base size).parse (g.cardBytes s base) = some c →
      jobWord jobq d a p s = done (g.posting s d c)) := by
  have inside : ¬ (g.cardAt % 64 ≠ 0 || decide (size < g.cardAt + 64)) = true := by simpa using ⟨aligned, within⟩
  have kind (bs : List Byte) : field (dwordAt bs 0) 0 4 = leNat (bs.take 8) % 16 := by simp [field, dwordAt]
  have hx : jobWord jobq d a p s = done (match (g.blankCard s jobq base size).parse (g.cardBytes s base) with
    | none => g.trap { cause := 0x78 } s
    | some c => g.posting s d c) := by
    unfold jobWord
    rw [← hs, issueWord_of_clear h, if_neg act]
    simp only [range, kind]
    exact congrArg done (if_neg inside)
  refine ⟨fun illegal => ?_, fun c legal => ?_⟩
  · rw [hx, illegal]
  · rw [hx, legal]

end
end

/-! ## The post at the scheduler -/

/-- Is the queue of a card's engine full (R160)? -/
def State.queueFull (u : State) (c : Card) : Bool := decide (c.engine.capacity ≤ (u.queueOf c.engine).length)

theorem State.queueFull_eq_true {u : State} {c : Card} :
    u.queueFull c = true ↔ ¬ (u.queueOf c.engine).length < c.engine.capacity := by
  simp [State.queueFull]

theorem State.queueFull_eq_false {u : State} {c : Card} :
    u.queueFull c = false ↔ (u.queueOf c.engine).length < c.engine.capacity := by
  simp [State.queueFull]

/-- A card is refused: the word that posted it receives 0, and the card is no more (R160). -/
def State.refuseCard (u : State) (id fid : Nat) : State := { u.fillScalar fid 0 4 with cards := (u.fillScalar fid 0 4).cards.cut id }

section
variable {u : State} {id fid : Nat} {c : Card} {r : Option (Nat × Nat)}

/-- A card comes to its scheduler with its number, and the record of the release before it where there is one. -/
theorem State.arrival_args (args : u.args = id :: (r.map fun p => [p.1, p.2]).getD []) :
    u.arg 0 = id ∧ u.args.length ≠ 4 ∧ u.args.length ≠ 5 ∧ (if u.args.length = 3 then some (u.arg 1, u.arg 2) else none) = r := by
  cases r <;> simp [State.arg, args]

section
variable (args : u.args = id :: (r.map fun p => [p.1, p.2]).getD []) (found : u.cards.look id = some c) (flight : c.flight = some fid)
include args found flight

/-- A card that has come to its scheduler is posted 8 cycles later, unless it is a JOBQ whose queue is full (R160). -/
theorem exec_cardStart_of_arrival (stage : c.stage = 0) :
    exec .cardStart u = done (if (c.jobq && u.queueFull c) = true then u.refuseCard id fid else
      { u with cards := u.cards.put id { c with stage := 1, record := r, due := u.now + 8 } }.post 8 .cardStart [id]) := by
  obtain ⟨number, notFour, notFive, record⟩ := State.arrival_args args
  show execCardStart u = _
  unfold execCardStart
  simp only [number, if_neg notFour, if_neg notFive, found, stage, record, flight, apply_ite done]
  rfl

variable (stage : c.stage = 1) (due : c.due ≤ u.now) (first : u.lowerPost c = false)
include stage due first

/-- A JOBQ whose 8 cycles are over finds its queue full (R160). -/
theorem exec_cardStart_of_full (jobq : c.jobq = true) (full : u.queueFull c = true) :
    exec .cardStart u = done (u.refuseCard id fid) := by
  obtain ⟨number, notFour, notFive, -⟩ := State.arrival_args args
  have elapsed : ¬ u.now < c.due := Nat.not_lt.2 due
  unfold State.queueFull at full
  show execCardStart u = _
  unfold execCardStart
  simp only [number, if_neg notFour, if_neg notFive, found, stage, if_neg elapsed, first, full, jobq, flight, if_true,
    Bool.false_eq_true, if_false]
  rfl

/-- A card whose 8 cycles are over, and which no card of its cycle goes before, takes its place (R160). -/
theorem exec_cardStart_of_room {f : Flight} (look : u.flights.look fid = some f) (room : u.queueFull c = false) :
    exec .cardStart u = done ((u.onBarge f.core f.slot fun b => { b with wait := .none }).postCard id c c.record) := by
  obtain ⟨number, notFour, notFive, -⟩ := State.arrival_args args
  have elapsed : ¬ u.now < c.due := Nat.not_lt.2 due
  unfold State.queueFull at room
  show execCardStart u = _
  unfold execCardStart
  simp only [number, if_neg notFour, if_neg notFive, found, stage, if_neg elapsed, first, room, flight, Option.bind_some, look,
    Bool.false_eq_true, if_false]

end
end

end Sys2Proof.Machine

namespace Sys2Proof.Jobs
open Sys2Proof Sys2Proof.Machine Sys2Proof.Claims

/-- Settles O47: the word's card is misplaced, illegal or posted; and at its scheduler it is refused, waits for its 8 cycles, or takes
its place. -/
theorem jobsPost : Obligations.JobsPost := by
  refine ⟨fun d a p jobq s g => ?_, fun u id c fid r args found flight => ?_⟩
  · intro i h act at_
    have hs : shapeOf i = shapeJobWord d a p := by cases jobq <;> rfl
    have hx : exec i s = jobWord jobq d a p s := by cases jobq <;> rfl
    refine ⟨fun noRange => hx.trans (jobWord_of_no_range hs h act noRange),
      fun base size range misplaced => hx.trans (jobWord_of_misplaced hs h act range misplaced),
      fun base size range aligned within => ?_⟩
    obtain ⟨illegal, legal⟩ := jobWord_of_placed (jobq := jobq) hs h act range aligned within
    exact ⟨fun bad => hx.trans (illegal bad), fun c ok => hx.trans (legal c ok)⟩
  · have arrival (stage : c.stage = 0) := exec_cardStart_of_arrival args found flight stage
    refine ⟨fun jobq full stage => (arrival stage).trans ?_, fun may stage => (arrival stage).trans ?_,
      fun stage due first jobq full => exec_cardStart_of_full args found flight stage due first jobq (State.queueFull_eq_true.2 full),
      fun f look stage due first room =>
        exec_cardStart_of_room args found flight stage due first look (State.queueFull_eq_false.2 room)⟩
    · exact congrArg done (if_pos (by rw [jobq, State.queueFull_eq_true.2 full]; rfl))
    · refine congrArg done (if_neg ?_)
      rcases may with job | room
      · simp [job]
      · simp [State.queueFull_eq_false.2 room]

end Sys2Proof.Jobs
end

section
/-!
Classes 0 to 2 as the spec's integers state them: exact arithmetic that wraps or is clamped, shifts, counts and bitwise words, bit
fields and 64-bit integers (R200 to R206).
-/
namespace Sys2Proof.Machine
open Sys2Proof Sys2Proof.Claims

/-! ## Results without flags -/

/-- A clear word whose effect is a result that raises no flag. -/
theorem writes_of_exec {i : Instr} {s : State} {g : Go} {d : Dst} {latency : Nat} {f : Nat → List Word}
    (hx : exec i s = done (g.writeChecked d latency (fun l => plain (f l)) s)) (hu : nonUniform g.active d f = false) :
    Writes i s g d f :=
  ⟨_, hx, (Go.writeChecked_retired g d latency _ s (enabledCause_plain ..) hu).rest⟩

/-! ## Exact integers -/

/-- The model's clamp is the clamp of R56. -/
theorem wrapOrClamp_eq_written (w : Nat) (signed sat : Bool) (x : Int) : wrapOrClamp w signed sat x = written w signed sat x := by
  unfold wrapOrClamp written
  rw [clampInt_eq (intLo_le_intHi signed w)]
  cases sat with
  | false => rfl
  | true => cases signed <;> simp [intLo, intHi]

/-- A word, extended to 64 bits and supplied to every lane. -/
theorem w32_scalar_setWidth (x : Word) (l : Nat) : (Val.scalar (x.setWidth 64)).w32 l = x :=
  BitVec.eq_of_getLsbD_eq fun j hj => by simp [Val.w32, Val.word, hj, Nat.lt_trans hj]

/-- The typed immediate of class 1, as an operand (R202). -/
theorem num32_immTyped (g : Go) (k : BitVec 8) (l : Nat) : num32 g (immTyped k g) l = imm1 g k := by
  unfold num32 imm1 immTyped
  rw [w32_scalar_setWidth]
  unfold Go.imm
  cases g.pre.ximm.isSome with
  | true => rfl
  | false =>
    cases g.pre.signed with
    | true => exact BitVec.toInt_signExtend_of_le (by decide)
    | false => exact congrArg Nat.cast (BitVec.toNat_setWidth_of_le (b := k) (by decide))

/-- The immediate of the shifts of class 1, as an operand (R202). -/
theorem w32_immShift (g : Go) (k : BitVec 8) (l : Nat) : ((immShift k g).w32 l).toNat = shift1 g k := by
  unfold shift1 immShift
  rw [w32_scalar_setWidth]
  unfold Go.imm
  cases g.pre.ximm.isSome with
  | true => rfl
  | false => exact BitVec.toNat_setWidth_of_le (b := k) (by decide)

/-! ## Shifts -/

theorem shiftLeft_eq_shifted {w : Nat} (a : BitVec w) (n : Nat) : shiftLeft a n = shifted 0 a n := by
  unfold shiftLeft shifted
  split
  · apply BitVec.eq_of_toNat_eq
    simp [Nat.shiftLeft_eq]
  · rfl

theorem shiftRight_eq_shifted {w : Nat} (a : BitVec w) (n : Nat) : shiftRight a n = shifted 1 a n := by
  unfold shiftRight shifted
  split
  · apply BitVec.eq_of_toNat_eq
    have below : a.toNat / 2 ^ n < 2 ^ w := (Nat.div_le_self ..).trans_lt a.isLt
    simp [Nat.shiftRight_eq_div_pow, Nat.mod_eq_of_lt below]
  · rfl

theorem shiftArith_eq_shifted {w : Nat} (a : BitVec w) (n : Nat) : shiftArith a n = shifted 2 a n := by
  simp [shiftArith, shifted, BitVec.sshiftRight, Int.shiftRight_eq_div_pow]

/-! ## Bits -/

/-- The spec's word of bits is the model's mask. -/
theorem bits_eq_maskOf (p : Nat → Bool) : bits p = maskOf p := by
  have sum (ks : List Nat) (acc : Nat) : ks.foldl (fun acc k => if p k then acc + 2 ^ k else acc) acc =
      acc + (ks.map fun k => if p k then 2 ^ k else 0).sum := by
    induction ks generalizing acc with
    | nil => rfl
    | cons k ks ih =>
      rw [List.foldl_cons, ih]
      cases h : p k <;> simp [h, Nat.add_assoc]
  rw [bits, maskOf, sum, Nat.zero_add]

theorem bit_eq_toNat (b : Bool) (n : Nat) : bit b n = 2 ^ n * b.toNat := by
  cases b <;> simp [bit]

theorem truthTable_eq_bits (t : BitVec 8) (a b c : Word) : truthTable t a b c = bits fun k =>
    t.getLsbD ((a.getLsbD k).toNat + 2 * (b.getLsbD k).toNat + 4 * (c.getLsbD k).toNat) := by
  simp [bits_eq_maskOf, truthTable, bit_eq_toNat, laneOn]

/-! ## Classes 0 and 1 -/

section
variable {i : Instr} {s : State} {g : Go} {sh : Shape} {d : BitVec 7} {result : Nat → List Word}

/-- The effect of a clear word of exact arithmetic (R200). -/
theorem intArith_of_clear {b c : Go → Val} {f : Bool → Int → Int → Int → Int} (h : Clear i s g) (hs : shapeOf i = sh)
    (hf : ∀ l, result l = word32 g (f g.pre.signed (num32 g (g.val 0) l) (num32 g (b g) l) (num32 g (c g) l))) :
    intArith sh d b c f s = done (g.writeChecked { spec := d } 4 (fun l => plain (result l)) s) := by
  unfold intArith
  rw [← hs, issueWord_of_clear h]
  simp only [wrapOrClamp_eq_written, hf]
  rfl

/-- The effect of a clear word that works on words as they stand (R200, R201). -/
theorem wordFn_of_clear {b : Go → Val} {f : Word → Word → Word} (h : Clear i s g) (hs : shapeOf i = sh)
    (hf : ∀ l, result l = [f ((g.val 0).w32 l) ((b g).w32 l)]) :
    wordFn sh d b f s = done (g.writeChecked { spec := d } 4 (fun l => plain (result l)) s) := by
  unfold wordFn
  rw [← hs, issueWord_of_clear h]
  simp only [hf]

end

theorem exec_arithmetic {i : Instr} {s : State} {g : Go} {d : BitVec 7} {f : Nat → List Word}
    (hi : arithmetic i g = some (d, f)) (h : Clear i s g) :
    exec i s = done (g.writeChecked { spec := d } 4 (fun l => plain (f l)) s) := by
  unfold arithmetic at hi
  split at hi <;> cases hi <;> dsimp only [exec]
  case h_4 => -- IMULH
    exact intArith_of_clear h rfl fun l => congrArg (word32 g) (Int.fdiv_eq_ediv_of_nonneg _ (by decide)).symm
  case h_8 => -- IABS
    exact intArith_of_clear h rfl fun l => congrArg (word32 g) (Int.abs_eq_natAbs _)
  case h_9 | h_10 | h_11 | h_12 => -- with the typed immediate
    exact intArith_of_clear h rfl fun l => by rw [num32_immTyped]
  all_goals exact intArith_of_clear h rfl fun _ => rfl

theorem exec_shifts {i : Instr} {s : State} {g : Go} {d : BitVec 7} {f : Nat → List Word}
    (hi : shifts i g = some (d, f)) (h : Clear i s g) :
    exec i s = done (g.writeChecked { spec := d } 4 (fun l => plain (f l)) s) := by
  unfold shifts at hi
  split at hi <;> cases hi <;> dsimp only [exec]
  · exact wordFn_of_clear h rfl fun l => by rw [shiftLeft_eq_shifted]
  · exact wordFn_of_clear h rfl fun l => by rw [shiftRight_eq_shifted]
  · exact wordFn_of_clear h rfl fun l => by rw [shiftArith_eq_shifted]
  · exact wordFn_of_clear h rfl fun l => by rw [shiftLeft_eq_shifted, w32_immShift]
  · exact wordFn_of_clear h rfl fun l => by rw [shiftRight_eq_shifted, w32_immShift]
  · exact wordFn_of_clear h rfl fun l => by rw [shiftArith_eq_shifted, w32_immShift]

theorem exec_bitwise {i : Instr} {s : State} {g : Go} {d : BitVec 7} {f : Nat → List Word}
    (hi : bitwise i g = some (d, f)) (h : Clear i s g) :
    exec i s = done (g.writeChecked { spec := d } 4 (fun l => plain (f l)) s) := by
  unfold bitwise at hi
  split at hi <;> cases hi <;> dsimp only [exec]
  · exact wordFn_of_clear h rfl fun _ => rfl
  · exact wordFn_of_clear h rfl fun _ => rfl
  · exact wordFn_of_clear h rfl fun l => by rw [bits_eq_maskOf]; rfl
  · simp only [← truthTable_eq_bits]
    exact issueWord_of_clear h _

/-! ## Class 2 -/

/-- The position and the length that the b operand of BFE and BFI names (R205). -/
theorem fieldByte_eq (c : Word) : (c.extractLsb' 0 8).toNat = c.toNat % 256 ∧ (c.extractLsb' 8 8).toNat = c.toNat / 256 % 256 := by
  simp [Nat.shiftRight_eq_div_pow]

theorem bitExtract_eq_extracted {w : Nat} (signed : Bool) (a : BitVec w) (c : Word) :
    bitExtract signed a (c.extractLsb' 0 8).toNat (c.extractLsb' 8 8).toNat = extracted signed a c := by
  obtain ⟨pos, len⟩ := fieldByte_eq c
  unfold bitExtract extracted
  rw [pos, len]
  extract_lets p l f
  have below : f % 2 ^ l = f := Nat.mod_mod ..
  by_cases hl : l = 0
  · rw [if_pos hl, if_pos hl]
  rw [if_neg hl, if_neg hl]
  cases signed with
  | false => rfl
  | true =>
    have top : 2 ^ (l - 1) ≤ f ↔ f.testBit (l - 1) = true := by
      refine ⟨fun le => Nat.testBit_of_two_pow_le_and_two_pow_add_one_gt le ?_, Nat.ge_two_pow_of_testBit⟩
      rw [Nat.sub_add_cancel (Nat.pos_of_ne_zero hl)]
      exact Nat.mod_lt _ (Nat.two_pow_pos l)
    rw [if_pos rfl, intOf_eq, below]
    by_cases neg : f.testBit (l - 1) = true <;> simp [top, neg]

theorem bitInsert_eq_inserted {w : Nat} (d a : BitVec w) (c : Word) :
    bitInsert d a (c.extractLsb' 0 8).toNat (c.extractLsb' 8 8).toNat = inserted d a c := by
  obtain ⟨pos, len⟩ := fieldByte_eq c
  unfold bitInsert inserted
  rw [pos, len]
  extract_lets p l m
  have low : a.toNat % 2 ^ l * 2 ^ p + d.toNat % 2 ^ p < 2 ^ (p + l) := by
    have ha : a.toNat % 2 ^ l + 1 ≤ 2 ^ l := Nat.mod_lt _ (Nat.two_pow_pos l)
    have hd := Nat.mod_lt d.toNat (Nat.two_pow_pos p)
    calc a.toNat % 2 ^ l * 2 ^ p + d.toNat % 2 ^ p < (a.toNat % 2 ^ l + 1) * 2 ^ p := by rw [Nat.succ_mul]; omega
      _ ≤ 2 ^ l * 2 ^ p := Nat.mul_le_mul_right _ ha
      _ = 2 ^ (p + l) := by rw [Nat.pow_add, Nat.mul_comm]
  have mask (j : Nat) (hj : j < w) : m.getLsbD j = (decide (p ≤ j) && decide (j - p < l)) := by
    rw [BitVec.getLsbD_ofNat, Nat.testBit_mul_two_pow, Nat.testBit_two_pow_sub_one, decide_eq_true hj, Bool.true_and]
  refine BitVec.eq_of_getLsbD_eq fun j hj => ?_
  rw [BitVec.getLsbD_ofNat, Nat.add_assoc, Nat.mul_comm (d.toNat / _), Nat.testBit_two_pow_mul_add _ low,
    Nat.mul_comm (a.toNat % _), Nat.testBit_two_pow_mul_add _ (Nat.mod_lt _ (Nat.two_pow_pos p))]
  simp only [BitVec.getLsbD_or, BitVec.getLsbD_and, BitVec.getLsbD_not, BitVec.getLsbD_shiftLeft, mask j hj, hj,
    Nat.testBit_mod_two_pow, Nat.testBit_div_two_pow, BitVec.testBit_toNat, decide_true, Bool.true_and]
  by_cases under : j < p
  · simp [under, Nat.not_le.2 under, Nat.lt_add_right l under]
  by_cases above : p + l ≤ j
  · simp [under, Nat.not_lt.2 above, Nat.not_lt.2 (Nat.le_sub_of_add_le' above), Nat.sub_add_cancel above]
  · simp [under, Nat.not_lt.1 under, Nat.not_le.1 above, Nat.sub_lt_left_of_lt_add (Nat.not_lt.1 under) (Nat.not_le.1 above)]

theorem Pre.words2_eq (p : Pre) : p.words2 = if p.t1 = 3 ∨ p.t1 = 7 then 1 else 2 := by
  simp [Pre.words2]

theorem Pre.words2_eq_one (p : Pre) : p.words2 = 1 ↔ p.t1 = 3 ∨ p.t1 = 7 := by
  rw [Pre.words2_eq]
  split <;> simp [*]

/-- The amount of SHF is the low word of its b operand (R206). -/
theorem Val.w64_low (v : Val) (l : Nat) : (v.w64 l).extractLsb' 0 32 = v.w32 l :=
  (BitVec.extractLsb'_append_eq_of_add_le (by decide)).trans BitVec.extractLsb'_eq_self

section
variable {i : Instr} {s : State} {g : Go} {sh : Shape} {d b : BitVec 7} {q : BitVec 1} {result : Nat → List Word}

/-- The effect of a clear word of 64-bit operands (R204). -/
theorem wideFn_of_clear {latency : Nat} {f : Pre → Dword → Dword → Dword → Dword} (h : Clear i s g) (hs : shapeOf i = sh)
    (hf : ∀ l, result l = pairWords (f g.pre ((g.val 0).w64 l) ((g.opB 1 b q).w64 l) ((g.afterB 1).w64 l))) :
    wideFn sh d b q latency f s = done (g.writeChecked { spec := d, words := 2 } latency (fun l => plain (result l)) s) := by
  unfold wideFn
  rw [← hs, issueWord_of_clear h]
  simp only [hf]

/-- The effect of a clear word of exact 64-bit arithmetic (R204). -/
theorem wideArith_of_clear {latency : Nat} {f : Int → Int → Int → Int} (h : Clear i s g) (hs : shapeOf i = sh)
    (hf : ∀ l, result l = word64 g (f (num64 g (g.val 0) l) (num64 g (g.opB 1 b q) l) (num64 g (g.afterB 1) l))) :
    wideFn sh d b q latency (wideArith f) s =
      done (g.writeChecked { spec := d, words := 2 } latency (fun l => plain (result l)) s) :=
  wideFn_of_clear h hs fun l => (hf l).trans (congrArg pairWords (wrapOrClamp_eq_written ..).symm)

end

theorem add_shiftLeft_eq_ofNat (a b : Dword) (n : Nat) : a + b <<< n = BitVec.ofNat 64 (a.toNat + b.toNat * 2 ^ n) := by
  apply BitVec.eq_of_toNat_eq
  simp [Nat.shiftLeft_eq]

theorem exec_wide {i : Instr} {s : State} {g : Go} {d : Dst} {f : Nat → List Word} (hi : wide i g = some (d, f)) (h : Clear i s g) :
    ∃ latency, exec i s = done (g.writeChecked d latency (fun l => plain (f l)) s) := by
  unfold wide at hi
  split at hi <;> cases hi <;> dsimp only [exec]
  · refine ⟨4, (issueWord_of_clear h _).trans ?_⟩
    simp only [bitExtract_eq_extracted, Pre.words2_eq_one]
    simp only [Pre.words2_eq, decide_eq_true_eq]
  · refine ⟨4, (issueWord_of_clear h _).trans ?_⟩
    simp only [bitInsert_eq_inserted, Pre.words2_eq_one]
    simp only [Pre.words2_eq, decide_eq_true_eq]
  · exact ⟨_, wideFn_of_clear h rfl fun l => by rw [add_shiftLeft_eq_ofNat]⟩
  · refine ⟨_, wideFn_of_clear h rfl fun l => ?_⟩
    rw [Val.w64_low]
    generalize g.pre.aux = kind
    match kind with
    | 0 => exact congrArg pairWords (shiftLeft_eq_shifted ..).symm
    | 1 => exact congrArg pairWords (shiftRight_eq_shifted ..).symm
    | _ + 2 => exact congrArg pairWords (shiftArith_eq_shifted ..).symm
  · exact ⟨_, wideArith_of_clear h rfl fun _ => rfl⟩
  · exact ⟨_, wideArith_of_clear h rfl fun _ => rfl⟩
  · exact ⟨_, wideArith_of_clear h rfl fun _ => rfl⟩
  · exact ⟨_, wideArith_of_clear h rfl fun _ => rfl⟩

end Sys2Proof.Machine

namespace Sys2Proof.Integers
open Sys2Proof Sys2Proof.Machine Sys2Proof.Claims

/-- Settles O1: the effect of each word is its exact integer, wrapped or clamped as the model does, or its bits. -/
theorem integerArithmetic : Obligations.IntegerArithmetic :=
  fun _ _ _ _ _ hi h => writes_of_exec (hi.elim (exec_arithmetic · h) (exec_bitwise · h))

/-- Settles O2: the model shifts by the whole amount, and R201 says the same as arithmetic. -/
theorem shifts : Obligations.Shifts :=
  fun _ _ _ _ _ hi h => writes_of_exec (exec_shifts hi h)

/-- Settles O3: BFE and BFI bit by bit, the others as 64-bit integers. -/
theorem wideIntegers : Obligations.WideIntegers := by
  intro i s g d f hi h
  obtain ⟨_, hx⟩ := exec_wide hi h
  exact writes_of_exec hx

end Sys2Proof.Integers
end

section
/-!
Class 10 and SEL: selections and moves in one lane and between lanes, the sets of lanes, the bytes of BSEL and the integer
reductions of BRED (R209, R230 to R236).
-/
namespace Sys2Proof.Machine
open Sys2Proof Sys2Proof.Claims

/-! ## Operands of one word or two -/

theorem Pre.wordsB_eq (p : Pre) : p.wordsB = if p.t1 = 10 then 2 else 1 := by
  simp [Pre.wordsB, Pre.wordsOf]

theorem Pre.wordsB_cases (p : Pre) : p.wordsB = 1 ∨ p.wordsB = 2 := by
  rw [Pre.wordsB_eq]
  split <;> simp

theorem wordsAt_wordsB (p : Pre) (v : Val) (l : Nat) : wordsAt v p.wordsB l = v.words p.wordsB l := by
  rcases p.wordsB_cases with one | two
  · rw [one]; rfl
  · rw [two]; rfl

theorem pairWords_w64 (v : Val) (l : Nat) : pairWords (v.w64 l) = [v.word l 0, v.word l 1] := by
  have high : (v.w64 l).extractLsb' 32 32 = v.word l 1 :=
    (BitVec.extractLsb'_append_eq_of_le (by decide)).trans BitVec.extractLsb'_eq_self
  simp [pairWords, Val.w64_low, high, Val.w32]

theorem Val.words_wordsB (p : Pre) (v : Val) (l : Nat) :
    v.words p.wordsB l = if p.wordsB = 2 then pairWords (v.w64 l) else [v.w32 l] := by
  rcases p.wordsB_cases with one | two
  · rw [one]; rfl
  · rw [two, pairWords_w64]; rfl

/-- An immediate as an operand of one word or two. -/
theorem scalar_words_wordsB (p : Pre) (x : Dword) (l : Nat) : (Val.scalar x).words p.wordsB l = (pairWords x).take p.wordsB := by
  rcases p.wordsB_cases with one | two
  · rw [one]; rfl
  · rw [two]; rfl

/-- The selecting predicate of SEL is the low part of the third source (R35, R209). -/
theorem Pre.third_selector (p : Pre) : p.third.extractLsb' 0 3 = (p.xopd.getD 0).extractLsb' 16 3 :=
  BitVec.eq_of_getLsbD_eq fun j hj => by simp [Pre.third, hj, Nat.lt_trans hj]

/-! ## Masks -/

theorem maskOf_eq {m : Mask} {p : Nat → Bool} (h : ∀ j, j < 32 → laneOn m j = p j) : maskOf p = m :=
  BitVec.eq_of_getLsbD_eq fun j hj => (laneOn_maskOf p hj).trans (h j hj).symm

/-- The set that BALLOT writes (R233). -/
theorem ballot_eq_bits (g : Go) (f : BitVec 3) :
    g.ballot f = bits fun j => laneOn g.active j && (laneOn (g.b.pred f) j != (g.pre.aux == 1)) := by
  rw [bits_eq_maskOf, maskOf_eq fun j hj => ?_]
  unfold Go.ballot
  by_cases inverted : g.pre.aux = 1
  · simp [inverted, laneOn, hj]
  · simp [inverted, laneOn, hj, beq_eq_false_iff_ne.2 inverted]

theorem lanes233_eq (kind : Nat) (active : Mask) (a : Word) (l : Nat) :
    lanes233 kind active a l = laneMaskOf kind active a.toNat l := by
  match kind with
  | 0 | 1 | 2 | 3 | 4 | 5 => exact bits_eq_maskOf _
  | _ + 6 => exact (bits_eq_maskOf _).trans (maskOf_eq fun _ _ => rfl)

/-! ## Exchanges between lanes -/

/-- The lane in which SHFL reads (R232). -/
theorem source232_eq (mode n l : Nat) : source232 mode n l = shuffleLane mode n l := by
  have base (w : Nat) : l / w * w = l - l % w := Nat.div_mul_self_eq_mod_sub_self
  have offset : intOf true 6 (n % 64) = if n % 64 < 32 then ((n % 64 : Nat) : Int) else (n % 64 : Nat) - 64 := by
    rw [intOf_eq, show n % 64 % 2 ^ 6 = n % 64 from Nat.mod_mod n 64]
    simp only [true_and, Nat.reduceSub, Nat.reducePow, Int.reducePow]
    split_ifs <;> omega
  have outside (t w : Int) : t < 0 ∨ w ≤ t ↔ ¬(0 ≤ t ∧ t < w) := by omega
  unfold source232 shuffleLane field
  simp only [base, offset]
  match mode with
  | 0 | 2 | _ + 3 => rfl
  | 1 =>
    have bit7 : n.testBit 7 = decide (n / 128 % 2 = 1) := Nat.testBit_eq_decide_div_mod_eq
    rcases Nat.mod_two_eq_zero_or_one (n / 128) with wraps | clamps
    · simp [bit7, wraps]
    · simp [bit7, clamps, outside, -not_and]

/-! ## Bytes and conditions -/

/-- A byte's sign bit says that it is 128 or more. -/
theorem testBit_byteOf (x k : Nat) : (byteOf x k).testBit 7 = decide (128 ≤ byteOf x k) := by
  have byte : byteOf x k < 256 := Nat.mod_lt _ (by decide)
  rw [Nat.testBit_eq_decide_div_mod_eq, decide_eq_decide]
  omega

/-- Byte k of what BSEL writes (R234). -/
theorem select234_eq (mode x c k : Nat) : select234 mode x c k = byteSelect mode x c k := by
  have pick (j : Nat) : bytePick x j = byteOf x j := rfl
  have filled (j : Nat) : fillByte 2 (byteOf x j) = if 128 ≤ byteOf x j then 255 else 0 := by
    simp [fillByte, testBit_byteOf]
  unfold select234 byteSelect
  match mode with
  | 0 =>
    have code : c / 2 ^ (12 + 2 * k) % 4 = field c (12 + 2 * k) 2 := rfl
    simp only [pick]
    rw [code]
    generalize field c (12 + 2 * k) 2 = fill
    match fill with
    | 0 | 1 | _ + 3 => rfl
    | 2 => exact (filled _).symm
  | 1 | 2 => rfl
  | _ + 3 =>
    simp only [pick, filled]
    rfl

/-- Four bytes as a word, lowest first. -/
theorem bytes_eq_foldr (byte : Nat → Nat) : byte 0 + byte 1 * 2 ^ 8 + byte 2 * 2 ^ 16 + byte 3 * 2 ^ 24 =
    (List.range 4).foldr (fun k acc => acc * 256 + byte k) 0 := by
  show _ = (((0 * 256 + byte 3) * 256 + byte 2) * 256 + byte 1) * 256 + byte 0
  omega

theorem holdsInt_eq_condHolds (k : Nat) (a b : Int) : holdsInt k a b = condHolds k (a - b) := by
  unfold holdsInt condHolds
  split <;> simp [Int.sub_eq_zero, beq_eq_decide, bne]

theorem holdsFloat_eq_floatCond (k : Nat) (a b : Exact) : holdsFloat k a b = floatCond k a b := by
  unfold holdsFloat floatCond
  cases a.isNan || b.isNan with
  | true =>
    match k with
    | 0 | 1 | 2 | 3 | 4 | 5 | 6 | 7 | _ + 8 => rfl
  | false =>
    match k with
    | 0 | 1 | 2 | 3 | 4 | 5 | 6 | 7 | _ + 8 => simp [condHolds, beq_eq_decide, bne]

/-- The condition of CSEL (R236). -/
theorem csel236_eq (g : Go) (c : Word) : csel236 g c =
    if g.pre.t1 = 14 then floatCond g.pre.aux (Fmt.f32.value c.toNat) (.zero false)
    else condHolds g.pre.aux (intValue g.pre.signed c) := by
  simp only [csel236, holdsInt_eq_condHolds, holdsFloat_eq_floatCond, Int.sub_zero]
  rfl

/-! ## Reductions -/

/-- The smallest value, 0 where there is none. -/
theorem min?_eq_foldl (vs : List Int) : (vs.min?.map (BitVec.ofInt 32)).getD 0 = BitVec.ofInt 32 (vs.foldl min (vs.headD 0)) := by
  cases vs with
  | nil => rfl
  | cons x xs => rw [List.min?_cons', List.headD_cons, List.foldl_cons, min_self]; rfl

/-- The largest value, 0 where there is none. -/
theorem max?_eq_foldl (vs : List Int) : (vs.max?.map (BitVec.ofInt 32)).getD 0 = BitVec.ofInt 32 (vs.foldl max (vs.headD 0)) := by
  cases vs with
  | nil => rfl
  | cons x xs => rw [List.max?_cons', List.headD_cons, List.foldl_cons, max_self]; rfl

/-- The integer reductions of BRED: the effect of a clear word (R235). -/
theorem exec_bred_integer {s : State} {g : Go} {d a : BitVec 7} {p : BitVec 1} (h : Clear (.bred d a p) s g) (ht : g.pre.t1 ≠ 14) :
    exec (.bred d a p) s = done (g.writeChecked { spec := d } 8
      (fun _ => plain [reduced g g.pre.aux ((lanesIn g.active).map fun j => (g.val 0).w32 j)]) s) := by
  dsimp only [exec, execBred]
  rw [show shapeBred d a p = shapeOf (.bred d a p) from rfl, issueWord_of_clear h, if_neg ht]
  refine congrArg (fun r => done (g.writeChecked { spec := d } 8 (fun _ => plain [r]) s)) ?_
  generalize (lanesIn g.active).map _ = vs
  unfold reduced
  match g.pre.aux with
  | 0 => rw [List.foldl_eq_foldr]; exact wrapOrClamp_eq_written ..
  | 1 => exact (min?_eq_foldl _).symm
  | 2 => exact (max?_eq_foldl _).symm
  | 3 | 4 | _ + 5 => exact List.foldl_eq_foldr ..

theorem exec_between {i : Instr} {s : State} {g : Go} {d : Dst} {f : Nat → List Word} (hi : between i g = some (d, f))
    (h : Clear i s g) : ∃ latency, exec i s = done (g.writeChecked d latency (fun l => plain (f l)) s) := by
  unfold between at hi
  simp only [← Pre.wordsB_eq, wordsAt_wordsB] at hi
  split at hi
  case h_1 d a b p q => -- SEL
    cases hi
    refine ⟨4, (issueWord_of_clear h _).trans ?_⟩
    refine congrArg (fun f => done (g.writeChecked { spec := d, words := g.pre.wordsB } 4 f s)) (funext fun l => ?_)
    simp only [Val.words_wordsB, ← Pre.third_selector]
    cases laneOn (g.b.pred (g.pre.third.extractLsb' 0 3)) l != (g.pre.aux == 1) <;> rfl
  case h_2 => -- MOV
    cases hi
    exact ⟨4, issueWord_of_clear h _⟩
  case h_3 => -- MOVI
    cases hi
    simp only [scalar_words_wordsB]
    exact ⟨4, issueWord_of_clear h _⟩
  case h_4 => -- MOVS
    cases hi
    exact ⟨_, issueWord_of_clear h _⟩
  case h_5 => -- SHFL
    cases hi
    simp only [source232_eq]
    exact ⟨_, issueWord_of_clear h _⟩
  case h_6 => -- BALLOT
    cases hi
    simp only [← ballot_eq_bits]
    exact ⟨4, issueWord_of_clear h _⟩
  case h_7 => -- BSEL
    cases hi
    simp only [select234_eq]
    refine ⟨4, (issueWord_of_clear h _).trans ?_⟩
    simp only [← bytes_eq_foldr]
  case h_8 => -- CSEL
    cases hi
    simp only [csel236_eq]
    exact ⟨4, issueWord_of_clear h _⟩
  case h_9 => -- LANEMASK
    cases hi
    simp only [lanes233_eq]
    exact ⟨4, issueWord_of_clear h _⟩
  case h_10 => -- BRED
    split at hi
    · cases hi
    · next ht =>
      cases hi
      exact ⟨8, exec_bred_integer h ht⟩
  case h_11 => cases hi

end Sys2Proof.Machine

namespace Sys2Proof.Lanes
open Sys2Proof Sys2Proof.Machine Sys2Proof.Claims

/-- Settles O9: each word writes what R209 and R230 to R236 select, at the latency of its unit. -/
theorem movesAndSelections : Obligations.MovesAndSelections := by
  intro i s g d f hi h
  obtain ⟨_, hx⟩ := exec_between hi h
  exact writes_of_exec hx

end Sys2Proof.Lanes
end

section
/-!
QDOT4 whose XMOD gives a float T1 and no T2: the word reads b in the type of a (log 43), where the statement reads ds8 (R225).
-/
namespace Sys2Proof.Machine
open Sys2Proof Sys2Proof.Claims

/-- One thread stands at QDOT4 v3, v1, v2 behind an XMOD whose T1 is `.e5m2` and whose T2 is 0. Byte 0 of v1 and of v2 is 0x3C, which
is 1.0 in e5m2 and 0.0625 in ds8; every other byte, and v3, is 0. -/
def qdotBarge : Barge :=
  let b : Barge :=
    { regs := 8, pcs := [0x1004], running := 1, chain := some { start := 0x1000, words := [0xFA900000], group := 1 } }
  (b.setV 1 0 0x3C).setV 2 0 0x3C

/-- Its word. -/
def qdotIssue : Issue := { core := 0, slot := 0, addr := 0x1004, group := 1, chainStart := 0x1000, word := 0x49830208 }

/-- The machine as the word issues. -/
def qdotState : State := { State.reset with barges := [(0, qdotBarge)], issue := some qdotIssue }

/-- What it would run with. -/
def qdotGo : Go := goOf (shapeOf (.qdot4 3 1 2 0 0)) qdotState qdotIssue qdotBarge

theorem qdotGo_clear : Clear (.qdot4 3 1 2 0 0) qdotState qdotGo :=
  ⟨⟨qdotIssue, qdotBarge, rfl, rfl, rfl⟩, by decide +kernel, by decide +kernel, by decide +kernel⟩

/-- v3 of thread 0 after a word. -/
def v3After (o : Host.Outcome State Fault Refusal) : Option Word :=
  match o with
  | .next t => (t.barge 0 0).map (·.vreg 3 0)
  | _ => none

/-- The word reads both operands as e5m2: v3 is 1.0. -/
theorem exec_qdot4_v3 : v3After (exec (.qdot4 3 1 2 0 0) qdotState) = some 0x3F800000 := by decide +kernel

/-- A written vector register of one word. -/
theorem Barge.vreg_of_holds {b : Barge} {d : BitVec 7} {i : Nat} {w : Word} (vector : isScalar d = false)
    (h : b.holds { spec := d } i [w]) : b.vreg d.toNat i = w := by
  unfold Barge.holds at h
  rw [if_neg (by simp [vector])] at h
  exact h 0 Nat.one_pos

end Sys2Proof.Machine

namespace Sys2Proof.Narrow
open Sys2Proof Sys2Proof.Machine Sys2Proof.Claims

/-- Refutes O8: in QDOT4 of `.e5m2` without T2, v3 := 0 + 1.0 × 1.0 is 1.0, but the statement takes element type 0 for ds8 and asks
for 1.0 × 0.0625. -/
theorem not_narrowFormats : ¬ Obligations.NarrowFormats := by
  intro claim
  obtain ⟨t, hx, ⟨_, b', hb, holds, _⟩, _⟩ :=
    claim (.qdot4 3 1 2 0 0) qdotState qdotGo 3 4 _ rfl qdotGo_clear (by decide +kernel) (by unfold Untrapped; decide +kernel)
  have model : b'.vreg 3 0 = 0x3F800000 := by
    have ran := exec_qdot4_v3
    rw [hx] at ran
    simpa [v3After, show t.barge 0 0 = some b' from hb] using ran
  have stated : b'.vreg 3 0 = 0x3D800000 := Barge.vreg_of_holds (d := 3) rfl (holds 0 (by decide) (by decide +kernel))
  exact absurd (model.symm.trans stated) (by decide)

end Sys2Proof.Narrow
end

section
/-!
MATCH and the float reduction of class 10 (R235, R237): lanes whose operands are equal, and the levels of the tree of BRED.f32.
-/
namespace Sys2Proof.Machine
open Sys2Proof Sys2Proof.Claims

/-! ## Equal lanes -/

/-- The operands of two lanes are equal where their words are: one word, or two under `.b64`. -/
theorem Val.decide_words_eq (p : Pre) (v : Val) (l j : Nat) : decide (v.words p.wordsB j = v.words p.wordsB l) =
    (decide (v.word l 0 = v.word j 0) && (p.t1 != 10 || decide (v.word l 1 = v.word j 1))) := by
  rw [Pre.wordsB_eq]
  by_cases pair : p.t1 = 10
  · simp [pair, Val.words, List.range_succ, eq_comm]
  · simp [pair, Val.words, bne, beq_eq_false_iff_ne.2 pair, eq_comm]

/-! ## The tree of BRED.f32 -/

section
variable (f : Nat → Nat → Rounded) (leaf : Nat → Option Nat × Flags)

/-- A level combines the first two positions as the tree does. -/
theorem treeLevel_cons_cons (r : List (Option Nat × Flags)) :
    treeLevel f (leaf 0 :: leaf 1 :: r) = tree235 f leaf 1 0 :: treeLevel f r := by
  simp only [tree235]
  rcases leaf 0 with ⟨_ | x, fx⟩
  · rfl
  · rcases leaf 1 with ⟨_ | y, fy⟩ <;> rfl

/-- One level of the tree over 2n positions. -/
theorem treeLevel_range (n : Nat) :
    treeLevel f ((List.range (2 * n)).map leaf) = (List.range n).map (tree235 f leaf 1) := by
  induction n generalizing leaf with
  | zero => rfl
  | succ n ih =>
    have head : (List.range (2 * (n + 1))).map leaf = leaf 0 :: leaf 1 :: (List.range (2 * n)).map fun m => leaf (m + 2) := by
      rw [Nat.mul_succ, List.range_succ_eq_map, List.range_succ_eq_map]
      simp
    rw [head, treeLevel_cons_cons, ih, List.range_succ_eq_map, List.map_cons, List.map_map]
    rfl

/-- After k levels the positions hold what the tree of height k gives. -/
theorem treeLevels_range (k n : Nat) : (List.range k).foldl (fun l _ => treeLevel f l) ((List.range (2 ^ k * n)).map leaf) =
    (List.range n).map (tree235 f leaf k) := by
  induction k generalizing n with
  | zero => simp [tree235]
  | succ k ih =>
    rw [List.range_succ, List.foldl_append, List.foldl_cons, List.foldl_nil, Nat.pow_succ, Nat.mul_assoc, ih, treeLevel_range]
    rfl

variable {leaf}

/-- An absent position has raised no flag where no leaf has. -/
theorem tree235_flags_of_absent (quiet : ∀ m, (leaf m).2 = {}) (k m : Nat) (absent : (tree235 f leaf k m).1 = none) :
    (tree235 f leaf k m).2 = {} := by
  induction k generalizing m with
  | zero => exact quiet m
  | succ k ih =>
    simp only [tree235] at absent ⊢
    split at absent
    · cases absent
    · cases absent
    · exact ih (2 * m + 1) absent

/-- The reduction over 32 positions is the root of the tree of height 5. -/
theorem treeReduce_eq_root (quiet : ∀ m, (leaf m).2 = {}) :
    treeReduce f ((List.range 32).map leaf) = ⟨(tree235 f leaf 5 0).1.getD 0, (tree235 f leaf 5 0).2⟩ := by
  have levels : (List.range 5).foldl (fun l _ => treeLevel f l) ((List.range 32).map leaf) = [tree235 f leaf 5 0] :=
    treeLevels_range f leaf 5 1
  have flags := tree235_flags_of_absent f quiet 5 0
  unfold treeReduce
  rw [levels]
  generalize tree235 f leaf 5 0 = root at flags
  rcases root with ⟨_ | c, fl⟩
  · exact congrArg (Rounded.mk 0) (flags rfl).symm
  · rfl

end

/-- A result that every lane shares may go into a scalar register (R22). -/
theorem nonUniform_const (active : Mask) (d : Dst) (ws : List Word) : nonUniform active d (fun _ => ws) = false := by
  unfold nonUniform
  cases lowestLane active <;> simp

/-- The number of a reduction of BRED.f32 among the ops of Table 10.3 (R235). -/
def redOp (aux : Nat) : Nat := if aux = 0 then 0 else if aux = 1 then 4 else 5

/-- The effect of a clear BRED.f32. -/
theorem exec_bred_float {s : State} {g : Go} {d a : BitVec 7} {p : BitVec 1} (h : Clear (.bred d a p) s g) (ht : g.pre.t1 = 14) :
    let root := tree235 (fun x y => table103 g .f32 (redOp g.pre.aux) x y 0)
      (fun l => (if laneOn g.active l then some ((g.val 0).w32 l).toNat else none, {})) 5 0
    exec (.bred d a p) s =
      done (g.writeFloat { spec := d } 14 (fun _ => { words := [BitVec.ofNat 32 (root.1.getD 0)], flags := root.2 }) s) := by
  intro root
  dsimp only [exec, execBred]
  rw [show shapeBred d a p = shapeOf (.bred d a p) from rfl, issueWord_of_clear h, if_pos ht, treeReduce_eq_root _ fun _ => rfl]
  unfold root
  unfold redOp
  match g.pre.aux with
  | 0 | 1 | _ + 2 => rfl

end Sys2Proof.Machine

namespace Sys2Proof.LaneSets
open Sys2Proof Sys2Proof.Machine Sys2Proof.Claims

/-- Settles O10: the model's mask of equal lanes is the word of bits that R237 gives. -/
theorem matchLanes : Obligations.MatchLanes := by
  intro d a p s g h same f
  refine writes_of_exec (latency := 8) ((issueWord_of_clear h _).trans ?_)
  simp only [f, same, bits_eq_maskOf, Val.decide_words_eq]

/-- Settles O11: five levels over the 32 positions are the tree, whose root every lane receives, so that R22 allows the result. -/
theorem floatReduction : Obligations.FloatReduction := by
  intro d a p s g h ht op leaf root f _ quiet
  exact writesFloat_of_exec (exec_bred_float h ht) (nonUniform_const g.active { spec := d } _) quiet

end Sys2Proof.LaneSets
end

section
/-!
Divergence: the address that a barge selects (R227), the targets of control words (R41), MARK and JOIN (R240, R241), what
popping the join stack leaves, and EXIT (R242).
-/
namespace Sys2Proof.Machine
open Sys2Proof Sys2Proof.Claims

/-! ## The selected address (R227) -/

/-- The least of some addresses, from a bound on: none is below it, and it is the bound or one of them. -/
theorem least_spec (pc : Nat → Dword) (ls : List Nat) (m : Dword) :
    let least := ls.foldl (fun m i => if pc i < m then pc i else m) m
    least ≤ m ∧ (∀ i ∈ ls, least ≤ pc i) ∧ (least = m ∨ ∃ i ∈ ls, pc i = least) := by
  induction ls generalizing m with
  | nil => simp
  | cons i ls ih =>
    intro least
    obtain ⟨bound, below, attained⟩ := ih (if pc i < m then pc i else m)
    have first : (if pc i < m then pc i else m) ≤ m ∧ (if pc i < m then pc i else m) ≤ pc i := by
      split
      · next lt => exact ⟨BitVec.le_of_lt lt, BitVec.le_refl _⟩
      · next ge => exact ⟨BitVec.le_refl _, BitVec.not_lt.1 ge⟩
    refine ⟨BitVec.le_trans bound first.1, List.forall_mem_cons.2 ⟨BitVec.le_trans bound first.2, below⟩, ?_⟩
    rcases attained with here | ⟨j, hj, at_⟩
    · by_cases lt : pc i < m
      · exact .inr ⟨i, List.mem_cons_self .., (here.trans (if_pos lt)).symm⟩
      · exact .inl (here.trans (if_neg lt))
    · exact .inr ⟨j, List.mem_cons_of_mem _ hj, at_⟩

/-- The threads among which a barge selects. -/
def Barge.candidates (b : Barge) : Mask :=
  if b.running &&& ~~~b.yieldMarks = 0 then b.running else b.running &&& ~~~b.yieldMarks

/-- Every thread that runs has the yield mark. -/
theorem Barge.all_marked_iff (b : Barge) : b.running &&& ~~~b.yieldMarks = 0 ↔
    ((List.range 32).all fun j => !laneOn b.running j || laneOn b.yieldMarks j) = true := by
  rw [List.all_eq_true]
  refine ⟨fun unmarked j hj => ?_, fun marked => BitVec.eq_of_getLsbD_eq fun j hj => ?_⟩
  · simpa [laneOn, List.mem_range.1 hj, imp_iff_not_or] using congrArg (·.getLsbD j) unmarked
  · simpa [laneOn, hj, imp_iff_not_or] using marked j (List.mem_range.2 hj)

theorem Barge.laneOn_candidates (b : Barge) {i : Nat} (hi : i < 32) : laneOn b.candidates i = selectable b i := by
  unfold Barge.candidates selectable
  split
  · next allMarked => rw [b.all_marked_iff.1 allMarked, Bool.or_true, Bool.and_true]
  · next notAll => rw [Bool.eq_false_iff.2 (notAll ∘ b.all_marked_iff.2)]; simp [laneOn, hi]

/-- The lowest address of the candidates. -/
def Barge.lowest (b : Barge) : Dword :=
  (lanesIn b.candidates).foldl (fun m i => if b.pcs.getD i 0 < m then b.pcs.getD i 0 else m) (BitVec.allOnes 64)

theorem Barge.next_of_no_chain {b : Barge} (h : b.chain = none) :
    b.next.1 = b.lowest ∧ b.next.2.1 = maskOf fun i => laneOn b.candidates i && b.pcs.getD i 0 == b.lowest := by
  unfold Barge.next
  rw [h]
  exact ⟨rfl, rfl⟩

/-! ## Targets (R41) -/

/-- The target of an immediate-format control word. -/
theorem Go.immTarget_eq_relative (g : Go) (k : BitVec 8) : g.immTarget k = relative g (offset41 g k) := by
  have offset : (g.imm k true).toInt = offset41 g k := by
    unfold Go.imm offset41
    split
    · rfl
    · exact BitVec.toInt_signExtend_of_le (by decide)
  simp [Go.immTarget, relative, BitVec.signExtend, BitVec.ofInt_add, BitVec.ofInt_mul, offset]

/-- A target in a register counts its low two bits as zero (R18). -/
theorem registerTarget_eq_aligned (x : Dword) : registerTarget x = aligned x := by
  have low : ∀ i, i < 64 → (3#64).getLsbD i = decide (i < 2) := by decide
  have cut : x.toNat / 4 * 4 = x.toNat >>> 2 <<< 2 := by rw [Nat.shiftLeft_eq, Nat.shiftRight_eq_div_pow]
  refine BitVec.eq_of_getLsbD_eq fun i hi => ?_
  unfold registerTarget aligned
  rw [cut, BitVec.getLsbD_and, BitVec.getLsbD_not, low i hi, BitVec.getLsbD_ofNat, Nat.testBit_shiftLeft, Nat.testBit_shiftRight]
  by_cases kept : i < 2
  · simp [kept]
  · simp [kept, hi, Nat.not_lt.1 kept, BitVec.getLsbD]

/-! ## Popping the join stack (R241) -/

/-- Did a lane wait at an entry of the stack that popping leaves with n entries? -/
def Barge.woken (b : Barge) (n l : Nat) : Bool :=
  !laneOn b.running l && !laneOn b.exited l && decide (n ≤ b.waitAt.getD l 0 ∧ b.waitAt.getD l 0 < b.joins.length)

/-- A barge after some entries of its join stack are popped: the lanes that waited at them run past their JOINs. -/
structure Barge.Popped (b c : Barge) : Prop where
  exited : c.exited = b.exited
  waitAt : c.waitAt = b.waitAt
  lanes : c.pcs.length = b.pcs.length
  joins : c.joins = b.joins.take c.joins.length
  running : ∀ l, l < 32 → laneOn c.running l = (laneOn b.running l || b.woken c.joins.length l)
  pcs : ∀ l, l < b.pcs.length → l < 32 → c.pcs.getD l 0 = if b.woken c.joins.length l then
    ((b.joins[b.waitAt.getD l 0]?).map fun e => e.addr + 4).getD 0 else b.pcs.getD l 0

theorem Barge.woken_self (b : Barge) (l : Nat) : b.woken b.joins.length l = false := by
  simp [Barge.woken]

theorem Barge.popped_refl (b : Barge) : b.Popped b :=
  ⟨rfl, rfl, rfl, (List.take_length ..).symm, fun l _ => by simp [Barge.woken_self], fun l _ _ => by simp [Barge.woken_self]⟩

section
variable {b c d : Barge} (p : b.Popped c)
include p

theorem Barge.Popped.length_le : c.joins.length ≤ b.joins.length := by
  rw [p.joins]
  exact List.length_take_le' ..

/-- What stays on the stack stays at its depth. -/
theorem Barge.Popped.getElem? {k : Nat} (hk : k < c.joins.length) : c.joins[k]? = b.joins[k]? := by
  rw [p.joins, List.getElem?_take, if_pos hk]

/-- A lane that popping to a lower depth wakes was woken on the way, or stands then at an entry that is popped later. -/
theorem Barge.Popped.woken_eq {n l : Nat} (hn : n ≤ c.joins.length) (hl : l < 32) :
    b.woken n l = (b.woken c.joins.length l || c.woken n l) := by
  have shorter := p.length_le
  simp only [Barge.woken, p.running l hl, p.exited, p.waitAt]
  cases laneOn b.running l with
  | true => rfl
  | false =>
    cases laneOn b.exited l with
    | true => rfl
    | false =>
      rw [Bool.eq_iff_iff]
      simp
      omega

theorem Barge.Popped.trans (q : c.Popped d) : b.Popped d := by
  have shorter := q.length_le
  refine ⟨q.exited.trans p.exited, q.waitAt.trans p.waitAt, q.lanes.trans p.lanes, ?_, fun l hl => ?_, fun l here hl => ?_⟩
  · calc d.joins = c.joins.take d.joins.length := q.joins
      _ = (b.joins.take c.joins.length).take d.joins.length := congrArg _ p.joins
      _ = b.joins.take d.joins.length := by rw [List.take_take, Nat.min_eq_left shorter]
  · rw [q.running l hl, p.running l hl, p.woken_eq shorter hl, Bool.or_assoc]
  · rw [q.pcs l (p.lanes ▸ here) hl, p.pcs l here hl, p.woken_eq shorter hl]
    cases wakes : c.woken d.joins.length l with
    | false => rw [Bool.or_false, if_neg Bool.false_ne_true]
    | true =>
      simp only [Barge.woken, Bool.and_eq_true, decide_eq_true_eq] at wakes
      obtain ⟨_, _, stays⟩ := wakes
      rw [Bool.or_true, if_pos rfl, if_pos rfl, ← p.getElem? (p.waitAt ▸ stays), p.waitAt]

end

/-- The lanes that the entry on top wakes as it is popped. -/
def Barge.topWakes (b : Barge) : Mask :=
  maskOf fun l => !laneOn b.running l && !laneOn b.exited l && decide (b.waitAt.getD l 0 = b.joins.length - 1)

/-- The barge without the entry on top. -/
def Barge.popTop (b : Barge) (e : JoinEntry) : Barge :=
  { b with
    joins := b.joins.dropLast
    running := b.running ||| b.topWakes
    pcs := b.pcs.mapIdx fun l pc => if laneOn b.topWakes l then e.addr + 4 else pc }

theorem Barge.popSatisfied_succ (b : Barge) (n : Nat) : b.popSatisfied (n + 1) =
    match b.joins.getLast? with
    | none => b
    | some e => if b.satisfied (b.joins.length - 1) e then (b.popTop e).popSatisfied n else b := rfl

theorem Barge.popTop_length {b : Barge} {e : JoinEntry} (top : b.joins.getLast? = some e) :
    (b.popTop e).joins.length + 1 = b.joins.length := by
  have entries : 0 < b.joins.length := List.length_pos_of_mem (List.mem_of_getLast? top)
  simp [Barge.popTop]
  omega

/-- One pop: the depth on top is where the woken lanes waited. -/
theorem Barge.popped_popTop {b : Barge} {e : JoinEntry} (top : b.joins.getLast? = some e) : b.Popped (b.popTop e) := by
  have depth := Barge.popTop_length top
  have wakes {l : Nat} (hl : l < 32) : laneOn b.topWakes l = b.woken (b.popTop e).joins.length l := by
    unfold Barge.topWakes Barge.woken
    rw [laneOn_maskOf _ hl]
    congr 1
    rw [decide_eq_decide]
    omega
  refine ⟨rfl, rfl, List.length_mapIdx, ?_, fun l hl => ?_, fun l here hl => ?_⟩
  · rw [Nat.eq_sub_of_add_eq depth]; exact List.dropLast_eq_take
  · rw [← wakes hl]; simp [Barge.popTop, laneOn]
  · rw [← wakes hl]
    simp only [Barge.popTop, List.getD_eq_getElem?_getD, List.getElem?_mapIdx, List.getElem?_eq_getElem here]
    cases awake : laneOn b.topWakes l with
    | false => rfl
    | true =>
      rw [wakes hl] at awake
      simp only [Barge.woken, Bool.and_eq_true, decide_eq_true_eq] at awake
      obtain ⟨_, _, at_⟩ := awake
      have atTop : b.waitAt[l]?.getD 0 = b.joins.length - 1 := by
        rw [← List.getD_eq_getElem?_getD]
        omega
      rw [atTop, ← List.getLast?_eq_getElem?, top]
      rfl

theorem Barge.popped_popSatisfied (n : Nat) (b : Barge) : b.Popped (b.popSatisfied n) := by
  induction n generalizing b with
  | zero => exact b.popped_refl
  | succ n ih =>
    rw [Barge.popSatisfied_succ]
    split
    · exact b.popped_refl
    · next e top =>
      split
      · exact (Barge.popped_popTop top).trans (ih _)
      · exact b.popped_refl

/-- With a turn for each entry and one more, popping ends at an entry that is not satisfied. -/
theorem Barge.popSatisfied_unsatisfied {n : Nat} {b : Barge} (turns : b.joins.length < n) {e : JoinEntry}
    (top : (b.popSatisfied n).joins.getLast? = some e) :
    (b.popSatisfied n).satisfied ((b.popSatisfied n).joins.length - 1) e = false := by
  induction n generalizing b with
  | zero => cases turns
  | succ n ih =>
    rw [Barge.popSatisfied_succ] at top ⊢
    cases last : b.joins.getLast? with
    | none =>
      rw [last] at top
      exact nomatch last.symm.trans top
    | some e' =>
      simp only [last] at top ⊢
      split at top
      · next satisfied =>
        rw [if_pos satisfied]
        have depth := Barge.popTop_length last
        exact ih (by omega) top
      · next unsatisfied =>
        cases last.symm.trans top
        rw [if_neg unsatisfied]
        exact Bool.eq_false_iff.2 unsatisfied

theorem Barge.satisfied_eq_false {b : Barge} {depth : Nat} {e : JoinEntry} : b.satisfied depth e = false ↔
    ∃ l, l < 32 ∧ laneOn e.mask l = true ∧ laneOn b.exited l = false ∧
      (laneOn b.running l = true ∨ b.waitAt.getD l 0 ≠ depth) := by
  simp [Barge.satisfied, List.all_eq_false, mem_lanesIn, and_assoc, imp_iff_not_or]

/-- Whether the barge then waits for ever is seen in its wait alone. -/
theorem Barge.settleJoins_popSatisfied (b : Barge) : ∃ wait, b.settleJoins = { b.popSatisfied 17 with wait } := by
  unfold Barge.settleJoins
  extract_lets
  split <;> exact ⟨_, rfl⟩

/-! ## MARK, JOIN and EXIT -/

/-- The entry at which a lane of JOIN waits. -/
theorem Barge.joinOf_eq_entryAt (b : Barge) (a : Dword) (l : Nat) : b.joinOf a l = Claims.entryAt b a l := by
  refine congrArg List.getLast? (List.filter_congr fun k _ => ?_)
  cases b.joins[k]? <;> rfl

section
variable {s : State} {g : Go}

theorem exec_mark_of_clear {k : BitVec 8} (h : Clear (.mark k) s g) (act : g.active ≠ 0) :
    exec (.mark k) s = done (if 16 ≤ g.b.joins.length then g.trap { cause := 0x07 } s
      else g.finish { g.b with joins := g.b.joins ++ [{ addr := relative g (offset41 g k), mask := g.active }] } s) := by
  show execMark k s = _
  unfold execMark
  rw [show immShape = shapeOf (.mark k) from rfl, issueWord_of_clear h, if_neg act, Go.immTarget_eq_relative]

/-- The active lanes without an entry at JOIN's address. -/
def Go.unjoined (g : Go) : Mask := maskOf fun l => laneOn g.active l && (Claims.entryAt g.b g.addr l).isNone

/-- The active lanes wait at their entries, and what that satisfies is popped. -/
def Go.joins (g : Go) (s : State) : State :=
  (g.finish g.b s).onBarge g.core g.slot fun b =>
    { b with
      running := b.running &&& ~~~g.active
      waitAt := (List.range 32).map fun l =>
        if laneOn g.active l then (Claims.entryAt g.b g.addr l).getD 0 else g.b.waitAt.getD l 0 }.settleJoins

theorem exec_join_of_clear (h : Clear .join s g) : exec .join s = done (if g.b.joins = [] then g.trap { cause := 0x08 } s
    else if g.active = 0 then g.finish g.b s
    else if g.unjoined ≠ 0 then g.trap { cause := 0x09, lanes := g.unjoined } s else g.joins s) := by
  show execJoin s = _
  unfold execJoin
  rw [show bareShape = shapeOf .join from rfl, issueWord_of_clear h]
  simp only [List.isEmpty_iff, Barge.joinOf_eq_entryAt]
  rfl

/-- The active lanes exit, and the entries that this satisfies are popped. -/
def Go.exits (g : Go) (s : State) : State :=
  ((g.finish g.b s).onBarge g.core g.slot fun b =>
    { b with running := b.running &&& ~~~g.active, exited := b.exited ||| g.active }.settleJoins).retireLanes g.core g.b
      (g.active &&& ~~~g.b.exited)

theorem exec_exit_of_clear (h : Clear .exit s g) (act : g.active ≠ 0) :
    exec .exit s = done ((if g.b.exited ||| g.active = BitVec.allOnes 32 then (g.exits s).endBarge g.core g.slot
      else g.exits s).threadsExit g.b (g.active &&& ~~~g.b.exited)) := by
  show execExit s = _
  unfold execExit
  rw [show shapeExit = shapeOf .exit from rfl, issueWord_of_clear h]
  simp only [if_neg act, decide_eq_true_eq]
  rfl

end

end Sys2Proof.Machine

namespace Sys2Proof.Divergence
open Sys2Proof Sys2Proof.Machine Sys2Proof.Claims

/-- Settles O18: the fold over the candidates' PCs gives their least, which one of them has: the bound that it begins from is the
greatest address. -/
theorem selectsLowestAddress : Obligations.SelectsLowestAddress := by
  intro b unchained ⟨i, hi, able⟩
  obtain ⟨address, group⟩ := b.next_of_no_chain unchained
  obtain ⟨bound, below, attained⟩ := least_spec (b.pcs.getD · 0) (lanesIn b.candidates) (BitVec.allOnes 64)
  have candidate {l : Nat} : l ∈ lanesIn b.candidates ↔ l < 32 ∧ selectable b l = true := by
    rw [mem_lanesIn]
    exact and_congr_right fun hl => by rw [b.laneOn_candidates hl]
  rw [address, group]
  refine ⟨?_, fun l hl sel => below l (candidate.2 ⟨hl, sel⟩), fun l hl => ?_⟩
  · rcases attained with top | ⟨l, hl, at_⟩
    · have greatest : b.pcs.getD i 0 ≤ b.lowest := by
        rw [show b.lowest = BitVec.allOnes 64 from top, BitVec.le_def, BitVec.toNat_allOnes]
        exact Nat.le_sub_one_of_lt (BitVec.isLt _)
      exact ⟨i, hi, able, BitVec.le_antisymm greatest (below i (candidate.2 ⟨hi, able⟩))⟩
    · exact ⟨l, (candidate.1 hl).1, (candidate.1 hl).2, at_⟩
  · rw [laneOn_maskOf _ hl, b.laneOn_candidates hl]

/-- Settles O32: popping is a chain of pops of the top, over which the stack's depth and the lanes that wake are followed. -/
theorem joinsSettle : Obligations.JoinsSettle := by
  intro b entries threads
  obtain ⟨wait, settled⟩ := b.settleJoins_popSatisfied
  have p := b.popped_popSatisfied 17
  rw [settled]
  exact ⟨p.joins, fun e top => Barge.satisfied_eq_false.1 (Barge.popSatisfied_unsatisfied (Nat.lt_succ_of_le entries) top),
    p.running, fun l hl => p.pcs l (threads ▸ hl) hl⟩

/-- Settles O31: MARK by the depth of the stack; JOIN by the stack, then by its active lanes, whose entries are the model's. -/
theorem divergentRegions : Obligations.DivergentRegions := by
  refine ⟨fun k s g h act => ?_, fun s g h empty => ?_, fun s g h act => ?_⟩
  · have hx := exec_mark_of_clear h act
    exact ⟨fun full => hx.trans (congrArg done (if_pos full)),
      fun room => hx.trans (congrArg done (if_neg (Nat.not_le.2 room)))⟩
  · exact (exec_join_of_clear h).trans (congrArg done (if_pos empty))
  · have hx (stacked : g.b.joins ≠ []) := (exec_join_of_clear h).trans (congrArg done ((if_neg stacked).trans (if_neg act)))
    exact ⟨fun stacked missed => (hx stacked).trans (congrArg done (if_pos missed)),
      fun stacked found => (hx stacked).trans (congrArg done (if_neg (not_not.2 found)))⟩

/-- Settles O33: the effect of EXIT. -/
theorem exitEndsThreads : Obligations.ExitEndsThreads :=
  fun _ _ h act => exec_exit_of_clear h act

end Sys2Proof.Divergence
end

section
/-!
REFORM (R244, R245): what follows the filing of its lanes changes the source barge in who runs and who has exited, and in when it
issues, but in no register.
-/
namespace Sys2Proof.Machine
open Sys2Proof Sys2Proof.Claims

/-- The source barge of a REFORM after some lanes have left it: its other threads and its registers are as they were. -/
structure Go.Departed (g : Go) (filed : Mask) (b : Barge) : Prop where
  running : b.running = g.b.running &&& ~~~filed
  exited : b.exited = g.b.exited ||| filed
  v : b.v = g.b.v
  s : b.s = g.b.s
  preds : b.preds = g.b.preds

/-- In a state the issuing barge stands so. -/
def Go.DepartedIn (g : Go) (filed : Mask) (u : State) : Prop := ∃ b, u.barge g.core g.slot = some b ∧ g.Departed filed b

/-- The barge that REFORM moves past its word. -/
def Go.without (g : Go) (filed : Mask) : Barge :=
  { g.b with running := g.b.running &&& ~~~filed, exited := g.b.exited ||| filed }

section
variable {g : Go} {filed : Mask}

theorem Go.departedIn_finish (s : State) : g.DepartedIn filed (g.finish (g.without filed) s) :=
  ⟨_, Go.finish_barge .., rfl, rfl, rfl, rfl, rfl⟩

/-- A change of any barge that keeps who runs and the registers. -/
theorem Go.DepartedIn.onBarge {s : State} (h : g.DepartedIn filed s) (core slot : Nat) {f : Barge → Barge}
    (keeps : ∀ b, g.Departed filed b → g.Departed filed (f b)) : g.DepartedIn filed (s.onBarge core slot f) := by
  obtain ⟨b, resident, departed⟩ := h
  unfold State.onBarge
  by_cases same : 512 * g.core + g.slot = 512 * core + slot
  · have here : s.barge core slot = some b := by rw [← resident, State.barge, State.barge, same]
    rw [here]
    refine ⟨f b, ?_, keeps b departed⟩
    rw [State.barge, same]
    exact State.barge_setBarge_same ..
  · split
    · exact ⟨b, (State.barge_setBarge_other _ _ same).trans resident, departed⟩
    · exact ⟨b, resident, departed⟩

/-- So do changes of the barges that the moves go to. -/
theorem Go.DepartedIn.onMoves {s : State} (h : g.DepartedIn filed s) (ms : List Move) {f : Barge → Barge}
    (keeps : ∀ b, g.Departed filed b → g.Departed filed (f b)) :
    g.DepartedIn filed (ms.foldl (fun s m => s.onBarge m.core m.slot f) s) := by
  induction ms generalizing s with
  | nil => exact h
  | cons m ms ih => exact ih (h.onBarge m.core m.slot keeps)

theorem Go.DepartedIn.startRel {s : State} (h : g.DepartedIn filed s) (r : Rel) : g.DepartedIn filed (s.startRel r).2 := h

/-- A source barge without a thread left is blocked until it ends. -/
theorem Go.DepartedIn.dissolved {s : State} (h : g.DepartedIn filed s) (gone : Bool) (t : Nat) :
    g.DepartedIn filed (if gone then
      (s.onBarge g.core g.slot fun b => { b with blocked := true }).postAt t .basinClose [2, g.core, g.slot] else s) := by
  split
  · exact h.onBarge g.core g.slot fun b left => ⟨left.running, left.exited, left.v, left.s, left.preds⟩
  · exact h

end

/-- The filing of a REFORM's lanes, in ascending order, with the targets of R244. -/
def Go.filing (g : Go) (d : BitVec 7) (k : BitVec 8) (s : State) : Filing :=
  (lanesIn g.active).foldl (fun x l =>
    x.lane g.b (g.b.fctlAt s.now) (if g.pre.aux = 1 then clusterPlace (clusterOf g.core) else g.core) (8 * d.toNat)
      (max 1 d.toNat) l (if g.pre.xopd.isSome then aligned ((g.val 1).w64 l) else relative g (offset41 g k)) ((g.val 0).w32 l))
    { s, net := max (s.now + 4) (s.core g.core).netBusy }

/-- The lanes that find no basin. -/
def Filing.waiting (x : Filing) : Mask := maskOf fun l => x.left.contains l

/-- REFORM traps inside a region and waits where no lane finds a basin; else it leaves its source as `Departed` says, with a
release of its writes under way (R249). -/
theorem exec_reform_of_clear {s : State} {g : Go} {d a : BitVec 7} {p : BitVec 1} {k : BitVec 8} (h : Clear (.reform d a p k) s g)
    (act : g.active ≠ 0) : ∃ u rid, exec (.reform d a p k) s = done (if g.b.joins ≠ [] then g.trap { cause := 0x0A } s
      else if (g.filing d k s).moves = [] then s.hold g.core g.slot .other else (u.relRun rid relFuel).pump g.core) ∧
      g.DepartedIn (g.active &&& ~~~(g.filing d k s).waiting) u := by
  show ∃ u rid, execReform d a p k s = _ ∧ _
  unfold execReform
  rw [show shapeReform d a p k = shapeOf (.reform d a p k) from rfl, issueWord_of_clear h, if_neg act]
  simp only [registerTarget_eq_aligned, Go.immTarget_eq_relative, List.isEmpty_iff, Bool.not_eq_true', List.isEmpty_eq_false_iff]
  refine ⟨_, _, rfl, ?_⟩
  refine ((((Go.departedIn_finish _).onBarge _ _ fun b left => ?_).startRel _).onMoves _ fun b left => ?_).dissolved _ _
  · split_ifs <;> exact ⟨left.running, left.exited, left.v, left.s, left.preds⟩
  · exact ⟨left.running, left.exited, left.v, left.s, left.preds⟩

end Sys2Proof.Machine

namespace Sys2Proof.Reforms
open Sys2Proof Sys2Proof.Machine Sys2Proof.Claims

/-- Settles O36: the three ends of REFORM, of which the last leaves its source's registers and other threads. -/
theorem reformLeaves : Obligations.ReformLeaves := by
  intro d a p k s g h act i target place first x left
  obtain ⟨u, rid, hx, b', resident, departed⟩ := exec_reform_of_clear h act
  exact ⟨fun stacked => hx.trans (congrArg done (if_pos stacked)),
    fun empty unmoved => hx.trans (congrArg done ((if_neg (not_not.2 empty)).trans (if_pos unmoved))),
    fun empty moved => ⟨u, rid, b', hx.trans (congrArg done ((if_neg (not_not.2 empty)).trans (if_neg moved))), resident,
      departed.running, departed.exited, departed.v, departed.s, departed.preds⟩⟩

end Sys2Proof.Reforms
end

section
/-!
MMA at its barge (R258, R259), and one element of D in integer mode (R261).
-/
namespace Sys2Proof.Machine
open Sys2Proof Sys2Proof.Claims

/-! ## The issue of MMA -/

/-- What MMA leaves under way while the engine checks its parameter block (R259). -/
def Go.mmaFlight (g : Go) (s : State) (d : BitVec 7) : Flight :=
  { g.flight s .unit [] with translating := false, dst := d, mma := true, tag := if g.replay then 1 else 0 }

/-- The barge of an MMA is blocked, and the check of its parameter block follows 3 cycles later (R259). -/
def Go.toMma (g : Go) (s : State) (d : BitVec 7) : State :=
  (g.finish { g.b with blocked := true }
    { s with nextId := s.nextId + 1, flights := s.flights.put s.nextId (g.mmaFlight s d) }).post 3 (.mma 0 0 0 0 0) [s.nextId]

/-- The ends of a clear MMA in the order of R259. -/
theorem exec_mma_of_clear {d a b : BitVec 7} {p q : BitVec 1} {s : State} {g : Go} (h : Clear (.mma d a b p q) s g) :
    exec (.mma d a b p q) s = done (if g.b.reformed then g.trap { cause := 0x0B } s
      else if g.active = 0 then g.finish g.b s
      else if 1 < (lanesIn g.active).length then g.trap { cause := 0x0C } s
      else g.toMma s d) := by
  show execMma d a b p q s = _
  unfold execMma
  rw [if_neg (by simp [h.issue]), show shapeMma d a b p q = shapeOf (.mma d a b p q) from rfl, issueWord_of_clear h]
  rfl

/-- A mask with a lane in its list is not empty. -/
theorem ne_zero_of_lanesIn_length_pos {m : Mask} (h : 0 < (lanesIn m).length) : m ≠ 0 := by
  rintro rfl
  exact absurd h (by decide)

/-! ## An integer element of D -/

theorem toNat_wrapOrClamp (w : Nat) (signed sat : Bool) (x : Int) : (wrapOrClamp w signed sat x).toNat =
    codeOf w (if sat then (clampInt (intLo signed w) (intHi signed w) x).1 else x) :=
  BitVec.toNat_ofInt ..

/-- An element is its exact sum as R56 writes it, and what is beyond i32 is reported (R261). -/
theorem mmaInteger_eq_written (a b : List Int) (c : Int) (clamp : Bool) {x : Int}
    (sum : c + ((a.zip b).map fun p => p.1 * p.2).sum = x) :
    mmaInteger a b c clamp = ((written 32 true clamp x).toNat, decide (x < -2 ^ 31 ∨ 2 ^ 31 ≤ x)) := by
  rw [List.sum_eq_foldl] at sum
  have code : codeOf 32 (if clamp then (clampInt (-(2 ^ 31 : Nat)) ((2 ^ 31 : Nat) - 1) x).1 else x) =
      (written 32 true clamp x).toNat := by
    rw [← wrapOrClamp_eq_written, toNat_wrapOrClamp]
    rfl
  have beyond : (clampInt (-(2 ^ 31 : Nat)) ((2 ^ 31 : Nat) - 1) x).2 = decide (x < -2 ^ 31 ∨ 2 ^ 31 ≤ x) := by
    rw [clampInt_eq (by decide)]
    exact decide_eq_decide.2 (or_congr_right Int.sub_one_lt_iff)
  rw [mmaInteger, sum, code, beyond]

end Sys2Proof.Machine

namespace Sys2Proof.MatrixEngine
open Sys2Proof Sys2Proof.Machine Sys2Proof.Claims

/-- Settles O48: the ends of MMA by the barge and by the count of its active lanes, its traps being REFORMED_BARGE and MMA_ELECT of
R259; and an element of D is the exact sum as R56 writes it. -/
theorem matrixWords : Obligations.MatrixWords := by
  refine ⟨fun d a b p q s g h => ?_, fun a b c clamp => mmaInteger_eq_written a b c clamp rfl⟩
  have hx := exec_mma_of_clear h
  refine ⟨fun reformed => hx.trans (congrArg done (if_pos reformed)), fun whole many => ?_, fun whole one => ?_⟩
  · have act := ne_zero_of_lanesIn_length_pos (Nat.zero_lt_of_lt many)
    rw [whole, if_neg Bool.false_ne_true, if_neg act, if_pos many] at hx
    exact hx
  · have act := ne_zero_of_lanesIn_length_pos (one ▸ Nat.zero_lt_one)
    rw [whole, if_neg Bool.false_ne_true, if_neg act, if_neg one.not_gt] at hx
    exact hx

end Sys2Proof.MatrixEngine
end

section
/-!
RAYINIT and the traversal stacks (R275, R281): how a result that a fill writes leaves its word (R25), and how TSPUSH and TSPOP
move the stack pointers of their lanes.
-/
namespace Sys2Proof.Machine
open Sys2Proof Sys2Proof.Claims

/-! ## Results that a fill writes -/

theorem KeepsControl.trans {a b c : Barge} (h : KeepsControl a b) (k : KeepsControl b c) : KeepsControl a c :=
  ⟨k.preds.trans h.preds, k.fctl.trans h.fctl, k.tag.trans h.tag, k.handler.trans h.handler, k.trap.trans h.trap,
    k.trapCode.trans h.trapCode, k.trapCause.trans h.trapCause, k.trapFrame.trans h.trapFrame, k.joins.trans h.joins,
    k.running.trans h.running, k.exited.trans h.exited⟩

theorem nonUniform_vector {d : Dst} (vector : isScalar d.spec = false) (active : Mask) (f : Nat → List Word) :
    nonUniform active d f = false := by
  rw [nonUniform, vector, Bool.false_and]

/-- A word whose flags come later leaves its destination empty too (R25, R72). -/
theorem Go.empties_flagged {g : Go} (act : g.active ≠ 0) (d : Dst) (t : Nat) :
    g.Empties (some d) (Barge.markEmpty { g.b with flagUntil := t } g.active d) := by
  have h := Go.empties_markEmpty (g := { g with b := { g.b with flagUntil := t } }) act d
  exact ⟨h.v, h.s, h.pcs, KeepsControl.trans (by constructor <;> rfl) h.control, h.empty⟩

/-- A vector result that a fill writes: its destination is empty, and the fill is due with the result of each active lane (R25). -/
theorem Go.writeFill_vector {g : Go} {d : Dst} (vector : isScalar d.spec = false) (act : g.active ≠ 0) (latency : Nat)
    (f : Nat → LaneResult) (s : State) :
    ∃ (fl : Flight) (b : Barge),
      g.writeFill d latency f s = g.finish b
        (({ s with nextId := s.nextId + 1, flights := s.flights.put s.nextId fl }).post latency .registerFill [s.nextId]) ∧
      g.Empties (some d) b ∧ fl.kind = .unit ∧ fl.dst = d.spec ∧ fl.words = d.words ∧ fl.flags = raisedFlags g.active f ∧
      fl.cause = enabledCause g.b.fctl.enable fl.flags ∧
      ∀ l, l < 32 → laneOn g.active l = true → fl.laneWords l = (f l).words := by
  simp only [Go.writeFill, nonUniform_vector vector, Bool.false_eq_true, if_false, if_neg act, raisedFlags_table]
  refine ⟨_, _, rfl, Go.empties_flagged act d _, rfl, rfl, rfl, rfl, rfl, fun l hl on => ?_⟩
  rw [← tableLane_eq g.active f hl on]
  show ((laneTable g.active f).map (·.words)).getD l [] = _
  exact List.getD_map (d := ({ words := [] } : LaneResult)) ..

/-- A word whose effect is such a result; the free values that it took are not seen. -/
theorem fills_of_exec {i : Instr} {s : State} {g : Go} {d : Dst} {latency next : Nat} {f : Nat → LaneResult}
    (hx : exec i s = done (g.writeFill d latency f { s with freeIdx := next })) (vector : isScalar d.spec = false)
    (act : g.active ≠ 0) : Fills i s g d latency f := by
  obtain ⟨fl, b, effect, emptied, result⟩ := Go.writeFill_vector vector act latency f { s with freeIdx := next }
  have m := Go.finish_post_machine g b { s with freeIdx := next } fl latency .registerFill [s.nextId]
  rw [effect] at hx
  refine ⟨_, fl, hx, ⟨KeepsMachine.rest ?_, rfl, rfl, _, Go.finish_barge .., emptied.v, emptied.s, emptied.control.pass ..,
    PassedWord.of_pass emptied.pcs _, emptied.empty⟩, result⟩
  exact ⟨m.barges, m.memory, m.localMem, m.tile, m.lines, m.versions, m.hub, m.towers, m.clusters, m.wgs, m.flights, m.agenda⟩

/-! ## Stack pointers -/

/-- The stack pointer of a lane (R281). -/
def Go.stackPointer (g : Go) (l : Nat) : Nat := ((g.val 0).w32 l).toNat

/-- The stack of a lane has no room for an entry. -/
def Go.stackFull (g : Go) (l : Nat) : Bool := decide (((g.val 2).w32 l).toNat < g.stackPointer l + 8)

/-- The active lanes whose stack holds an entry to pop. -/
def Go.stackHeld (g : Go) : Mask := maskOf fun l => laneOn g.active l && decide (((g.val 1).w32 l).toNat + 8 ≤ g.stackPointer l)

/-- The barge with new stack pointers in some lanes, for which later words wait until a cycle (R197). -/
def Go.withStackPointers (g : Go) (m : Mask) (r : BitVec 7) (pointer : Nat → Word) (t : Nat) : Barge :=
  let b := g.b.write m { spec := r } fun l => [pointer l]
  Barge.readyFrom { b with busyUntil := max b.busyUntil t } { spec := r } t

/-- The stack pointers of some lanes have moved, and no other register. -/
structure Go.Stacked (g : Go) (m : Mask) (r : BitVec 7) (pointer : Nat → Word) (b : Barge) : Prop where
  pointers : ∀ l, l < 32 → laneOn m l = true → b.vreg r.toNat l = pointer l
  registers : KeepsRegisters g.b b m { spec := r }
  control : KeepsControl g.b b
  pcs : b.pcs = g.b.pcs

section
variable {g : Go} {m : Mask} {r : BitVec 7} {pointer : Nat → Word}

theorem Go.stacked_withStackPointers (vector : isScalar r = false) (t : Nat) :
    g.Stacked m r pointer (g.withStackPointers m r pointer t) := by
  have control : KeepsControl g.b (g.b.write m { spec := r } fun l => [pointer l]) :=
    KeepsControl.write (by constructor <;> rfl) ..
  refine ⟨fun l hl on => ?_, (Barge.keeps_write ..).congr rfl rfl, control.trans (by constructor <;> rfl), Barge.pcs_write ..⟩
  have written := Barge.vreg_write g.b m { spec := r } (fun l => [pointer l]) vector (r := r.toNat) hl
  rw [if_pos ⟨on, le_rfl, Nat.lt_succ_self _⟩, Nat.sub_self] at written
  exact written

/-- A destination that a fill writes is empty besides. -/
theorem Go.Stacked.markEmpty {b : Barge} (h : g.Stacked m r pointer b) (act : g.active ≠ 0) (d : Dst) :
    g.Stacked m r pointer (b.markEmpty g.active d) ∧ (b.markEmpty g.active d).marked g.active d := by
  have e := Go.empties_markEmpty (g := { g with b }) act d
  exact ⟨⟨fun l hl on => (Barge.vreg_congr e.v _ _).trans (h.pointers l hl on), h.registers.congr e.v e.s,
    h.control.trans e.control, e.pcs.trans h.pcs⟩, e.empty⟩

/-- What the barge has after its word. -/
theorem Go.Stacked.pass {b : Barge} (h : g.Stacked m r pointer b) (now : Nat) :
    let b' := b.pass now g.group g.addr g.pre g.replay
    (∀ l, l < 32 → laneOn m l = true → b'.vreg r.toNat l = pointer l) ∧ KeepsRegisters g.b b' m { spec := r } ∧
      KeepsControl g.b b' ∧ PassedWord g b' :=
  ⟨h.pointers, h.registers.congr rfl rfl, h.control.pass .., PassedWord.of_pass h.pcs _⟩

end

/-! ## The words -/

/-- The entries that TSPUSH stores: none of a helper lane (log 76). -/
def Go.pushFlight (g : Go) (s : State) (places : List (Nat × Nat)) : Flight :=
  { g.flight s (.loc true) ((places.filter fun x => !laneOn g.b.helpers x.1).map fun x =>
      { lane := x.1, va := x.2, size := 8, data := bytesOf (g.val 1) x.1 8 }) with
    space := .loc, translating := false, captured := false }

/-- The entries that TSPOP loads; a lane without one gets all ones (R281). -/
def Go.popFlight (g : Go) (s : State) (d : BitVec 7) (places : List (Nat × Nat)) : Flight :=
  { g.flight s (.loc false) (places.map fun x => { lane := x.1, va := x.2, size := 8 }) with
    dst := d, words := 2, width := 8, signed := false, space := .loc, translating := false
    result := List.replicate 32 [0xFFFFFFFF, 0xFFFFFFFF] }

section
variable {s : State} {g : Go} {d a b : BitVec 7} {p q : BitVec 1}

theorem exec_rayinit_of_clear (h : Clear (.rayinit d p) s g) :
    exec (.rayinit d p) s = done (g.writeFill { spec := d + 8, words := 8 } 16 (fun l =>
      { words := rayInit ((List.range 8).map ((g.val 0).word l)) (Config.freeValue (s.freeIdx + l)).toNat })
      { s with freeIdx := s.freeIdx + 32 }) := by
  show execRayinit d p s = _
  exact issueWord_of_clear h _

/-- TSPUSH to a full stack traps with the lanes whose stacks are. -/
theorem exec_tspush_of_full (h : Clear (.tspush d a b p q) s g) (act : g.active ≠ 0) {l : Nat}
    (full : (lanesIn g.active).find? g.stackFull = some l) :
    exec (.tspush d a b p q) s = done (g.trap
      { cause := 0x53, lanes := maskOf fun j => laneOn g.active j && g.stackFull j
        va := BitVec.ofNat 64 (g.stackPointer l) } s) := by
  obtain ⟨rest, first⟩ := filter_of_find? full
  rw [← maskOf_contains_lanes, first]
  unfold Go.stackFull Go.stackPointer at first
  show execTspush d a b p q s = _
  unfold execTspush
  rw [show shapeTspush d a b p q = shapeOf (.tspush d a b p q) from rfl, issueWord_of_clear h]
  simp only [if_neg act, first]
  rfl

/-- TSPUSH to stacks with room goes to the places of its entries, or traps where one has none. -/
theorem exec_tspush_of_room (h : Clear (.tspush d a b p q) s g) (act : g.active ≠ 0)
    (room : (lanesIn g.active).any g.stackFull = false) :
    (∀ x, placeLanes g.active g.stackPointer (s.nearPlace g .loc 8) = .error x →
      exec (.tspush d a b p q) s = done (g.trap x s)) ∧
    (∀ places, placeLanes g.active g.stackPointer (s.nearPlace g .loc 8) = .ok places →
      exec (.tspush d a b p q) s = done (g.sendNow
        (g.withStackPointers g.active d (fun l => (g.val 0).w32 l + 8) (s.now + 4)) (g.pushFlight s places) s)) := by
  have noneFull := filter_of_any room
  have data (l : Nat) := dataBytes_eq_bytesOf (g.val 1) l (n := 8) (by decide)
  unfold Go.stackFull Go.stackPointer at noneFull
  unfold Go.stackPointer State.nearPlace
  show (∀ _, _ → execTspush d a b p q s = _) ∧ ∀ _, _ → execTspush d a b p q s = _
  unfold execTspush
  rw [show shapeTspush d a b p q = shapeOf (.tspush d a b p q) from rfl, issueWord_of_clear h]
  refine ⟨fun x misplaced => ?_, fun places placed => ?_⟩
  · simp only [if_neg act, noneFull, misplaced]
  · simp only [if_neg act, noneFull, placed, data]
    rfl

/-- TSPOP goes to the places of its entries, or traps where one has none. -/
theorem exec_tspop_of_clear (h : Clear (.tspop d a b p q) s g) (act : g.active ≠ 0) :
    (∀ x, placeLanes g.stackHeld (fun l => g.stackPointer l - 8) (s.nearPlace g .loc 8) = .error x →
      exec (.tspop d a b p q) s = done (g.trap x s)) ∧
    (∀ places, placeLanes g.stackHeld (fun l => g.stackPointer l - 8) (s.nearPlace g .loc 8) = .ok places →
      exec (.tspop d a b p q) s = done (g.sendNow
        ((g.withStackPointers g.stackHeld a (fun l => (g.val 0).w32 l - 8) (s.now + 4)).markEmpty g.active
          { spec := d, words := 2 }) (g.popFlight s d places) s)) := by
  unfold Go.stackHeld Go.stackPointer State.nearPlace
  show (∀ _, _ → execTspop d a b p q s = _) ∧ ∀ _, _ → execTspop d a b p q s = _
  unfold execTspop
  rw [show shapeTspop d a b p q = shapeOf (.tspop d a b p q) from rfl, issueWord_of_clear h]
  refine ⟨fun x misplaced => ?_, fun places placed => ?_⟩
  · simp only [if_neg act, misplaced]
  · simp only [if_neg act, placed]
    rfl

end

end Sys2Proof.Machine

namespace Sys2Proof.Rays
open Sys2Proof Sys2Proof.Machine Sys2Proof.Claims

/-- Settles O50: RAYINIT's result comes by a fill, and TSPUSH and TSPOP send their entries with the stack pointers moved. RAYINIT's
axis for a direction with a NaN is the model's own choice (log 71), and so is that a helper lane of TSPUSH stores nothing (log 76). -/
theorem raysAndStacks : Obligations.RaysAndStacks := by
  refine ⟨fun d p s g h act vector => fills_of_exec (exec_rayinit_of_clear h) vector act,
    fun d a b p q s g h act => ?_, fun d a b p q s g h act => ?_⟩
  · refine ⟨fun l full => exec_tspush_of_full h act full, fun room => ?_⟩
    obtain ⟨misplaced, placed⟩ := exec_tspush_of_room h act room
    refine ⟨misplaced, fun places found vector => ?_⟩
    obtain ⟨pointers, registers, control, passed⟩ := (Go.stacked_withStackPointers (g := g) (m := g.active)
      (pointer := fun l => (g.val 0).w32 l + 8) vector (s.now + 4)).pass s.now
    exact ⟨_, _, _, placed places found, Go.finish_barge .., rfl, rfl, pointers, registers, control, passed⟩
  · obtain ⟨misplaced, placed⟩ := exec_tspop_of_clear h act
    refine ⟨misplaced, fun places found vector => ?_⟩
    obtain ⟨stacked, empty⟩ := (Go.stacked_withStackPointers (g := g) (m := g.stackHeld)
      (pointer := fun l => (g.val 0).w32 l - 8) vector (s.now + 4)).markEmpty act { spec := d, words := 2 }
    obtain ⟨pointers, registers, control, passed⟩ := stacked.pass s.now
    exact ⟨_, _, g.popFlight s d places, placed places found, Go.finish_barge .., rfl, rfl, rfl, rfl,
      fun l hl => List.getD_replicate _ hl, pointers, registers, control, passed, empty⟩

end Sys2Proof.Rays
end

section
/-!
The words of graphics programs (R286, R292, R293, R297, R298): what VEXPORT, PEXPORT, ATTR and ZQUERY leave at their barge.
-/
namespace Sys2Proof.Machine
open Sys2Proof Sys2Proof.Claims

/-! ## Vertices and lanes -/

theorem leBytes_word (x : Word) : leBytes 4 x.toNat = (List.range 4).map fun j => x.extractLsb' (8 * j) 8 :=
  List.map_congr_left fun j _ => BitVec.eq_of_toNat_eq <| by
    rw [BitVec.toNat_ofNat, BitVec.extractLsb'_toNat, Nat.shiftRight_eq_div_pow, pow_mul]
    rfl

/-- The bytes of words one after the other (R6). -/
theorem flatten_leBytes_words (w : Nat → Word) (n : Nat) : ((List.range n).map fun k => leBytes 4 (w k).toNat).flatten =
    (List.range (4 * n)).map fun k => (w (k / 4)).extractLsb' (8 * (k % 4)) 8 := by
  induction n with
  | zero => rfl
  | succ n ih =>
    rw [List.range_succ, List.map_append, List.flatten_append, ih, Nat.mul_succ, List.range_add, List.map_append, List.map_map]
    congr 1
    rw [List.map_singleton, List.flatten_singleton, leBytes_word]
    refine List.map_congr_left fun j hj => ?_
    have below : j < 4 := List.mem_range.1 hj
    rw [Function.comp_apply, show (4 * n + j) / 4 = n by omega, show (4 * n + j) % 4 = j by omega]

theorem maskOf_eq_zero {p : Nat → Bool} : maskOf p = 0 ↔ ∀ l, l < 32 → p l = false :=
  ⟨fun zero l hl => by rw [← laneOn_maskOf p hl, zero]; exact BitVec.getLsbD_zero,
    fun none => maskOf_eq fun l hl => by rw [none l hl]; exact BitVec.getLsbD_zero⟩

/-- The mask of the failing lanes is empty where no lane fails. -/
theorem maskOf_lanes_eq_zero {m : Mask} {bad : Nat → Bool} :
    (maskOf fun l => laneOn m l && bad l) = 0 ↔ (lanesIn m).filter bad = [] := by
  simp only [maskOf_eq_zero, List.filter_eq_nil_iff, mem_lanesIn, and_imp, Bool.and_eq_false_imp, Bool.not_eq_true]

/-! ## VEXPORT -/

/-- The number of a lane's primitive (R286). -/
def Go.primitive (g : Go) (l : Nat) : Nat := ((g.val 1).w32 l).toNat % 2 ^ 20

/-- Is a lane's number out of range, released or waiting, or given by a lower lane too (R286, log 70)? -/
def Go.badPrimitive (g : Go) (s : State) (d : Nat) (x : Draw) (l : Nat) : Bool :=
  decide (x.last < g.primitive l) || s.exported (towerOf g.core) d x (x.first + g.primitive l)
    || (lanesIn g.active).any fun j => decide (j < l ∧ g.primitive j = g.primitive l)

/-- The primitives of VEXPORT on their way to setup. -/
def Go.exportFlight (g : Go) (s : State) (d : Nat) (x : Draw) : Flight :=
  { g.flight s .vexport (perLane g fun l =>
      { lane := l, va := x.first + g.primitive l, size := 48, data := bytesOf (g.val 0) l 48 }) with
    translating := false, sent := true, captured := false, tag := d }

/-- A release at device scope begins, and the primitives follow it (R286, R331). -/
def Go.exports (g : Go) (s : State) (d : Nat) (x : Draw) : State :=
  (g.finish g.b { withRel s { core := g.core, slot := g.slot, ctx := g.b.ctx, scope := 5
                              after := .post [(0, { what := .setupTake, args := [towerOf g.core, s.nextId + 1] })] } with
    nextId := s.nextId + 2, flights := s.flights.put (s.nextId + 1) (g.exportFlight s d x) }).relRun s.nextId relFuel

section
variable {s : State} {g : Go}

section
variable {a b : BitVec 7} {p q : BitVec 1} (h : Clear (.vexport a b p q) s g) (act : g.active ≠ 0)
include h act

/-- Outside a vertex program of a draw VEXPORT is not known (R298). -/
theorem exec_vexport_of_outside (outside : g.b.gfx = false ∨ g.b.pixelProgram = true ∨ s.drawOf g.b = none) :
    exec (.vexport a b p q) s = done (g.trap { cause := 0x0E } s) := by
  show execVexport a b p q s = _
  unfold execVexport
  rw [show shapeVexport a b p q = shapeOf (.vexport a b p q) from rfl, issueWord_of_clear h, if_neg act]
  by_cases program : (!g.b.gfx || g.b.pixelProgram) = true
  · rw [if_pos program]
  · obtain ⟨gfx, vertex⟩ : ¬ g.b.gfx = false ∧ ¬ g.b.pixelProgram = true := by
      simpa only [Bool.or_eq_true, Bool.not_eq_true', not_or] using program
    rw [if_neg program, (outside.resolve_left gfx).resolve_left vertex]

/-- Within one it traps by its bad numbers, or exports. -/
theorem exec_vexport_of_draw {d : Nat} {x : Draw} (gfx : g.b.gfx = true) (vertex : g.b.pixelProgram = false)
    (draw : s.drawOf g.b = some (d, x)) :
    exec (.vexport a b p q) s = done (if (maskOf fun l => laneOn g.active l && g.badPrimitive s d x l) = 0 then g.exports s d x
      else g.trap { cause := 0x0F, lanes := maskOf fun l => laneOn g.active l && g.badPrimitive s d x l } s) := by
  have data (l : Nat) := flatten_leBytes_words ((g.val 0).word l) 12
  have good : (maskOf fun l => laneOn g.active l && g.badPrimitive s d x l) = 0 ↔
      ¬ (!((lanesIn g.active).filter (g.badPrimitive s d x)).isEmpty) = true := by
    rw [maskOf_lanes_eq_zero, Bool.not_eq_true', Bool.not_eq_false, List.isEmpty_iff]
  rw [if_congr good rfl rfl, ite_not, ← maskOf_contains_lanes]
  show execVexport a b p q s = _
  unfold execVexport
  rw [show shapeVexport a b p q = shapeOf (.vexport a b p q) from rfl, issueWord_of_clear h, if_neg act,
    if_neg (by simp [gfx, vertex]), draw]
  simp only [data]
  rfl

end

/-! ## PEXPORT -/

/-- Are exports to a target dropped: nothing is bound there, or the depth was tested early (R293)? -/
def Draw.drops (x : Draw) (t : BitVec 7) : Bool := if t = 4 then x.early else decide ((drawTarget x.desc t.toNat).1 = 0)

/-- What a lane exports: a depth, clamped (log 76), or four words (R293). -/
def Go.exportValue (g : Go) (t : BitVec 7) (l : Nat) : List Word :=
  if t = 4 then
    let z := Fmt.f32.value ((g.val 0).w32 l).toNat
    [if z.isNan then 0 else BitVec.ofNat 32 (Machine.round .f32 .rn {} (z.clamp (.zero false) (.mag false 1 0 false))).code]
  else [(g.val 0).word l 0, (g.val 0).word l 1, (g.val 0).word l 2, (g.val 0).word l 3]

/-- The record of a lane's pixel: that of an active lane that is covered holds what the lane exports. -/
def Go.exportTo (g : Go) (x : Draw) (t : BitVec 7) (l : Nat) (z : Pixel) : Pixel :=
  if x.drops t = false ∧ laneOn g.active l = true ∧ z.covered = true then
    { z with exports := z.exports.put t.toNat (g.exportValue t l) } else z

/-- The barge after a PEXPORT. -/
def Go.exporting (g : Go) (x : Draw) (t : BitVec 7) : Barge := { g.b with pixels := g.b.pixels.mapIdx (g.exportTo x t) }

section
variable {t a : BitVec 7} {p : BitVec 1} (h : Clear (.pexport t a p) s g) (act : g.active ≠ 0)
include h act

theorem exec_pexport_of_outside (outside : g.b.pixelProgram = false) :
    exec (.pexport t a p) s = done (g.trap { cause := 0x0E } s) := by
  show execPexport t a p s = _
  unfold execPexport
  rw [show shapePexport t a p = shapeOf (.pexport t a p) from rfl, issueWord_of_clear h, if_neg act]
  simp only [outside, Bool.not_false, if_true]

theorem exec_pexport_of_draw {d : Nat} {x : Draw} (pixel : g.b.pixelProgram = true) (draw : s.drawOf g.b = some (d, x)) :
    exec (.pexport t a p) s = done (g.finish (g.exporting x t) s) := by
  show execPexport t a p s = _
  unfold execPexport
  rw [show shapePexport t a p = shapeOf (.pexport t a p) from rfl, issueWord_of_clear h, if_neg act]
  rw [if_neg (by simp [pixel]), draw]
  refine congrArg (fun give => done (g.finish { g.b with pixels := g.b.pixels.mapIdx give } s)) (funext₂ fun l z => ?_)
  exact if_congr (by rw [Bool.and_eq_true, Bool.and_eq_true, Bool.not_eq_true', and_assoc]; rfl) rfl rfl

end

theorem Go.exporting_control (g : Go) (x : Draw) (t : BitVec 7) : KeepsControl g.b (g.exporting x t) := by
  constructor <;> rfl

theorem Go.exporting_pcs (g : Go) (x : Draw) (t : BitVec 7) : (g.exporting x t).pcs = g.b.pcs := rfl

theorem Go.exporting_pixel (g : Go) (x : Draw) (t : BitVec 7) {l : Nat} (hl : l < g.b.pixels.length) :
    (g.exporting x t).pixels.getD l {} = g.exportTo x t l (g.b.pixels.getD l {}) := by
  simp only [Go.exporting, List.getD_eq_getElem?_getD, List.getElem?_mapIdx, List.getElem?_eq_getElem hl, Option.map_some,
    Option.getD_some]

/-! ## ATTR and ZQUERY -/

/-- The reads of ATTR: of each active lane's primitive, the value of every vertex, or of the first where it is flat (R292). -/
def Go.attrAccs (g : Go) (x : Draw) (k : BitVec 7) : List LaneAcc :=
  ((lanesIn g.active).map fun l => (List.range (if g.pre.aux = 1 then 1 else 3)).map fun j =>
    ({ lane := l, size := 4, va := (wide56 (drawField x.desc 2 0 56)
        + ((3 * (g.b.pixels.getD l {}).prim + j) * drawField x.desc 0 19 5 + k.toNat) * 4) % 2 ^ 64 } : LaneAcc)).flatten

section
variable {d k : BitVec 7} (h : Clear (.attr d k) s g) (act : g.active ≠ 0)
include h act

theorem exec_attr_of_outside (outside : g.b.pixelProgram = false ∨ s.drawOf g.b = none) :
    exec (.attr d k) s = done (g.trap { cause := 0x0E } s) := by
  show execAttr d k s = _
  unfold execAttr
  rw [show shapeAttr d = shapeOf (.attr d k) from rfl, issueWord_of_clear h, if_neg act]
  cases pixel : g.b.pixelProgram with
  | false => rfl
  | true =>
    have none : s.drawOf g.b = none := outside.resolve_left (by simp [pixel])
    rw [none]
    rfl

theorem exec_attr_of_draw {e : Nat} {x : Draw} (pixel : g.b.pixelProgram = true) (draw : s.drawOf g.b = some (e, x)) :
    exec (.attr d k) s = done (if drawField x.desc 0 19 5 ≤ k.toNat then g.trap { cause := 0x0F } s
      else g.launch (g.b.markEmpty g.active { spec := d })
        { g.flight s .attr (g.attrAccs x k) with dst := d, words := 1 } s) := by
  show execAttr d k s = _
  unfold execAttr
  rw [show shapeAttr d = shapeOf (.attr d k) from rfl, issueWord_of_clear h, if_neg act]
  simp only [pixel, draw, Bool.not_true, Bool.false_eq_true, if_false]
  rfl

end

/-- ZQUERY's answer is due 40 cycles later (R297). -/
theorem exec_zquery_of_clear {d : BitVec 7} (h : Clear (.zquery d) s g) (act : g.active ≠ 0) :
    exec (.zquery d) s = done (if g.b.pixelProgram = false then g.trap { cause := 0x0E } s
      else (g.finish (g.b.markEmpty g.active { spec := d }) { s with
        nextId := s.nextId + 1
        flights := s.flights.put s.nextId { g.flight s .zquery [] with
          translating := false, sent := true, dst := d, words := 1 } }).post 40 .registerFill [s.nextId]) := by
  show execZquery d s = _
  unfold execZquery
  rw [show shapeZquery d = shapeOf (.zquery d) from rfl, issueWord_of_clear h, if_neg act]
  simp only [Bool.not_eq_true']
  rfl

end

end Sys2Proof.Machine

namespace Sys2Proof.Graphics
open Sys2Proof Sys2Proof.Machine Sys2Proof.Claims

/-- Settles O54: each word traps outside its kind of program, and within one has its effect. That a number given twice in one word is
refused, and what of a number counts as given before, is the model's own choice (log 70), and so is the code of a depth of −0
(log 76). -/
theorem graphicsWords : Obligations.GraphicsWords := by
  refine ⟨fun a b p q s g h act => ⟨exec_vexport_of_outside h act, fun d x gfx vertex draw => ?_⟩,
    fun t a p s g h act => ⟨exec_pexport_of_outside h act, fun d x pixel draw => ?_⟩,
    fun d k s g h act => ⟨exec_attr_of_outside h act, fun e x pixel draw => ?_⟩, fun d s g h act => ?_⟩
  · have hx := exec_vexport_of_draw h act gfx vertex draw
    exact ⟨fun bad => hx.trans (congrArg done (if_neg bad)), fun good => hx.trans (congrArg done (if_pos good))⟩
  · exact ⟨_, _, exec_pexport_of_draw h act pixel draw, (Go.finish_machine ..).rest, Go.finish_barge .., rfl, rfl,
      (g.exporting_control x t).pass .., PassedWord.of_pass (g.exporting_pcs x t) _, List.length_mapIdx,
      fun l hl => g.exporting_pixel x t hl⟩
  · have hx := exec_attr_of_draw h act pixel draw
    obtain ⟨b', left⟩ := (Go.empties_markEmpty act { spec := d }).leaves s s.nextId (s.nextId + 1) s.rels
      { g.flight s .attr (g.attrAccs x k) with dst := d, words := 1 }
    exact ⟨fun past => hx.trans (congrArg done (if_pos past)),
      fun named => ⟨_, b', hx.trans (congrArg done (if_neg named.not_ge)), left⟩⟩
  · have hx := exec_zquery_of_clear h act
    obtain ⟨b', left⟩ := (Go.empties_markEmpty act { spec := d }).leaves s s.nextId (s.nextId + 1) s.rels
      { g.flight s .zquery [] with translating := false, sent := true, dst := d, words := 1 }
    exact ⟨fun outside => hx.trans (congrArg done (if_pos outside)),
      fun pixel => ⟨_, b', hx.trans (congrArg done (if_neg (by simp [pixel]))), left⟩⟩

end Sys2Proof.Graphics
end

section
/-!
The integer arithmetic of the atomics (R311), and the global accesses that a release comes before (R315, R331, R378): the wide
address and the data of such an access as the spec's arithmetic states them, and how each word begins its release.
-/
namespace Sys2Proof.Machine
open Sys2Proof Sys2Proof.Claims

/-! ## Integer atomics -/

/-- Does a type of R311 compare as signed? -/
def AtomTy.signed (ty : AtomTy) : Bool := ty = .i32 ∨ ty = .i64

/-- Codes of one width that stand for the same integer are the same code. -/
theorem intOf_inj {signed : Bool} {w x y : Nat} (hx : x < 2 ^ w) (hy : y < 2 ^ w) (h : intOf signed w x = intOf signed w y) :
    x = y := by
  simp only [intOf_eq, Nat.mod_eq_of_lt hx, Nat.mod_eq_of_lt hy] at h
  have bound : ((2 ^ w : Nat) : Int) = 2 ^ w := by norm_cast
  split_ifs at h <;> omega

/-- The greater of the old value and the operand: the model keeps the old value where the two are equal. -/
theorem ite_intOf_lt_or_eq {signed : Bool} {w o v : Nat} (ho : o < 2 ^ w) (hv : v < 2 ^ w) :
    (if decide (intOf signed w v < intOf signed w o) || decide (o = v) then o else v) =
      if intOf signed w o < intOf signed w v then v else o := by
  rcases lt_trichotomy (intOf signed w o) (intOf signed w v) with less | same | greater
  · have : o ≠ v := fun e => (e ▸ less).false
    simp [less, less.not_gt, this]
  · simp [intOf_inj ho hv same]
  · simp [greater, greater.not_gt]

section
variable {ty : AtomTy} (integer : ty = .n32 ∨ ty = .i32 ∨ ty = .n64 ∨ ty = .i64) (o v c : Nat)
include integer

theorem atomNew_min : atomNew .min ty o v c =
    if intOf ty.signed (8 * ty.bytes) v < intOf ty.signed (8 * ty.bytes) o then v else o := by
  rcases integer with rfl | rfl | rfl | rfl <;> simp [atomNew, AtomTy.signed]

theorem atomNew_max (ho : o < 2 ^ (8 * ty.bytes)) (hv : v < 2 ^ (8 * ty.bytes)) : atomNew .max ty o v c =
    if intOf ty.signed (8 * ty.bytes) o < intOf ty.signed (8 * ty.bytes) v then v else o := by
  rw [← ite_intOf_lt_or_eq ho hv]
  rcases integer with rfl | rfl | rfl | rfl <;> rfl

end

/-! ## Accesses that wait for a release -/

/-- An index is a word without a sign, which a global address takes as it is (R29). -/
theorem toNat_setWidth_word (x : Word) : (x.setWidth 64).toNat = x.toNat := BitVec.toNat_setWidth_of_le (by decide)

/-- A global address takes the whole of a word's offset (R28, R29). -/
theorem Go.address_far (g : Go) (k l : Nat) {offset : Dword} {i : Int} (h : offset = BitVec.ofInt 64 i) :
    g.address k true offset l = address29 g k true i l := by
  simp only [Go.address, address29, if_true, h, toNat_add_add_ofInt, toNat_setWidth_word]
  cases g.pre.xopd.isSome <;> rfl

/-- The bytes of a number of any width, lowest first (R6). -/
theorem leBytes_toNat {w : Nat} (n : Nat) (x : BitVec w) :
    leBytes n x.toNat = (List.range n).map fun k => x.extractLsb' (8 * k) 8 :=
  List.map_congr_left fun k _ => BitVec.eq_of_toNat_eq <| by
    rw [BitVec.toNat_ofNat, BitVec.extractLsb'_toNat, Nat.shiftRight_eq_div_pow, pow_mul]
    rfl

section
variable {i : Instr} {s : State} {g : Go} {d b : BitVec 7} {p : BitVec 1}

/-- The class 16 store to global memory with a release (R329, R331). -/
theorem execSyncSt_releases {w : BitVec 3} (sc : BitVec 3) (hs : shapeOf i = syncShape d b w p true) (h : Clear i s g)
    (act : g.active ≠ 0) (far : g.pre.aux = 0) :
    execSyncSt d b sc 2 w p s = done (g.launchReleased sc.toNat false g.b (storingAt g s sc w).flight s) := by
  have address := funext fun l => g.address_far 1 l (offset := 0) (i := 0) rfl
  have data (l : Nat) := dataBytes_eq_bytesOf (g.val 0) l (width44_le w)
  have space : g.pre.space = .glob := by simp [Pre.space, far]
  unfold execSyncSt
  rw [← hs, issueWord_of_clear h]
  simp only [syncBytes_eq, space, decide_true, address, data, if_neg act, Go.syncStore]
  rfl

theorem mxElem_width (k : BitVec 3) : (mxElem k.toNat).width = if k.toNat % 3 = 2 then 4 else 8 := by
  revert k
  decide

/-- MXACC with a release, to the one block that its lanes name (R320, R331). -/
theorem execMxacc_releases {k : BitVec 3} (sc : BitVec 3) (hs : shapeOf i = shapeMxacc d b p) (h : Clear i s g)
    (act : g.active ≠ 0) (legal : (blockAdding g s sc k).legal = true) :
    execMxacc d b sc 2 k p s = done (g.launchReleased sc.toNat false g.b (blockAdding g s sc k).flight s) := by
  have address := funext fun l => g.address_far 1 l (offset := 0) (i := 0) rfl
  have data (l : Nat) := dataBytes_eq_bytesOf (g.val 0) l (n := 4) (by decide)
  unfold execMxacc
  rw [← hs, issueWord_of_clear h]
  simp only [address, data, mxElem_width, Go.addressesDiffer_of_oneAddress legal, Bool.false_eq_true, if_false, if_neg act, if_true]
  rfl

/-- SIGNAL: a store of 8 bytes that is released at device scope, UO pages included (R378). -/
theorem execSignal_releases {a : BitVec 7} {q : BitVec 1} (h : Clear (.signal a b p q) s g) (act : g.active ≠ 0) :
    execSignal a b p q s = done (g.launchReleased 5 true g.b { g.flight s (.store true)
      [{ lane := (lowestLane g.active).getD 0, va := (g.val 0).dword.toNat, size := 8
         data := (List.range 8).map fun k => (g.val 1).dword.extractLsb' (8 * k) 8 }] with
      write := true, captured := false, alignTo := 8, recording := true, hint := signalHint
      record := some (g.core, (s.core g.core).seq.toNat) } s) := by
  obtain ⟨iss, -, issuing, -⟩ := h.issues
  unfold execSignal
  rw [show shapeSignal a b p q = shapeOf (.signal a b p q) from rfl, issueWord_of_clear h, if_neg act, leBytes_toNat, issuing]
  rfl

theorem bytes_atomType_le (t : BitVec 3) : (atomType t).bytes ≤ 16 := by
  revert t
  decide

/-- ATOM and RED on global memory with a release (R310 to R312, R315, R331). -/
theorem atomic_releases {op : AtomOp} {red : Bool} (sc : BitVec 3) {r : BitVec 2} {t : BitVec 3}
    (hs : shapeOf i = shapeAtomic op red (atomType t).bytes d b p) (h : Clear i s g) (act : g.active ≠ 0)
    (far : g.pre.aux % 2 = 0) (order : 2 ≤ r.toNat) :
    ∃ b', g.Empties (atomically g s op red d sc r t).dst b' ∧
      atomic op red d b sc r t p s = done (g.launchReleased sc.toNat false b' (atomically g s op red d sc r t).flight s) := by
  have data (k l : Nat) := dataBytes_eq_bytesOf (g.val k) l (bytes_atomType_le t)
  have glob : g.pre.atomLocal = false := by simp [Pre.atomLocal, far]
  have ordered : r.toNat ≠ 0 := by omega
  refine ⟨_, g.empties_updating act red { spec := d, words := (atomType t).bytes / 4 }, ?_⟩
  unfold atomic
  show issueWord (shapeAtomic op red (atomType t).bytes d b p) s _ = _
  rw [← hs, issueWord_of_clear h]
  simp only [glob, Bool.false_eq_true, if_false, if_neg act, data, Bool.not_false, Bool.and_true, BitVec.toNat_add,
    toNat_setWidth_word, apply_ite BitVec.toNat, if_pos order, ordered, decide_false, Bool.and_false]
  simp only [atomically, ordered, order, beq_eq_decide, decide_false, Bool.and_false, Bool.false_eq_true, if_false]
  cases red <;> rfl

end

/-- A clear word with a global access that a release comes before begins that release, with its destination empty. The cases are
those of `releasedAccess`, in its order: the store of class 16, MXACC, SIGNAL and the atomics. -/
theorem exec_releasedAccess {i : Instr} {s : State} {g : Go} {a : Access} {scope : Nat} {uo : Bool}
    (hi : releasedAccess i g s = some (a, scope, uo)) (h : Clear i s g) (act : g.active ≠ 0) (legal : a.legal = true) :
    ∃ b', g.Empties a.dst b' ∧ exec i s = done (g.launchReleased scope uo b' a.flight s) := by
  unfold releasedAccess at hi
  split at hi
  case h_1 =>
    split at hi <;> cases hi
    next released =>
    obtain ⟨far, rfl⟩ := released
    exact ⟨_, g.empties_none, execSyncSt_releases _ rfl h act far⟩
  case h_2 =>
    split at hi <;> cases hi
    next order =>
    subst order
    exact ⟨_, g.empties_none, execMxacc_releases _ rfl h act legal⟩
  case h_3 =>
    cases hi
    exact ⟨_, g.empties_none, execSignal_releases h act⟩
  case h_4 =>
    split at hi
    · next word =>
      split at hi <;> cases hi
      next released =>
      obtain ⟨order, far⟩ := released
      obtain ⟨b, p, hs, hx⟩ := exec_of_atomicWord word
      obtain ⟨b', emptied, hb⟩ := atomic_releases _ hs h act far order
      exact ⟨b', emptied, (hx s).trans hb⟩
    · cases hi

end Sys2Proof.Machine

namespace Sys2Proof.MemoryLayer
open Sys2Proof Sys2Proof.Machine Sys2Proof.Claims

/-- Settles O41: MIN and MAX compare the integers that the codes stand for; the other operations do not read the type's sign. -/
theorem atomicIntegers : Obligations.AtomicIntegers := by
  intro op ty o v c integer ho hv _ w num
  have num_eq {x : Nat} (hx : x < 2 ^ w) : num x = intOf ty.signed w x := by
    simp only [num, intOf_eq, Nat.mod_eq_of_lt hx, AtomTy.signed, decide_eq_true_eq]
  cases op with
  | min => simpa only [num_eq ho, num_eq hv] using atomNew_min integer o v c
  | max => simpa only [num_eq ho, num_eq hv] using atomNew_max integer o v c ho hv
  | add | and | or | xor | exch | cas => rcases integer with rfl | rfl | rfl | rfl <;> rfl

/-- Settles O37: the word's flight enters the machine with the number of the release that it waits for, and that release sends it
when it is complete. -/
theorem releasedAccessesGoOut : Obligations.ReleasedAccessesGoOut := by
  intro i s g a scope uo hi h act legal
  obtain ⟨b', emptied, hx⟩ := exec_releasedAccess hi h act legal
  obtain ⟨b'', left⟩ := emptied.leaves s (s.nextId + 1) (s.nextId + 2)
    (s.rels.put s.nextId { core := g.core, slot := g.slot, ctx := g.b.ctx, scope, uo, after := .sendFlight (s.nextId + 1) })
    { a.flight with release := some s.nextId }
  exact ⟨_, b'', hx, left, rfl⟩

end Sys2Proof.MemoryLayer
end

section
/-!
What a step does with an event: the one that is due is taken, and it completes (95_what_each_step_holds.md; log 5).
-/
namespace Sys2Proof.Machine
open Sys2Proof Sys2Proof.Claims

/-- Settles O20: every branch of an event's meaning ends in `done`, which leaves nothing under way. -/
theorem eventsComplete : Obligations.EventsComplete := by
  intro i s event legal
  obtain ⟨t, finished⟩ := exec_event_finishes s event legal
  exact ⟨t.rest, finished, rfl, rfl⟩

/-- Settles O19: the head of the agenda is due, so the turn is its event. That it comes before any barge issues is the
model's choice (log 5). -/
theorem stepTakesEvent : Obligations.StepTakesEvent := by
  intro s t e r head due legal power
  have takes : (s.powered || e.what == .powerUp) = true := by simpa using power
  have turn : s.turn = exec e.what { s with agenda := r, args := e.args, issue := none } := by
    unfold State.turn
    rw [head]
    simp only [if_pos due, State.runEvent, legal, takes, Bool.and_self, if_true]
  unfold step
  rw [turn]
  rfl

end Sys2Proof.Machine
end

section
/-!
Taking a trap (R384, R387, R397): what `State.takeTrap` leaves where its barge has no trap yet, and with it the traps of words, TRAP
and BRK.
-/
namespace Sys2Proof.Machine
open Sys2Proof Sys2Proof.Claims

/-! ## The entries that a trap lists -/

/-- Entries put under other keys leave what is found under this one. -/
theorem Tab.look_foldl_put_other {α β : Type} {key : β → Nat} {val : β → α} {k : Nat} {l : List β}
    (other : ∀ p ∈ l, k ≠ key p) (t : Tab α) : (l.foldl (fun t p => Tab.put t (key p) (val p)) t).look k = t.look k := by
  induction l generalizing t with
  | nil => rfl
  | cons p l ih =>
    rw [List.foldl_cons, ih fun q hq => other q (List.mem_cons_of_mem _ hq),
      Tab.look_put_other _ _ (other p (List.mem_cons_self ..))]

/-- The chains that a trap captures: the unfinished words, those stopped before, the word itself, and last those that wait to be
re-injected (R384, R388). -/
def State.trapEntries (s : State) (core slot : Nat) (b : Barge) (entry : Option (Nat × Entry)) : Tab Entry :=
  let stopped := (b.stop.getD []).foldl (fun t p => Tab.put t p.1 p.2)
    ((capturedFlights s core slot).map fun f => (f.1, f.2.entry))
  let listed := match entry with
    | some (id, e) => Tab.put stopped id e
    | none => stopped
  b.reinject.zipIdx.foldl (fun t p => Tab.put t (s.nextId + p.2) p.1) listed

/-- A word that has issued is listed under its number. -/
theorem State.look_trapEntries {s : State} {id : Nat} (issued : id < s.nextId) (core slot : Nat) (b : Barge) (e : Entry) :
    (s.trapEntries core slot b (some (id, e))).look id = some e := by
  unfold State.trapEntries
  rw [Tab.look_foldl_put_other (fun p _ => by omega)]
  exact Tab.look_put_same ..

/-! ## What a trap leaves -/

/-- The record of a trap (R387). -/
def State.trapRecord (s : State) (core slot : Nat) (b : Barge) (x : Cause) (first : Dword) (entry : Option (Nat × Entry)) :
    TrapRec :=
  { cause := x.cause, code := x.code, lanes := x.lanes, va := x.va, first, entries := s.trapEntries core slot b entry,
    semFault := x.semFault, cycle := s.now, notBefore := max s.now b.busyUntil }

/-- The event that a trap asks for: the handler, or R397's outcome. -/
def State.trapEvent (s : State) (core slot : Nat) (b : Barge) (cause : BitVec 8) (va : Dword) : Event :=
  if b.handler then { what := .unrecoverableFault, args := [core, slot, 0xB3, 0] }
  else if unrecoverableCause cause = true ∨ (s.ctx b.ctx).trapEntry = 0
      ∨ (b.chunkSlot.isSome = true ∧ (cause = 0x40 ∨ cause = 0x43)) then
    { what := .unrecoverableFault, args := [core, slot, cause.toNat, va.toNat] }
  else { what := .handlerEntry, args := [core, slot] }

theorem State.trapStep_eq (s : State) (core slot : Nat) (b : Barge) (r : TrapRec) :
    s.trapStep core slot b r =
      { s with agenda := agendaInsert s.now (s.trapEvent core slot b r.cause r.va) s.agenda } := by
  unfold State.trapStep State.trapEvent
  simp only [Bool.or_eq_true, decide_eq_true_eq, Bool.and_eq_true, or_assoc]
  split
  · rfl
  · split <;> rfl

/-- A barge after it takes a trap: it is as it was, but that it has stopped with the trap's record. -/
def Barge.trapped (b : Barge) (r : TrapRec) (memWait : List Nat) (wait : Wait) : Barge :=
  { b with memWait, wait, trap := some r, stop := none, reinject := [], chain := none, blocked := true }

/-- What a trap leaves where its barge `b` has none yet: the barge stopped, memory as it was, and the event asked for, unless the
barge waits at a barrier and the cause is not the watchdog's (R354, R384). -/
structure TrapTaken (s t : State) (core slot : Nat) (b : Barge) (x : Cause) (r : TrapRec) : Prop where
  barge : ∃ memWait wait, t.barge core slot = some (b.trapped r memWait wait)
  memory : ∀ a, t.byteAt a = s.byteAt a
  agenda : t.agenda = if b.waitBar.isSome = true ∧ x.cause ≠ 0x70 then s.agenda
    else agendaInsert s.now (s.trapEvent core slot b x.cause x.va) s.agenda

/-- A barge without a trap takes the one that comes. -/
theorem State.takeTrap_of_free {s : State} {core slot : Nat} {b : Barge} (hb : s.barge core slot = some b) (free : b.trap = none)
    (x : Cause) (first : Dword) (entry : Option (Nat × Entry)) :
    TrapTaken s (s.takeTrap core slot x first entry) core slot b x (s.trapRecord core slot b x first entry) := by
  unfold State.takeTrap
  rw [hb]
  dsimp -zeta only
  rw [free]
  dsimp -zeta only
  extract_lets caps stopped listed entries u r ids c
  split
  · next waits =>
    have waits : b.waitBar.isSome = true ∧ x.cause ≠ 0x70 := by simpa [c] using waits
    exact ⟨⟨_, _, State.barge_setBarge_same ..⟩, State.byteAt_congr rfl rfl, (if_pos waits).symm⟩
  · next goes =>
    have goes : ¬ (b.waitBar.isSome = true ∧ x.cause ≠ 0x70) := by simpa [c] using goes
    rw [State.trapStep_eq]
    exact ⟨⟨_, _, State.barge_setBarge_same ..⟩, State.byteAt_congr rfl rfl, (if_neg goes).symm⟩

/-- A barge that has passed its word and then stopped is one that takes the trap (R384). -/
theorem Barge.trapsAs_trapped {g : Go} {x : Cause} {b : Barge} {r : TrapRec} (hv : b.v = g.b.v) (hs : b.s = g.b.s)
    (control : KeepsControl g.b b) (cause : r.cause = x.cause ∧ r.code = x.code ∧ r.lanes = x.lanes ∧ r.va = x.va)
    (first : r.first = g.first) (memWait : List Nat) (wait : Wait) : TrapsAs g x (b.trapped r memWait wait) := by
  obtain ⟨hcause, hcode, hlanes, hva⟩ := cause
  exact ⟨hv, hs, control.preds, control.fctl, control.tag, control.joins, control.running, control.exited, rfl,
    r, rfl, hcause, hcode, hlanes, hva, first⟩

/-! ## Traps of words -/

theorem State.noteIssue_trapEntry (s : State) (core slot ctx : Nat) (unit : Option Nat) (occupancy : Nat) :
    ((s.noteIssue core slot ctx unit occupancy).ctx ctx).trapEntry = (s.ctx ctx).trapEntry := by
  simp [State.noteIssue]

/-- Settles O29: the barge has passed its word when it takes the trap, and the word's own number is older than those that the chains
to re-inject get. Where the threads of a trapping word stand is the model's choice (log 12). -/
theorem trapsArePrecise : Obligations.TrapsArePrecise := by
  intro g x s _ free
  let c := g.b.pass s.now g.group g.addr g.pre g.replay
  let u := ({ s with nextId := s.nextId + 1 }.setBarge g.core g.slot c).noteIssue g.core g.slot g.b.ctx none 0
  have hc : u.barge g.core g.slot = some c := by simp [u, State.noteIssue]
  have entry : (u.ctx c.ctx).trapEntry = (s.ctx g.b.ctx).trapEntry := State.noteIssue_trapEntry ..
  obtain ⟨⟨memWait, wait, barge⟩, memory, agenda⟩ :=
    State.takeTrap_of_free hc free x g.first (some (s.nextId, g.entry true))
  refine ⟨_, _, barge, Barge.trapsAs_trapped (b := c) rfl rfl (Barge.pass_control ..) ⟨rfl, rfl, rfl, rfl⟩ rfl _ _, rfl,
    State.look_trapEntries (Nat.lt_succ_self s.nextId) .., PassedWord.of_pass rfl s.now, ?_, ?_, ?_⟩
  · exact fun a => (memory a).trans (State.byteAt_congr rfl rfl a)
  · exact fun waits other => agenda.trans (if_pos ⟨waits, other⟩)
  · intro goes
    refine (agenda.trans (if_neg ?_)).trans ?_
    · rintro ⟨waits, other⟩
      rcases goes with goesOn | watchdog
      · simp [c, Barge.pass, goesOn] at waits
      · exact other watchdog
    · unfold State.trapEvent
      rw [entry]
      rfl

/-! ## TRAP and BRK (R392) -/

/-- BRK's group goes back to its chain's first word. -/
def Go.backAtFirst (g : Go) (b : Barge) : Barge :=
  { b with pcs := (List.range 32).map fun l => if laneOn g.group l then g.first else g.b.pcs.getD l 0 }

theorem Go.backAtFirst_pcs (g : Go) (b : Barge) {l : Nat} (hl : l < 32) :
    (g.backAtFirst b).pcs.getD l 0 = if laneOn g.group l then g.first else g.b.pcs.getD l 0 := by
  simp [Go.backAtFirst, List.getD_eq_getElem?_getD, hl]

section
variable {n : BitVec 8} {s : State} {g : Go}

theorem exec_trap_of_clear (h : Clear (.trap n) s g) (act : g.active ≠ 0) :
    exec (.trap n) s = done ((g.finish g.b s).takeTrap g.core g.slot { cause := 0x10, code := n } g.first none) := by
  show execTrap n s = _
  unfold execTrap
  rw [show bareShape = shapeOf (.trap n) from rfl, issueWord_of_clear h, if_neg act]

theorem exec_brk_of_clear (h : Clear (.brk n) s g) (act : g.active ≠ 0) :
    exec (.brk n) s = done (((g.finish g.b s).onBarge g.core g.slot g.backAtFirst).takeTrap g.core g.slot
      { cause := 0x11, code := n } g.first none) := by
  show execBrk n s = _
  unfold execBrk
  rw [show bareShape = shapeOf (.brk n) from rfl, issueWord_of_clear h, if_neg act]
  rfl

end

/-- Settles O57: the trap of TRAP is taken by the barge that has passed it, that of BRK by the barge whose group is back at its
chain's first word. -/
theorem programTraps : Obligations.ProgramTraps := by
  refine ⟨by decide, by decide, ?_⟩
  intro n brk s g i h act free
  let c := g.b.pass s.now g.group g.addr g.pre g.replay
  have control : KeepsControl g.b c := Barge.pass_control ..
  cases brk with
  | false =>
    have hc : (g.finish g.b s).barge g.core g.slot = some c := Go.finish_barge ..
    obtain ⟨⟨memWait, wait, barge⟩, memory, -⟩ :=
      State.takeTrap_of_free hc free { cause := 0x10, code := n } g.first none
    refine ⟨_, _, _, exec_trap_of_clear h act, barge,
      Barge.trapsAs_trapped (b := c) rfl rfl control ⟨rfl, rfl, rfl, rfl⟩ rfl _ _, rfl, rfl,
      fun l hl => ?_, fun a => (memory a).trans ((Go.finish_machine ..).memory a)⟩
    refine (Barge.pass_pcs g.b s.now g.group g.addr g.pre g.replay hl).trans ?_
    cases g.replay <;> simp
  | true =>
    have hc : ((g.finish g.b s).onBarge g.core g.slot g.backAtFirst).barge g.core g.slot = some (g.backAtFirst c) := by
      rw [State.onBarge_eq (Go.finish_barge ..), State.barge_setBarge_same]
    obtain ⟨⟨memWait, wait, barge⟩, memory, -⟩ :=
      State.takeTrap_of_free hc free { cause := 0x11, code := n } g.first none
    refine ⟨_, _, _, exec_brk_of_clear h act, barge,
      Barge.trapsAs_trapped (b := g.backAtFirst c) rfl rfl ?_ ⟨rfl, rfl, rfl, rfl⟩ rfl _ _, rfl, rfl,
      fun l hl => g.backAtFirst_pcs c hl, fun a => (memory a).trans ?_⟩
    · constructor <;> rfl
    · rw [State.onBarge_eq (Go.finish_barge ..)]
      exact (State.byteAt_congr rfl rfl a).trans ((Go.finish_machine g g.b s).memory a)

end Sys2Proof.Machine
end

section
/-!
Barrier words (R352, R353): the flags that record at which barriers a barge has arrived, and the branches of `Go.barrierWord`.
-/
namespace Sys2Proof.Machine
open Sys2Proof Sys2Proof.Claims

/-! ## Flags -/

theorem barriersOf_eq (level : Nat) : barriersOf level = barriersAt level := by
  match level with
  | 0 | 1 | 2 | _ + 3 => rfl

theorem barrierScope_eq (level : Nat) : barrierScope level = scope346 level := by
  match level with
  | 0 | 1 | _ + 2 => rfl

/-- A barge without its flag at a barrier keeps its other flags. -/
theorem Barge.clearFlag_eq (b : Barge) (level number : Nat) :
    b.clearFlag level number = { b with flags := otherFlags b level number } := by
  have other (f : BarFlag) : decide (f.level ≠ level ∨ f.number ≠ number) = !(f.level == level && f.number == number) := by
    rw [Bool.eq_iff_iff]
    simp
  unfold Barge.clearFlag otherFlags
  simp only [other]

/-- The flag that is found names the barrier, with the phase that the barge recorded. -/
theorem Barge.flagAt_eq (b : Barge) (level number : Nat) :
    b.flagAt level number = (flagPhase b level number).map fun phase => { level, number, phase } := by
  have same (f : BarFlag) : decide (f.level = level ∧ f.number = number) = (f.level == level && f.number == number) := by
    rw [Bool.eq_iff_iff]
    simp
  unfold Barge.flagAt flagPhase
  simp only [same]
  cases found : b.flags.find? fun f => f.level == level && f.number == number with
  | none => rfl
  | some f =>
    have named : f.level = level ∧ f.number = number := by simpa using List.find?_some found
    obtain ⟨rfl, rfl⟩ := named
    rfl

/-- The barge has arrived at a barrier's phase: its flag there is replaced (R353). -/
def Barge.arrivedAt (b : Barge) (f : BarFlag) : Barge := { b with flags := otherFlags b f.level f.number ++ [f] }

theorem Barge.flagAt_arrivedAt (b : Barge) (f : BarFlag) : (b.arrivedAt f).flagAt f.level f.number = some f := by
  unfold Barge.arrivedAt Barge.flagAt otherFlags
  rw [List.find?_append, List.find?_eq_none.2 fun e he => by
    simpa [imp_iff_not_or] using (List.mem_filter.1 he).2]
  simp

/-! ## The cause that a barrier word meets -/

section
variable {g : Go} {s : State} {level number h : Nat} {arrives : Bool}

theorem Go.barrierCause_absent (absent : barriersAt level ≤ number ∨ s.holderOf g.b level = none) :
    g.barrierCause s level number arrives = some 0x71 := by
  unfold Go.barrierCause
  rw [barriersOf_eq]
  split
  · rfl
  · next there => rw [absent.resolve_left there]

theorem Go.barrierCause_present (there : number < barriersAt level) (holder : s.holderOf g.b level = some h) :
    g.barrierCause s level number arrives = if ~~~g.b.exited &&& ~~~g.group ≠ 0 then some 0x72
      else if arrives = true ∧ flagPhase g.b level number = some (s.barrier level h number).phase then some 0x73 else none := by
  unfold Go.barrierCause
  rw [barriersOf_eq, if_neg (by omega), holder, Barge.flagAt_eq]
  dsimp only
  cases arrives <;> cases flagPhase g.b level number <;> simp

end

/-! ## What it does -/

section
variable {g : Go} {s : State} {level number h : Nat} {arrives waits : Bool}

/-- In a reformed barge it traps, whatever its lanes (R353). -/
theorem Go.barrierWord_reformed (reformed : g.b.reformed = true) :
    g.barrierWord level number arrives waits s = g.trap { cause := 0x0B } s := by
  unfold Go.barrierWord
  rw [if_pos reformed]

variable (whole : g.b.reformed = false) (act : g.active ≠ 0)
include whole act

theorem Go.barrierWord_of_cause {c : BitVec 8} (hc : g.barrierCause s level number arrives = some c) :
    g.barrierWord level number arrives waits s = g.trap { cause := c } s := by
  unfold Go.barrierWord
  rw [if_neg (by simp [whole]), if_neg act, hc]

variable (holder : s.holderOf g.b level = some h)
include holder

/-- BAR and BARARR: the barge has its flag, its release begins, and with BAR it waits for the phase (R353). -/
theorem Go.barrierWord_arrives (free : g.barrierCause s level number true = none) :
    let f : BarFlag := { level, number, phase := (s.barrier level h number).phase }
    let u := if waits then waitsAt g (g.b.arrivedAt f) level h number f s else g.finish (g.b.arrivedAt f) s
    g.barrierWord level number true waits s = (withRel u (arrival g level h number)).relRun u.nextId relFuel := by
  intro f u
  have flag : ({ g.b with flags := otherFlags g.b level number ++
      [{ level, number, phase := (s.barrier level h number).phase }] } : Barge).flagAt level number = some f :=
    g.b.flagAt_arrivedAt f
  unfold Go.barrierWord
  rw [if_neg (show ¬ g.b.reformed = true by simp [whole]), if_neg act, free, holder]
  simp only [if_true, Barge.clearFlag_eq, flag, barrierScope_eq]
  cases waits <;> simp [f, u] <;> rfl

/-- BSYNC of a phase that is still open waits (R353). -/
theorem Go.barrierWord_waits (free : g.barrierCause s level number false = none)
    (phase : flagPhase g.b level number = some (s.barrier level h number).phase) :
    g.barrierWord level number false true s =
      waitsAt g g.b level h number { level, number, phase := (s.barrier level h number).phase } s := by
  unfold Go.barrierWord
  rw [if_neg (by simp [whole]), if_neg act, free, holder]
  simp [Barge.flagAt_eq, phase]
  rfl

/-- BSYNC of a phase that has ended, or at which the barge has not arrived, goes on without its flag and acquires (R353). -/
theorem Go.barrierWord_passes (free : g.barrierCause s level number false = none)
    (phase : flagPhase g.b level number ≠ some (s.barrier level h number).phase) :
    g.barrierWord level number false true s =
      (g.finish { g.b with flags := otherFlags g.b level number } s).acquireFence g.core g.slot (scope346 level) true 2 := by
  unfold Go.barrierWord
  rw [if_neg (by simp [whole]), if_neg act, free, holder]
  simp only [Barge.flagAt_eq, Barge.clearFlag_eq, barrierScope_eq]
  cases hp : flagPhase g.b level number with
  | none => simp [hp]
  | some q =>
    have other : q ≠ (s.barrier level h number).phase := fun e => phase (by rw [hp, e])
    simp [hp, other]

end

/-- A clear barrier word has the effect that `barrierWord` gives for its barrier. -/
theorem exec_barrierWord {i : Instr} {s : State} {g : Go} {level number : Nat} {arrives waits : Bool}
    (hi : barrierWord i g = some (level, number, arrives, waits)) (h : Clear i s g) :
    exec i s = done (g.barrierWord level number arrives waits s) ∧ (arrives = false → waits = true) := by
  unfold barrierWord at hi
  split at hi
  case h_1 =>
    cases hi
    exact ⟨issueWord_of_clear h _, fun h => nomatch h⟩
  case h_2 =>
    cases hi
    exact ⟨issueWord_of_clear h _, fun h => nomatch h⟩
  case h_3 =>
    cases hi
    have level : ((g.val 0).dword.extractLsb' 6 2).toNat = (g.val 0).dword.toNat / 64 % 4 := by
      simp [BitVec.extractLsb'_toNat, Nat.shiftRight_eq_div_pow]
    have number : ((g.val 0).dword.extractLsb' 0 6).toNat = (g.val 0).dword.toNat % 64 := by
      simp [BitVec.extractLsb'_toNat]
    refine ⟨(issueWord_of_clear h _).trans ?_, fun _ => rfl⟩
    rw [← level, ← number]
  case h_4 => cases hi

/-- Settles O42: the branches of R353, by the cause that the word meets and, where it meets none, by whether it arrives and whether
the phase of its flag is still open. -/
theorem barriers : Obligations.Barriers := by
  intro i s g level number arrives waits hi clear
  obtain ⟨hx, sync⟩ := exec_barrierWord hi clear
  refine ⟨fun reformed => hx.trans (congrArg done (Go.barrierWord_reformed reformed)),
    fun whole act => ⟨fun absent => ?_, ?_⟩⟩
  · exact hx.trans (congrArg done (Go.barrierWord_of_cause whole act (Go.barrierCause_absent absent)))
  · intro h there holder x f arrived
    have cause := Go.barrierCause_present (arrives := arrives) there holder
    refine ⟨fun apart => ?_, fun together => ⟨?_, ?_, ?_, ?_⟩⟩
    · rw [if_pos apart] at cause
      exact hx.trans (congrArg done (Go.barrierWord_of_cause whole act cause))
    all_goals rw [if_neg (not_not.2 together)] at cause
    · intro arrives again
      rw [if_pos ⟨arrives, again⟩] at cause
      exact hx.trans (congrArg done (Go.barrierWord_of_cause whole act cause))
    · rintro rfl first
      rw [if_neg fun again => first again.2] at cause
      exact hx.trans (congrArg done (Go.barrierWord_arrives whole act holder cause))
    · rintro rfl _ phase rfl
      obtain rfl := sync rfl
      rw [if_neg (by simp)] at cause
      exact hx.trans (congrArg done (Go.barrierWord_waits whole act holder cause phase))
    · rintro rfl phase
      obtain rfl := sync rfl
      rw [if_neg (by simp)] at cause
      exact hx.trans (congrArg done (Go.barrierWord_passes whole act holder cause phase))

end Sys2Proof.Machine
end

section
/-!
Register words (R326, R394, R395): the registers of a barge, the causes of an access, and what it does.
-/
namespace Sys2Proof.Machine
open Sys2Proof Sys2Proof.Claims

/-! ## Results that differ between lanes -/

/-- Only the results of active lanes count (R22). -/
theorem nonUniform_congr {active : Mask} {f h : Nat → List Word} (same : ∀ l, l < 32 → laneOn active l = true → f l = h l)
    (d : Dst) : nonUniform active d f = nonUniform active d h := by
  unfold nonUniform
  cases lowest : lowestLane active with
  | none => rfl
  | some i =>
    have on : i < 32 ∧ laneOn active i = true :=
      ⟨List.mem_range.1 (List.mem_of_find?_eq_some lowest), List.find?_some lowest⟩
    refine congrArg _ ?_
    dsimp only
    rw [same i on.1 on.2, Bool.eq_iff_iff, List.any_eq_true, List.any_eq_true]
    refine exists_congr fun l => and_congr_right fun hl => ?_
    rw [same l (mem_lanesIn.1 hl).1 (mem_lanesIn.1 hl).2]

/-- A clear word whose result, without flags, differs between the active lanes of a scalar destination traps (R22). -/
theorem Go.writeChecked_traps {g : Go} {d : Dst} {f : Nat → List Word} (latency : Nat) (s : State)
    (differ : nonUniform g.active d f = true) :
    g.writeChecked d latency (fun l => plain (f l)) s = g.trap { cause := 0x06 } s :=
  Go.writeChecked_nonUniform g d latency _ s <|
    (nonUniform_congr (fun _ hl on => by rw [tableLane_eq _ _ hl on]; rfl) d).trans differ

/-! ## The registers of a barge -/

/-- The number of a register word: its low 8 bits, extended by XIMM (R28, R394). -/
theorem Go.csr_eq (g : Go) (c : BitVec 8) : g.pre.csr c = number394 g c := by
  unfold Pre.csr number394 Pre.imm32
  cases g.pre.ximm with
  | none => exact (BitVec.toNat_append (0 : BitVec 24) c).trans (by simp)
  | some x => rfl

/-- Table 18.5. -/
theorem State.bargeReg_eq (s : State) (g : Go) {n : Nat} (low : 0 < n) (high : n ≤ 14) (l : Nat) :
    s.bargeReg g.core g.slot g.b n l = some (register185 s g n l) := by
  have zeroExtended {w : Nat} (x : BitVec w) : x.setWidth 64 = BitVec.ofNat 64 x.toNat := (BitVec.ofNat_toNat 64 x).symm
  match n, low, high with
  | 9, _, _ => exact congrArg some (zeroExtended _)
  | 12, _, _ => cases h : g.b.handler <;> simp [State.bargeReg, register185, bit, h]
  | 13, _, _ => exact congrArg some (zeroExtended _)
  | 1, _, _ | 2, _, _ | 3, _, _ | 4, _, _ | 5, _, _ | 6, _, _ | 7, _, _ | 8, _, _ | 10, _, _ | 11, _, _ | 14, _, _ => rfl
  | n + 15, _, high => omega

/-- FCTL is the same in every lane. -/
theorem register185_fctl (s : State) (g : Go) (l : Nat) : register185 s g 1 l = (g.b.fctlAt s.now).toDword := rfl

/-- The words of a register access (R21, R395). -/
def csrWords (d : BitVec 7) : Nat := if isScalar d then 2 else 1

/-- What a register word leaves in FCTL, which takes its flags and the write (R69, R395). -/
def Go.csrFctl (g : Go) (n : Nat) (writes : Bool) (s : State) : Fctl :=
  if writes = true ∧ n = 1 then (g.b.fctlAt s.now).write (g.val 0).dword else g.b.fctl

/-- The barge of a register word after its write: FCTL takes one, with the flags that have reached write-back (R71). -/
def Go.csrBarge (g : Go) (n : Nat) (writes : Bool) (s : State) : Barge :=
  if writes = true ∧ n = 1 then { g.b.settleFlags s.now with fctl := (g.b.settleFlags s.now).fctl.write (g.val 0).dword }
  else g.b

section
variable (g : Go) (n : Nat) (writes : Bool) (s : State)

/-- Beside FCTL the write changes nothing that a program sees. -/
theorem Go.csrBarge_keeps : (g.csrBarge n writes s).v = g.b.v ∧ (g.csrBarge n writes s).s = g.b.s ∧
    (g.csrBarge n writes s).pcs = g.b.pcs ∧ KeepsControl { g.b with fctl := g.csrFctl n writes s } (g.csrBarge n writes s) := by
  unfold Go.csrBarge Go.csrFctl
  split <;> exact ⟨rfl, rfl, rfl, by constructor <;> rfl⟩

/-- Any other register stays as it was. -/
theorem Go.csrBarge_other {n : Nat} (other : n ≠ 1) : g.csrBarge n writes s = g.b := if_neg fun h => other h.2

end

/-- An access of a barge's register: a read is written at a fixed latency of 4, beside the write of FCTL. -/
theorem Go.bargeCsr_eq {g : Go} {n : Nat} (act : g.active ≠ 0) (low : 0 < n) (high : n ≤ 14) (d : BitVec 7)
    (reads writes : Bool) (s : State) :
    g.bargeCsr d n reads (if writes then some (g.val 0).dword else none) s =
      if reads then Go.writeChecked { g with b := g.csrBarge n writes s } { spec := d, words := csrWords d } 4
        (fun l => plain ((pairWords (register185 s g n l)).take (csrWords d))) s
      else g.finish { g.csrBarge n writes s with busyUntil := max (g.csrBarge n writes s).busyUntil (s.now + 4) } s := by
  have barge : (match (if writes then some (g.val 0).dword else none : Option Dword) with
      | some x => if n = 1 then { g.b.settleFlags s.now with fctl := (g.b.settleFlags s.now).fctl.write x } else g.b
      | none => g.b) = g.csrBarge n writes s := by
    unfold Go.csrBarge
    cases writes <;> simp
  unfold Go.bargeCsr
  simp only [if_neg act, State.bargeReg_eq s g low high, Option.getD_some]
  rw [← barge]
  rfl

/-! ## The causes of an access (R394) -/

section
variable {sys reads writes : Bool} {n : Nat}

theorem csrCause_absent (absent : n = 0 ∨ (14 < n ∧ n < 256) ∨ (256 ≤ n ∧ hubReg n = none)) :
    csrCause sys n reads writes = some 0xB1 := by
  unfold csrCause
  rcases absent with rfl | ⟨low, high⟩ | ⟨hub, none⟩
  · rfl
  · rw [if_pos high, if_pos (by simp [low])]
  · rw [if_neg (by omega), none]

theorem csrCause_barge (low : 0 < n) (high : n ≤ 14) : csrCause sys n reads writes = none := by
  unfold csrCause
  rw [if_pos (by omega), if_neg (by simp; omega)]

theorem csrCause_hub {r : HubReg} (hub : 256 ≤ n) (reg : hubReg n = some r) :
    csrCause sys n reads writes = if sys || (!writes && (!reads || r.anyReads)) then none else some 0xB0 := by
  unfold csrCause
  rw [if_neg (by omega), reg]

end

/-! ## The words -/

/-- What a register word with an active lane does (R394, R395). -/
def Go.csrEffect (g : Go) (d : BitVec 7) (n : Nat) (reads writes : Bool) (s : State) : State :=
  match csrCause (s.ctx g.b.ctx).sys n reads writes with
  | some c => g.trap { cause := c } s
  | none =>
    if n < 256 then g.bargeCsr d n reads (if writes then some (g.val 0).dword else none) s else g.hubCsr d n reads writes s

theorem csrWord_of_clear {i : Instr} {s : State} {g : Go} {reads writes : Bool} {d a : BitVec 7} {p : BitVec 1} {c : BitVec 8}
    (hs : shapeOf i = csrShape reads d (if writes then [reg a p] else []) c) (h : Clear i s g) (act : g.active ≠ 0) :
    csrWord reads writes d a p c s = done (g.csrEffect d (number394 g c) reads writes s) := by
  unfold csrWord
  rw [← hs, issueWord_of_clear h, if_neg act, Go.csr_eq]
  rfl

/-- A clear register word has that effect; it reads or it writes. -/
theorem exec_registerWord {i : Instr} {s : State} {g : Go} {n : Nat} {d : BitVec 7} {reads writes : Bool}
    (hi : registerWord i g = some (n, d, reads, writes)) (h : Clear i s g) (act : g.active ≠ 0) :
    exec i s = done (g.csrEffect d n reads writes s) ∧ (reads = true ∨ writes = true) := by
  have atBarge {o o' : Host.Outcome State Fault Refusal} : (if s.issue.isNone && !s.args.isEmpty then o else o') = o' :=
    if_neg (by simp [h.issue])
  unfold registerWord at hi
  split at hi
  case h_1 =>
    cases hi
    exact ⟨atBarge.trans (csrWord_of_clear rfl h act), .inl rfl⟩
  case h_2 =>
    cases hi
    exact ⟨atBarge.trans (csrWord_of_clear rfl h act), .inr rfl⟩
  case h_3 =>
    cases hi
    exact ⟨atBarge.trans (csrWord_of_clear rfl h act), .inl rfl⟩
  case h_4 => cases hi

section
variable {g : Go} {d : BitVec 7} {n : Nat} {reads writes : Bool} {s : State}

theorem Go.csrEffect_of_cause {c : BitVec 8} (hc : csrCause (s.ctx g.b.ctx).sys n reads writes = some c) :
    g.csrEffect d n reads writes s = g.trap { cause := c } s := by
  unfold Go.csrEffect
  rw [hc]

theorem Go.csrEffect_barge (low : 0 < n) (high : n ≤ 14) :
    g.csrEffect d n reads writes s = g.bargeCsr d n reads (if writes then some (g.val 0).dword else none) s := by
  unfold Go.csrEffect
  rw [csrCause_barge low high]
  exact if_pos (by omega)

/-- An access of a hub register goes out as a strongly ordered one, with its destination empty (R326). -/
theorem Go.csrEffect_hub {r : HubReg} (act : g.active ≠ 0) (hub : 256 ≤ n) (reg : hubReg n = some r)
    (may : (s.ctx g.b.ctx).sys = true ∨ writes = false ∧ r.anyReads = true) :
    ∃ b, g.Empties (if reads then some { spec := d, words := csrWords d } else none) b ∧
      g.csrEffect d n reads writes s = g.launch b { g.flight s .csr [] with
        translating := false, so := true, write := writes, captured := reads, dst := d
        words := if reads then csrWords d else 0
        hint := if reads && writes then 2 else if writes then 1 else 0, tag := n } s := by
  have free : csrCause (s.ctx g.b.ctx).sys n reads writes = none := by
    rw [csrCause_hub hub reg]
    exact if_pos (by rcases may with sys | ⟨rfl, any⟩ <;> simp [*])
  refine ⟨if reads then g.b.markEmpty g.active { spec := d, words := csrWords d } else g.b, ?_, ?_⟩
  · cases reads with
    | true => exact Go.empties_markEmpty act _
    | false => exact g.empties_none
  · unfold Go.csrEffect Go.hubCsr
    rw [free]
    dsimp only
    rw [if_neg (show ¬ n < 256 by omega), if_neg act]
    rfl

end

/-- A word whose access goes out. -/
theorem goesOut_of_launch {i : Instr} {s : State} {g : Go} {a : Access} {b : Barge} (emptied : g.Empties a.dst b)
    (hx : exec i s = done (g.launch b a.flight s)) : GoesOut i s g a := by
  obtain ⟨b', left⟩ := emptied.leaves s s.nextId (s.nextId + 1) s.rels a.flight
  exact ⟨_, b', hx, left⟩

/-- What a word leaves may be read from a barge with the same registers, PCs and control. -/
theorem Retired.of_barge {g : Go} {b c : Barge} {s t : State} {d : Dst} {f : Nat → List Word}
    (h : Retired { g with b := c } s t d f) (hv : c.v = b.v) (hs : c.s = b.s) (hp : c.pcs = b.pcs) (control : KeepsControl b c) :
    Retired { g with b } s t d f := by
  obtain ⟨m, b', barge, holds, registers, control', passed⟩ := h
  refine ⟨⟨m.barges, m.memory, m.localMem, m.tile, m.lines, m.versions, m.hub, m.towers, m.clusters, m.wgs, m.flights, m.agenda⟩,
    b', barge, holds, ⟨fun r l hl out => (registers.v r l hl out).trans (Barge.vreg_congr hv r l),
      fun k out => (registers.s k out).trans (Barge.sreg_congr hs k)⟩, control.trans control', fun l hl => ?_⟩
  exact (passed l hl).trans (by rw [hp])

section
variable {g : Go} {d : BitVec 7} {n : Nat} {reads writes : Bool} {s : State}

/-- A read of a barge's register whose value may go to its destination has retired with it, and with the write of FCTL. -/
theorem Go.csrEffect_reads (act : g.active ≠ 0) (low : 0 < n) (high : n ≤ 14)
    (same : nonUniform g.active { spec := d, words := csrWords d }
      (fun l => (pairWords (register185 s g n l)).take (csrWords d)) = false) :
    Retired { g with b := { g.b with fctl := g.csrFctl n writes s } } s (g.csrEffect d n true writes s)
      { spec := d, words := csrWords d } fun l => (pairWords (register185 s g n l)).take (csrWords d) := by
  obtain ⟨hv, hs, hp, control⟩ := g.csrBarge_keeps n writes s
  rw [Go.csrEffect_barge low high, Go.bargeCsr_eq act low high]
  exact (Go.writeChecked_retired { g with b := g.csrBarge n writes s } _ 4 _ s (enabledCause_plain ..) same).of_barge hv hs hp
    control

/-- One that differs between lanes traps. Where FCTL is written its value is the same in every lane, so the barge is as it was. -/
theorem Go.csrEffect_differs (act : g.active ≠ 0) (low : 0 < n) (high : n ≤ 14)
    (differ : nonUniform g.active { spec := d, words := csrWords d }
      (fun l => (pairWords (register185 s g n l)).take (csrWords d)) = true) :
    g.csrEffect d n true writes s = g.trap { cause := 0x06 } s := by
  have other : n ≠ 1 := by
    rintro rfl
    simp [register185_fctl, nonUniform_const] at differ
  rw [Go.csrEffect_barge low high, Go.bargeCsr_eq act low high, if_pos rfl, Go.csrBarge_other _ _ _ other]
  exact Go.writeChecked_traps 4 s differ

end

/-- Settles O59: the causes of `csrCause`, then the two kinds of register. -/
theorem registerWords : Obligations.RegisterWords := by
  intro i s g n d reads writes hi h act words
  obtain ⟨hx, kind⟩ := exec_registerWord hi h act
  refine ⟨fun absent => ?_, fun r hub reg user barred => ?_, ?_⟩
  · exact hx.trans (congrArg done (Go.csrEffect_of_cause (csrCause_absent absent)))
  · refine hx.trans (congrArg done (Go.csrEffect_of_cause ?_))
    rw [csrCause_hub hub reg, user]
    rcases barred with rfl | hidden
    · rfl
    · rcases kind with rfl | rfl <;> simp [hidden]
  intro fctl
  refine ⟨?_, ?_, ?_⟩
  · rintro low high rfl f
    exact ⟨fun differ => hx.trans (congrArg done (Go.csrEffect_differs act low high differ)),
      fun same => ⟨_, hx, (Go.csrEffect_reads act low high same).rest⟩⟩
  · rintro low high rfl
    obtain ⟨hv, hs, hp, control⟩ := g.csrBarge_keeps n writes s
    rw [Go.csrEffect_barge low high, Go.bargeCsr_eq act low high] at hx
    exact ⟨_, _, hx, (Go.finish_machine ..).rest, Go.finish_barge .., hv, hs, PassedWord.of_pass hp s.now, control.fctl⟩
  · intro r hub reg may fl
    obtain ⟨b, emptied, launched⟩ := Go.csrEffect_hub act hub reg may
    exact goesOut_of_launch emptied (hx.trans (congrArg done launched))

end Sys2Proof.Machine
end

section
/-!
What the hub and fixed-function hardware write at a home takes no time of its own: none of the operations behind `State.agentWrite`
moves the machine's cycle, whatever requests, evictions and versions they set going. Only `State.advance` does.
-/
namespace Sys2Proof.Machine
open Sys2Proof

/-! ## Parts of the state, requests and events -/

section
variable (s : State)

@[simp] theorem State.setTxn_now (id : Nat) (t : Txn) : (s.setTxn id t).now = s.now := rfl
@[simp] theorem State.pokes_now (a : Nat) (bs : List Byte) : (s.pokes a bs).now = s.now := rfl
@[simp] theorem State.sendTxn_now (t : Txn) (at_ : Nat) : (s.sendTxn t at_).2.now = s.now := rfl
@[simp] theorem State.onVersion_now (v : Version) (f : Version → Version) : (s.onVersion v f).now = s.now := rfl

/-- Steps none of which moves the cycle do not move it together. -/
theorem State.foldl_now {α : Type} {f : State → α → State} (keeps : ∀ s x, (f s x).now = s.now) (l : List α) :
    (l.foldl f s).now = s.now := by
  induction l generalizing s with
  | nil => rfl
  | cons x l ih => exact (ih (f s x)).trans (keeps s x)

@[simp] theorem State.foldl_poke_now {α : Type} (at_ : State → α → Nat) (v : State → α → Byte) (l : List α) :
    (l.foldl (fun u p => u.poke (at_ u p) (v u p)) s).now = s.now :=
  s.foldl_now (f := fun u p => u.poke (at_ u p) (v u p)) (fun _ _ => rfl) l

@[simp] theorem State.busTurn_now (n m : Nat) : (s.busTurn n m).now = s.now := by
  unfold State.busTurn
  dsimp only
  split <;> rfl

@[simp] theorem State.board_now (id : Nat) (t : Txn) : (s.board id t).now = s.now := by
  unfold State.board
  dsimp only
  split
  · split <;> rfl
  · simp

@[simp] theorem State.transfer_now (core column : Nat) (rank : Option Nat) : (s.transfer core column rank).now = s.now :=
  State.board_now ..

@[simp] theorem State.askChannel_now (id g : Nat) : (s.askChannel id g).now = s.now := by
  unfold State.askChannel
  dsimp only
  split
  · rfl
  · split <;> rfl

@[simp] theorem State.backToGddr_now (tower x : Nat) : (s.backToGddr tower x).now = s.now := State.askChannel_now ..

/-! ## Ways of a stacked cache -/

@[simp] theorem State.touchWay_now (n set w : Nat) : (s.touchWay n set w).now = s.now := rfl

@[simp] theorem State.touchVersion_now (v : Version) : (s.touchVersion v).now = s.now := by
  unfold State.touchVersion
  split
  · rfl
  · dsimp only
    split <;> rfl

@[simp] theorem State.onWay_now (x ctx : Nat) (label : BitVec 3) (slot : Option Nat) (f : CacheWay → Option CacheWay) :
    (s.onWay x ctx label slot f).now = s.now := by
  unfold State.onWay
  split
  · rfl
  · dsimp only
    split
    · rfl
    · split <;> rfl

@[simp] theorem State.poisonLine_now (x : Nat) : (s.poisonLine x).now = s.now := by
  unfold State.poisonLine
  dsimp only
  split <;> rfl

@[simp] theorem State.healLine_now (x : Nat) : (s.healLine x).now = s.now := rfl

@[simp] theorem State.baseLine_now (v : Version) : (s.baseLine v).now = s.now := by
  simp [State.baseLine, apply_ite State.now]

@[simp] theorem State.writeHome_now (v : Version) : (s.writeHome v).now = s.now := by
  simp [State.writeHome, apply_ite State.now]

@[simp] theorem State.slotBytes_now (cells : List (Nat × Byte)) (full poison : Bool) :
    (s.slotBytes cells full poison).now = s.now := by
  simp [State.slotBytes, apply_ite State.now]

@[simp] theorem State.writeSlot_now (cells : List (Nat × Byte)) (full poison : Bool) :
    (s.writeSlot cells full poison).now = s.now := by
  simp [State.writeSlot, apply_ite State.now]

@[simp] theorem State.toPool_now (v : Version) : (s.toPool v).now = s.now := by
  simp [State.toPool, apply_ite State.now]

@[simp] theorem State.evict_now (y : CacheWay) : (s.evict y).now = s.now := by
  unfold State.evict
  split
  · simp [apply_ite State.now]
  · split
    · rfl
    · simp [apply_ite State.now]

@[simp] theorem State.fillWay_now (n : Nat) (y : CacheWay) (touch : Bool) : (s.fillWay n y touch).now = s.now := by
  unfold State.fillWay
  dsimp only
  split
  · rfl
  · simp only [apply_ite State.now, State.touchWay_now, State.setColumn_now, ite_self]
    split
    · exact State.evict_now ..
    · rfl

@[simp] theorem State.dropFrom_now (tower x : Nat) : (s.dropFrom tower x).now = s.now := by
  unfold State.dropFrom
  split
  · rfl
  · dsimp only
    split <;> rfl

@[simp] theorem State.dropSharers_now (x : Nat) (keep : List Nat) : (s.dropSharers x keep).now = s.now :=
  s.foldl_now (fun s t => s.dropFrom_now t x) _

/-! ## The snoop filter -/

@[simp] theorem State.unbridge_now (x : Nat) : (s.unbridge x).now = s.now := by
  unfold State.unbridge
  dsimp only
  split
  · simp [apply_ite State.now]
  · rw [State.foldl_now]
    · simp [apply_ite State.now]
    · simp

@[simp] theorem State.snoopEnter_now (x half : Nat) : (s.snoopEnter x half).now = s.now := by
  unfold State.snoopEnter
  split
  · rfl
  · dsimp only
    split
    · rfl
    · split
      · rfl
      · split
        · exact State.unbridge_now ..
        · rfl

@[simp] theorem State.snoopLine_now (x : Nat) : (s.snoopLine x).now = s.now := by
  simp [State.snoopLine, apply_ite State.now]

@[simp] theorem State.fillTower_now (tower x : Nat) (cp : BitVec 2) : (s.fillTower tower x cp).now = s.now := by
  unfold State.fillTower
  split
  · rfl
  · simp [apply_ite State.now]

/-! ## Lines -/

@[simp] theorem State.createVersion_now (v : Version) (cp : BitVec 2) : (s.createVersion v cp).now = s.now := by
  unfold State.createVersion
  dsimp only
  split <;> simp [apply_ite State.now]

@[simp] theorem State.writeLine_now (w : Who) (x : Nat) (bs : List (Nat × Byte)) (full poison : Bool) (cp : BitVec 2) :
    (s.writeLine w x bs full poison cp).now = s.now := by
  unfold State.writeLine
  dsimp only
  split
  · split <;> simp
  · split
    · simp only [apply_ite State.now, State.poisonLine_now, State.healLine_now, ite_self]
      rw [State.foldl_now]
      · simp
      · simp [apply_ite State.now]
    · simp

@[simp] theorem State.writeBytes_now (w : Who) (bs : List (Nat × Byte)) (cp : BitVec 2) : (s.writeBytes w bs cp).now = s.now :=
  s.foldl_now (fun _ _ => State.writeLine_now ..) _

@[simp] theorem State.writeView_now (w : Who) (l : Leaf) (bs : List (Nat × Byte)) : (s.writeView w l bs).now = s.now := by
  unfold State.writeView
  split
  · exact State.writeBytes_now ..
  · exact s.foldl_now (fun _ _ => State.writeBytes_now ..) _

/-! ## Accesses of the hub and of fixed-function hardware -/

@[simp] theorem State.usePort_now (n : Nat) : (s.usePort n).now = s.now := by
  simp [State.usePort, apply_ite State.now]

@[simp] theorem State.atHome_now (w : Who) (x : Nat) (cp : BitVec 2) : (s.atHome w x cp).now = s.now := by
  unfold State.atHome
  dsimp only
  split <;> simp

@[simp] theorem State.agentLine_now (a : Agent) (w : Who) (cp : BitVec 2) (x : Nat) : (s.agentLine a w cp x).now = s.now := by
  simp [State.agentLine, apply_ite State.now]

@[simp] theorem State.sign_now (core : Nat) (chunk : Option Nat) (ctx : Nat) (write : Bool) (lines : List Nat) :
    (s.sign core chunk ctx write lines).now = s.now := by
  unfold State.sign
  split <;> rfl

@[simp] theorem State.homeStore_now (a : Agent) (l : Leaf) (cells : List (Nat × Byte)) : (s.homeStore a l cells).now = s.now := by
  refine s.foldl_now (fun u p => ?_) _
  dsimp only
  split
  · rfl
  · rw [State.writeView_now]
    exact u.foldl_now (fun _ _ => State.agentLine_now ..) _

/-- A write at the home leaves the cycle as it is, as far as it gets. -/
theorem State.agentWrite_now (a : Agent) (va : Nat) (bytes : List Byte) : (s.agentWrite a va bytes).1.now = s.now := by
  unfold State.agentWrite
  generalize pageRuns va bytes.length = runs
  refine List.foldlRecOn (motive := fun acc : State × Option (BitVec 8 × Nat) => acc.1.now = s.now) runs _ rfl ?_
  rintro ⟨u, failed⟩ same r -
  dsimp only at same ⊢
  split
  · exact same
  · split
    · exact same
    · simp [same]

end
end Sys2Proof.Machine
end

section
/-!
A trapped barge's way to its handler (R386, R387, R389): it takes a frame slot, its frame is written, and it enters handler mode.
-/
namespace Sys2Proof.Machine
open Sys2Proof Sys2Proof.Claims

/-! ## A frame slot -/

/-- A trap that no other barge's of its cycle goes before takes the lowest free frame slot (R386). -/
theorem execHandlerEntry_takesFrame {s : State} {core slot k : Nat} {b : Barge} {r : TrapRec} (args : s.args = [core, slot])
    (barge : s.barge core slot = some b) (trap : b.trap = some r) (frame : r.frame = none)
    (first : (s.agenda.any fun e => decide (e.1 ≤ s.now) && e.2.what == .handlerEntry
      && decide (bargeKey (e.2.args.getD 0 0) (e.2.args.getD 1 0) < bargeKey core slot)) = false)
    (free : (s.ctx b.ctx).freeFrame = some k) :
    execHandlerEntry s = done (((s.setCtx b.ctx
        { s.ctx b.ctx with framesUsed := (s.ctx b.ctx).framesUsed ++ [k] }).setBarge core slot
      { b with wait := .other, frameSlot := some k, trap := some { r with frame := some k } }).post 0 .handlerEntry s.args) := by
  have core_eq : s.arg 0 = core := by simp [State.arg, args]
  have slot_eq : s.arg 1 = slot := by simp [State.arg, args]
  have lower (q : Nat × Event → Bool) : (s.agenda.any fun e => decide (e.1 ≤ s.now) && e.2.what == .handlerEntry
      && decide (bargeKey (e.2.args.getD 0 0) (e.2.args.getD 1 0) < bargeKey core slot) && q e) = false := by
    rw [List.any_eq_false] at first ⊢
    intro e he both
    exact first e he (Bool.and_eq_true_iff.1 both).1
  unfold execHandlerEntry
  simp only [core_eq, slot_eq, barge, trap, frame, lower, free, Bool.false_eq_true, if_false, State.setCtx_args]

/-! ## Handler mode -/

/-- A barge whose words have finished enters handler mode with its frame written, 40 cycles later or more (R387, R390). -/
theorem execHandlerEntry_enters {s u : State} {core slot k : Nat} {b : Barge} {r : TrapRec} (args : s.args = [core, slot])
    (barge : s.barge core slot = some b) (trap : b.trap = some r) (frame : r.frame = some k)
    (settled : s.trapSettled core slot r = true)
    (written : s.agentWrite { core, ctx := b.ctx } ((s.ctx b.ctx).frameVa k) (s.frameOf core slot b r) = (u, none)) :
    ∃ at_, s.now + 40 ≤ at_ ∧ execHandlerEntry s = done (u.setBarge core slot
      (b.enterHandler r ((s.ctx b.ctx).trapEntry.extractLsb' 2 54 ++ 0#2) ((s.ctx b.ctx).frameVa k) k at_ s.now)) := by
  have core_eq : s.arg 0 = core := by simp [State.arg, args]
  have slot_eq : s.arg 1 = slot := by simp [State.arg, args]
  have now : u.now = s.now := by
    rw [← State.agentWrite_now s { core, ctx := b.ctx } ((s.ctx b.ctx).frameVa k) (s.frameOf core slot b r), written]
  refine ⟨s.now + 40 + busGap (frameUnits (min 24 r.entries.length))
    + u.agentAck { core, ctx := b.ctx } ((s.ctx b.ctx).frameVa k), by omega, ?_⟩
  unfold execHandlerEntry
  simp only [core_eq, slot_eq, barge, trap, frame, settled, written, now, Bool.not_true, Bool.false_eq_true, if_false]

/-- The handler's address is CTX_TRAP.ENTRY with its low bits 0 (R389; log 96). -/
theorem append_zero_extract (x : BitVec 56) : x.extractLsb' 2 54 ++ 0#2 = BitVec.ofNat 56 (x.toNat / 4 * 4) := by
  apply BitVec.eq_of_toNat_eq
  have := x.isLt
  rw [BitVec.toNat_append, BitVec.extractLsb'_toNat]
  simp [Nat.shiftRight_eq_div_pow, Nat.shiftLeft_eq]
  omega

section
variable {b : Barge} {r : TrapRec} {entry : BitVec 56} {frame slot first now l : Nat}

/-- Every thread that has not exited stands at the handler's first word (R389). -/
theorem Barge.enterHandler_pcs (hl : l < 32) : (b.enterHandler r entry frame slot first now).pcs.getD l 0 =
    if laneOn b.exited l then b.pcs.getD l 0 else entry.signExtend 64 := by
  have live : laneOn (~~~b.exited) l = !laneOn b.exited l := by simp [laneOn, hl]
  simp only [Barge.enterHandler, Barge.settleFlags, List.getD_eq_getElem?_getD, List.getElem?_map, List.getElem?_range hl,
    Option.map_some, Option.getD_some, live]
  cases laneOn b.exited l <;> rfl

/-- Only a thread that has exited keeps its yield mark. -/
theorem Barge.enterHandler_yieldMarks (on : laneOn (b.enterHandler r entry frame slot first now).yieldMarks l = true) :
    laneOn b.exited l = true := by
  have both : laneOn (b.yieldMarks &&& b.exited) l = true := on
  simp only [laneOn, BitVec.getLsbD_and, Bool.and_eq_true] at both
  exact both.2

end

/-- Settles O58: the two steps of `execHandlerEntry`. That the address has its low bits 0 is log 96, and that the frame is written
under label 0 is log 39. -/
theorem handlerEntry : Obligations.HandlerEntry := by
  constructor
  · intro s core slot k b r args barge trap frame first free
    refine ⟨_, _, execHandlerEntry_takesFrame args barge trap frame first free, State.barge_setBarge_same .., rfl, ?_, ?_⟩
    · show ((s.setCtx b.ctx _).ctx b.ctx).framesUsed = _
      rw [State.ctx_setCtx_same]
    · rw [args]
      rfl
  · intro s u core slot k b r args barge trap frame settled written
    obtain ⟨at_, later, hx⟩ := execHandlerEntry_enters args barge trap frame settled written
    rw [append_zero_extract] at hx
    exact ⟨_, _, hx, State.barge_setBarge_same .., fun l hl => Barge.enterHandler_pcs hl, rfl, rfl,
      fun l _ on => Barge.enterHandler_yieldMarks on, rfl, rfl, rfl, rfl, rfl, rfl, rfl, rfl, rfl, rfl, rfl, rfl,
      fun _ => rfl, rfl, rfl, later, rfl, State.byteAt_congr rfl rfl⟩

end Sys2Proof.Machine
end

section
/-!
That no step stops (R46, R384, 95_what_each_step_holds.md): every word is run where a barge issues it, and every event of an agenda
completes; and the word that a step runs (R18, R31, R227).
-/
namespace Sys2Proof.Machine
open Sys2Proof Sys2Proof.Claims

/-! ## Words that are run -/

/-- A meaning that finishes where a barge issues it answers a next state there. -/
theorem FinishesIfIssued.next {s : State} {o : Host.Outcome State Fault Refusal} (h : FinishesIfIssued s o) (issuing : s.Issuing) :
    ∃ t, o = .next t := by
  rcases h with ⟨t, rfl⟩ | ⟨_, idle⟩
  · exact ⟨t.rest, rfl⟩
  · exact absurd issuing idle

/-- A word that a resident barge issues is run. -/
theorem runWord_next {s : State} {iss : Issue} {b : Barge} (hb : s.barge iss.core iss.slot = some b) :
    ∃ t, runWord s iss = .next t := by
  have issuing (args : List Nat) : ({ s with issue := some iss, args } : State).Issuing := ⟨iss, b, rfl, hb⟩
  unfold runWord
  extract_lets
  split
  · exact (exec_finishes ..).next (issuing _)
  · exact (prefixWord_finishes _).next (issuing _)
  · exact (exec_finishes ..).next (issuing _)
  · exact (exec_finishes ..).next (issuing _)

/-- A page that is looked up leaves the barges. -/
theorem State.lookupPage_barges {s t : State} {core ctx vpn cost : Nat} {l : Leaf}
    (h : s.lookupPage core ctx vpn = some (l, cost, t)) : t.barges = s.barges := by
  unfold State.lookupPage at h
  split at h
  · cases h; rfl
  · simp only [State.l2Lookup, Option.map_map, Option.map_eq_some_iff, Function.comp] at h
    obtain ⟨p, -, hp⟩ := h
    cases hp
    rfl

/-- A word that is fetched comes with the barges as they were. -/
theorem State.fetch_word_barges {s t : State} {core slot : Nat} {b : Barge} {addr : Dword} {w : Word}
    (h : s.fetch core slot b addr = .word w t) : t.barges = s.barges := by
  unfold State.fetch at h
  extract_lets at h
  split at h
  · cases h
  · split at h
    · cases h
    · next look =>
      split at h
      · cases h
      · split at h
        · cases h
        · cases h
          exact State.lookupPage_barges look

theorem State.issueFetched_next (s : State) (core slot : Nat) (b : Barge) : ∃ t, s.issueFetched core slot b = .next t := by
  unfold State.issueFetched
  split
  extract_lets b' s'
  split
  · exact ⟨_, rfl⟩
  · exact ⟨_, rfl⟩
  · next w t fetched =>
    refine runWord_next (b := b') ?_
    show t.barges.look _ = _
    rw [State.fetch_word_barges fetched]
    exact State.barge_setBarge_same ..

theorem State.issueEntry_next (s : State) (core slot : Nat) (b : Barge) (e : Entry) (rest : List Entry) :
    ∃ t, s.issueEntry core slot b e rest = .next t := by
  unfold State.issueEntry
  extract_lets s'
  obtain ⟨t, run⟩ := runWord_next (s := s')
    (iss := { core, slot, addr := e.addr + BitVec.ofNat 64 (4 * (e.words.length - 1)), group := e.lanes, chainStart := e.addr
              word := e.words.getLast?.getD 0, replay := some e }) (State.barge_setBarge_same ..)
  rw [run]
  exact ⟨_, rfl⟩

/-- What a barge does at its next issue is a trap, an entry or a fetched word. -/
theorem State.issueFrom_next (s : State) (core slot : Nat) (b : Barge) : ∃ t, s.issueFrom core slot b = .next t := by
  unfold State.issueFrom
  split
  · exact ⟨_, rfl⟩
  · split
    · exact ⟨_, rfl⟩
    · split
      · exact s.issueEntry_next core slot b _ _
      · exact s.issueFetched_next core slot b

/-! ## Events that are taken -/

/-- The second half of a word, at the hub or an engine, finishes: no word issues, and it has something to act on. -/
theorem exec_hubHalf_finishes {i : Instr} {s : State} (half : Instr.hasHubHalf i = true) (idle : s.issue = none)
    (acts : s.args ≠ []) : Finishes (exec i s) := by
  have hub : (s.issue.isNone && !s.args.isEmpty) = true := by simp [idle, acts]
  cases i with
  | signal | flip | rquery | csrr | csrw | csrs =>
    dsimp only [exec, execSignal, execFlip, execRquery, execCsrr, execCsrw, execCsrs]
    rw [if_pos hub]
    exact finishes_done _
  | mma =>
    dsimp only [exec, execMma]
    rw [if_pos hub]
    split <;> exact finishes_done _
  | _ => cases half

/-- An event that an agenda may hold finishes: a row with no encoding, or the second half of a word. -/
theorem exec_legal_event_finishes {e : Event} {s : State} (legal : e.legal = true) (idle : s.issue = none) (args : s.args = e.args) :
    Finishes (exec e.what s) := by
  unfold Event.legal at legal
  split at legal
  · simp only [Bool.and_eq_true, Bool.not_eq_true', List.isEmpty_eq_false_iff] at legal
    exact exec_hubHalf_finishes legal.1 idle (args ▸ legal.2)
  · next event => exact exec_event_finishes s (Bool.eq_false_iff.2 event) (by simpa using legal)

theorem State.runEvent_next (s : State) (e : Event) (rest : List (Nat × Event)) : ∃ t, s.runEvent e rest = .next t := by
  unfold State.runEvent
  extract_lets s'
  split
  · next taken =>
    obtain ⟨t, finished⟩ := exec_legal_event_finishes (s := s') (Bool.and_eq_true_iff.1 taken).1 rfl rfl
    exact ⟨t.rest, finished⟩
  · exact ⟨_, rfl⟩

/-! ## Turns -/

/-- A turn is an event, a barge's issue or the passing of time. -/
theorem State.turn_next (s : State) : ∃ t, s.turn = .next t := by
  unfold State.turn
  split
  · split
    · exact s.runEvent_next _ _
    · split
      · exact State.issueFrom_next ..
      · exact ⟨_, rfl⟩
  · split
    · exact State.issueFrom_next ..
    · exact ⟨_, rfl⟩

/-- Where nothing is due and a barge is picked, the turn is its issue. -/
theorem State.turn_of_pick {s : State} {k : Nat} {b : Barge} (powered : s.powered = true) (due : nothingDue s)
    (pick : s.pick = some (k, b)) : s.turn = (s.passOver k).issueFrom (k / 512) (k % 512) b := by
  unfold State.turn
  rw [if_pos powered, pick]
  split
  · next t e rest h =>
    have : s.now < t := due (t, e) (by rw [h]; rfl)
    rw [if_neg (by omega)]
  · rfl

/-- A barge without a cause, a trap or an entry fetches. -/
theorem State.issueFrom_of_fresh {s : State} {core slot : Nat} {b : Barge} (alive : b.dead = false) (undelivered : b.delivered = none)
    (fresh : b.reinject = []) : s.issueFrom core slot b = s.issueFetched core slot b := by
  unfold State.issueFrom
  rw [if_neg (by simp [alive])]
  split
  · next h => exact nomatch undelivered.symm.trans h
  · split
    · next h => exact nomatch fresh.symm.trans h
    · rfl

/-- A word that is fetched is run. -/
theorem State.issueFetched_of_word {s t : State} {core slot : Nat} {b : Barge} {w : Word}
    (fetched : (s.setBarge core slot { b with yieldMarks := b.next.2.2.1 }).fetch core slot { b with yieldMarks := b.next.2.2.1 }
      b.next.1 = .word w t) :
    s.issueFetched core slot b = runWord t
      { core, slot, addr := b.next.1, group := b.next.2.1, chainStart := b.next.2.2.2, word := w } := by
  unfold State.issueFetched
  dsimp only
  rw [fetched]

/-- A word that decodes is run as its instruction. -/
theorem runWord_of_decodes {s : State} {iss : Issue} {i : Instr} (decoded : decode iss.word = .ok i) :
    runWord s iss = exec i { s with issue := some iss, args := [] } := by
  unfold runWord
  simp only [decoded]

/-- Settles O15: whatever a turn is, it answers a next state, whose writes land. -/
theorem stepNeverStops : Obligations.StepNeverStops := by
  intro s
  obtain ⟨t, turn⟩ := s.turn_next
  exact ⟨t.land s.mem, step_eq_next.2 ⟨t, turn, rfl⟩⟩

/-- Settles O16: a picked barge without a cause, a trap or an entry issues the word that it fetches. -/
theorem stepRunsDecoded : Obligations.StepRunsDecoded := by
  intro s t k b w i powered due pick alive undelivered fresh fetched decoded
  have turn : s.turn = exec i { t with issue := some (issueOf k b w), args := [] } := by
    rw [State.turn_of_pick powered due pick, State.issueFrom_of_fresh alive undelivered fresh, State.issueFetched_of_word fetched]
    exact runWord_of_decodes decoded
  unfold step
  rw [turn]
  rfl

end Sys2Proof.Machine
end

section
/-!
A word at issue (R30, R31, R46, R47): the trap of a word that is no instruction, the chains of prefixes, and the order of the
checks and waits before a word's own effect.
-/
namespace Sys2Proof.Machine
open Sys2Proof Sys2Proof.Claims

/-! ## Words that are no instruction -/

/-- A word that does not decode, but for a reserved prefix, is run as an illegal encoding with its code. -/
theorem runWord_of_illegal {s : State} {iss : Issue} {e : DecodeError} (illegal : decode iss.word = .error e) (he : e ≠ .badPrefix) :
    runWord s iss = exec .illegalEncoding
      { s with issue := some iss, args := [if e = .illOrder then orderCause s iss else causeCode e] } := by
  unfold runWord
  cases e with
  | badPrefix => exact absurd rfl he
  | illClass | illOp | illField | illOrder =>
    simp only [illegal]
    rfl

/-- A word that is no instruction traps with the code that is its argument, or with HANDLER_FAULT (R46, R389). -/
theorem execIllegalEncoding_traps {s : State} {iss : Issue} {b : Barge} (issue : s.issue = some iss)
    (hb : s.barge iss.core iss.slot = some b) :
    ∃ g : Go, g.core = iss.core ∧ g.slot = iss.slot ∧ g.b = b ∧ g.first = iss.chainStart ∧ g.group = iss.group
      ∧ execIllegalEncoding s = done (g.trap { cause := if b.handler then 0xB3 else BitVec.ofNat 8 (s.arg 0) } s) := by
  unfold execIllegalEncoding
  simp only [issue, hb]
  exact ⟨_, rfl, rfl, rfl, rfl, rfl, rfl⟩

/-- Settles O25: the trap is that of the illegal encoding whose argument the decoder gives. That an order code on an odd pair is
ILL_FIELD, as of step 3 of R47, is the model's choice (log 17). -/
theorem illegalWordsTrap : Obligations.IllegalWordsTrap := by
  intro s iss b e illegal he hb code
  obtain ⟨g, core, slot, barge, first, group, traps⟩ :=
    execIllegalEncoding_traps (s := { s with issue := some iss, args := [code] }) rfl hb
  exact ⟨g, _, core, slot, barge, first, group, traps, (runWord_of_illegal illegal he).trans traps, rfl⟩

/-! ## Chains of prefixes -/

theorem exec_of_isPrefix {i : Instr} (h : isPrefix i = true) (s : State) : exec i s = prefixWord s := by
  cases i with
  | ximm | ximmh | xmod | xpred | xopd | xsch => rfl
  | _ => cases h

/-- The chain that a prefix joins: the pending one, or that of the entry which is re-injected (R31, R393). -/
def Issue.chain (iss : Issue) (b : Barge) : Chain :=
  match iss.replay with
  | some e => { start := e.addr, words := e.words.dropLast, group := iss.group }
  | none => b.chain.getD { start := iss.addr, words := [], group := iss.group }

/-- The barge after a prefix: it has issued, and the prefix is the last of the chain. -/
def Barge.joinChain (b : Barge) (now : Nat) (iss : Issue) (c : Chain) : Barge :=
  { b with
    chain := some { c with words := c.words ++ [iss.word] }
    lastIssue := now
    readyAt := now + 1
    eligibleSince := now + 1
    follow := some (iss.addr + 4)
    wait := .none
    yieldPending := false
    history := now :: b.history.filter fun t => decide (now < t + 256) }

/-- The machine after a prefix: its barge is changed, and its quarter has issued. -/
def State.joinChain (s : State) (iss : Issue) (b : Barge) (c : Chain) : State :=
  (s.setBarge iss.core iss.slot (b.joinChain s.now iss c)).setCore iss.core
    { s.core iss.core with lastIssue := (s.core iss.core).lastIssue.put (quarterOf iss.slot) s.now }

section
variable {s : State} {iss : Issue} {b : Barge} (issue : s.issue = some iss) (hb : s.barge iss.core iss.slot = some b)
include issue hb

/-- A prefix joins a chain of fewer than three (R30). -/
theorem prefixWord_joins (room : (iss.chain b).words.length < 3) : prefixWord s = done (s.joinChain iss b (iss.chain b)) := by
  have notFull : (iss.chain b).full = false := decide_eq_false (by omega)
  unfold prefixWord
  simp only [issue, hb]
  exact if_neg (Bool.eq_false_iff.1 notFull)

/-- A fourth prefix traps ILL_PREFIX at its chain (R31). -/
theorem prefixWord_traps (full : 3 ≤ (iss.chain b).words.length) :
    ∃ g : Go, g.core = iss.core ∧ g.slot = iss.slot ∧ g.b = b ∧ g.first = (iss.chain b).start ∧ g.replay = iss.replay.isSome
      ∧ prefixWord s = done (g.trap { cause := 0x03 } s) := by
  have isFull : (iss.chain b).full = true := decide_eq_true full
  unfold prefixWord
  simp only [issue, hb]
  exact ⟨_, rfl, rfl, rfl, rfl, rfl, if_pos isFull⟩

end

/-- Settles O26: a prefix joins its chain where that holds fewer than three, and traps where it does not. -/
theorem prefixChains : Obligations.PrefixChains := by
  refine ⟨?_, ?_, ?_⟩
  · intro i s iss b pre issue hb fresh short
    have chain : iss.chain b = b.chain.getD { start := iss.addr, words := [], group := iss.group } := by
      unfold Issue.chain; rw [fresh]
    have room : (iss.chain b).words.length < 3 := by
      rw [chain]
      cases h : b.chain with
      | none => simp
      | some c => exact short c h
    refine ⟨(s.joinChain iss b (iss.chain b)).rest, b.joinChain s.now iss (iss.chain b),
      (exec_of_isPrefix pre s).trans (prefixWord_joins issue hb room), State.barge_setBarge_same .., ?_, rfl, rfl, rfl, ?_, rfl,
      fun k m h => State.barge_setBarge_other s _ h, State.byteAt_congr rfl rfl, rfl, rfl, rfl⟩
    · rw [← chain]
      show some { iss.chain b with words := (iss.chain b).words ++ [iss.word] } = _
      rw [chain]
      cases b.chain <;> rfl
    · constructor <;> rfl
  · intro i s iss b c pre issue hb fresh chained full
    have chain : iss.chain b = c := by unfold Issue.chain; rw [fresh, chained]; rfl
    obtain ⟨g, core, slot, barge, first, replay, traps⟩ := prefixWord_traps issue hb (chain ▸ full)
    exact ⟨g, core, slot, barge, chain ▸ first, by rw [replay, fresh]; rfl, (exec_of_isPrefix pre s).trans traps⟩
  · intro i s iss b e pre issue hb entry full
    have chain : iss.chain b = { start := e.addr, words := e.words.dropLast, group := iss.group } := by
      unfold Issue.chain; rw [entry]
    obtain ⟨g, core, slot, barge, first, replay, traps⟩ := prefixWord_traps issue hb (by rw [chain, List.length_dropLast]; omega)
    exact ⟨g, core, slot, barge, by rw [first, chain], by rw [replay, entry]; rfl, (exec_of_isPrefix pre s).trans traps⟩

/-! ## The checks -/

/-- A word that is no prefix runs the checks of R47 where a barge issues it, and then an effect of its own. -/
theorem exec_eq_issueWord {i : Instr} {s : State} (word : i.isWord = true) (noPrefix : isPrefix i = false)
    (issuing : s.issue.isNone = false) : ∃ effect, exec i s = issueWord (shapeOf i) s effect := by
  cases i with
  | ximm | ximmh | xmod | xpred | xopd | xsch => cases noPrefix
  | signal | flip | rquery | csrr | csrw | csrs | mma =>
    refine ⟨_, if_neg ?_⟩
    simp [issuing]
  | ldB32 | ldB64 | ldB128 | ldbB32 | ldbB64 | ldbB128 =>
    show ∃ effect, globalLoad _ _ _ _ _ _ s = _
    exact ⟨_, rfl⟩
  | ldlB32 | ldlB64 | ldlB128 | ldpB32 | ldpB64 | ldpB128 =>
    show ∃ effect, nearLoad _ _ _ _ _ _ s = _
    exact ⟨_, rfl⟩
  | ldvB32 | ldvB128 =>
    show ∃ effect, versionLoad _ _ _ _ _ s = _
    exact ⟨_, rfl⟩
  | stB32 | stB64 | stB128 =>
    show ∃ effect, globalStore _ _ _ _ _ s = _
    exact ⟨_, rfl⟩
  | stlB32 | stlB64 | stlB128 | stpB32 | stpB64 | stpB128 =>
    show ∃ effect, nearStore _ _ _ _ _ _ s = _
    exact ⟨_, rfl⟩
  | cstoreB32 | cstoreB64 =>
    show ∃ effect, compactStore _ _ _ _ _ s = _
    exact ⟨_, rfl⟩
  | atomAdd | atomMin | atomMax | atomAnd | atomOr | atomXor | atomExch | atomCas | redAdd | redMin | redMax | redAnd | redOr
    | redXor =>
    show ∃ effect, atomic _ _ _ _ _ _ _ _ s = _
    unfold atomic
    exact ⟨_, rfl⟩
  | syncLd | syncLdb =>
    show ∃ effect, syncLoad _ _ _ _ _ _ _ s = _
    exact ⟨_, rfl⟩
  | semsig | semset =>
    show ∃ effect, semUpdateWord _ _ _ _ _ s = _
    exact ⟨_, rfl⟩
  | tld | tst =>
    show ∃ effect, tileWord _ _ _ _ _ _ s = _
    exact ⟨_, rfl⟩
  | tcopy | tclr =>
    show ∃ effect, rectangleWord _ _ _ _ _ _ s = _
    exact ⟨_, rfl⟩
  | job | jobq =>
    show ∃ effect, jobWord _ _ _ _ s = _
    exact ⟨_, rfl⟩
  | boxt | trit =>
    show ∃ effect, testWord _ _ _ _ _ _ _ _ _ s = _
    exact ⟨_, rfl⟩
  | sample | samplel | sampleg =>
    show ∃ effect, sampleWord _ _ _ _ _ _ s = _
    exact ⟨_, rfl⟩
  | commit | commitReg | squash | squashReg =>
    show ∃ effect, versionWord _ _ _ _ s = _
    exact ⟨_, rfl⟩
  | reform =>
    show ∃ effect, execReform _ _ _ _ s = _
    unfold execReform
    exact ⟨_, rfl⟩
  | _ =>
    first
    | exact absurd word Bool.false_ne_true
    | dsimp only [exec]
      exact ⟨_, rfl⟩

/-- Settles O27: a word's checks are those of its shape, in the order of `start`. -/
theorem issueChecks : Obligations.IssueChecks := by
  intro i s g word noPrefix issues
  obtain ⟨effect, meaning⟩ := exec_eq_issueWord (s := s) word noPrefix (by obtain ⟨iss, b, issue, -⟩ := issues; rw [issue]; rfl)
  rw [meaning]
  exact ⟨fun c cause => issueWord_of_cause issues cause effect, fun clean held => issueWord_of_hold issues clean held effect,
    fun c clean free cause => issueWord_of_reach issues clean free cause effect⟩

end Sys2Proof.Machine
end

section
/-!
The encoding (R19, R38 to R46): a well-formed instruction's word decodes to it, and a word that decodes is its instruction's word.
-/
namespace Sys2Proof.Encoding
open Sys2Proof Sys2Proof.Laws.Fields

/-! ## From an instruction to its word and back -/

/-- The fields of an instruction's word, whatever the instruction: one law of the family for each constructor. -/
theorem fields_of_encode (i : Instr) : Statement i :=
  Instr.casesOn (motive := Statement) i
    ximm ximmh xmod xpred xopd xsch iadd isub imul imulh imad imin imax iabs ishl ishr lshr popc clz brev iaddImm imulImm
    iminImm imaxImm ishlImm ishrImm lshrImm logic3 bfe bfi lea shf iadd64 isub64 imul64 imad64 icmp fcmp fclass sel pand por
    pxor pnot fadd fsub fmul ffma fmin fmax frnd fabs fneg fscale faddPacked fsubPacked fmulPacked ffmaPacked fminPacked
    fmaxPacked frndPacked fabsPacked fnegPacked fscalePacked faddImm fmulImm ffmaImm fminImm rcp rsq sqrt exp2 log2 sinpi cospi
    tanh divf fcvt icvt ftoi itof npack nunpack qscale qpack qunpack qdot4 dsmul mov movi movs shfl ballot vote bsel bred elect
    csel matchLanes lanemask bra jmp call calli ret mark join reform exit nop sleep yield ldB32 ldB64 ldB128 ldbB32 ldbB64
    ldbB128 ldlB32 ldlB64 ldlB128 ldpB32 ldpB64 ldpB128 ldvB32 ldvB128 prefetch invl1 stB32 stB64 stB128 stlB32 stlB64 stlB128
    stpB32 stpB64 stpB128 cstoreB32 cstoreB64 atomAdd atomMin atomMax atomAnd atomOr atomXor atomExch atomCas redAdd redMin
    redMax redAnd redOr redXor redflush mxacc syncLd syncLdb syncSt fence fenceLayer bar bararr bsync semwait semsig semset mma
    tld tst tcopy tclr job jobq boxt trit tspush tspop rayinit vexport pexport sample samplel sampleg attr zquery launch signal
    perfcl flip fork reach commit commitReg squash squashReg rquery trap brk rett csrr csrw csrs wfi registerFill sleepEnd
    wfiWake l1Fill writeAcknowledge homeRead homeWrite homeAtomic redDrainEntry mxaccAtHome pull pullReply walkRequest
    walkComplete hostSnoop hostMemRead refreshWindow memTempSample hotStateChange layerTempSample powerSample freqStep
    thermalPeriodStart watchdog basinClose barrierOpen sluiceWave handlerEntry unrecoverableFault chunkCommitRequest forkGrant
    commitPoint squashPoint reachStarved settlingComplete cardStart cardComplete cardFault mmaStart mmaGroupFull setupTake
    windowRelease pixelBargeClose earlyZTest pixelRetire binBuild verticalBlank frameStart queueSlotWrite wharfTake
    wharfDispatch workgroupStart taskComplete ctxTeardown ctxKill ctxKillDone deviceFatal tlbiGo tlbiDone migLock migLocked
    migSwitch migRelease colSplitRequest colSplitApply vbusTestGo vbusCaptDone vbusLock vbusRetire mtxLayerLock inputPublish
    semValWrite faultLogRead faultResume preemptVacate preemptSaveGraphics preemptRestoreGraphics preemptRelease preemptDone
    savedWorkgroupRestore powerUp bootVerify bootVerifyComplete attestExtend quoteStart quoteDone bootKernelGo registerWrite
    illegalEncoding powerOff hostMemWrite backInvalidateResponse hostDataArrival semaphoreUpdate writeBufferArrival
    writeBufferCommit tileStoreAccess localMemoryAccess

/-- Settles O22: the fields come back, and the checks of their values pass. -/
theorem decodeEncode : Obligations.DecodeEncode := by
  intro i w wf encoded
  have values : i.fieldsOk = true ∧ i.orderOk = true := by simpa [Instr.wellFormed] using wf
  unfold decode
  rw [fields_of_encode i w wf encoded]
  simp [values]

/-! ## From a word to its instruction and back -/

/-- Where a decoder's answer is an instruction, that has this word. -/
def EncodesTo (w : Word) (r : Except DecodeError Instr) : Prop := ∀ i, r = .ok i → encode i = some w

@[simp] theorem encodesTo_error {w : Word} {e : DecodeError} : EncodesTo w (.error e) := fun _ h => nomatch h

@[simp] theorem encodesTo_ok {w : Word} {i : Instr} : EncodesTo w (.ok i) ↔ encode i = some w :=
  ⟨fun h => h i rfl, fun h _ hi => by cases hi; exact h⟩

@[simp] theorem encodesTo_ite {w : Word} {c : Prop} [Decidable c] {r r' : Except DecodeError Instr} :
    EncodesTo w (if c then r else r') ↔ (c → EncodesTo w r) ∧ (¬ c → EncodesTo w r') := by
  split <;> simp [*]

/-! ### Fields put together again: the parts of a field, the reserved ones being 0 -/

/-- Two parts that meet are the part that they make together. -/
theorem append_parts {w m n hi lo : Nat} {x : BitVec w} (h : hi = lo + n) :
    x.extractLsb' hi m ++ x.extractLsb' lo n = x.extractLsb' lo (m + n) :=
  BitVec.extractLsb'_append_extractLsb'_eq_extractLsb' h

section
variable {l : BitVec 9}

@[simp] theorem low_register : l.extractLsb' 2 7 ++ l.extractLsb' 1 1 ++ l.extractLsb' 0 1 = l := by
  rw [append_parts, append_parts, extract_all] <;> rfl

@[simp] theorem low_immediate : l.extractLsb' 8 1 ++ l.extractLsb' 0 8 = l := by
  rw [append_parts, extract_all]
  rfl

@[simp] theorem low_memory : l.extractLsb' 1 8 ++ l.extractLsb' 0 1 = l := by
  rw [append_parts, extract_all]
  rfl

@[simp] theorem low_sync : l.extractLsb' 6 3 ++ l.extractLsb' 4 2 ++ l.extractLsb' 1 3 ++ l.extractLsb' 0 1 = l := by
  rw [append_parts, append_parts, append_parts, extract_all] <;> rfl

@[simp] theorem low_policy (hb : l.extractLsb' 2 7 = 0#7) (hq : l.extractLsb' 0 1 = 0#1) : 0#7 ++ l.extractLsb' 1 1 ++ 0#1 = l := by
  rw [← hb, ← hq, low_register]

@[simp] theorem low_class_mask (hq : l.extractLsb' 0 1 = 0#1) : l.extractLsb' 2 7 ++ l.extractLsb' 1 1 ++ 0#1 = l := by
  rw [← hq, low_register]

@[simp] theorem low_immediate_alone (hp : l.extractLsb' 8 1 = 0#1) : 0#1 ++ l.extractLsb' 0 8 = l := by
  rw [← hp, low_immediate]

@[simp] theorem low_policy_before {c : BitVec 8} (hc : l.extractLsb' 0 8 = c) : l.extractLsb' 8 1 ++ c = l := by
  rw [← hc, low_immediate]

@[simp] theorem low_predicate (hh : l.extractLsb' 5 4 = 0#4) (hl : l.extractLsb' 0 2 = 0#2) : 0#4 ++ l.extractLsb' 2 3 ++ 0#2 = l := by
  rw [← hh, ← hl, append_parts, append_parts, extract_all] <;> rfl

@[simp] theorem low_fence {c : BitVec 4} (hc : l.extractLsb' 0 4 = c) : l.extractLsb' 6 3 ++ l.extractLsb' 4 2 ++ c = l := by
  rw [← hc, append_parts, append_parts, extract_all] <;> rfl

@[simp] theorem low_barrier (hp : l.extractLsb' 8 1 = 0#1) : 0#1 ++ l.extractLsb' 6 2 ++ l.extractLsb' 0 6 = l := by
  rw [← hp, append_parts, append_parts, extract_all] <;> rfl

@[simp] theorem low_attribute (hl : l.extractLsb' 0 2 = 0#2) : l.extractLsb' 2 7 ++ 0#2 = l := by
  rw [← hl, append_parts, extract_all]
  rfl

@[simp] theorem low_label (hh : l.extractLsb' 3 6 = 0#6) : 0#6 ++ l.extractLsb' 0 3 = l := by
  rw [← hh, append_parts, extract_all]
  rfl

@[simp] theorem low_labels (hp : l.extractLsb' 8 1 = 0#1) (hq : l.extractLsb' 0 1 = 0#1) : 0#1 ++ l.extractLsb' 1 7 ++ 0#1 = l := by
  calc 0#1 ++ l.extractLsb' 1 7 ++ 0#1 = l.extractLsb' 8 1 ++ l.extractLsb' 1 7 ++ l.extractLsb' 0 1 := by rw [hp, hq]
    _ = l := by rw [append_parts, append_parts, extract_all] <;> rfl

end

section
variable {d : BitVec 7}

@[simp] theorem field_condition : d.extractLsb' 3 4 ++ d.extractLsb' 0 3 = d := by
  rw [append_parts, extract_all]
  rfl

@[simp] theorem field_predicate (hh : d.extractLsb' 3 4 = 0#4) : 0#4 ++ d.extractLsb' 0 3 = d := by
  rw [← hh, field_condition]

@[simp] theorem field_file (hh : d.extractLsb' 1 6 = 0#6) : 0#6 ++ d.extractLsb' 0 1 = d := by
  rw [← hh, append_parts, extract_all]
  rfl

end

section
variable {x : BitVec 24}

@[simp] theorem payload_xpred (hl : x.extractLsb' 0 20 = 0#20) : x.extractLsb' 23 1 ++ x.extractLsb' 20 3 ++ 0#20 = x := by
  rw [← hl, append_parts, append_parts, extract_all] <;> rfl

@[simp] theorem payload_xopd (hm : x.extractLsb' 1 7 = 0#7) :
    x.extractLsb' 23 1 ++ x.extractLsb' 16 7 ++ x.extractLsb' 15 1 ++ x.extractLsb' 8 7 ++ 0#7 ++ x.extractLsb' 0 1 = x := by
  rw [← hm, append_parts, append_parts, append_parts, append_parts, append_parts, extract_all] <;> rfl

@[simp] theorem payload_xsch (hl : x.extractLsb' 0 18 = 0#18) : x.extractLsb' 23 1 ++ x.extractLsb' 18 5 ++ 0#18 = x := by
  rw [← hl, append_parts, append_parts, extract_all] <;> rfl

end

/-! ### The words of each format -/

theorem packWord_parts (w : Word) : packWord (wordClass w) (wordOp w) (wordD w) (wordA w) (wordLow w) = w := by
  unfold packWord wordClass wordOp wordD wordA wordLow
  rw [append_parts, append_parts, append_parts, append_parts, extract_all] <;> rfl

theorem packBranch_parts (w : Word) (h : wordClass w = 11#5) :
    packBranch (w.extractLsb' 24 3) (w.extractLsb' 21 3) (w.extractLsb' 0 21) = w := by
  unfold packBranch
  rw [← h, wordClass, append_parts, append_parts, append_parts, extract_all] <;> rfl

theorem packPrefix_parts (w : Word) (h : wordClass w = 31#5) : packPrefix (w.extractLsb' 24 3) (w.extractLsb' 0 24) = w := by
  unfold packPrefix
  rw [← h, wordClass, append_parts, append_parts, extract_all] <;> rfl

/-- The class of a word from its number. -/
theorem wordClass_of_toNat {w : Word} {c : Nat} (h : (wordClass w).toNat = c) : wordClass w = BitVec.ofNat 5 c := by
  rw [← h, BitVec.ofNat_toNat, BitVec.setWidth_eq]

/-- A word of a class whose decoder reads op, d, a and low. -/
theorem encodesTo_of_class {w : Word} {c : Nat} {f : Nat → BitVec 7 → BitVec 7 → BitVec 9 → Except DecodeError Instr}
    (h : (wordClass w).toNat = c)
    (class_ : ∀ n d a l, EncodesTo (packWord (BitVec.ofNat 5 c) (BitVec.ofNat 4 n) d a l) (f n d a l)) :
    EncodesTo w (f (wordOp w).toNat (wordD w) (wordA w) (wordLow w)) := by
  have := class_ (wordOp w).toNat (wordD w) (wordA w) (wordLow w)
  rwa [← wordClass_of_toNat h, BitVec.ofNat_toNat, BitVec.setWidth_eq, packWord_parts] at this

/-! ### Each class -/

section
variable (n : Nat) (d a : BitVec 7) (l : BitVec 9)

theorem encodesTo_class0 : EncodesTo (packWord 0#5 (BitVec.ofNat 4 n) d a l) (decodeClass0 n d a l) := by
  unfold decodeClass0
  split <;> simp +contextual [encode]

theorem encodesTo_class1 : EncodesTo (packWord 1#5 (BitVec.ofNat 4 n) d a l) (decodeClass1 n d a l) := by
  unfold decodeClass1
  split <;> simp +contextual [encode]

theorem encodesTo_class2 : EncodesTo (packWord 2#5 (BitVec.ofNat 4 n) d a l) (decodeClass2 n d a l) := by
  unfold decodeClass2
  split <;> simp +contextual [encode]

theorem encodesTo_class3 : EncodesTo (packWord 3#5 (BitVec.ofNat 4 n) d a l) (decodeClass3 n d a l) := by
  unfold decodeClass3
  split <;> simp +contextual [encode]

theorem encodesTo_class4 : EncodesTo (packWord 4#5 (BitVec.ofNat 4 n) d a l) (decodeClass4 n d a l) := by
  unfold decodeClass4
  split <;> simp +contextual [encode]

theorem encodesTo_class5 : EncodesTo (packWord 5#5 (BitVec.ofNat 4 n) d a l) (decodeClass5 n d a l) := by
  unfold decodeClass5
  split <;> simp +contextual [encode]

theorem encodesTo_class6 : EncodesTo (packWord 6#5 (BitVec.ofNat 4 n) d a l) (decodeClass6 n d a l) := by
  unfold decodeClass6
  split <;> simp +contextual [encode]

theorem encodesTo_class7 : EncodesTo (packWord 7#5 (BitVec.ofNat 4 n) d a l) (decodeClass7 n d a l) := by
  unfold decodeClass7
  split <;> simp +contextual [encode]

theorem encodesTo_class8 : EncodesTo (packWord 8#5 (BitVec.ofNat 4 n) d a l) (decodeClass8 n d a l) := by
  unfold decodeClass8
  split <;> simp +contextual [encode]

theorem encodesTo_class9 : EncodesTo (packWord 9#5 (BitVec.ofNat 4 n) d a l) (decodeClass9 n d a l) := by
  unfold decodeClass9
  split <;> simp +contextual [encode]

theorem encodesTo_class10 : EncodesTo (packWord 10#5 (BitVec.ofNat 4 n) d a l) (decodeClass10 n d a l) := by
  unfold decodeClass10
  split <;> simp +contextual [encode]

theorem encodesTo_class12 : EncodesTo (packWord 12#5 (BitVec.ofNat 4 n) d a l) (decodeClass12 n d a l) := by
  unfold decodeClass12
  split <;> simp +contextual [encode]

theorem encodesTo_class13 : EncodesTo (packWord 13#5 (BitVec.ofNat 4 n) d a l) (decodeClass13 n d a l) := by
  unfold decodeClass13
  split <;> simp +contextual [encode]

theorem encodesTo_class14 : EncodesTo (packWord 14#5 (BitVec.ofNat 4 n) d a l) (decodeClass14 n d a l) := by
  unfold decodeClass14
  split <;> simp +contextual [encode]

theorem encodesTo_class15 : EncodesTo (packWord 15#5 (BitVec.ofNat 4 n) d a l) (decodeClass15 n d a l) := by
  unfold decodeClass15
  split <;> simp +contextual [encode]

theorem encodesTo_class16 : EncodesTo (packWord 16#5 (BitVec.ofNat 4 n) d a l) (decodeClass16 n d a l) := by
  unfold decodeClass16
  split <;> simp +contextual [encode]

theorem encodesTo_class17 : EncodesTo (packWord 17#5 (BitVec.ofNat 4 n) d a l) (decodeClass17 n d a l) := by
  unfold decodeClass17
  split <;> simp +contextual [encode]

theorem encodesTo_class18 : EncodesTo (packWord 18#5 (BitVec.ofNat 4 n) d a l) (decodeClass18 n d a l) := by
  unfold decodeClass18
  split <;> simp +contextual [encode]

theorem encodesTo_class19 : EncodesTo (packWord 19#5 (BitVec.ofNat 4 n) d a l) (decodeClass19 n d a l) := by
  unfold decodeClass19
  split <;> simp +contextual [encode]

theorem encodesTo_class20 : EncodesTo (packWord 20#5 (BitVec.ofNat 4 n) d a l) (decodeClass20 n d a l) := by
  unfold decodeClass20
  split <;> simp +contextual [encode]

theorem encodesTo_class21 : EncodesTo (packWord 21#5 (BitVec.ofNat 4 n) d a l) (decodeClass21 n d a l) := by
  unfold decodeClass21
  split <;> simp +contextual [encode]

theorem encodesTo_class22 : EncodesTo (packWord 22#5 (BitVec.ofNat 4 n) d a l) (decodeClass22 n d a l) := by
  unfold decodeClass22
  split <;> simp +contextual [encode]

theorem encodesTo_class23 : EncodesTo (packWord 23#5 (BitVec.ofNat 4 n) d a l) (decodeClass23 n d a l) := by
  unfold decodeClass23
  split <;> simp +contextual [encode]

theorem encodesTo_class24 : EncodesTo (packWord 24#5 (BitVec.ofNat 4 n) d a l) (decodeClass24 n d a l) := by
  unfold decodeClass24
  split <;> simp +contextual [encode]

end

theorem encodesTo_prefix (n : Nat) (x : BitVec 24) : EncodesTo (packPrefix (BitVec.ofNat 3 n) x) (decodePrefix n x) := by
  unfold decodePrefix
  split <;> simp +contextual [encode]

/-- The word of the instruction that its fields give is the word itself. -/
theorem encodesTo_fields (w : Word) : EncodesTo w (decodeFields w) := by
  unfold decodeFields
  split
  · next h => exact encodesTo_of_class h encodesTo_class0
  · next h => exact encodesTo_of_class h encodesTo_class1
  · next h => exact encodesTo_of_class h encodesTo_class2
  · next h => exact encodesTo_of_class h encodesTo_class3
  · next h => exact encodesTo_of_class h encodesTo_class4
  · next h => exact encodesTo_of_class h encodesTo_class5
  · next h => exact encodesTo_of_class h encodesTo_class6
  · next h => exact encodesTo_of_class h encodesTo_class7
  · next h => exact encodesTo_of_class h encodesTo_class8
  · next h => exact encodesTo_of_class h encodesTo_class9
  · next h => exact encodesTo_of_class h encodesTo_class10
  · next h => exact encodesTo_ok.2 (congrArg some (packBranch_parts w (wordClass_of_toNat h)))
  · next h => exact encodesTo_of_class h encodesTo_class12
  · next h => exact encodesTo_of_class h encodesTo_class13
  · next h => exact encodesTo_of_class h encodesTo_class14
  · next h => exact encodesTo_of_class h encodesTo_class15
  · next h => exact encodesTo_of_class h encodesTo_class16
  · next h => exact encodesTo_of_class h encodesTo_class17
  · next h => exact encodesTo_of_class h encodesTo_class18
  · next h => exact encodesTo_of_class h encodesTo_class19
  · next h => exact encodesTo_of_class h encodesTo_class20
  · next h => exact encodesTo_of_class h encodesTo_class21
  · next h => exact encodesTo_of_class h encodesTo_class22
  · next h => exact encodesTo_of_class h encodesTo_class23
  · next h => exact encodesTo_of_class h encodesTo_class24
  · next h =>
    have := encodesTo_prefix (w.extractLsb' 24 3).toNat (w.extractLsb' 0 24)
    rwa [BitVec.ofNat_toNat, BitVec.setWidth_eq, packPrefix_parts w (wordClass_of_toNat h)] at this
  · exact encodesTo_error

/-- Settles O23: the fields of a word are all of its bits, and what decodes has passed the checks of its values. -/
theorem encodeDecode : Obligations.EncodeDecode := by
  intro i w decoded
  unfold decode at decoded
  split at decoded
  · cases decoded
  · next fields =>
    split at decoded
    · cases decoded
    · split at decoded
      · cases decoded
      · cases decoded
        exact ⟨by simp_all [Instr.wellFormed], encodesTo_fields w _ fields⟩

/-! ## Words that the spec writes out -/

/-- Settles O24: each word, decoded. -/
theorem wordsDecode : Obligations.WordsDecode := by
  refine ⟨?_, ?_, ?_, ?_, ?_, ?_, ?_, ?_, ?_⟩ <;> decide +kernel

end Sys2Proof.Encoding
end

section
/-!
Words that write a predicate (R39, R207, R208, R210, R233), and class 7 (R215).
-/
namespace Sys2Proof.Machine
open Sys2Proof Sys2Proof.Claims

/-! ## Words that write a predicate -/

/-- A predicate is written in the active lanes alone, and nothing else changes. -/
theorem Go.writePred_retired (g : Go) (e : BitVec 3) (latency : Nat) (f : Nat → Bool) (s : State) :
    RetiredPred g s (g.writePred e latency f s) e f := by
  refine ⟨Go.finish_machine .., _, Go.finish_barge .., ?_, ?_, rfl, rfl, by constructor <;> rfl,
    fun i hi => Barge.pass_pcs _ _ _ _ _ _ hi⟩
  · intro i hi
    show laneOn ((g.b.setP e g.active (maskOf f)).pred e) i = _
    rw [Barge.pred_setP, if_pos rfl, ← laneOn_maskOf f hi]
    unfold laneOn
    rw [BitVec.getLsbD_or, BitVec.getLsbD_and, BitVec.getLsbD_and, BitVec.getLsbD_not]
    cases g.active.getLsbD i <;> simp [hi]
  · intro p hp
    exact (Barge.pred_setP ..).trans (if_neg hp)

theorem RetiredPred.rest {g : Go} {s t : State} {e : BitVec 3} {f : Nat → Bool} (h : RetiredPred g s t e f) :
    RetiredPred g s t.rest e f :=
  ⟨h.machine.rest, h.barge⟩

/-- A clear word whose effect is a predicate. -/
theorem writesPred_of_exec {i : Instr} {s : State} {g : Go} {e : BitVec 3} {latency : Nat} {f : Nat → Bool}
    (hx : exec i s = done (g.writePred e latency f s)) : WritesPred i s g e f :=
  ⟨_, hx, (Go.writePred_retired g e latency f s).rest⟩

/-- The class of R208 by the exponent and the fraction of the code, as the class of its value. -/
theorem classBit_eq_classOf {f : Fmt} (hf : f = .f32 ∨ f = .f64) {c : Nat} (hc : c < 2 ^ f.width) :
    classBit f c = Claims.classOf f c := by
  have sign : f.signOf c = decide (2 ^ (f.width - 1) ≤ c) := by
    rw [Fmt.signOf, Nat.testBit_eq_decide_div_mod_eq]
    rcases hf with rfl | rfl <;> simp only [Fmt.width] at hc ⊢ <;> congr 1 <;> simp only [eq_iff_iff] <;> omega
  have parts : c / 2 ^ f.frac % 2 ^ (f.width - 1 - f.frac) = f.absOf c / 2 ^ f.frac ∧ c % 2 ^ f.frac = f.absOf c % 2 ^ f.frac := by
    rcases hf with rfl | rfl <;> simp only [Fmt.absOf, Fmt.width, Fmt.frac] <;> omega
  have below : f.absOf c < 2 ^ (f.width - 1) := Nat.mod_lt _ (Nat.two_pow_pos _)
  unfold classBit Claims.classOf Fmt.value Fmt.isSubnormal Exact.ofMag
  rw [parts.1, parts.2, sign]
  generalize f.absOf c = a at below
  generalize decide (2 ^ (f.width - 1) ≤ c) = negative
  have infinity : f.infCode = some (f.maxCode + 1) ∧ f.nanCode.isSome = true := by
    rcases hf with rfl | rfl <;> exact ⟨rfl, rfl⟩
  have top : (a / 2 ^ f.frac = 2 ^ (f.width - 1 - f.frac) - 1 ↔ f.maxCode < a) ∧
      (f.maxCode < a → (a % 2 ^ f.frac = 0 ↔ a = f.maxCode + 1)) := by
    rcases hf with rfl | rfl <;> simp only [Fmt.width, Fmt.frac, Fmt.maxCode] at below ⊢ <;> omega
  have bottom : a / 2 ^ f.frac = 0 ↔ a < 2 ^ f.frac := Nat.div_eq_zero_iff_lt (Nat.two_pow_pos _)
  simp only [infinity, top.1, bottom, Bool.true_and, decide_eq_true_eq, Option.some.injEq]
  by_cases special : f.maxCode < a
  · simp only [top.2 special, eq_comm (a := a)]
    by_cases infinite : f.maxCode + 1 = a <;> simp [special, infinite]
  · have finite : f.maxCode + 1 ≠ a := by omega
    by_cases subnormal : a < 2 ^ f.frac
    · by_cases zero : a = 0
      · simp [zero]
      · simp [special, finite, subnormal, zero, Nat.mod_eq_of_lt subnormal, Nat.pos_of_ne_zero zero]
    · simp [special, finite, subnormal]

theorem Go.laneOn_ballot (g : Go) (f : BitVec 3) {l : Nat} (hl : l < 32) :
    laneOn (g.ballot f) l = (laneOn g.active l && (laneOn (g.b.pred f) l != (g.pre.aux == 1))) := by
  unfold Go.ballot laneOn
  by_cases aux : g.pre.aux = 1 <;> simp [aux, hl, beq_false_of_ne]

/-- A condition holds in some lane of a mask where the mask of those lanes is not empty. -/
theorem lanesIn_any {m q : Mask} {p : Nat → Bool} (hq : ∀ l, l < 32 → laneOn q l = (laneOn m l && p l)) :
    (lanesIn m).any p = decide (q ≠ 0) := by
  rw [← maskOf_eq hq, Bool.eq_iff_iff, decide_eq_true_iff, ne_eq, maskOf_eq_zero]
  simp [mem_lanesIn, and_assoc]

/-- It holds in every lane of the mask where those are the mask's own. -/
theorem lanesIn_all {m q : Mask} {p : Nat → Bool} (hq : ∀ l, l < 32 → laneOn q l = (laneOn m l && p l)) :
    (lanesIn m).all p = decide (q = m) := by
  have same : q = m ↔ ∀ l, l < 32 → laneOn q l = laneOn m l := ⟨fun h _ _ => by rw [h], BitVec.eq_of_getLsbD_eq⟩
  rw [Bool.eq_iff_iff, decide_eq_true_iff, same, List.all_eq_true]
  refine forall_congr' fun l => ?_
  rw [mem_lanesIn, and_imp]
  refine forall_congr' fun hl => ?_
  rw [hq l hl]
  cases laneOn m l <;> simp

theorem lanesIn_head? (m : Mask) : (lanesIn m).head? = lowestLane m := List.head?_filter

/-- The types of 64 bits of ICMP. -/
theorem Pre.wordsOf_wide (g : Go) : g.pre.wordsOf [4, 8] = if wideCompare g then 2 else 1 := by
  unfold Pre.wordsOf wideCompare
  simp [beq_eq_decide]

/-- An operand of FCMP. -/
theorem float3_eq (g : Go) (v : Val) (l : Nat) : float3 g v l = v.float (g.pre.t1 == 15) l := by
  unfold float3 Val.float
  simp

theorem exec_predicates {i : Instr} {s : State} {g : Go} {e : BitVec 3} {f : Nat → Bool} (hi : predicates i g = some (e, f))
    (h : Clear i s g) : exec i s = done (g.writePred e 4 f s) := by
  unfold predicates at hi
  split at hi <;> cases hi
  case h_1 => -- ICMP
    simp only [holdsInt_eq_condHolds]
    refine (issueWord_of_clear h _).trans ?_
    refine congrArg (fun f => done (g.writePred e 4 f s)) (funext fun l => ?_)
    rw [Pre.wordsOf_wide g]
    cases wideCompare g <;> rfl
  case h_2 => -- FCMP
    simp only [holdsFloat_eq_floatCond, float3_eq]
    exact issueWord_of_clear h _
  case h_3 => -- FCLASS
    refine (issueWord_of_clear h _).trans ?_
    simp only [classBit_eq_classOf (.inl rfl) (BitVec.isLt (w := 32) _), classBit_eq_classOf (.inr rfl) (BitVec.isLt (w := 64) _)]
  case h_8 k f _ => -- VOTE
    simp only [lanesIn_any fun _ => g.laneOn_ballot f, lanesIn_all fun _ => g.laneOn_ballot f]
    refine (issueWord_of_clear h _).trans ?_
    refine congrArg (fun f => done (g.writePred e 4 f s)) (funext fun _ => ?_)
    have none : (!decide (g.ballot f ≠ 0)) = decide (g.ballot f = 0) := by
      by_cases z : g.ballot f = 0
      · simp only [z, ne_eq, not_true, decide_false, Bool.not_false, decide_true]
      · simp only [z, ne_eq, not_false_eq_true, decide_true, Bool.not_true, decide_false]
    generalize k.toNat = n
    match n with
    | 0 | 1 => rfl
    | 2 => exact none.symm
    | _ + 3 => exact congrArg (decide (g.ballot f = g.active) || ·) none.symm
  case h_9 => -- ELECT
    simp only [lanesIn_head?, beq_eq_decide]
    exact issueWord_of_clear h _
  all_goals exact issueWord_of_clear h _

/-- Settles O4: each word's predicate, lane by lane. -/
theorem predicates : Obligations.Predicates :=
  fun _ _ _ _ _ hi h => writesPred_of_exec (exec_predicates hi h)

/-! ## Class 7 -/

/-- A result that a fill writes and that R22 allows: its destination is empty, and the fill is due with the result of each active
lane (R25). -/
theorem Go.writeFill_of_uniform {g : Go} {d : Dst} {f : Nat → LaneResult} (hu : nonUniform g.active d (fun l => (f l).words) = false)
    (act : g.active ≠ 0) (latency : Nat) (s : State) :
    ∃ (fl : Flight) (b : Barge),
      g.writeFill d latency f s = g.finish b
        (({ s with nextId := s.nextId + 1, flights := s.flights.put s.nextId fl }).post latency .registerFill [s.nextId]) ∧
      g.Empties (some d) b ∧ fl.kind = .unit ∧ fl.dst = d.spec ∧ fl.words = d.words ∧ fl.flags = raisedFlags g.active f ∧
      fl.cause = enabledCause g.b.fctl.enable fl.flags ∧
      ∀ l, l < 32 → laneOn g.active l = true → fl.laneWords l = (f l).words := by
  simp only [Go.writeFill, nonUniform_table g.active d f hu, Bool.false_eq_true, if_false, if_neg act, raisedFlags_table]
  refine ⟨_, _, rfl, Go.empties_flagged act d _, rfl, rfl, rfl, rfl, rfl, fun l hl on => ?_⟩
  rw [← tableLane_eq g.active f hl on]
  exact List.getD_map (d := ({ words := [] } : LaneResult)) ..

/-- A word whose effect is such a result. -/
theorem fills_of_writeFill {i : Instr} {s : State} {g : Go} {d : Dst} {latency : Nat} {f : Nat → LaneResult}
    (hx : exec i s = done (g.writeFill d latency f s)) (hu : nonUniform g.active d (fun l => (f l).words) = false)
    (act : g.active ≠ 0) : Fills i s g d latency f := by
  obtain ⟨fl, b, effect, emptied, result⟩ := Go.writeFill_of_uniform hu act latency s
  rw [effect] at hx
  exact ⟨_, fl, hx, ⟨KeepsMachine.rest (Go.finish_post_machine ..), rfl, rfl, _, Go.finish_barge .., emptied.v, emptied.s,
    emptied.control.pass .., PassedWord.of_pass emptied.pcs _, emptied.empty⟩, result⟩

/-- The special function of a lane, rounded once (R215): its exact value is the model's, as log 10 has it. -/
def Go.special (g : Go) (f : Exact → Exact → Exact × Bool) (b : Val) (l : Nat) : LaneResult :=
  let x := f (Fmt.f32.operand g.b.fctl.ftz32 ((g.val 0).w32 l).toNat) (Fmt.f32.operand g.b.fctl.ftz32 (b.w32 l).toNat)
  let y := Machine.round .f32 (g.modeOr .rn) (g.fctx g.b.fctl.ftz32) x.1
  { words := [BitVec.ofNat 32 y.code], flags := y.flags.or { dz := x.2 } }

/-- The effect of a clear word of class 7 whose op is a function of its operands. -/
theorem sfu_of_clear {i : Instr} {s : State} {g : Go} {d x y : BitVec 7} {p q : BitVec 1} {f : Exact → Exact → Exact × Bool} {b : Val}
    (op : SfuOp) (hs : shapeOf i = shapeSfu op d x y p q) (h : Clear i s g)
    (hf : ∀ (a : Exact) (l : Nat), op.value a (Fmt.f32.operand g.b.fctl.ftz32 ((g.opB 1 y q).w32 l).toNat) =
      f a (Fmt.f32.operand g.b.fctl.ftz32 (b.w32 l).toNat)) :
    sfu op d x y p q s = done (g.writeFill { spec := d } (if op = .divf then 20 else 12) (g.special f b) s) := by
  unfold sfu
  rw [← hs, issueWord_of_clear h]
  unfold Go.special
  simp only [← hf]
  rfl

theorem exec_class7 {i : Instr} {s : State} {g : Go} {d : BitVec 7} {latency : Nat} {f : Exact → Exact → Exact × Bool} {b : Val}
    (hi : class7 i g = some (d, latency, f, b)) (h : Clear i s g) :
    exec i s = done (g.writeFill { spec := d } latency (g.special f b) s) := by
  unfold class7 at hi
  split at hi <;> cases hi
  case h_1 => exact sfu_of_clear .rcp rfl h fun a _ => by cases a <;> rfl
  case h_2 => exact sfu_of_clear .rsq rfl h fun a _ => by cases a <;> rfl
  case h_3 => exact sfu_of_clear .sqrt rfl h fun _ _ => rfl
  case h_4 => exact sfu_of_clear .exp2 rfl h fun _ _ => rfl
  case h_5 => exact sfu_of_clear .log2 rfl h fun a _ => by cases a <;> rfl
  case h_6 => exact sfu_of_clear .sinpi rfl h fun _ _ => rfl
  case h_7 => exact sfu_of_clear .cospi rfl h fun _ _ => rfl
  case h_8 => exact sfu_of_clear .tanh rfl h fun _ _ => rfl
  case h_9 => exact sfu_of_clear .divf rfl h fun _ _ => rfl

/-- Settles O6: the destination is empty, and the fill carries each lane's function, rounded once. That the function is exact to the
last bit before it is rounded is the model's choice (log 10). -/
theorem specialFunctions : Obligations.SpecialFunctions :=
  fun _ _ _ _ _ _ _ hi h act hu => fills_of_writeFill (exec_class7 hi h) hu act

end Sys2Proof.Machine
end

section
/-!
Transfers (R238, R239), and NOP, SLEEP and YIELD (R36, R243, R376).
-/
namespace Sys2Proof.Machine
open Sys2Proof Sys2Proof.Claims

/-! ## Transfers -/

/-- The lanes that execute a word are of its group. -/
theorem Clear.active_group {i : Instr} {s : State} {g : Go} (h : Clear i s g) {l : Nat} (on : laneOn g.active l = true) :
    laneOn g.group l = true := by
  obtain ⟨iss, b, -, -, rfl⟩ := h.issues
  have inGroup : ∀ m : Mask, (m = iss.group ∨ ∃ x, m = iss.group &&& x) → laneOn m l = true → laneOn iss.group l = true := by
    rintro m (rfl | ⟨x, rfl⟩) hm
    · exact hm
    · exact (Bool.and_eq_true_iff.1 ((BitVec.getLsbD_and ..).symm.trans hm)).1
  have lanes (m : Mask)
      (on : laneOn (if iss.replay.isSome then iss.group else activeOf b iss.group (Pre.ofWords (chainWords s iss))) l = true) :
      laneOn iss.group l = true := by
    refine inGroup _ ?_ on
    split
    · exact .inl rfl
    · unfold activeOf
      split
      · exact .inl rfl
      · exact .inr ⟨_, rfl⟩
  have : laneOn (goOf (shapeOf i) s iss b).active l = true := on
  unfold goOf at this
  dsimp only at this
  split at this
  · exact lanes 0 (Bool.and_eq_true_iff.1 ((BitVec.getLsbD_and ..).symm.trans this)).1
  · exact lanes 0 this

/-- The mask of the lanes that branch (R40, R238). -/
theorem laneOn_branchLanes (g : Go) (c e : BitVec 3) {l : Nat} (hl : l < 32) (on : laneOn g.active l = true) :
    laneOn (branchLanes c g.active (g.b.pred e)) l = branches g c e l := by
  have meets : ∀ k, k < 32 → laneOn (g.active &&& g.b.pred e) k = (laneOn g.active k && laneOn (g.b.pred e) k) :=
    fun _ _ => BitVec.getLsbD_and ..
  have whole (p : Prop) [Decidable p] : laneOn (if p then g.active else 0) l = decide p := by
    by_cases hp : p
    · simp [hp, on]
    · simp [hp, laneOn]
  have held : laneOn (g.active &&& g.b.pred e) l = laneOn (g.b.pred e) l := by
    rw [meets l hl, on, Bool.true_and]
  have misses : laneOn (g.active &&& ~~~g.b.pred e) l = !laneOn (g.b.pred e) l := by
    unfold laneOn at on ⊢
    simp [on, hl]
  have none : decide (g.active &&& g.b.pred e = 0) = !decide (g.active &&& g.b.pred e ≠ 0) := by simp
  unfold branchLanes branches
  generalize c.toNat = n
  match n with
  | 0 => exact on
  | 1 => exact held
  | 2 => exact misses
  | 3 => exact (whole _).trans (lanesIn_any meets).symm
  | 4 => exact (whole _).trans (lanesIn_all meets).symm
  | _ + 5 => exact (whole _).trans (none.trans (congrArg (!·) (lanesIn_any meets).symm))

/-- A change of the word's own barge, after the word, changes nothing outside it. -/
theorem KeepsMachine.onBarge {g : Go} {s t : State} (h : KeepsMachine g s t) {b : Barge} (hb : t.barge g.core g.slot = some b)
    (f : Barge → Barge) : KeepsMachine g s (t.onBarge g.core g.slot f) := by
  rw [State.onBarge_eq hb]
  exact ⟨fun k m other => (State.barge_setBarge_other _ _ other).trans (h.barges k m other), h.memory, h.localMem, h.tile, h.lines,
    h.versions, h.hub, h.towers, h.clusters, h.wgs, h.flights, h.agenda⟩

/-- A word that moves its active lanes, having changed no more of its barge than the registers. -/
theorem Go.jump_jumped {g : Go} {b : Barge} {target : Nat → Option Dword} {s : State} {place : Nat → Dword}
    (control : KeepsControl g.b b)
    (pcs : b.pcs = g.b.pcs) (goes : ∀ l, l < 32 → laneOn g.active l = true →
      (target l).getD (if g.replay then g.b.pcs.getD l 0 else g.addr + 4) = place l)
    (grouped : ∀ l, laneOn g.active l = true → laneOn g.group l = true) :
    ∃ b', Jumped g s (g.jump target (g.finish b s)) place b' ∧ b'.v = b.v ∧ b'.s = b.s := by
  have passed := Go.finish_barge g b s
  have machine := (Go.finish_machine g b s).onBarge passed
  unfold Go.jump
  refine ⟨_, ⟨machine _, (congrArg (State.barge · g.core g.slot) (State.onBarge_eq passed _)).trans (State.barge_setBarge_same ..),
    KeepsControl.trans control (by constructor <;> rfl), fun l hl => ?_⟩, rfl, rfl⟩
  have stands := Barge.pass_pcs b s.now g.group g.addr g.pre g.replay hl
  rw [pcs] at stands
  rw [← stands]
  simp only [List.getD_eq_getElem?_getD, List.getElem?_map, List.getElem?_range hl, Option.map_some, Option.getD_some] at stands ⊢
  split
  · next on =>
    rw [stands, ← goes l hl on, grouped l on]
    cases g.replay <;> simp
  · rfl

theorem Jumped.rest {g : Go} {s t : State} {target : Nat → Dword} {b' : Barge} (h : Jumped g s t target b') :
    Jumped g s t.rest target b' :=
  ⟨h.machine.rest, h.barge, h.control, h.pcs⟩

/-- The word after a link register is written: the return address is in it. -/
theorem Go.link_holds (g : Go) (d : BitVec 7) {l : Nat} (hl : l < 32) (on : laneOn g.active l = true) :
    (g.link d).holds { spec := d, words := 2 } l (pairWords (g.addr + 4)) :=
  Barge.holds_write (f := fun _ => pairWords (g.addr + 4)) g.b (nonUniform_const ..) hl on

/-- A transfer, by its register for the return address: `b` is what its barge becomes before it passes the word. -/
theorem exec_transfer {i : Instr} {s : State} {g : Go} {target : Nat → Dword} {link : Option (BitVec 7)}
    (hi : transfer i g = some (target, link)) (h : Clear i s g) :
    ∃ place, exec i s = done (g.jump place (g.finish (link.elim g.b g.link) s)) ∧ ∀ l, l < 32 → laneOn g.active l = true →
      (place l).getD (if g.replay then g.b.pcs.getD l 0 else g.addr + 4) = target l := by
  unfold transfer at hi
  split at hi <;> cases hi <;> dsimp only [exec]
  case h_1 c e o => -- BRA
    refine ⟨fun l => if laneOn (branchLanes c g.active (g.b.pred e)) l then some (g.addr + 4 * o.signExtend 64) else none,
      issueWord_of_clear h _, fun l hl on => ?_⟩
    dsimp only
    rw [laneOn_branchLanes g c e hl on]
    cases branches g c e l with
    | true => simp [relative, BitVec.signExtend, BitVec.ofInt_add, BitVec.ofInt_mul]
    | false => rfl
  case h_4 d k => -- CALL
    exact ⟨fun _ => some (g.immTarget k), issueWord_of_clear h _, fun _ _ _ => g.immTarget_eq_relative k⟩
  all_goals -- JMP, RET and CALLI
    exact ⟨fun l => some (registerTarget ((g.val 0).w64 l)), issueWord_of_clear h _, fun _ _ _ => registerTarget_eq_aligned _⟩

/-- Settles O30: each active lane stands at its target, and only a return address is written. -/
theorem transfers : Obligations.Transfers := by
  intro i s g target link hi h
  obtain ⟨place, hx, goes⟩ := exec_transfer hi h
  cases link with
  | none =>
    obtain ⟨b', jumped, v, s⟩ := Go.jump_jumped (s := s) (by constructor <;> rfl) rfl goes fun _ => h.active_group
    exact ⟨_, b', hx, jumped.rest, v, s⟩
  | some d =>
    obtain ⟨b', jumped, v, s⟩ := Go.jump_jumped (s := s) (b := g.link d) (KeepsControl.write (by constructor <;> rfl) ..)
      (Barge.pcs_write ..) goes fun _ => h.active_group
    exact ⟨_, b', hx, jumped.rest, fun l hl on => Barge.holds_congr v s (g.link_holds d hl on),
      (Barge.keeps_write ..).congr v s⟩

/-! ## NOP, SLEEP and YIELD -/

theorem Go.finish_retiredNone (g : Go) (s : State) : RetiredNone g s (g.finish g.b s).rest :=
  ⟨(Go.finish_machine ..).rest, _, Go.finish_barge .., rfl, rfl, Barge.pass_control .., PassedWord.of_pass rfl _⟩

theorem exec_nop_of_clear {s : State} {g : Go} (h : Clear .nop s g) : exec .nop s = done (g.finish g.b s) := issueWord_of_clear h _

/-- Settles O34: the barge passes NOP with the stall count and the yield request of its prefix. -/
theorem nopAndStalls : Obligations.NopAndStalls :=
  ⟨fun s g h => ⟨_, exec_nop_of_clear h, g.finish_retiredNone s⟩,
    fun _ _ h => ⟨_, _, exec_nop_of_clear h, Go.finish_barge .., rfl, rfl⟩⟩

/-- The count of SLEEP is unsigned (R243). -/
theorem Go.toNat_imm_unsigned (g : Go) (k : BitVec 8) :
    (g.imm k false).toNat = if g.pre.ximm.isSome then (g.pre.imm32 k).toNat else k.toNat := by
  unfold Go.imm
  split
  · rfl
  · exact BitVec.toNat_setWidth_of_le (by decide)

theorem exec_sleep_of_clear {s : State} {g : Go} {k : BitVec 8} (h : Clear (.sleep k) s g) (act : g.active ≠ 0) :
    exec (.sleep k) s = done (if (g.imm k false).toNat = 0 then g.finish g.b s
      else (g.finish { g.b with blocked := true } s).postAt (s.now + 1 + max (g.imm k false).toNat g.pre.stall) .sleepEnd
        [g.core, g.slot]) := by
  dsimp only [exec]
  refine (issueWord_of_clear h _).trans ?_
  simp only [decide_eq_false act, Bool.false_or, decide_eq_true_eq]

theorem exec_yield_of_clear {s : State} {g : Go} (h : Clear .yield s g) (act : g.active ≠ 0) :
    exec .yield s = done ((g.finish { g.b with yieldMarks := g.b.yieldMarks ||| g.group } s).onBarge g.core g.slot fun b =>
      { b with yieldPending := true }) := by
  dsimp only [exec]
  exact (issueWord_of_clear h _).trans (congrArg done (if_neg act))

/-- Settles O35: a count of 0 is none, and the others block the barge; the marks of YIELD are those of its group. -/
theorem sleepAndYield : Obligations.SleepAndYield := by
  refine ⟨fun k s g h act => ?_, fun s g h act => ?_⟩
  · have hx := exec_sleep_of_clear h act
    rw [g.toNat_imm_unsigned k] at hx
    exact ⟨fun none => hx.trans (congrArg done (if_pos none)), fun some => hx.trans (congrArg done (if_neg some))⟩
  · have passed := Go.finish_barge g { g.b with yieldMarks := g.b.yieldMarks ||| g.group } s
    have stands := congrArg (State.barge · g.core g.slot) (State.onBarge_eq passed fun b => { b with yieldPending := true })
    exact ⟨_, _, exec_yield_of_clear h act, ((Go.finish_machine ..).onBarge passed _).rest, stands.trans (State.barge_setBarge_same ..),
      fun l _ => BitVec.getLsbD_or .., rfl, rfl, rfl, by constructor <;> rfl,
      PassedWord.of_pass (b := { g.b with yieldMarks := g.b.yieldMarks ||| g.group }) rfl s.now⟩

end Sys2Proof.Machine
end

section
/-!
A word that no lane executes (R34).
-/
namespace Sys2Proof.Machine
open Sys2Proof Sys2Proof.Claims

/-! ## Results without a lane -/

section
variable {g : Go} {s : State}

theorem lanesIn_zero : lanesIn 0 = [] := by decide

theorem lowestLane_zero : lowestLane 0 = none := by decide

/-- No lane writes nothing: only what is held back for RETT may change. -/
theorem Barge.write_off (b : Barge) (d : Dst) (f : Nat → List Word) : b.write 0 d f = b.unheld 0 d := by
  unfold Barge.write
  rw [lanesIn_zero, lowestLane_zero]
  split <;> rfl

/-- A word that passes from a barge with its own registers, predicates and control is idle. -/
theorem Idle.of_finish {b : Barge} (v : b.v = g.b.v) (regs : b.s = g.b.s) (pcs : b.pcs = g.b.pcs)
    (preds : ∀ p i, i < 32 → laneOn (b.pred p) i = laneOn (g.b.pred p) i) (control : KeepsControl { g.b with preds := b.preds } b) :
    Idle g s (g.finish b s) :=
  ⟨Go.finish_machine .., _, Go.finish_barge .., v, regs, preds, control.pass .., PassedWord.of_pass pcs _⟩

theorem Idle.of_eq {t : State} (h : t = g.finish g.b s) : Idle g s t := by
  rw [h]
  exact Idle.of_finish rfl rfl rfl (fun _ _ _ => rfl) (by constructor <;> rfl)

/-- The free values that a word took are not seen. -/
theorem Idle.of_freeIdx {t : State} {n : Nat} (h : Idle g { s with freeIdx := n } t) : Idle g s t :=
  have m := h.machine
  ⟨⟨m.barges, m.memory, m.localMem, m.tile, m.lines, m.versions, m.hub, m.towers, m.clusters, m.wgs, m.flights, m.agenda⟩, h.barge⟩

theorem Idle.rest {t : State} (h : Idle g s t) : Idle g s t.rest := ⟨h.machine.rest, h.barge⟩

/-- A change of the word's own barge that leaves its registers, predicates, control and PCs. -/
theorem Idle.onBarge {t : State} (h : Idle g s t) (f : Barge → Barge)
    (same : ∀ b, (f b).v = b.v ∧ (f b).s = b.s ∧ (f b).preds = b.preds ∧ KeepsControl b (f b) ∧
      (PassedWord g b → PassedWord g (f b))) :
    Idle g s (t.onBarge g.core g.slot f) := by
  obtain ⟨b, hb, v, regs, preds, control, passed⟩ := h.barge
  obtain ⟨v', regs', preds', control', passed'⟩ := same b
  refine ⟨h.machine.onBarge hb f, f b,
    (congrArg (State.barge · g.core g.slot) (State.onBarge_eq hb f)).trans (State.barge_setBarge_same ..),
    v'.trans v, regs'.trans regs, fun p i hi => ?_, ?_, passed' passed⟩
  · rw [show (f b).pred p = b.pred p from congrArg (·.getD p.toNat 0) preds', preds p i hi]
  · rw [preds']
    exact control.trans control'

theorem Go.writeFixed_off (off : g.active = 0) (d : Dst) (latency : Nat) (f : Nat → LaneResult) :
    Idle g s (g.writeFixed d latency f s) := by
  have quiet : raisedFlags g.active (tableLane (laneTable g.active f)) = {} := by rw [raisedFlags, off, lanesIn_zero]; rfl
  have cause : enabledCause g.b.fctl.enable {} = none := by simp [enabledCause]
  unfold Go.writeFixed
  simp only [quiet, cause]
  rw [off, Barge.write_off]
  exact Idle.of_finish rfl rfl rfl (fun _ _ _ => rfl) (by constructor <;> rfl)

theorem nonUniform_off (off : g.active = 0) (d : Dst) (f : Nat → List Word) : nonUniform g.active d f = false := by
  rw [nonUniform, off, lowestLane_zero, Bool.and_false]

theorem Go.writeChecked_off (off : g.active = 0) (d : Dst) (latency : Nat) (f : Nat → LaneResult) :
    Idle g s (g.writeChecked d latency f s) := by
  unfold Go.writeChecked
  rw [nonUniform_off off]
  exact Go.writeFixed_off off ..

theorem Go.writeFloat_off (off : g.active = 0) (d : Dst) (latency : Nat) (f : Nat → LaneResult) :
    Idle g s (g.writeFloat d latency f s) := by
  have h := Go.writeChecked_off (g := { g with b := { g.b with flagUntil := max g.b.flagUntil (s.now + latency) } }) (s := s)
    off d latency f
  obtain ⟨b, hb, v, regs, preds, control, passed⟩ := h.barge
  have m := h.machine
  exact ⟨⟨m.barges, m.memory, m.localMem, m.tile, m.lines, m.versions, m.hub, m.towers, m.clusters, m.wgs, m.flights, m.agenda⟩,
    b, hb, v, regs, preds, KeepsControl.trans (by constructor <;> rfl) control, passed⟩

theorem Go.writeFill_off (off : g.active = 0) (d : Dst) (latency : Nat) (f : Nat → LaneResult) :
    Idle g s (g.writeFill d latency f s) := by
  refine Idle.of_eq ?_
  unfold Go.writeFill
  simp only [nonUniform_off off]
  exact if_pos off

theorem Go.writePred_off (off : g.active = 0) (e : BitVec 3) (latency : Nat) (f : Nat → Bool) : Idle g s (g.writePred e latency f s) := by
  obtain ⟨machine, b, hb, written, others, v, regs, control, passed⟩ := g.writePred_retired e latency f s
  refine ⟨machine, b, hb, v, regs, fun p i hi => ?_, control, passed⟩
  by_cases own : p = e
  · rw [own, written i hi, off]
    simp [laneOn]
  · rw [others p own]

theorem Go.jump_off (off : g.active = 0) (target : Nat → Option Dword) {t : State} (h : Idle g s t) : Idle g s (g.jump target t) := by
  unfold Go.jump
  refine Idle.onBarge h _ fun b => ⟨rfl, rfl, rfl, by constructor <;> rfl, fun passed i hi => ?_⟩
  simpa [hi, off, laneOn] using passed i hi

theorem Go.link_off (off : g.active = 0) (d : BitVec 7) : Idle g s (g.finish (g.link d) s) := by
  unfold Go.link
  rw [off, Barge.write_off]
  exact Idle.of_finish rfl rfl rfl (fun _ _ _ => rfl) (by constructor <;> rfl)

theorem Go.addressesDiffer_off (off : g.active = 0) (f : Nat → Nat) : g.addressesDiffer f = false := by
  rw [Go.addressesDiffer, off, lowestLane_zero]

end

/-! ## Words without a lane -/

/-- A word has been issued that leaves nothing but the move past it. -/
def GuardedOff (s : State) (g : Go) (o : Host.Outcome State Fault Refusal) : Prop := ∃ t, o = .next t ∧ Idle g s t

theorem GuardedOff.of_clear {i : Instr} {s : State} {g : Go} {o : Host.Outcome State Fault Refusal} {effect : Go → State → State}
    (h : Clear i s g) (hx : o = issueWord (shapeOf i) s effect) (off : Idle g s (effect g s)) : GuardedOff s g o :=
  ⟨_, hx.trans (issueWord_of_clear h effect), Idle.rest off⟩

/-- The half of a word that its barge issues. -/
theorem GuardedOff.half {s : State} {g : Go} {c : Prop} [Decidable c] {o o' : Host.Outcome State Fault Refusal} (issued : ¬ c)
    (h : GuardedOff s g o') : GuardedOff s g (if c then o else o') := by
  rw [if_neg issued]
  exact h

/-- Settles O28: no lane is active, so each word either ends at its test of the lanes, or writes what no lane has. -/
theorem guardedOffWords : Obligations.GuardedOffWords := by
  intro i s g word noPrefix h off reformed joined
  have issued : ¬ (s.issue.isNone && !s.args.isEmpty) = true := by simp [h.issue]
  show GuardedOff s g (exec i s)
  cases i <;> dsimp only [exec]
  case ximm | ximmh | xmod | xpred | xopd | xsch => cases noPrefix
  -- the tests before the lanes
  case mma =>
    refine .half issued (.of_clear h rfl (Idle.of_eq ?_))
    exact (if_neg (ne_true_of_eq_false (reformed rfl))).trans (if_pos off)
  case bar | bararr | bsync =>
    refine .of_clear h rfl (Idle.of_eq ?_)
    exact (if_neg (ne_true_of_eq_false (reformed rfl))).trans (if_pos off)
  case join =>
    refine .of_clear h rfl (Idle.of_eq ?_)
    exact (if_neg (by simpa using joined rfl)).trans (if_pos off)
  case ldlB32 | ldlB64 | ldlB128 | ldpB32 | ldpB64 | ldpB128 =>
    refine .of_clear (o := nearLoad _ _ _ _ _ _ s) h rfl (Idle.of_eq ?_)
    exact (if_neg (by rw [Go.addressesDiffer_off off]; simp)).trans (if_pos off)
  case mxacc =>
    refine .of_clear h rfl (Idle.of_eq ?_)
    exact (if_neg (by rw [Go.addressesDiffer_off off]; simp)).trans (if_pos off)
  case tld | tst =>
    refine .of_clear (o := tileWord _ _ _ _ _ _ s) h rfl (Idle.of_eq ?_)
    simp only [off, lanesIn_zero, List.filter_nil, if_true]
  case invl1 =>
    refine .of_clear h rfl (Idle.of_eq ?_)
    exact congrArg (g.finish g.b) (if_pos off)
  case nop => exact .of_clear h rfl (Idle.of_eq rfl)
  case trap | brk => exact .of_clear h rfl (Idle.of_eq (if_pos off))
  case sleep | fenceLayer =>
    refine .of_clear h rfl (Idle.of_eq (if_pos ?_))
    rw [decide_eq_true off, Bool.true_or]
  case rayinit =>
    exact .of_clear h rfl (Idle.of_freeIdx (Go.writeFill_off off ..))
  case bred =>
    refine .of_clear h rfl ?_
    dsimp only
    split
    · exact Go.writeFloat_off off ..
    · exact Go.writeChecked_off off ..
  -- results at a fixed latency
  case iadd | isub | imul | imulh | imad | imin | imax | iabs | iaddImm | imulImm | iminImm | imaxImm =>
    exact .of_clear (o := intArith _ _ _ _ _ s) h rfl (Go.writeChecked_off off ..)
  case ishl | ishr | lshr | popc | clz | brev | ishlImm | ishrImm | lshrImm =>
    exact .of_clear (o := wordFn _ _ _ _ s) h rfl (Go.writeChecked_off off ..)
  case lea | shf | iadd64 | isub64 | imul64 | imad64 =>
    exact .of_clear (o := wideFn _ _ _ _ _ _ s) h rfl (Go.writeChecked_off off ..)
  case logic3 | bfe | bfi | sel | mov | movi | movs | shfl | ballot | bsel | csel | matchLanes | lanemask =>
    exact .of_clear h rfl (Go.writeChecked_off off ..)
  case fadd | fsub | fmul | ffma | fmin | fmax | frnd | fabs | fneg | fscale =>
    exact .of_clear (o := falu32 _ _ _ _ _ _ s) h rfl (Go.writeFloat_off off ..)
  case faddPacked | fsubPacked | fmulPacked | ffmaPacked | fminPacked | fmaxPacked | frndPacked | fabsPacked | fnegPacked | fscalePacked =>
    exact .of_clear (o := falu16 _ _ _ _ _ _ s) h rfl (Go.writeFloat_off off ..)
  case faddImm | fmulImm | ffmaImm | fminImm =>
    exact .of_clear (o := faluImm _ _ _ _ _ s) h rfl (Go.writeFloat_off off ..)
  case fcvt | icvt | ftoi | itof | npack | nunpack | qscale | qpack | qunpack | qdot4 | dsmul =>
    exact .of_clear h rfl (Go.writeFloat_off off ..)
  case rcp | rsq | sqrt | exp2 | log2 | sinpi | cospi | tanh | divf =>
    exact .of_clear (o := sfu _ _ _ _ _ _ s) h rfl (Go.writeFill_off off ..)
  case icmp | fcmp | fclass | pand | por | pxor | pnot | vote | elect =>
    exact .of_clear h rfl (Go.writePred_off off ..)
  -- transfers
  case bra | jmp | ret => exact .of_clear h rfl (Go.jump_off off _ (Idle.of_eq rfl))
  case call | calli => exact .of_clear h rfl (Go.jump_off off _ (Go.link_off off _))
  -- words that test the lanes
  case signal | flip | rquery => exact .half issued (.of_clear h rfl (Idle.of_eq (if_pos off)))
  case csrr | csrw | csrs => exact .half issued (.of_clear (o := csrWord _ _ _ _ _ _ s) h rfl (Idle.of_eq (if_pos off)))
  case ldB32 | ldB64 | ldB128 | ldbB32 | ldbB64 | ldbB128 =>
    exact .of_clear (o := globalLoad _ _ _ _ _ _ s) h rfl (Idle.of_eq (if_pos off))
  case ldvB32 | ldvB128 => exact .of_clear (o := versionLoad _ _ _ _ _ s) h rfl (Idle.of_eq (if_pos off))
  case stB32 | stB64 | stB128 => exact .of_clear (o := globalStore _ _ _ _ _ s) h rfl (Idle.of_eq (if_pos off))
  case stlB32 | stlB64 | stlB128 | stpB32 | stpB64 | stpB128 =>
    exact .of_clear (o := nearStore _ _ _ _ _ _ s) h rfl (Idle.of_eq (if_pos off))
  case cstoreB32 | cstoreB64 => exact .of_clear (o := compactStore _ _ _ _ _ s) h rfl (Idle.of_eq (if_pos off))
  case atomAdd | atomMin | atomMax | atomAnd | atomOr | atomXor | atomExch | atomCas | redAdd | redMin | redMax | redAnd | redOr | redXor =>
    refine (show GuardedOff s g (atomic _ _ _ _ _ _ _ _ s) from ?_)
    unfold atomic
    exact .of_clear h rfl (Idle.of_eq (if_pos off))
  case syncLd | syncLdb => exact .of_clear (o := syncLoad _ _ _ _ _ _ _ s) h rfl (Idle.of_eq (if_pos off))
  case semsig | semset => exact .of_clear (o := semUpdateWord _ _ _ _ _ s) h rfl (Idle.of_eq (if_pos off))
  case tcopy | tclr => exact .of_clear (o := rectangleWord _ _ _ _ _ _ s) h rfl (Idle.of_eq (if_pos off))
  case job | jobq => exact .of_clear (o := jobWord _ _ _ _ s) h rfl (Idle.of_eq (if_pos off))
  case boxt | trit => exact .of_clear (o := testWord _ _ _ _ _ _ _ _ _ s) h rfl (Idle.of_eq (if_pos off))
  case sample | samplel | sampleg => exact .of_clear (o := sampleWord _ _ _ _ _ _ s) h rfl (Idle.of_eq (if_pos off))
  case commit | commitReg | squash | squashReg => exact .of_clear (o := versionWord _ _ _ _ s) h rfl (Idle.of_eq (if_pos off))
  case mark | exit | yield | prefetch | redflush | syncSt | fence | semwait | launch | perfcl | fork | reach | wfi | tspush | tspop
    | vexport | pexport | attr | zquery | rett =>
    exact .of_clear h rfl (Idle.of_eq (if_pos off))
  case reform =>
    unfold execReform
    exact .of_clear h rfl (Idle.of_eq (if_pos off))
  all_goals exact absurd word Bool.false_ne_true

end Sys2Proof.Machine
end

section
/-!
Results that differ between the lanes of a scalar destination (R22).
-/
namespace Sys2Proof.Machine
open Sys2Proof Sys2Proof.Claims

/-- Each word of this table checks its destination and writes. -/
theorem exec_checkedResult {i : Instr} {s : State} {g : Go} {d : Dst} {f : Nat → List Word} (hi : checkedResult i g = some (d, f))
    (h : Clear i s g) : ∃ latency, exec i s = done (g.writeChecked d latency (fun l => plain (f l)) s) := by
  unfold checkedResult at hi
  split at hi
  · next hw =>
    cases hi
    exact ⟨4, exec_arithmetic hw h⟩
  · next hw _ =>
    cases hi
    exact ⟨4, exec_shifts hw h⟩
  · next hw _ _ =>
    cases hi
    exact ⟨4, exec_bitwise hw h⟩
  · next hw _ _ _ =>
    cases hi
    exact exec_wide hw h
  · next hw _ _ _ _ =>
    cases hi
    exact exec_between hw h
  · cases hi

/-- Two active lanes that differ, one of which then differs from the lowest. -/
theorem nonUniform_of_differ {active : Mask} {d : Dst} {f : Nat → List Word} (scalar : isScalar d.spec = true) {l j : Nat} (hl : l < 32)
    (hj : j < 32) (onl : laneOn active l = true) (onj : laneOn active j = true) (differ : f l ≠ f j) : nonUniform active d f = true := by
  by_contra uniform
  rw [Bool.not_eq_true] at uniform
  obtain ⟨k, hk⟩ := lowestLane_isSome hl onl
  exact differ ((eq_lowest_of_uniform scalar uniform hl onl hk).trans (eq_lowest_of_uniform scalar uniform hj onj hk).symm)

/-- Settles O51: a table's word traps where two active lanes differ. -/
theorem scalarsAreUniform : Obligations.ScalarsAreUniform := by
  rintro i s g d f hi h scalar ⟨l, j, hl, hj, onl, onj, differ⟩
  obtain ⟨latency, hx⟩ := exec_checkedResult hi h
  exact hx.trans (congrArg done (Go.writeChecked_traps latency s (nonUniform_of_differ scalar hl hj onl onj differ)))

end Sys2Proof.Machine
end

section
/-!
LAUNCH, PERFCL and FLIP (R377, R379, R380): the packet as it is posted, the words at their barge, and what their steps do at the queue,
at the cluster and at the head.
-/
namespace Sys2Proof.Machine
open Sys2Proof Sys2Proof.Claims

/-! ## The packet -/

/-- Setting bit 7 of a byte. -/
theorem byte_or_full (b : Byte) : b ||| 0x80#8 = BitVec.ofNat 8 (b.toNat % 128 + 128) := by
  revert b
  decide

/-- The reach field of a byte with a tag put in. -/
theorem byte_withTag (b : Byte) (tag : BitVec 3) : b.extractLsb' 3 5 ++ tag = BitVec.ofNat 8 (b.toNat / 8 * 8 + tag.toNat) := by
  apply BitVec.eq_of_toNat_eq
  have low := tag.isLt
  have high : b.toNat / 8 < 2 ^ 5 := Nat.div_lt_of_lt_mul b.isLt
  rw [BitVec.toNat_append, BitVec.extractLsb'_toNat, ← Nat.shiftLeft_add_eq_or_of_lt low, Nat.shiftRight_eq_div_pow, Nat.shiftLeft_eq,
    BitVec.toNat_ofNat]
  omega

/-- May a packet be posted under a tag? It names no other label (R377). -/
theorem tagPacket_none {bytes : List Byte} {tag : BitVec 3} (named : tag ≠ 0 ∧ (bytes.getD 15 0).extractLsb' 0 3 ≠ 0 ∧
    (bytes.getD 15 0).extractLsb' 0 3 ≠ tag) : tagPacket bytes tag = none := by
  obtain ⟨some_, field, other⟩ := named
  simp only [tagPacket, if_neg some_]
  exact if_pos (by simpa using ⟨field, other⟩)

/-- A packet that may be posted, with FULL set, is the spec's (R377). -/
theorem tagPacket_some {bytes : List Byte} {tag : BitVec 3} (size : bytes.length = 64) (may : ¬ (tag ≠ 0 ∧
    (bytes.getD 15 0).extractLsb' 0 3 ≠ 0 ∧ (bytes.getD 15 0).extractLsb' 0 3 ≠ tag)) :
    ∃ bs, tagPacket bytes tag = some bs ∧ bs.set 63 (bs.getD 63 0 ||| 0x80#8) = posted bytes tag := by
  by_cases untagged : tag = 0
  · refine ⟨bytes, if_pos untagged, List.ext_getElem (by simp [posted, size]) fun k hk hk' => ?_⟩
    rw [List.length_set, size] at hk
    by_cases last : k = 63
    · subst last
      simp [posted, untagged, size, byte_or_full]
    · simp [posted, untagged, size, last, hk, List.getElem_set_ne (Ne.symm last)]
  · have same : ¬ ((bytes.getD 15 0).extractLsb' 0 3 ≠ 0 && decide ((bytes.getD 15 0).extractLsb' 0 3 ≠ tag)) = true := by
      simpa [show ¬ tag = 0#3 from untagged] using may
    refine ⟨_, (if_neg untagged).trans (if_neg same), List.ext_getElem (by simp [posted, size]) fun k hk hk' => ?_⟩
    simp only [List.length_set, size] at hk
    by_cases last : k = 63
    · subst last
      simp [posted, size, byte_or_full]
    · by_cases reach : k = 15
      · subst reach
        simp [posted, show ¬ tag = 0#3 from untagged, size, byte_withTag]
      · simp [posted, size, last, reach, hk, List.getElem_set_ne (Ne.symm last), List.getElem_set_ne (Ne.symm reach)]

theorem State.localBytes_length (s : State) (core slot a n : Nat) : (s.localBytes core slot a n).length = n := by
  simp [State.localBytes]

/-! ## The words at their barge -/

section
variable {d a b : BitVec 7} {p q : BitVec 1} {s : State} {g : Go}

/-- Where the packet stands in local memory. -/
def Go.packetAt (g : Go) : Nat := (g.val 0).dword.toNat % 2 ^ 32

/-- The queue that a LAUNCH names. -/
def Go.queueNamed (g : Go) : Nat := (g.val 1).dword.toNat % 64

/-- A LAUNCH that is legal: the barge waits for its slot, and its release comes before the post of these bytes (R377). -/
def Go.launching (g : Go) (s : State) (d : BitVec 7) (bytes : List Byte) : State :=
  ((withRel (awaited g s d)
    { core := g.core, slot := g.slot, ctx := g.b.ctx, scope := 5, uo := true
      after := .post [(20, { what := .queueSlotWrite
                             args := (launchQueue + g.queueNamed) :: s.nextId :: (posted bytes g.b.tag).map (·.toNat) })] }).relRun
    (s.nextId + 1) relFuel).pump g.core

section
variable (h : Clear (.launch d a b p q) s g) (act : g.active ≠ 0)
include h act

/-- Without local memory there is no packet. -/
theorem exec_launch_of_no_range (noRange : s.localRange g.core g.b ((lowestLane g.active).getD 0) = none) :
    exec (.launch d a b p q) s = done (g.trap { cause := 0x0B } s) := by
  show execLaunch d a b p q s = _
  unfold execLaunch
  rw [show shapeLaunch d a b p q = shapeOf (.launch d a b p q) from rfl, issueWord_of_clear h, if_neg act]
  simp only [noRange]

section
variable {base size : Nat} (range : s.localRange g.core g.b ((lowestLane g.active).getD 0) = some (base, size))
include range

/-- A LAUNCH in a workgroup with local memory: its packet is placed, its queue is the context's, and its label may stand. -/
theorem exec_launch_of_range :
    exec (.launch d a b p q) s = done (
      if (g.packetAt % 64 ≠ 0 || decide (size < g.packetAt + 64)) = true then g.trap { cause := 0x74 } s
      else if (!(s.queue g.queueNamed).en || decide ((s.queue g.queueNamed).ctx.toNat ≠ g.b.ctx)) = true then g.trap { cause := 0x74 } s
      else match tagPacket (s.localBytes g.core g.slot (base + g.packetAt) 64) g.b.tag with
        | none => g.trap { cause := 0x74 } s
        | some bs =>
          ((withRel (awaited g s d)
            { core := g.core, slot := g.slot, ctx := g.b.ctx, scope := 5, uo := true
              after := .post [(20, { what := .queueSlotWrite
                                     args := (launchQueue + g.queueNamed) :: s.nextId ::
                                       (bs.set 63 (bs.getD 63 0 ||| 0x80#8)).map (·.toNat) })] }).relRun
            (s.nextId + 1) relFuel).pump g.core) := by
  have place : ((g.val 0).dword.extractLsb' 0 32).toNat = g.packetAt := by simp [Go.packetAt, BitVec.extractLsb'_toNat]
  have queue : ((g.val 1).dword.extractLsb' 0 6).toNat = g.queueNamed := by simp [Go.queueNamed, BitVec.extractLsb'_toNat]
  show execLaunch d a b p q s = _
  unfold execLaunch
  rw [show shapeLaunch d a b p q = shapeOf (.launch d a b p q) from rfl, issueWord_of_clear h, if_neg act]
  simp only [range, place, queue]
  rfl

theorem exec_launch_of_refused (refused : g.packetAt % 64 ≠ 0 ∨ size < g.packetAt + 64 ∨ (s.queue g.queueNamed).en = false ∨
    (s.queue g.queueNamed).ctx.toNat ≠ g.b.ctx ∨
    (g.b.tag ≠ 0 ∧ ((s.localBytes g.core g.slot (base + g.packetAt) 64).getD 15 0).extractLsb' 0 3 ≠ 0 ∧
      ((s.localBytes g.core g.slot (base + g.packetAt) 64).getD 15 0).extractLsb' 0 3 ≠ g.b.tag)) :
    exec (.launch d a b p q) s = done (g.trap { cause := 0x74 } s) := by
  rw [exec_launch_of_range h act range]
  refine congrArg done ?_
  split
  · rfl
  · next placed =>
    split
    · rfl
    · next queue =>
      simp only [Bool.or_eq_true, decide_eq_true_eq, Bool.not_eq_true', not_or] at placed queue
      obtain ⟨aligned, within⟩ := placed
      obtain ⟨en, ctx⟩ := queue
      rw [tagPacket_none (by simpa [aligned, within, en, ctx] using refused)]

theorem exec_launch_of_legal (legal : ¬ (g.packetAt % 64 ≠ 0 ∨ size < g.packetAt + 64 ∨ (s.queue g.queueNamed).en = false ∨
    (s.queue g.queueNamed).ctx.toNat ≠ g.b.ctx ∨
    (g.b.tag ≠ 0 ∧ ((s.localBytes g.core g.slot (base + g.packetAt) 64).getD 15 0).extractLsb' 0 3 ≠ 0 ∧
      ((s.localBytes g.core g.slot (base + g.packetAt) 64).getD 15 0).extractLsb' 0 3 ≠ g.b.tag))) :
    exec (.launch d a b p q) s = done (g.launching s d (s.localBytes g.core g.slot (base + g.packetAt) 64)) := by
  simp only [not_or] at legal
  obtain ⟨aligned, within, en, ctx, label⟩ := legal
  obtain ⟨bs, tagged, full⟩ := tagPacket_some (s.localBytes_length ..) label
  rw [exec_launch_of_range h act range, if_neg (by simpa using ⟨Decidable.not_not.1 aligned, Nat.not_lt.1 within⟩),
    if_neg (by simpa using ⟨Bool.eq_true_of_not_eq_false en, Decidable.not_not.1 ctx⟩), tagged]
  simp only [full]
  rfl

end
end

/-- PERFCL takes its class to its cluster 8 cycles later (R379). -/
theorem exec_perfcl {n : BitVec 3} (h : Clear (.perfcl n) s g) (act : g.active ≠ 0) :
    exec (.perfcl n) s = done ((g.finish g.b s).post 8 .freqStep
      [clusterOf g.core, g.b.laneWg.getD ((lowestLane g.active).getD 0) g.b.wg, n.toNat]) := by
  show execPerfcl n s = _
  unfold execPerfcl
  exact (issueWord_of_clear (i := .perfcl n) h _).trans (congrArg done (if_neg act))

/-- FLIP checks its surfaces, and goes to the hub (R380). -/
theorem exec_flip (h : Clear (.flip d a b p q) s g) (act : g.active ≠ 0) :
    exec (.flip d a b p q) s = done (
      if ((g.val 0).dword.toNat % 256 ≠ 0 || (g.val 1).dword.toNat % 256 ≠ 0) = true then g.trap { cause := 0x76 } s
      else (awaited g s d).post 18 (.flip 0 0 0 0 0)
        [s.nextId, g.b.ctx, (g.val 0).dword.toNat, (g.val 1).dword.toNat, g.b.tag.toNat, g.pre.aux]) := by
  have word : (s.issue.isNone && !s.args.isEmpty) = false := by simp [h.issue]
  show execFlip d a b p q s = _
  unfold execFlip
  rw [word, if_neg Bool.false_ne_true, show shapeFlip d a b p q = shapeOf (.flip d a b p q) from rfl, issueWord_of_clear h, if_neg act]
  rfl

end

/-! ## The steps -/

section
variable {u : State} {n id : Nat} {packet : List Nat}

theorem State.fillScalar_args (u : State) (id : Nat) (x : Dword) (delay : Nat) : (u.fillScalar id x delay).args = u.args := by
  unfold State.fillScalar
  split <;> rfl

/-- A LAUNCH at its queue: the slot at the tail is full, or is taken (R377). -/
theorem exec_queueSlotWrite_launch (args : u.args = (launchQueue + n) :: id :: packet) :
    exec .queueSlotWrite u = done (
      if ((u.queue n).full (u.queue n).tail.toNat || u.slotClaimed n (u.queue n).tail.toNat) = true then u.fillScalar id 2 20
      else ((u.setQueue n { u.queue n with tail := (u.queue n).tail + 1 }).fillScalar id
          (BitVec.ofNat 64 (1 + 2 ^ 16 * (u.queue n).tail.toNat)) 20).post 36 .queueSlotWrite
        (n :: (u.queue n).tail.toNat :: 0 :: packet.take 64)) := by
  have queue : launchQueue + n - launchQueue = n := Nat.add_sub_cancel_left ..
  have tail : (u.setQueue n { u.queue n with tail := (u.queue n).tail + 1 }).args = u.args := rfl
  show execQueueSlotWrite u = _
  unfold execQueueSlotWrite
  simp only [State.arg, args, List.getD_cons_zero, List.getD_cons_succ, queue, if_pos (Nat.le_add_right launchQueue n),
    State.fillScalar_args, tail, apply_ite done]
  rfl

/-- The class that a PERFCL names is its workgroup's (R379). -/
theorem exec_freqStep_of_class {cluster wg : Nat} {w : Workgroup} (args : u.args = [cluster, wg, n]) (found : u.wgs.look wg = some w) :
    exec .freqStep u = done ({ u with wgs := u.wgs.put wg { w with perf := BitVec.ofNat 3 n } }.kickFreq cluster) := by
  show execFreqStep u = _
  unfold execFreqStep
  simp only [State.arg, args, found, List.getD_cons_zero]

/-- A flip at the hub, as the step that takes it there (R380). -/
theorem exec_flip_at_hub {ctx x y tag h : Nat} (args : u.args = [id, ctx, x, y, tag, h]) (between : u.issue = none) :
    exec (.flip 0 0 0 0 0) u = done (u.queueFlip id ctx x y (BitVec.ofNat 3 tag) h) := by
  have step : (u.issue.isNone && !u.args.isEmpty) = true := by simp [between, args]
  show execFlip 0 0 0 0 0 u = _
  unfold execFlip
  rw [if_pos step]
  simp [State.arg, args]

end

end Sys2Proof.Machine

namespace Sys2Proof.Task
open Sys2Proof Sys2Proof.Machine Sys2Proof.Claims

/-- Settles O55: each word at its barge, then its step at the queue, at the cluster or at the head. -/
theorem taskWords : Obligations.TaskWords := by
  refine ⟨fun d a b p q s g h act => ⟨exec_launch_of_no_range h act, fun base size range =>
      ⟨exec_launch_of_refused h act range, exec_launch_of_legal h act range⟩⟩,
    fun u n id packet args => ?_, fun n s g h act => exec_perfcl h act,
    fun u cluster wg n w args found => exec_freqStep_of_class args found,
    fun d a b p q s g h act => ?_, fun u id ctx x y tag h args between => ?_⟩
  · have step := exec_queueSlotWrite_launch args
    exact ⟨fun taken => step.trans (congrArg done (if_pos (by simpa using taken))),
      fun room free => step.trans (congrArg done (if_neg (by simp [room, free])))⟩
  · have word := exec_flip h act
    exact ⟨fun misaligned => word.trans (congrArg done (if_pos (by simpa using misaligned))),
      fun surface fallback => word.trans (congrArg done (if_neg (by simp [surface, fallback])))⟩
  · have step := exec_flip_at_hub args between
    refine ⟨fun full => step.trans (congrArg done (if_pos full)), fun room => step.trans (congrArg done ?_)⟩
    unfold State.queueFlip
    rw [if_neg (Nat.not_le.2 room), BitVec.toNat_ofNat]

end Sys2Proof.Task
end

section
/-!
Global accesses without a release (R29, R43, R190 to R195, R276, R301 to R315, R320, R329): each family's access goes out with its
destination empty.
-/
namespace Sys2Proof.Machine
open Sys2Proof Sys2Proof.Claims

/-- The offset of a global address, which takes it whole (R28). -/
theorem Go.offset_far (g : Go) (o : BitVec 8) (n : Nat) : g.offset o n = BitVec.ofInt 64 (offset29 g o n) := by
  unfold Go.offset offset29
  split
  · exact (BitVec.setWidth_eq _).symm.trans (setWidth_signExtend_of_le _ (Nat.le_refl 64))
  · rw [BitVec.ofInt_mul, ← setWidth_signExtend_of_le o (Nat.le_refl 64), BitVec.setWidth_eq]
    simp

theorem Go.loadAddress_eq (g : Go) (n : Nat) (o : BitVec 8) :
    g.loadAddress n o = address29 g 0 true (offset29 g o (bytes43 g n)) := by
  funext l
  rw [Go.loadAddress, accessBytes_eq]
  exact g.address_far 0 l (g.offset_far o _)

section
variable {i : Instr} {s : State} {g : Go} {n : Nat} {d b : BitVec 7} {p : BitVec 1} (o : BitVec 8)

/-- LD and LDB (R190, R191). -/
theorem globalLoad_goes (kind : MemKind) (hs : shapeOf i = shapeGlobalLoad kind n d b o p) (h : Clear i s g) (act : g.active ≠ 0)
    (wide : 4 ≤ n) : ∃ b', g.Empties (loading g s kind n d o).dst b' ∧
      globalLoad kind n d b o p s = done (g.launch b' (loading g s kind n d o).flight s) := by
  refine ⟨_, Go.empties_markEmpty act { spec := d, words := n / 4 }, ?_⟩
  have words : max 1 (n / 4) = n / 4 := by omega
  unfold globalLoad
  rw [← hs, issueWord_of_clear h]
  simp only [accessBytes_eq, Go.loadAddress_eq, if_neg act, Flight.filling, words]
  simp only [loading, Bool.decide_or]
  rfl

/-- LDV of a label that is 0 or live, and of another (R152). -/
theorem versionLoad_of_clear (hs : shapeOf i = shapeGlobalLoad (.homeLoad true) n d b o p) (h : Clear i s g) (act : g.active ≠ 0)
    (wide : 4 ≤ n) : versionLoad n d b o p s = done (if (loadingVersion g s n d o).legal = true then
      g.launch (g.b.markEmpty g.active { spec := d, words := n / 4 }) (loadingVersion g s n d o).flight s
      else g.trap { cause := 0x92 } s) := by
  have words : max 1 (n / 4) = n / 4 := by omega
  have live : labelLive s g = (loadingVersion g s n d o).legal := rfl
  unfold versionLoad
  rw [← hs, issueWord_of_clear h]
  simp only [accessBytes_eq, Go.loadAddress_eq, if_neg act, Flight.filling, words, live]
  cases (loadingVersion g s n d o).legal with
  | false => rfl
  | true =>
    simp only [loadingVersion, Bool.decide_or]
    rfl

/-- PREFETCH (R195). -/
theorem execPrefetch_goes (h : Clear (.prefetch b o p) s g) (act : g.active ≠ 0) :
    execPrefetch b o p s = done (g.launch g.b { g.flight s .prefetch (perLane g fun l =>
      { lane := l, va := address29 g 0 true (offset29 g o 4) l, size := 1 }) with hint := g.pre.hint, captured := false } s) := by
  have address := funext fun l => g.address_far 0 l (g.offset_far o 4)
  unfold execPrefetch
  rw [show shapePrefetch b p = shapeOf (.prefetch b o p) from rfl, issueWord_of_clear h]
  simp only [if_neg act, address]
  rfl

/-- ST (R303, R304). -/
theorem globalStore_goes (hs : shapeOf i = shapeGlobalStore n d b p) (h : Clear i s g) (act : g.active ≠ 0) (narrow : n ≤ 16) :
    globalStore n d b o p s = done (g.launch g.b (storing g s n o).flight s) := by
  have address := funext fun l => g.address_far 1 l (g.offset_far o (bytes43 g n))
  have data (l : Nat) := dataBytes_eq_bytesOf (g.val 0) l (bytes43_le g narrow (by decide))
  unfold globalStore
  rw [← hs, issueWord_of_clear h]
  simp only [accessBytes_eq, address, data, if_neg act]
  rfl

/-- CSTORE whose base is aligned, and whose base is not (R308, R309). -/
theorem compactStore_of_clear (hs : shapeOf i = shapeCompactStore n d b p) (h : Clear i s g) (act : g.active ≠ 0) (narrow : n ≤ 16) :
    compactStore n d b o p s = done (if (compacting g s n o).legal = true then g.launch g.b (compacting g s n o).flight s
      else g.trap (compacting g s n o).cause s) := by
  have address := g.address_far 1 0 (g.offset_far o n)
  have data (l : Nat) := dataBytes_eq_bytesOf (g.val 0) l narrow
  unfold compactStore
  rw [← hs, issueWord_of_clear h]
  simp only [address, data, if_neg act, compacting, decide_eq_true_eq, List.mapIdx_eq_zipIdx_map]
  by_cases aligned : address29 g 1 true (offset29 g o n) 0 % n = 0
  · rw [if_neg (not_not.2 aligned), if_pos aligned]
  · rw [if_pos aligned, if_neg aligned]

end

section
variable {i : Instr} {s : State} {g : Go} {d b : BitVec 7} {p : BitVec 1}

/-- The class 16 loads from global memory (R329, R333). -/
theorem syncLoad_goes {w : BitVec 3} (home : Bool) (sc : BitVec 3) (r : BitVec 2) (hs : shapeOf i = syncShape d b w p false)
    (h : Clear i s g) (act : g.active ≠ 0) (far : g.pre.aux = 0) : ∃ b', g.Empties (loadingAt g s home d sc r w).dst b' ∧
      syncLoad home d b sc r w p s = done (g.launch b' (loadingAt g s home d sc r w).flight s) := by
  have address := funext fun l => g.address_far 0 l (offset := 0) (i := 0) rfl
  have words (x : Nat) : max 1 (4 * max 1 x / 4) = max 1 x := by omega
  have space : g.pre.space = .glob := by simp [Pre.space, far]
  refine ⟨_, g.empties_acquiring act { spec := d, words := max 1 (width44 w / 4) } r s.nextId, ?_⟩
  unfold syncLoad
  rw [← hs, issueWord_of_clear h]
  simp only [syncBytes_eq, space, decide_true, address, if_neg act, Flight.filling, words, Bool.true_and]
  rfl

/-- The class 16 stores to global memory without a release (R329). -/
theorem execSyncSt_goes {w : BitVec 3} (sc : BitVec 3) {r : BitVec 2} (hs : shapeOf i = syncShape d b w p true) (h : Clear i s g)
    (act : g.active ≠ 0) (far : g.pre.aux = 0) (order : r ≠ 2) :
    execSyncSt d b sc r w p s = done (g.launch g.b (storingAt g s sc w).flight s) := by
  have address := funext fun l => g.address_far 1 l (offset := 0) (i := 0) rfl
  have data (l : Nat) := dataBytes_eq_bytesOf (g.val 0) l (width44_le w)
  have space : g.pre.space = .glob := by simp [Pre.space, far]
  unfold execSyncSt
  rw [← hs, issueWord_of_clear h]
  simp only [syncBytes_eq, space, decide_true, address, data, if_neg act, Go.syncStore, show (r == 2#2) = decide (r = 2) from rfl,
    decide_eq_true_eq, if_neg order]
  rfl

/-- MXACC without a release, to the one block that its lanes name (R320). -/
theorem execMxacc_goes {k : BitVec 3} (sc : BitVec 3) {r : BitVec 2} (hs : shapeOf i = shapeMxacc d b p) (h : Clear i s g)
    (act : g.active ≠ 0) (order : r ≠ 2) (legal : (blockAdding g s sc k).legal = true) :
    execMxacc d b sc r k p s = done (g.launch g.b (blockAdding g s sc k).flight s) := by
  have address := funext fun l => g.address_far 1 l (offset := 0) (i := 0) rfl
  have data (l : Nat) := dataBytes_eq_bytesOf (g.val 0) l (n := 4) (by decide)
  unfold execMxacc
  rw [← hs, issueWord_of_clear h]
  simp only [address, data, mxElem_width, Go.addressesDiffer_of_oneAddress legal, Bool.false_eq_true, if_false, if_neg act,
    if_neg order]
  rfl

/-- ATOM and RED on global memory without a release (R310 to R312, R315). -/
theorem atomic_goes {op : AtomOp} {red : Bool} (sc : BitVec 3) {r : BitVec 2} {t : BitVec 3}
    (hs : shapeOf i = shapeAtomic op red (atomType t).bytes d b p) (h : Clear i s g) (act : g.active ≠ 0)
    (far : g.pre.aux % 2 = 0) (order : r.toNat < 2) :
    ∃ b', g.Empties (atomically g s op red d sc r t).dst b' ∧
      atomic op red d b sc r t p s = done (g.launch b' (atomically g s op red d sc r t).flight s) := by
  have data (k l : Nat) := dataBytes_eq_bytesOf (g.val k) l (bytes_atomType_le t)
  have glob : g.pre.atomLocal = false := by simp [Pre.atomLocal, far]
  have unreleased : ¬ 2 ≤ r.toNat := Nat.not_le.2 order
  refine ⟨_, g.empties_updating act red { spec := d, words := (atomType t).bytes / 4 }, ?_⟩
  unfold atomic
  show issueWord (shapeAtomic op red (atomType t).bytes d b p) s _ = _
  rw [← hs, issueWord_of_clear h]
  simp only [glob, Bool.false_eq_true, if_false, if_neg act, data, Bool.not_false, Bool.and_true, BitVec.toNat_add,
    toNat_setWidth_word, apply_ite BitVec.toNat, if_neg unreleased, decide_eq_false unreleased, Bool.or_false]
  simp only [atomically, decide_eq_false unreleased, beq_eq_decide, Bool.or_false]
  cases red with
  | false => rfl
  | true =>
    by_cases relaxed : r.toNat = 0
    · simp only [relaxed, decide_true, Bool.and_self, if_true, Bool.not_true, Bool.and_false]
      rfl
    · simp only [relaxed, decide_false, Bool.and_false, Bool.false_eq_true, if_false]
      rfl

end

/-- A clear word with a global access that its lanes may form sends it, with its destination empty. The cases are those of
`globalAccess`, in its order: LD and LDB, LDV, PREFETCH, ST, CSTORE, the loads of class 16, its store, and MXACC. -/
theorem exec_globalAccess {i : Instr} {s : State} {g : Go} {a : Access} (hi : globalAccess i g s = some a) (h : Clear i s g)
    (act : g.active ≠ 0) (legal : a.legal = true) : ∃ b', g.Empties a.dst b' ∧ exec i s = done (g.launch b' a.flight s) := by
  unfold globalAccess at hi
  split at hi
  case h_1 | h_2 | h_3 | h_4 | h_5 | h_6 =>
    cases hi
    exact globalLoad_goes _ _ rfl h act (by decide)
  case h_7 | h_8 =>
    cases hi
    exact ⟨_, Go.empties_markEmpty act _, (versionLoad_of_clear _ rfl h act (by decide)).trans (congrArg done (if_pos legal))⟩
  case h_9 =>
    cases hi
    exact ⟨_, g.empties_none, execPrefetch_goes _ h act⟩
  case h_10 | h_11 | h_12 =>
    cases hi
    exact ⟨_, g.empties_none, globalStore_goes _ rfl h act (by decide)⟩
  case h_13 | h_14 =>
    cases hi
    exact ⟨_, g.empties_none, (compactStore_of_clear _ rfl h act (by decide)).trans (congrArg done (if_pos legal))⟩
  case h_15 | h_16 =>
    split at hi <;> cases hi
    exact syncLoad_goes _ _ _ rfl h act ‹_›
  case h_17 =>
    split at hi <;> cases hi
    next unreleased =>
    obtain ⟨far, order⟩ := unreleased
    exact ⟨_, g.empties_none, execSyncSt_goes _ rfl h act far order⟩
  case h_18 =>
    split at hi <;> cases hi
    exact ⟨_, g.empties_none, execMxacc_goes _ rfl h act ‹_› legal⟩
  case h_19 => cases hi

section
variable {i : Instr} {s : State} {g : Go} {d a b : BitVec 7} {p q : BitVec 1}

/-- BOXT and TRIT: the accesses of the testers (R276, R279). -/
theorem testWord_goes {words : Nat} (kind : MemKind) (size align : Nat) (hs : shapeOf i = shapeTestWord words d a b p q)
    (h : Clear i s g) (act : g.active ≠ 0) :
    testWord kind words size align d a b p q s = done (g.launch (g.b.markEmpty g.active { spec := d, words })
      { g.flight s kind (perLane g fun l => { lane := l, va := ((g.val 1).w64 l).toNat, size }) with
        dst := d, words, hint := g.pre.hint, alignTo := align } s) := by
  unfold testWord
  rw [← hs, issueWord_of_clear h, if_neg act]
  rfl

/-- The flight of a sampling word before its accesses are known (R301). -/
def Go.sampling (g : Go) (s : State) (which : Nat) (d : BitVec 7) : Flight :=
  { g.flight s .sample [] with
    dst := d, words := 4, hint := g.pre.hint, alignTo := 32, order := which, scope := g.pre.aux, slots := [s.freeIdx]
    result := (List.range 32).map fun l => if which = 1 then [(g.val 2).w32 l] else [] }

/-- SAMPLE, SAMPLEL and SAMPLEG: the accesses of the samplers, and the free values that their texels may take (R301, R302). -/
theorem sampleWord_goes (which : Nat) (hs : shapeOf i = shapeSampleWord which d a b p q) (h : Clear i s g) (act : g.active ≠ 0) :
    sampleWord which d a b p q s = done (g.launch (g.b.markEmpty g.active { spec := d, words := 4 })
      { g.sampling s which d with
        accs := (g.sampling s which d).sampleAccs s (perLane g fun l => { lane := l, va := ((g.val 1).w64 l).toNat, size := 32 }) }
      { s with freeIdx := s.freeIdx + 64 }) := by
  unfold sampleWord
  rw [← hs, issueWord_of_clear h, if_neg act]
  rfl

end

/-- Which free values come next is not seen by what a word leaves. -/
theorem leaves_of_freeIdx {g : Go} {s u : State} {id n : Nat} {fl : Flight} {dst : Option Dst} {b : Barge}
    (h : Leaves g { s with freeIdx := n } u id fl dst b) : Leaves g s u id fl dst b := by
  obtain ⟨m, flights, barge, v, s', control, passed, empty⟩ := h
  exact ⟨⟨m.barges, m.memory, m.localMem, m.tile, m.lines, m.versions, m.hub, m.towers, m.clusters, m.wgs, m.flights, m.agenda⟩,
    flights, barge, v, s', control, passed, empty⟩

/-- A word whose access goes out, and which takes free values for it. -/
theorem goesOut_of_launch_free {i : Instr} {s : State} {g : Go} {a : Access} {b : Barge} (n : Nat) (emptied : g.Empties a.dst b)
    (hx : exec i s = done (g.launch b a.flight { s with freeIdx := n })) : GoesOut i s g a := by
  obtain ⟨b', left⟩ := emptied.leaves { s with freeIdx := n } s.nextId (s.nextId + 1) s.rels a.flight
  exact ⟨_, b', hx, leaves_of_freeIdx left⟩

/-- A clear word of the testers or of the samplers sends its accesses, with its destination empty (R276, R301, R302; log 113). -/
theorem goesOut_of_unitAccess {i : Instr} {s : State} {g : Go} {a : Access} (hi : unitAccess i g s = some a) (h : Clear i s g)
    (act : g.active ≠ 0) : GoesOut i s g a := by
  unfold unitAccess at hi
  split at hi
  case h_1 | h_2 =>
    cases hi
    exact goesOut_of_launch (Go.empties_markEmpty act _) (testWord_goes _ _ _ rfl h act)
  case h_3 | h_4 | h_5 =>
    cases hi
    exact goesOut_of_launch_free _ (Go.empties_markEmpty act _) (sampleWord_goes _ rfl h act)
  case h_6 => cases hi

end Sys2Proof.Machine

namespace Sys2Proof.MemoryWords
open Sys2Proof Sys2Proof.Machine Sys2Proof.Claims

/-- Settles O49: by the families of `globalAccess`, then the atomics, then the units. That a sampling word reads each lane's descriptor
and the texels it names in the cycle of its issue is the model's choice (log 113). -/
theorem globalAccessesGoOut : Obligations.GlobalAccessesGoOut := by
  refine ⟨fun i s g a hi h act legal => ?_, fun i s g op red d sc r t hi h act far order => ?_,
    fun i s g a hi h act => goesOut_of_unitAccess hi h act⟩
  · obtain ⟨b', emptied, hx⟩ := exec_globalAccess hi h act legal
    exact goesOut_of_launch emptied hx
  · obtain ⟨b, p, hs, hx⟩ := exec_of_atomicWord hi
    obtain ⟨b', emptied, hb⟩ := atomic_goes sc hs h act far order
    exact goesOut_of_launch emptied ((hx s).trans hb)

end Sys2Proof.MemoryWords
end

section
/-!
Words that trap on the addresses of their lanes (R22, R152, R308, R312, R320): the check of a scalar's addresses at step 9 of R47, and
the traps of a word's meaning.
-/
namespace Sys2Proof.Machine
open Sys2Proof Sys2Proof.Claims

/-! ## Addresses that differ -/

/-- Where the active lanes do not all form one address, they differ from the lowest one's. -/
theorem Go.addressesDiffer_of_not_oneAddress {g : Go} {f : Nat → Nat} (h : oneAddress g f = false) : g.addressesDiffer f = true := by
  by_contra same
  simp only [Go.addressesDiffer, Bool.not_eq_true] at same
  refine Bool.false_ne_true (h.symm.trans ?_)
  simp only [oneAddress, List.all_eq_true, beq_iff_eq]
  split at same
  · next none =>
    intro l hl
    exact absurd (mem_lanesIn.1 hl).2 (List.find?_eq_none.1 none l (List.mem_range.2 (mem_lanesIn.1 hl).1))
  · next low _ =>
    simp only [List.any_eq_false, decide_eq_true_eq, not_not] at same
    exact fun l hl j hj => (same l hl).trans (same j hj).symm

/-- A scalar destination whose word's lanes form several addresses. -/
theorem differ_of_not_uniform {g : Go} {d : BitVec 7} {f : Nat → Nat} (h : (!isScalar d || oneAddress g f) = false) :
    (isScalar d && g.addressesDiffer f) = true := by
  simp only [Bool.or_eq_false_iff, Bool.not_eq_false'] at h
  obtain ⟨scalar, several⟩ := h
  rw [scalar, Go.addressesDiffer_of_not_oneAddress several, Bool.true_and]

/-! ## The check of step 9 -/

section
variable {i : Instr} {s : State} {g : Go}

/-- A word whose lanes differ where its scalar destination needs one traps at step 9 of R47, whatever its label. -/
theorem issueWord_of_nonUniform (h : Ready i s g) (differ : (shapeOf i).nonUniform g = true) (effect : Go → State → State) :
    issueWord (shapeOf i) s effect = done (g.trap { cause := 0x06 } s) :=
  issueWord_of_reach h.issues h.checked h.unheld (by simp only [Go.reachCause, differ, if_true]) effect

/-- Such a word has no effect but its trap. -/
theorem exec_of_nonUniform (word : i.isWord = true) (noPrefix : isPrefix i = false) (h : Ready i s g)
    (differ : (shapeOf i).nonUniform g = true) : exec i s = done (g.trap { cause := 0x06 } s) := by
  obtain ⟨iss, -, issuing, -⟩ := h.issues
  obtain ⟨effect, meaning⟩ := exec_eq_issueWord (s := s) word noPrefix (by rw [issuing]; rfl)
  exact meaning.trans (issueWord_of_nonUniform h differ effect)

/-- A word that has passed its checks has the prefix fields that its shape allows (R32). -/
theorem Ready.modOk (h : Ready i s g) : g.pre.modOk (shapeOf i).modOk = true := by
  have checked := h.checked
  unfold Go.checkCause at checked
  split at checked
  · cases checked
  · next encoding =>
    unfold encodingCause at encoding
    split_ifs at encoding with _ _ payload
    simp only [Bool.or_eq_true, Bool.not_eq_true', not_or, Bool.not_eq_false] at payload
    obtain ⟨⟨⟨_, ok⟩, _⟩, _⟩ := payload
    exact ok

/-- A class 16 word whose aux is not 0 is not of global memory (R32, R328). -/
theorem Ready.space_ne_glob (h : Ready i s g) (aux : (shapeOf i).modOk.aux = [0, 1, 2]) (near : g.pre.aux ≠ 0) :
    (g.pre.space == .glob) = false := by
  have ok := h.modOk
  simp only [Pre.modOk, Bool.and_eq_true, List.contains_iff_mem, aux, List.mem_cons, List.not_mem_nil, or_false] at ok
  obtain ⟨⟨⟨_, named⟩, _⟩, _⟩ := ok
  rcases named with e | e | e
  · exact absurd e near
  · simp [Pre.space, e]
  · simp [Pre.space, e]

variable {n : Nat} {d b : BitVec 7} {p : BitVec 1}

/-- A load from a near space whose lanes form several addresses for a scalar destination (R22, R122, R189). -/
theorem nearLoad_of_differ (space : Space) (o : BitVec 8) (hs : shapeOf i = shapeNearLoad n d b p) (h : Ready i s g)
    (several : (loadingNear g s space n d o).legal = false) :
    nearLoad space n d b o p s = done (g.trap { cause := 0x06 } s) := by
  have clear : Clear i s g := ⟨h.issues, h.checked, h.unheld, by simp [Go.reachCause, hs, shapeNearLoad]⟩
  have address := funext fun l => g.address_near 0 l (g.offset_low o (bytes43 g n))
  have differ := differ_of_not_uniform several
  unfold nearLoad
  rw [← hs, issueWord_of_clear clear]
  simp only [accessBytes_eq, address]
  exact congrArg done (if_pos differ)

/-- A global load's check at step 9. -/
theorem nonUniform_globalLoad {kind : MemKind} {o : BitVec 8} (hs : shapeOf i = shapeGlobalLoad kind n d b o p)
    (several : (!isScalar d || oneAddress g (address29 g 0 true (offset29 g o (bytes43 g n)))) = false) :
    (shapeOf i).nonUniform g = true := by
  rw [hs]
  show (isScalar d && g.addressesDiffer (g.loadAddress n o)) = true
  rw [Go.loadAddress_eq]
  exact differ_of_not_uniform several

/-- The check at step 9 of a load of class 16. -/
theorem nonUniform_syncLoad {w : BitVec 3} {far : Bool} (hs : shapeOf i = syncShape d b w p false) (space : (g.pre.space == .glob) = far)
    (several : (!isScalar d || oneAddress g (address29 g 0 far 0)) = false) : (shapeOf i).nonUniform g = true := by
  have address : g.address 0 far 0 = address29 g 0 far 0 := by
    funext l
    cases far with
    | true => exact g.address_far 0 l rfl
    | false => exact g.address_near 0 l rfl
  rw [hs]
  show (!false && isScalar d && g.addressesDiffer (g.address 0 (g.pre.space == .glob) 0)) = true
  rw [space, address, Bool.not_false, Bool.true_and]
  exact differ_of_not_uniform several

/-- The check at step 9 of an atomic: a scalar result of several lanes. -/
theorem nonUniform_atomic {op : AtomOp} {red : Bool} (hs : shapeOf i = shapeAtomic op red n d b p)
    (several : (red || !isScalar d || decide ((lanesIn g.active).length ≤ 1)) = false) : (shapeOf i).nonUniform g = true := by
  rw [hs]
  simpa [shapeAtomic, and_assoc] using several

end

/-! ## The words -/

section
variable {i : Instr} {s : State} {g : Go}

/-- A word of global memory whose scalar destination its lanes cannot share: LD and LDB, LDV, and the loads of class 16. -/
theorem exec_globalAccess_of_several {a : Access} (hi : globalAccess i g s = some a) (h : Ready i s g) (several : a.uniform = false) :
    exec i s = done (g.trap { cause := 0x06 } s) := by
  unfold globalAccess at hi
  split at hi
  case h_1 | h_2 | h_3 | h_4 | h_5 | h_6 | h_7 | h_8 =>
    cases hi
    exact exec_of_nonUniform rfl rfl h (nonUniform_globalLoad rfl several)
  case h_9 | h_10 | h_11 | h_12 | h_13 | h_14 =>
    cases hi
    cases several
  case h_15 | h_16 =>
    split at hi <;> cases hi
    next far => exact exec_of_nonUniform rfl rfl h (nonUniform_syncLoad rfl (by simp [Pre.space, far]) several)
  case h_17 | h_18 =>
    split at hi <;> cases hi
    cases several
  case h_19 => cases hi

/-- An atomic with a scalar result of several lanes. -/
theorem exec_atomicWord_of_several {op : AtomOp} {red : Bool} {d : BitVec 7} {sc : BitVec 3} {r : BitVec 2} {t : BitVec 3}
    (hi : atomicWord i = some (op, red, d, sc, r, t)) (h : Ready i s g)
    (several : (red || !isScalar d || decide ((lanesIn g.active).length ≤ 1)) = false) :
    exec i s = done (g.trap { cause := 0x06 } s) := by
  obtain ⟨b, p, hs, hx⟩ := exec_of_atomicWord hi
  refine (hx s).trans ?_
  unfold atomic
  show issueWord (shapeAtomic op red (atomType t).bytes d b p) s _ = _
  rw [← hs]
  exact issueWord_of_nonUniform h (nonUniform_atomic hs several) _

/-- A word of near memory whose scalar destination its lanes cannot share: LDL and LDP, the loads of class 16, and the atomics. -/
theorem exec_nearAccess_of_several {a : Near} (hi : nearAccess i g s = some a) (h : Ready i s g) (several : a.legal = false) :
    exec i s = done (g.trap { cause := 0x06 } s) := by
  unfold nearAccess at hi
  split at hi
  case h_1 | h_2 | h_3 | h_4 | h_5 | h_6 =>
    cases hi
    exact nearLoad_of_differ _ _ rfl h several
  case h_7 | h_8 | h_9 | h_10 | h_11 | h_12 =>
    cases hi
    cases several
  case h_13 | h_14 =>
    split at hi <;> cases hi
    next near => exact exec_of_nonUniform rfl rfl h (nonUniform_syncLoad rfl (h.space_ne_glob rfl near) several)
  case h_15 =>
    split at hi <;> cases hi
    cases several
  case h_16 =>
    split at hi
    · next word =>
      split at hi <;> cases hi
      exact exec_atomicWord_of_several word h several
    · cases hi

/-- MXACC to several blocks, with a release or without (R320). -/
theorem execMxacc_of_several {d b : BitVec 7} {p : BitVec 1} {sc : BitVec 3} {k : BitVec 3} (r : BitVec 2)
    (hs : shapeOf i = shapeMxacc d b p) (h : Clear i s g) (several : (blockAdding g s sc k).legal = false) :
    execMxacc d b sc r k p s = done (g.trap { cause := 0x57 } s) := by
  have address := funext fun l => g.address_far 1 l (offset := 0) (i := 0) rfl
  unfold execMxacc
  rw [← hs, issueWord_of_clear h]
  simp only [address]
  exact congrArg done (if_pos (Go.addressesDiffer_of_not_oneAddress several))

/-- A clear word of global memory whose addresses it may not form: LDV of a dead label, a misaligned CSTORE, and MXACC. -/
theorem exec_globalAccess_of_illegal {a : Access} (hi : globalAccess i g s = some a) (h : Clear i s g) (act : g.active ≠ 0)
    (illegal : a.legal = false) : exec i s = done (g.trap a.cause s) := by
  have refused : ¬ a.legal = true := by simp [illegal]
  unfold globalAccess at hi
  split at hi
  case h_7 | h_8 =>
    cases hi
    exact (versionLoad_of_clear _ rfl h act (by decide)).trans (congrArg done (if_neg refused))
  case h_13 | h_14 =>
    cases hi
    exact (compactStore_of_clear _ rfl h act (by decide)).trans (congrArg done (if_neg refused))
  case h_18 =>
    split at hi <;> cases hi
    exact execMxacc_of_several _ rfl h illegal
  case h_1 | h_2 | h_3 | h_4 | h_5 | h_6 | h_9 | h_10 | h_11 | h_12 =>
    cases hi
    cases illegal
  case h_15 | h_16 | h_17 =>
    split at hi <;> cases hi
    cases illegal
  case h_19 => cases hi

/-- A clear word with a release whose addresses it may not form: MXACC alone. -/
theorem exec_releasedAccess_of_illegal {a : Access} {scope : Nat} {uo : Bool} (hi : releasedAccess i g s = some (a, scope, uo))
    (h : Clear i s g) (illegal : a.legal = false) : exec i s = done (g.trap a.cause s) := by
  unfold releasedAccess at hi
  split at hi
  case h_1 =>
    split at hi <;> cases hi
    cases illegal
  case h_2 =>
    split at hi <;> cases hi
    exact execMxacc_of_several _ rfl h illegal
  case h_3 =>
    cases hi
    cases illegal
  case h_4 =>
    split at hi
    · split at hi <;> cases hi
      cases illegal
    · cases hi

end

end Sys2Proof.Machine

namespace Sys2Proof.MemoryWords
open Sys2Proof Sys2Proof.Machine Sys2Proof.Claims

/-- Settles O38: a scalar's addresses at step 9 of R47, then the traps of the words' meanings. -/
theorem accessesThatTrap : Obligations.AccessesThatTrap := by
  refine fun i s g act => ⟨fun h => ⟨fun a hi several => exec_globalAccess_of_several hi h several,
      fun op red d sc r t hi returns scalar lanes => exec_atomicWord_of_several hi h ?_,
      fun a hi several => exec_nearAccess_of_several hi h several⟩,
    fun h => ⟨fun a hi illegal => exec_globalAccess_of_illegal hi h act illegal,
      fun a scope uo hi illegal => exec_releasedAccess_of_illegal hi h illegal⟩⟩
  simpa [returns, scalar] using lanes

end Sys2Proof.MemoryWords
end

section
/-!
What the end of a word lets go on leaves of the barges (R25, R331, R333): `State.settle` and `State.wake` change no register's
emptiness where no word is in flight.
-/
namespace Sys2Proof.Machine
open Sys2Proof Sys2Proof.Claims

/-! ## Steps that change neither the barges nor the words in flight -/

/-- The barges and the words in flight are as they were. -/
structure State.SameWork (s t : State) : Prop where
  flights : t.flights = s.flights
  barges : t.barges = s.barges

theorem State.SameWork.rfl {s : State} : s.SameWork s := ⟨Eq.refl _, Eq.refl _⟩

theorem State.SameWork.trans {s t u : State} (h : s.SameWork t) (k : t.SameWork u) : s.SameWork u :=
  ⟨k.flights.trans h.flights, k.barges.trans h.barges⟩

theorem State.SameWork.ite {s t u : State} {c : Prop} [Decidable c] (h : s.SameWork t) (k : s.SameWork u) :
    s.SameWork (if c then t else u) := by
  split
  · exact h
  · exact k

/-- Steps that keep them keep them together. -/
theorem State.SameWork.foldl {α : Type} {f : State → α → State} (keeps : ∀ (s : State) x, s.SameWork (f s x))
    (l : List α) (s : State) : s.SameWork (l.foldl f s) := by
  induction l generalizing s with
  | nil => exact .rfl
  | cons x l ih => exact (keeps s x).trans (ih (f s x))

/-- So do steps that gather something on their way. -/
theorem State.SameWork.foldl_snd {α β : Type} {f : β × State → α → β × State}
    (keeps : ∀ (acc : β × State) x, acc.2.SameWork (f acc x).2) (l : List α) (acc : β × State) : acc.2.SameWork (l.foldl f acc).2 := by
  induction l generalizing acc with
  | nil => exact .rfl
  | cons x l ih => exact (keeps acc x).trans (ih (f acc x))

section
variable (s : State)

theorem State.takeEntries_sameWork (core : Nat) (p : RedEntry → Bool) : s.SameWork (s.takeEntries core p).2 := ⟨rfl, rfl⟩

theorem State.drainEntries_sameWork (core delay : Nat) (record : Option (Nat × Nat)) (barrier : Option (Nat × Nat × Nat))
    (es : List RedEntry) : s.SameWork (s.drainEntries core delay record barrier es).2 := by
  unfold State.drainEntries
  refine State.SameWork.foldl_snd (fun acc e => ?_) es ([], s)
  exact ⟨rfl, rfl⟩

theorem State.writeBackSector_sameWork (core i w k delay : Nat) : s.SameWork (s.writeBackSector core i w k delay).2 := by
  unfold State.writeBackSector
  split
  · exact .rfl
  · split
    · exact .rfl
    · split
      · exact .rfl
      · exact ⟨rfl, rfl⟩

theorem State.writeBackWhere_sameWork (core delay : Nat) (p : L1Tag → BitVec 16 → Bool) :
    s.SameWork (s.writeBackWhere core delay p).2 := by
  unfold State.writeBackWhere
  refine State.SameWork.foldl_snd (fun acc q => ?_) _ (_, s)
  exact acc.2.writeBackSector_sameWork ..

theorem State.setBarrier_sameWork (level holder number : Nat) (x : Barrier) : s.SameWork (s.setBarrier level holder number x) := by
  unfold State.setBarrier
  split <;> split <;> exact ⟨rfl, rfl⟩

theorem State.flushBarrier_sameWork (level holder number : Nat) : s.SameWork (s.flushBarrier level holder number) := by
  unfold State.flushBarrier
  dsimp only
  split
  · refine .foldl (fun s n => .ite (.foldl (fun s c => .foldl (fun s t => ?_) _ s) _ s) .rfl) _ s
    exact ⟨rfl, rfl⟩
  · exact .rfl

theorem State.setRecord_sameWork (w : Who) (x core seq : Nat) : s.SameWork (s.setRecord w x core seq) := by
  unfold State.setRecord
  dsimp only
  split <;> exact ⟨rfl, rfl⟩

theorem State.renumber_sameWork (r : Rel) (seq : Nat) : s.SameWork (s.renumber r seq) := by
  unfold State.renumber
  split
  · exact .rfl
  · exact .foldl (fun s e => .ite (s.setRecord_sameWork ..) .rfl) _ s

theorem State.l1Invalidate_sameWork (core : Nat) (p : L1Tag → Bool) : s.SameWork (s.l1Invalidate core p) := ⟨rfl, rfl⟩

/-- What is settled changes transactions, tasks, migrations, cards and contexts. -/
theorem State.settle_sameWork (id : Nat) : s.SameWork (s.settle id) := by
  unfold State.settle
  dsimp only
  refine .trans (.trans (.trans (.trans (.trans ?_ (.foldl ?_ _ _)) (.foldl ?_ _ _)) (.foldl ?_ _ _)) (.foldl ?_ _ _)) (.foldl ?_ _ _)
  · exact ⟨rfl, rfl⟩
  · exact fun s t => .ite ⟨rfl, rfl⟩ ⟨rfl, rfl⟩
  · exact fun s n => .ite ⟨rfl, rfl⟩ ⟨rfl, rfl⟩
  · exact fun s m => .ite ⟨rfl, rfl⟩ ⟨rfl, rfl⟩
  · exact fun s c => ⟨rfl, rfl⟩
  · exact fun s c => .ite ⟨rfl, rfl⟩ ⟨rfl, rfl⟩

end

/-! ## Which registers of the barges are empty -/

/-- The lanes in which the v registers of a barge are empty. -/
def State.emptiness (s : State) (k : Nat) : Option (Tab Mask) := (s.barges.look k).map (·.vEmpty)

/-- No word is in flight, and each barge's registers are empty where they were. -/
structure State.SameEmptiness (s t : State) : Prop where
  idle : t.flights = []
  emptiness : ∀ k, t.emptiness k = s.emptiness k

theorem State.SameEmptiness.trans {s t u : State} (h : s.SameEmptiness t) (k : t.SameEmptiness u) : s.SameEmptiness u :=
  ⟨k.idle, fun x => (k.emptiness x).trans (h.emptiness x)⟩

theorem State.SameWork.sameEmptiness {s t : State} (h : s.SameWork t) (idle : s.flights = []) : s.SameEmptiness t :=
  ⟨h.flights.trans idle, fun k => by unfold State.emptiness; rw [h.barges]⟩

section
variable {s : State} (idle : s.flights = [])
include idle

/-- A change of a barge that leaves which of its registers are empty. -/
theorem State.onBarge_sameEmptiness (core slot : Nat) {f : Barge → Barge} (keeps : ∀ b, (f b).vEmpty = b.vEmpty) :
    s.SameEmptiness (s.onBarge core slot f) := by
  cases resident : s.barge core slot with
  | none =>
    have same : s.onBarge core slot f = s := by simp only [State.onBarge, resident]
    rw [same]
    exact State.SameWork.rfl.sameEmptiness idle
  | some b =>
    rw [State.onBarge_eq resident]
    refine ⟨idle, fun k => ?_⟩
    unfold State.emptiness State.setBarge
    by_cases here : k = 512 * core + slot
    · subst here
      have found : s.barges.look (512 * core + slot) = some b := resident
      simp only [Tab.look_put_same, found, Option.map_some, keeps]
    · simp only [Tab.look_put_other _ _ here]

/-- What follows a release sends no word, for none is in flight. -/
theorem State.relAfter_sameEmptiness (id : Nat) (r : Rel) : s.SameEmptiness (s.relAfter id r) := by
  unfold State.relAfter
  split
  · rw [idle]
    exact State.SameWork.rfl.sameEmptiness idle
  · exact State.onBarge_sameEmptiness idle _ _ fun _ => rfl
  · refine State.SameWork.sameEmptiness ?_ idle
    exact (s.setBarrier_sameWork ..).trans ⟨rfl, rfl⟩
  · refine (State.SameWork.foldl (fun s p => ?_) _ s).sameEmptiness idle
    exact ⟨rfl, rfl⟩

/-- A release that goes on, however far. -/
theorem State.relRun_sameEmptiness (id n : Nat) : s.SameEmptiness (s.relRun id n) := by
  induction n generalizing s with
  | zero => exact State.SameWork.rfl.sameEmptiness idle
  | succ n ih =>
    have goesOn {t : State} (h : s.SameWork t) (rels : Tab Rel) : s.SameEmptiness (({ t with rels }).relRun id n) :=
      have k : s.SameWork { t with rels } := h.trans ⟨rfl, rfl⟩
      (k.sameEmptiness idle).trans (ih (k.flights.trans idle))
    unfold State.relRun
    split
    · exact State.SameWork.rfl.sameEmptiness idle
    · next r _ =>
      dsimp only
      split
      · exact State.SameWork.rfl.sameEmptiness idle
      · split
        · split <;> exact goesOn .rfl _
        · split
          · exact goesOn ((s.takeEntries_sameWork ..).trans (State.drainEntries_sameWork ..)) _
          · refine goesOn ?_ _
            exact (((s.takeEntries_sameWork ..).trans (State.drainEntries_sameWork ..)).trans (State.setBarrier_sameWork ..)).trans
              (State.flushBarrier_sameWork ..)
        · exact goesOn .rfl _
        · split
          · exact goesOn .rfl _
          · exact goesOn (s.writeBackWhere_sameWork ..) _
        · split
          · exact goesOn .rfl _
          · split
            · exact goesOn .rfl _
            · exact goesOn (.trans (t := s.setCore _ _) ⟨rfl, rfl⟩ (State.renumber_sameWork ..)) _
        · split
          · exact goesOn (s.writeBackWhere_sameWork ..) _
          · exact goesOn .rfl _
        · split
          · exact goesOn (s.writeBackWhere_sameWork ..) _
          · exact goesOn .rfl _
        · exact goesOn .rfl _
        · split
          · refine goesOn (State.SameWork.foldl_snd (fun acc p => ?_) _ (_, s)) _
            exact ⟨rfl, rfl⟩
          · exact goesOn .rfl _
        · split
          · exact goesOn (t := s.fresh.2.post _ _ _) ⟨rfl, rfl⟩ _
          · exact goesOn .rfl _
        · refine State.SameEmptiness.trans (State.SameWork.sameEmptiness ?_ idle) (State.relAfter_sameEmptiness ?_ ..)
          · split <;> exact ⟨rfl, rfl⟩
          · split <;> exact idle

/-- Without a word in flight no memory word goes on. -/
theorem State.pump_of_idle (core : Nat) : s.pump core = s := by
  unfold State.pump
  rw [idle]
  rfl

/-- The releases of a core go on. -/
theorem State.wake_sameEmptiness (core : Nat) : s.SameEmptiness (s.wake core) := by
  have runs (l : Tab Rel) : ∀ {s : State}, s.flights = [] →
      s.SameEmptiness (l.foldl (fun s r => s.relRun r.1 relFuel) s) := by
    induction l with
    | nil => exact fun idle => State.SameWork.rfl.sameEmptiness idle
    | cons r l ih =>
      intro s idle
      have first := State.relRun_sameEmptiness idle r.1 relFuel
      exact first.trans (ih first.idle)
  have ran := runs (s.rels.filter fun r => decide (r.2.core = core)) idle
  unfold State.wake
  rw [State.pump_of_idle ran.idle]
  exact ran

/-- The end of a word, where it was the only one in flight. -/
theorem State.settle_wake_sameEmptiness (id core : Nat) : s.SameEmptiness ((s.settle id).wake core) :=
  have settled := (s.settle_sameWork id).sameEmptiness idle
  settled.trans (State.wake_sameEmptiness settled.idle core)

end

/-! ## A register that its table lists twice -/

/-- A barge whose table of empty registers lists v95 twice. `Tab.put` and `Tab.cut` make no such table from one whose keys rise. -/
def listedTwice : Barge := { ctx := 1, regs := 96, vEmpty := [(95, 1), (95, 1)] }

/-- A result on its way to v95 in lane 0. -/
def resultToV95 : Flight :=
  { core := 0, slot := 0, ctx := 1, entry := { words := [], lanes := 1 }, kind := .unit, label := 0, dst := 95, words := 1
    result := List.replicate 32 [7] }

/-- The result is due. -/
def fillOfListedTwice : State :=
  { State.reset with args := [5], flights := [(5, resultToV95)], barges := [(0, listedTwice)] }

/-- What the model answers for it. -/
theorem emptiness_exec_registerFill : (match exec .registerFill fillOfListedTwice with
    | .next t => t.emptiness 0
    | _ => none) = some [(95, 1)] := by
  decide

/-- Write-back removes one of the two entries, so that v95 is still empty. -/
theorem emptiness_of_completes {u : State} (h : Completes .registerFill fillOfListedTwice u) : u.emptiness 0 = some [(95, 1)] := by
  have left := emptiness_exec_registerFill
  rw [h] at left
  exact left

end Sys2Proof.Machine

namespace Sys2Proof.WriteBack
open Sys2Proof Sys2Proof.Machine Sys2Proof.Claims

/-- Refutes O53: the statement takes every state, and where a barge's table of empty registers lists a register twice `Tab.cut` removes
one entry, so that the register is not full after its fill. What fails is that the statement does not ask for tables whose keys rise
strictly, as `Tab.put` and `Tab.cut` keep them. -/
theorem not_resultsFill : ¬ Obligations.ResultsFill := by
  rintro ⟨vector, -⟩
  obtain ⟨u, b, completes, ended, resident, filled, -⟩ := vector fillOfListedTwice 5 resultToV95 listedTwice rfl rfl rfl rfl rfl rfl rfl
    (by decide) (by decide) (by decide) (by decide)
  have kept := (State.settle_wake_sameEmptiness (s := u) ended 5 resultToV95.core).emptiness 0
  have found : u.emptiness 0 = some b.vEmpty := by
    unfold State.emptiness
    exact congrArg (Option.map Barge.vEmpty) resident
  have still : b.vEmpty = [(95, 1)] := by
    rw [emptiness_of_completes completes, found] at kept
    exact (Option.some.inj kept).symm
  have full := (filled 0 (by decide) (by decide) 0 (by decide)).2
  rw [Barge.emptyLanes, still] at full
  exact absurd full (by decide)

end Sys2Proof.WriteBack
end
